-- ==== Sys2Proof/Word.lean ====
section
/-! DEFINITION. The word types of the model: widths the manual names (R6, R8), nothing more. -/

namespace Sys2Proof

/-- One byte (R7). -/
abbrev Byte := BitVec 8

/-- A 48-bit word of a lane queue (R151). -/
abbrev StampWord := BitVec 48

/-- A 128-bit record (R202, R225, R326, R363, R425). -/
abbrev Word128 := BitVec 128

/-- A byte string, first byte sent first. -/
abbrev Bytes := List Byte

end Sys2Proof
end

