-- ==== Sys2Proof/Syntax.lean ====
section
/-! DEFINITION. The commands of the block: one constructor per row of spec/opcode_table.json (R519 to R569), with
the operands that the row's rule reads from outside the device: pin levels, analogue readings, received bytes. -/

namespace Sys2Proof

/-- The ports that carry Graoc frames (R398, R471). -/
inductive Port where
  | optical | mbus | rs485 | link | line
deriving DecidableEq, Repr, Inhabited

/-- The roles of R398, with their codes in that order. -/
inductive Role where
  | pub | customer | operator | metrology | host
deriving DecidableEq, Repr, Inhabited

/-- The initiators on the fabric, in the fixed order of R51. -/
inductive Initiator where
  | supervisor | flowEngine | ledger | lineSignalling | display | exchange
deriving DecidableEq, Repr, Inhabited

/-- The targets of a fabric access (R48, R54). -/
inductive Target where
  | store | display | frontEnd | timing | lineSide | flow | ledger | timekeeper | links
deriving DecidableEq, Repr, Inhabited

/-- The reset causes of R537. -/
inductive Cause where
  | por | bor | vcore | pin | wdog | limp | lifecycle
deriving DecidableEq, Repr, Inhabited

/-- What a start reads from the pins: sixteen conversions of each THATCH pin, each the ratio V_pin / VTREF in units
of 2^-24 (DESIGN CHOICE, log entry 8), SEAL (true = open), ROLE1:ROLE0 as read, TESTEN, and whether RST_N is low (R20, R23, R26,
R538, R539). -/
structure StartIn where
  conv : Vector (List Nat) 12
  sealOpen : Bool
  role : BitVec 2
  testen : Bool
  rstLow : Bool
deriving DecidableEq, Repr, Inhabited

/-- A Graoc frame as received (R399), less its SOF. `len`, `mac` and `crc` are the received fields; `bytesOk` says
whether the bytes received match LEN (R400). `addr` is the address byte of EIA-485 (R440). For a GET
of the clock object, `stalls` says that the group read of this request does not reach CENTURY within the command
(R288, R289), and `stallsAgain` that the repeat of R289 does not either. `bitNs` is the length of a bit of the frame in ns: on the optical port that of the SOF's start bit (R433), on
EIA-485 the sender's bit time (R429); no other port reads it. -/
structure Frame where
  port : Port
  addr : Byte
  len : BitVec 16
  session : Byte
  seq : Byte
  cmd : Byte
  ident : BitVec 48
  attr : Byte
  data : Bytes
  mac : BitVec 32
  crc : BitVec 16
  bytesOk : Bool
  stalls : Bool
  stallsAgain : Bool
  bitNs : Nat
deriving DecidableEq, Repr, Inhabited

/-- The wake sources of R304 and R529. -/
inductive WakeSource where
  | periodic | alarmA | alarmB | wakeN | keypad | tariff | optical | mbus | rs485 | link | lineActivity
  | chainSync | cycle | auxSlot | thatch | scrub | pulseCopy
  /-- A wake the supervisor makes for its own reasons (R335, R377, R547): no wake source, nothing recorded. -/
  | supervisor
deriving DecidableEq, Repr, Inhabited

/-- What starts an attempt in LIMP (R532). -/
inductive LimpTrigger where
  | hourly | alarmA | alarmB | wakeN | sealChange
deriving DecidableEq, Repr, Inhabited

/-- The outcome of a margin read of the scrub (R380, R390). -/
inductive ScrubRead where
  | clean | marginal | corrected | uncorrectable
deriving DecidableEq, Repr, Inhabited

/-- The two outputs of R447. -/
inductive PulseOut where
  | a | b
deriving DecidableEq, Repr, Inhabited

/-- The two logs of R425. -/
inductive LogId where
  | metrology | general
deriving DecidableEq, Repr, Inhabited

/-- A record of the chain link as received (R567, R568): SRC, TYPE, LEN, body and CRC. -/
structure ChainRec where
  src : Byte
  type : Byte
  len : Byte
  body : Bytes
  crc : BitVec 16
deriving DecidableEq, Repr, Inhabited

/-- The samples of a line context in one LINE half-cycle, one for each of its 512 ticks (R456, R458), and how many of them were lost
in the sense FIFO (R65). -/
structure HalfCycle where
  samples : List Int
  lost : Nat
deriving DecidableEq, Repr, Inhabited

/-- The codes that a cell measures in a calibration run, of the references T and 2T (R144, R146, R147). -/
structure CalCodes where
  ofT : List (BitVec 12)
  of2T : List (BitVec 12)
deriving DecidableEq, Repr, Inhabited

/-- What raises a wake: a source, the others that are raised on the same LF period (R304), and whether WAKE_N is low after it
(R526). -/
structure Raised where
  source : WakeSource
  also : List WakeSource
  nLow : Bool
deriving DecidableEq, Repr, Inhabited

/-- A sample of the pin of FIN0 to FIN3 (R273). -/
structure PinSample where
  n : Fin 4
  high : Bool
deriving DecidableEq, Repr, Inhabited

/-- An output that may begin a pulse, and the LF periods for which it has been released (R448). -/
structure PulseDue where
  out : PulseOut
  released : Nat
deriving DecidableEq, Repr, Inhabited

/-- What LSCK clocks in after STATUS: whole bytes, and the bits of a byte that it leaves incomplete (R71), in a transaction whose OP is
WRITE, or 0x03 to 0xFF (R441): no row names such a transaction, and it comes as one of LINK_WRITE. DESIGN CHOICE: log entry 143. -/
structure LinkBits where
  bytes : Bytes
  tail : List Bool
  op : Byte
deriving DecidableEq, Repr, Inhabited

/-- The head of an M-Bus frame to the device: its address, and the sender's bit time in ns (R429, R434). -/
structure MbusTo where
  addr : Byte
  bitNs : Nat
deriving DecidableEq, Repr, Inhabited

/-- The frame count bits of a frame of the master: FCB, which counts where FCV is 1 (R435). -/
structure FrameCount where
  fcb : Bool
  fcv : Bool
deriving DecidableEq, Repr, Inhabited

/-- The CI field of a SND_UD and its frame count bits. -/
structure UdHead where
  ci : Byte
  count : FrameCount
deriving DecidableEq, Repr, Inhabited

/-- A selection (R435): its pattern, its frame count bits, and the sender's bit time in ns. -/
structure Selection where
  pattern : Bytes
  count : FrameCount
  bitNs : Nat
deriving DecidableEq, Repr, Inhabited

/-- A time in the LINE domain: half-cycle and tick (R64). -/
structure LineTime where
  hc : BitVec 16
  tick : Nat
deriving DecidableEq, Repr, Inhabited

/-- One command of the block. DESIGN CHOICE: log entry 76. -/
inductive Instr where
  -- supplies, resets and power states (R519, R377, R537, R539)
  | vbkRelease (i : StartIn)
  | vbkLoss
  | brownoutRelease (i : StartIn)
  | vcoreBrownout (i : StartIn)
  | pinReset
  | testenRelease (i : StartIn)
  | powerFailWarning (vres : BitVec 8)
  | warningClear
  | switchOver
  | brownOut
  | keepEntry
  | iovddLow
  -- the thatch (R25, R45)
  | thatchReread (i : StartIn) (inDoze : Bool)
  | sealSample (isOpen : Bool)
  -- clock domains and crossings (R51 to R60)
  | lfStandin
  | lfRestored (measured : Nat)
  | pllUnlock
  | relockTimeout
  | lineLost
  | lineRestored (inputs : List (List Nat))
  | arbitrationAge (target : Target) (who : Initiator)
  | fabricRetry (present : Bool) (others : List Initiator)
  | blockIdleTimeout (target : Target)
  -- cycles, rounds and shots (R99, R110, R123, R533)
  | cycleWakeLead
  | measureEntry
  | cycleStart (vdrv : Nat)
  | shot (coarse : Nat) (quiet : Vector (Vector (BitVec 10) 32) 4)
  | slotShot (slot : Fin 4)
  | burstEnd (slot : Fin 4) (vdrv : Nat)
  | driverLimit (port : Fin 16)
  | blankingEnd (slot : Fin 4)
  | comparatorGateEnd (slot : Fin 4)
  | comparatorArmed (set : Fin 4) (t : Nat) (code : BitVec 10)
  | armingConfirmed (set : Fin 4) (t : Nat) (code : BitVec 10)
  | armingWithdrawn (set : Fin 4) (t : Nat)
  | risingCrossing (lane : Fin 6) (source : Fin 16) (falling : Bool) (t : Nat)
  | cellCycleEnd (lane : Fin 6) (cell : Fin 4) (t : Nat) (v : BitVec 12) (cstop : Nat)
  | epochMarker (lane : Fin 6)
  | searchWindowClose (slot : Fin 4)
  | calRunDone (lane : Fin 6) (cell : Fin 4) (t : Nat) (m : CalCodes)
  | startupCalibration (m : Vector (Vector CalCodes 4) 6)
  | auxCellRecal (lane : Fin 6) (cell : Fin 4) (t : Nat)
  | settleEnd (vdrv : Nat)
  | receptionClose (lane : Fin 4) (t0 : Nat) (env : List (BitVec 10))
  | flowStale
  -- acoustic loop-backs (R104 to R107, R169)
  | acousticLoopbackInjector (f : Frame)
  | acousticLoopbackReference (f : Frame)
  | acousticLoopbackCrosspoint (f : Frame)
  | acousticLoopbackStop (f : Frame)
  | loopbackStart
  | loopbackTimeout
  | loopbackEnd
  -- port, line and display loop-backs (R453, R486, R514)
  | portLoopbackDigital (f : Frame)
  | portLoopbackPin (f : Frame)
  | portLoopbackStart
  | portLoopbackEnd (bits : Nat) (back : List Bool) (aborted : Bool)
  | lineLoopbackSymbol (f : Frame)
  | lineLoopbackAnalog (f : Frame)
  | lineLoopbackExternal (f : Frame)
  | lineLoopbackEnd (aborted : Bool)
  | displayReadbackRequest (f : Frame)
  | displayLoopbackStart (failing : BitVec 15)
  -- frequency and interval inputs (R262, R266, R269, R273, R274)
  | auxSlotDue
  | auxSlotOpen (coarse : Nat)
  | gateClose
  | intervalClose
  | intervalTimeout
  | finPulse (p : PinSample)
  | pulseCountCopy
  | countClear (f : Frame)
  -- the timekeeper (R283 to R302)
  | tempRead (reading : Int)
  | tcorrWindow
  | periodicWake
  | alarmMatch (b : Bool)
  | pwronEvaluate
  | calendarWrap
  | clockSet (f : Frame)
  | clockCommit
  | slewTick
  | stageTimeout
  | freezeTimeout
  -- billing (R313 to R335)
  | intervalEnd
  | billingBoundary
  | hwmRegained
  | eventTickHeld
  | tariffAccepted (low0 low1 : Bool)
  | tariffInputFault (input : Fin 2)
  -- prepayment (R342 to R359)
  | keyDigit (d : Fin 10)
  | keyClear
  | keyEnter
  | keyStart
  | keyStop
  | keyEmerg
  | keyInfo
  | keyRelease
  | entryTimeout
  | tokenSubmit (f : Frame)
  | lockoutEnd
  | tokenApply
  | pourEnd
  -- the store (R368, R374, R390, R426)
  | pageWriteDone (verifyOk : Bool) (vres : BitVec 8) (ms : Nat)
  | reserveCheck (vsupOk : Bool) (vres : BitVec 8)
  | reserveLow
  | scrub (read : ScrubRead)
  | logWindowEnd (log : LogId) (code : BitVec 16) (key : Byte)
  -- object exchange (R402 to R422)
  | open_ (f : Frame)
  | openProof (f : Frame)
  | authLockoutEnd (role : Role)
  | close (f : Frame)
  | get (f : Frame)
  | next (f : Frame)
  | set (f : Frame)
  | keyWrite (f : Frame)
  | calibrationSetWrite (f : Frame)
  | profileTableWrite (f : Frame)
  | curveWrite (f : Frame)
  | periodicWakeWrite (f : Frame)
  | pscaleWrite (f : Frame)
  | tariffConfig (f : Frame)
  | priceChanged (f : Frame)
  | siteNotesWrite (f : Frame)
  | rosterWrite (f : Frame)
  | templateWrite (f : Frame)
  | driveCurveWrite (f : Frame)
  | lineSettingsWrite (f : Frame)
  | portSettingsWrite (f : Frame)
  | sealAction (f : Frame)
  | retireAction (f : Frame)
  | sessionTimeout (slot : Fin 4)
  | slotReserveTimeout (slot : Fin 4)
  -- wired and optical ports (R430 to R448)
  | frameSilenceTimeout (port : Port)
  | replyTransmit (port : Port)
  | mbusSndNke (addr : MbusTo)
  | mbusReqUd2 (addr : MbusTo) (fcb : FrameCount)
  | mbusSndUd (addr : MbusTo) (fcb : FrameCount) (ci : Byte) (f : Frame)
  | mbusBaudSwitch (addr : MbusTo) (ud : UdHead)
  | mbusSelect (p : Selection)
  | mbusBaudTimeout
  | linkNop
  | linkWrite (b : LinkBits)
  | linkRead (clocks : Nat)
  | linkDeselect (tail : List Bool)
  | hostSymbols (body : Bytes)
  | hbeatEdge
  | hostSilent
  | fallbackStart (ctx : Fin 3)
  | lineHandback
  | pulseStart (p : PulseDue)
  | pulseEnd (out : PulseOut)
  -- signalling over the power wiring (R457 to R477)
  | lineHalfCycle (ctx : Fin 3) (h : HalfCycle)
  | phaseMissing (ctx : Fin 3)
  | driveRecord (ctx : Fin 3) (t : LineTime)
  | linePoll (ctx : Fin 3)
  | lineObject (ctx : Fin 3)
  | lineReading (ctx : Fin 3)
  | nodeReply (ctx : Fin 3)
  | pollAttempt (ctx : Fin 3)
  | pollWaitTimeout (ctx : Fin 3)
  | sweepStart (ctx : Fin 3)
  -- the display (R498 to R506)
  | displayFrameStart
  | rectangleEnd (ix : Fin 4)
  | infoTimeout
  | tokenResultTimeout
  -- power states and waking (R527 to R533)
  | sleepEntry
  | wake (r : Raised) (collision : Bool)
  | hfxoReady
  | hfxoFail
  | hfxoRestored
  | pllLock
  | pllLockFail
  | vcoreFail (r : Raised) (collision : Bool)
  | wakeRetry (ok : Bool)
  | limpAttempt (trigger : LimpTrigger) (ok : Bool) (i : StartIn)
  | watchdogCheck
  | watchdog (block : Fin 7) (i : StartIn)
  -- the life cycle and availability (R551, R558)
  | lifecycleChange (i : StartIn)
  | availWindow
  -- several devices on one board (R563 to R571)
  | syncLead
  | syncFall
  | syncRelease
  | syncRise (vdrv : Nat)
  | chainSyncStuck (vdrv : Nat)
  | chainToken (r : ChainRec)
  | chainPath (r : ChainRec)
  | chainEnd (r : ChainRec)
  | chainDecideTimeout
  | clkoStop
  | rstNRelease (i : StartIn)
  | auxSlotWakeLead
  | tokenReturned (r : ChainRec)
deriving DecidableEq, Repr, Inhabited

end Sys2Proof
end

