-- ==== Sys2Proof/Config.lean ====
section
/-! DEFINITION. What the manual leaves open, as constants without a body (DESIGN CHOICE, log entries 3 and 4). Nothing
in Lean can evaluate them, so a statement about one holds for every value. -/

namespace Sys2Proof.Config

/-- FREE VALUE: the nth 64-bit value that the manual leaves open, such as the device challenge Cd of R407. Applied to
the counter `State.free`, which the step that uses it advances. -/
opaque freeValue : Nat → BitVec 64

/-- FREE VALUE: whether pixel (column, row) of a ROM font's character cell is set. R503 names four ROM fonts and
gives no glyph. Arguments: font, character code, column, row. -/
opaque glyph : Nat → Nat → Nat → Nat → Bool

/-- FREE VALUE: the result of a computation for operands on which the manual states none (a fit whose stamps leave
no denominator, an interpolation over an empty span). Arguments: the number of the rule, then the operands. -/
opaque unstated : Nat → List Int → Int

/-- FREE VALUE: an edge less than 100 ps before the closing edge of a window may be stamped or not (R163). Arguments:
the edge time and the closing time in TOF units. -/
opaque nearEdge : Nat → Nat → Bool

end Sys2Proof.Config
end

