-- ==== Sys2Proof/Machine/Types.lean ====
section
/-! DEFINITION. The parts of the state of the block, split as the manual splits it by what survives a reset (R538): working RAM
(`Work`), retained RAM (`Ret`), the backup domain (`Bak`) and the store with its wafer trim (`Nv`); beside them the
commands that wait. The docstrings name the rules that give the fields. -/

namespace Sys2Proof.Machine

/-! ### The thatch (R16 to R46) -/

/-- One of the entries 0-11 of the thatch report (R42). -/
structure ThEntry where
  ratio : BitVec 16
  read : BitVec 4
  taken : BitVec 4
  latest : BitVec 4
  pending : Bool
  reason : Byte
  lreason : Byte
  changes : Byte
deriving DecidableEq, Repr, Inhabited

/-- The thatch as read and taken at the latest reset (R34, R42, R43). -/
structure Thatch where
  entries : Vector ThEntry 12
  /-- ROLEREAD, ROLE1:ROLE0 at the latest reading (R43). -/
  roleRead : BitVec 2
  /-- The reading at reset, against which PENDING is judged (R43, R46). -/
  roleAtReset : BitVec 2
  roleTaken : BitVec 2
  rolePending : Bool
  roleReason : Byte
  /-- Tick of the previous read of the pins (R45). -/
  lastRead : BitVec 32
  /-- The hourly read takes the place of the next cycle (R45). -/
  omitCycle : Bool
deriving DecidableEq, Repr, Inhabited

/-! ### The acoustic front end, rounds and cycles (R72 to R135) -/

/-- What a slot of a round fires (R111). -/
inductive SlotUse where
  | path (p : Nat)
  | level (n : Nat)
deriving DecidableEq, Repr, Inhabited

/-- What the driver of a set does (R82, R85): open between rounds, firing its burst, holding the port at VREFC through
50 Ohm, or released at the end of blanking. -/
inductive Drive where
  | off | burst | damping | released
deriving DecidableEq, Repr, Inhabited

/-- What feeds a set in an acoustic loop-back (R105): a burst at the LNA input of an amplitude in mV, or the burst of the
other set of the path through the 40 dB attenuator; each a time in T after the dummy shot. -/
inductive Feed where
  | injector (mV delay : Nat)
  | loop (delay : Nat)
deriving DecidableEq, Repr, Inhabited

/-- What holds a TP pin (R74, R82, R85, R105). -/
inductive PinHold where
  /-- An idle port: GND through 1 kOhm (R74). -/
  | gnd
  /-- VREFC through 20 kOhm: a port of the plan between rounds and before its shot (R85). -/
  | rest
  /-- The driver of its set fires (R82). -/
  | driven
  /-- VREFC through 50 Ohm (R85). -/
  | damped
  /-- Released to its receive chain (R85). -/
  | receives
  /-- Disconnected in a cross-point loop (R105). -/
  | open_
deriving DecidableEq, Repr, Inhabited

/-- One electronics set, driver k and chain k (R75), during a round. -/
structure ESet where
  /-- The port joined to the set, none between rounds (R75, R76). -/
  port : Option (Fin 16)
  /-- The TP pin is disconnected from the set: a cross-point loop (R105). -/
  apart : Bool
  /-- The driver of the set fires in this round (R105). -/
  fires : Bool
  drive : Drive
  /-- The high level of the burst in units of 0.25 mV (R28, R82), and its halves in order, true = high (R83, R84). -/
  high : Nat
  burst : List Bool
  feed : Option Feed
  slot : Nat
  pga : Nat
  /-- Noise floor of the round (R91). -/
  floor : Nat
  /-- The receive switch is closed: in the quiet window, and from the end of blanking on (R85, R91). -/
  listening : Bool
  /-- The comparator gate is closed (R94, R113). -/
  gated : Bool
  /-- The search window of the reception has closed (R117). -/
  closed : Bool
  /-- Time of the arming in T from the epoch, while armed (R92). -/
  armedAt : Option Nat
  confirmed : Bool
  /-- Rising crossings stamped since the arming (R92). -/
  crossings : Nat
  /-- Stamping ended at this time, T from the epoch (R156). -/
  endedAt : Option Nat
  /-- The reception's close word has been written (R156). -/
  closeWritten : Bool
  /-- The reception has been finished (R188). -/
  done : Bool
deriving DecidableEq, Repr, Inhabited

/-- The round in progress (R99, R110 to R115). -/
structure Round where
  running : Bool
  index : Nat
  slots : List SlotUse
  /-- Slots whose shot has been fired. -/
  shots : Nat
  /-- Slots whose search window has closed. -/
  windows : Nat
  /-- Every reception of the round is marked GAP (R59, R87, R129). -/
  gap : Bool
  /-- The round is not fired for low VDRV (R87). -/
  unfired : Bool
  /-- FINE lost lock during the round (R59, R612). -/
  lostLock : Bool
  /-- The settle runs (R115). -/
  settling : Bool
  /-- The round waits for lock, with VDRV in mV as sampled for it (R116). -/
  waiting : Option Nat
  /-- VDRV in mV as sampled at the start of the round (R82, R87). -/
  vdrv : Nat
deriving DecidableEq, Repr, Inhabited

/-- The ACOUSTIC FRONT END (R48, R75 to R99). -/
structure FrontEnd where
  powered : Bool
  sets : Vector ESet 4
  round : Round
deriving DecidableEq, Repr, Inhabited

/-- What runs in the place of cycles (R106, R123). -/
inductive CycleKind where
  | normal | loopback
deriving DecidableEq, Repr, Inhabited

/-- The cycle schedule (R123 to R131). -/
structure Cycle where
  running : Bool
  kind : CycleKind
  /-- Orientation of the cycle in progress (R78): true = swapped. -/
  swapped : Bool
  /-- Orientation of the next normal cycle (R78). -/
  nextSwapped : Bool
  /-- CYCLE of R225: executed cycles since reset. -/
  count : BitVec 16
  /-- The start tick of the cycle in progress or the latest one (R217). -/
  startTick : BitVec 32
  /-- A cycle has been executed since this start (R218). -/
  executed : Bool
  /-- The latest start tick that was taken, used or not (R123, R127). -/
  seen : Option (BitVec 32)
  /-- The cycle ran on the internal RC at some time (R246), and so did the bloom of the cycle to come. -/
  degraded : Bool
  bloomRc : Bool
  /-- No later round is fired: the power-fail warning (R129); FINE has not relocked (R116). -/
  abandon : Bool
  relockFailed : Bool
  rate : BitVec 4
  /-- New rate of an adaptive range, from the first start tick of its period (R130), and the tick of the end of
  the cycle that gave it, none while that cycle runs. -/
  nextRate : BitVec 4
  rateFrom : Option (BitVec 32)
  /-- Ticks from the start tick of the executed cycle before to that of this one (R130). -/
  elapsed : Nat
  /-- Ticks of calm, in units of 1/64 s (R130). -/
  calm : Nat
  vbarPrev : Option Int
  /-- The previous cycle's dv was above the limit (R130). -/
  dvHigh : Bool
  feHeld : Bool
  overruns : BitVec 16
  /-- Pairs, receptions and the chain of this cycle have all been decided (R216). -/
  pairsDone : Bool
deriving DecidableEq, Repr, Inhabited

/-- The acoustic loop-back (R104 to R107). -/
structure AcLoop where
  /-- Element 0 of 0-0:96.20.0 (R104). -/
  request : BitVec 32
  /-- The request that the loop-back cycle in progress follows (R105, R106). -/
  inForce : BitVec 32
  requested : Bool
  running : Bool
  /-- Reason of an end that is due: 0 request, 1 timeout, 2 session end, 3 SEAL (R108). -/
  ending : Option Byte
  session : Nat
  startTick : BitVec 32
  /-- Orientation of the next loop-back cycle (R107). -/
  nextSwapped : Bool
  /-- Tick of the boundary at which the latest loop-back ended: normal cycles resume at a later one (R106). -/
  endTick : Option (BitVec 32)
deriving DecidableEq, Repr, Inhabited

/-! ### The timing engine (R136 to R170) -/

/-- A cell at work (R140). -/
structure CellJob where
  source : Fin 16
  falling : Bool
  /-- Time of the edge in TOF units of the coarse counter. -/
  t : Nat
  /-- C_stop: the coarse count at the second rising FINE edge after the edge (R140). -/
  cstop : Nat
  armed : Bool
  /-- A stamp of the same reception or input was lost before this edge and after the stamp before it (R161). -/
  gap : Bool
deriving DecidableEq, Repr, Inhabited

/-- A time-to-amplitude cell (R140 to R150). Coefficients are in 1/16 ADC code. -/
structure Cell where
  vT : BitVec 16
  v2T : BitVec 16
  job : Option CellJob
  freeSince : Nat
  rejects : Nat
  out : Bool
  calibrating : Bool
deriving DecidableEq, Repr, Inhabited

/-- Losses of one reception or input (R156, R161). -/
structure Loss where
  count : Nat
  /-- Lost since the latest edge that started a cell (R161). -/
  gap : Bool
deriving DecidableEq, Repr, Inhabited

/-- A lane (R137 to R168). -/
structure Lane where
  cells : Vector Cell 4
  /-- The lane's epoch, in periods of the coarse counter (R137). -/
  epoch : Nat
  /-- Words not yet taken by CORE, oldest first; the last `tentative` of them are tentative (R157, R158). -/
  queue : List StampWord
  tentative : Nat
  /-- Words that CORE has taken and not yet used (R159). -/
  taken : List StampWord
  /-- Words that the drain has copied and that no raw block holds yet (R160). -/
  raw : List StampWord
  /-- Time of the last edge that started a cell, TOF units of the coarse counter (R141). -/
  lastStart : Option Nat
  loss : Vector Loss 16
  /-- Losses as they stood at the arming, restored on withdrawal (R158), and the gutter's count then. -/
  lossAtArm : Loss
  gutterAtArm : BitVec 16
  /-- Epoch markers written since the epoch (R152). -/
  wraps : Nat
  /-- Recalibrations begun since the epoch; the next takes cell `recals` mod 4 (R148). -/
  recals : Nat
  gutter : BitVec 16
  peakFill : BitVec 16
  calFail : Byte
  span : BitVec 12
  out : Bool
deriving DecidableEq, Repr, Inhabited

/-- The TIMING ENGINE (R48, R136 to R170). -/
structure Timing where
  powered : Bool
  calibrated : Bool
  /-- The free-running coarse counter as last seen, in T (R136), not wrapped. -/
  coarse : Nat
  /-- The drain (R159): the lane whose turn is next, and the CORE period up to which it has run. -/
  turn : Nat
  drainedTo : Nat
  lanes : Vector Lane 6
deriving DecidableEq, Repr, Inhabited

/-! ### Arrivals, paths and flow (R171 to R256) -/

/-- A reception record (R202). -/
structure RxRec where
  port : Fin 16
  slot : Nat
  swapped : Bool
  eave : Bool
  tof : Nat
  peak : Nat
  gain : Nat
  used : Nat
  ridge : Nat
  slipCount : Int
  learn : Bool
  status : Nat
  slip : Bool
  weakWhy : Nat
  resid : Nat
deriving DecidableEq, Repr, Inhabited

/-- A finished reception: its record, its slip count s and its lead L (R191, R192). -/
structure RxEval where
  record : RxRec
  s : Int
  lead : Int
  lvl : Int
deriving DecidableEq, Repr, Inhabited

/-- Working trackers of a port (R118 to R120, R178, R179, R98). -/
structure PortTrack where
  locked : Bool
  tracked : Nat
  /-- Reported TOFs of the run of OK receptions, newest first, at most 3. -/
  okRun : List Nat
  /-- Consecutive NOECHO or WEAK receptions. -/
  badRun : Nat
  trkValid : Bool
  trk : Int
  ampCount : Nat
  /-- Consecutive rounds at code 120, up to 64 (R98). -/
  gain120 : Nat
  last : Option RxRec
deriving DecidableEq, Repr, Inhabited

/-- What the path objects show: the values of the end of the latest executed cycle (R224). Result words by path, offset words of the
own paths, latest reception records by port. -/
structure PathShown where
  words : Vector (BitVec 128) 33
  offsets : Vector (BitVec 64) 9
  rx : Vector (Option RxRec) 16
deriving DecidableEq, Repr, Inhabited

/-- Working results of a path, own (1-8) or joint (9-32) (R225, R226, R253). -/
structure PathWork where
  dt : BitVec 32
  vel : BitVec 32
  sos : BitVec 32
  verdict : BitVec 2
  state : BitVec 2
  cause : BitVec 3
  swapped : Bool
  sosHeld : Bool
  sat : Bool
  degraded : Bool
  cycle : BitVec 16
  skips : Nat
  samples : BitVec 16
  /-- The previous executed cycle's raw difference and its orientation, if its pair was KEPT (R207). -/
  prev : Option (Int × Bool)
  drops : BitVec 16
  discarded : BitVec 16
  subcyc : BitVec 16
  up : Option RxEval
  down : Option RxEval
  /-- The pair of the cycle in progress has been decided. -/
  decided : Bool
  /-- v_p of a KEPT pair of the cycle in progress (R210). -/
  v : Int
  /-- Raw difference of the cycle in progress (R205). -/
  raw : Option Int
deriving DecidableEq, Repr, Inhabited

/-- Retained values of a path (R206, R236). -/
structure PathRet where
  delta : BitVec 32
  n : Nat
  dropped : Bool
  anchorValid : Bool
  anchor : Int
  discards : Nat
  good : Nat
  lastCause : BitVec 3
deriving DecidableEq, Repr, Inhabited

/-- A level channel (R233, R245). -/
structure LevelWork where
  level : BitVec 32
  sos : BitVec 32
  dist : BitVec 32
  status : BitVec 4
  slip : Bool
  held : Bool
  sosSrc : BitVec 2
  sosHeld : Bool
  degraded : Bool
  age : BitVec 16
  /-- Consecutive executed cycles with NOECHO, up to 8 (R245). -/
  noEcho : Nat
  empty : Bool
  rx : Option RxEval
deriving DecidableEq, Repr, Inhabited

/-- The flow rate record, the water temperature record and the flow fault entry's working fields (R227, R229, R254). -/
structure FlowWork where
  flow : BitVec 48
  empty : Bool
  cutoff : Bool
  degraded : Bool
  subst : Bool
  sat : Bool
  stale : Bool
  valid : BitVec 6
  temp : BitVec 16
  sosMean : BitVec 32
  tempPaths : BitVec 6
  tempRange : Bool
  tempNone : Bool
  noResult : Bool
  lastDegraded : Bool
  emptySets : BitVec 16
  unmetered : BitVec 32
  /-- SAT was set in the cycle in progress (R234). -/
  satNow : Bool
deriving DecidableEq, Repr, Inhabited

/-- The flow in force (R217, R248) with what the LEDGER marks from its cycle (R320). -/
structure FlowInForce where
  q : Int
  degraded : Bool
  startTick : BitVec 32
  subst : Bool
deriving DecidableEq, Repr, Inhabited

/-- An accumulator: a u64 in uL and a 6-bit remainder in 1/64 uL (R218). -/
structure Accum where
  uL : BitVec 64
  rem : BitVec 6
deriving DecidableEq, Repr, Inhabited

/-- A gap (R248): its ticks so far, the flow in force at its first tick, and whether ticks of it lie in the open interval
(R320). -/
structure Gap where
  ticks : Nat
  flow : Option Int
  here : Bool
deriving DecidableEq, Repr, Inhabited

/-- What the FLOW ENGINE keeps in retained RAM (R97, R192, R206, R218, R231, R236, R243, R248). -/
structure FlowRet where
  pga : Vector Nat 16
  lref : Vector Int 16
  learn : Vector Nat 16
  paths : Vector PathRet 33
  keptTh0 : BitVec 4
  empty : Bool
  ecount : Nat
  inForce : Option FlowInForce
  lastBooking : BitVec 32
  /-- A booking has been made since the loss of VBK (R608). -/
  booked : Bool
  /-- The ticks since `lastBooking` are a gap until the first executed cycle (R218, R248). -/
  restartGap : Bool
  /-- Gaps that have not been decided, oldest first, and whether the last of them is in progress (R248, R607). -/
  gaps : List Gap
  gapOpen : Bool
  accF : Accum
  accR : Accum
  accEF : Accum
  accER : Accum
  cbar : Option Nat
  refSos : Option Nat
  /-- LEVEL_SOS_DEFAULT has been logged for channel n (R231). -/
  sosDefault : BitVec 16
deriving DecidableEq, Repr, Inhabited

/-- The calibration set 8-0:96.3.0, fields in the order of R604. -/
structure Calib where
  phaseRev : Int
  tring : Int
  eaveOpen : Int
  eaveClose : Int
  ridgeFrac : Int
  fitN : Int
  resLimit : Int
  onset : List Int
  len : List Int
  cos : List Int
  tauUp : List Int
  tauDn : List Int
  w : List Int
  rsub : List Int
  area : Int
  cutoff : Int
  lofs : List Int
  ldir : List Int
  tauL : List Int
  lsrc : List Int
  refCh : Int
  refDist : Int
  fixedSos : Int
deriving DecidableEq, Repr, Inhabited

/-- An entry of the profile correction table (R223). -/
structure ProfEntry where
  vbar : Int
  k : Int
deriving DecidableEq, Repr, Inhabited

/-! ### Frequency and interval inputs (R257 to R281) -/

/-- A sensor conversion object (R276). -/
structure Sensor where
  imode : Int
  pol : Int
  presc : Int
  hyst : Int
  holdoff : Int
  f0 : Int
  m : List Int
  e : List Int
  unit : Int
deriving DecidableEq, Repr, Inhabited

/-- The writable fields of the AUX schedule (R277). -/
structure AuxSched where
  gate : Int
  repeat_ : Int
  ivlTimeout : Int
deriving DecidableEq, Repr, Inhabited

/-- A FIN result (R279, R280). -/
structure FinWork where
  period : BitVec 48
  freq : BitVec 48
  value : BitVec 32
  status : BitVec 3
  gap : Bool
  irreg : Bool
  inverted : Bool
  degraded : Bool
  sat : Bool
  held : Bool
  stamps : BitVec 24
  resid : BitVec 16
  age : Byte
  /-- FIN_NOSIGNAL has been logged and not yet answered by FIN_SIGNAL (R281). -/
  noSignal : Bool
  /-- Edges counted by the prescaler since the epoch (R258). -/
  prescCount : Nat
  /-- End of the hold-off, TOF units of the coarse counter (R259). -/
  holdUntil : Nat
deriving DecidableEq, Repr, Inhabited

/-- The AUX slots (R261, R262). -/
structure AuxWork where
  /-- A slot is due and its calibration runs. -/
  due : Bool
  /-- The latest tick on which a slot fell due (R262). -/
  dueTick : Option (BitVec 32)
  /-- The inputs that the open slot stamps (R264). -/
  live : List Nat
  isOpen : Bool
  interval : Bool
  /-- The next slot of TH9 7 is an interval slot (R261). -/
  nextInterval : Bool
  /-- The slot is closing while cells still work: the time of its close in T from the epoch (R156, R163). -/
  closing : Option Nat
  degraded : Bool
  /-- The values the slot opened with (R278). -/
  sched : AuxSched
  sensors : Vector Sensor 6
  skipped : BitVec 16
  slotCount : BitVec 16
  fins : Vector FinWork 6
deriving DecidableEq, Repr, Inhabited

/-! ### The timekeeper (R282 to R307) -/

/-- The LF sampler of a pulse input (R273): inactive samples in a row before the present active ones, up to 2, and active
samples in a row, up to 3. -/
structure PulseSampler where
  idle : Nat
  active : Nat
deriving DecidableEq, Repr, Inhabited

/-- The time group, in the order of R286. All but SUBSEC are BCD. -/
structure Cal where
  subsec : BitVec 6
  sec : Byte
  min : Byte
  hour : Byte
  day : Byte
  wday : Byte
  month : Byte
  year : Byte
  century : Byte
deriving DecidableEq, Repr, Inhabited

/-- A freeze of the time group (R288, R289). -/
structure Freeze where
  shadow : Cal
  since : BitVec 32
  /-- Readers that have joined and have not read CENTURY yet. -/
  readers : List Initiator
deriving DecidableEq, Repr, Inhabited

/-- A window of R302. -/
structure Window where
  enable : Int
  days : Int
  hour : Int
  min : Int
  length : Int
deriving DecidableEq, Repr, Inhabited

/-- The PWRON schedule (R302). -/
structure PwronSched where
  windows : List Window
  untrust : Int
deriving DecidableEq, Repr, Inhabited

/-- The periodic wake object (R299). -/
structure PeriodicWake where
  enable : Int
  interval : Int
  phase : Int
  duty : Int
  linger : Int
deriving DecidableEq, Repr, Inhabited

/-- An alarm object (R300). -/
structure Alarm where
  enable : Int
  sec : Int
  min : Int
  hour : Int
  day : Int
  wday : Int
  month : Int
  mask : Int
deriving DecidableEq, Repr, Inhabited

/-- The temperature compensation curve (R285). -/
structure Curve where
  e : List Int
  offset : Int
deriving DecidableEq, Repr, Inhabited

/-- A stage of the time group, or the commit that awaits its boundary (R291, R293). -/
structure Stage where
  time : Cal
  since : BitVec 32
  committed : Bool
  role : Role
  /-- WDAY was replaced by the computed weekday (R292). -/
  clamped : Bool
deriving DecidableEq, Repr, Inhabited

/-- An event tick that the timekeeper holds (R335): calendar time in ticks since 2000-01-01, free-running count, and OSF and the
tariff inputs as they stood on it. -/
structure HeldTick where
  ticks : Nat
  count : BitVec 32
  osf : Bool
  accepted : Option (Bool × Bool)
  inFault : BitVec 2
deriving DecidableEq, Repr, Inhabited

/-- The last-wake record (R303). -/
structure LastWake where
  source : BitVec 6
  collision : Bool
  untrusted : Bool
  subsec : BitVec 6
  time : BitVec 34
  count : BitVec 16
deriving DecidableEq, Repr, Inhabited

/-! ### Billing (R308 to R339) -/

/-- The interval that is open (R319, R320). -/
structure Interval where
  isOpen : Bool
  /-- Forward legal volume so far, mL. -/
  vol : Nat
  /-- Largest one-second flow so far, uL/s (R323). -/
  peak : Nat
  timeUntrusted : Bool
  repeat_ : Bool
  gapFilled : Bool
  powerDown : Bool
  empty : Bool
  reverse : Bool
  clockSet : Bool
  tariff : BitVec 4
  subst : Bool
  degraded : Bool
  unmetered : Bool
  /-- PEAK saturated before it was restored from ring B. -/
  sat : Bool
  /-- PSCALE of the interval (R321). -/
  pscale : BitVec 2
  /-- Calendar seconds at its end (R319). -/
  endTime : Nat
  /-- Free-running count of the tick on which it opened. -/
  openedAt : BitVec 32
deriving DecidableEq, Repr, Inhabited

/-- A maximum demand register (R326). -/
structure Demand where
  demand : BitVec 48
  time : BitVec 34
  repeat_ : Bool
deriving DecidableEq, Repr, Inhabited

/-- The LEDGER in retained RAM (R308 to R336). -/
structure LedgerRet where
  fwd : BitVec 64
  net : BitVec 64
  rev : BitVec 64
  t : Vector (BitVec 64) 4
  estF : BitVec 64
  estR : BitVec 64
  tariff : BitVec 3
  interval : Interval
  /-- TARIFF of the preceding interval record (R320). -/
  prevTariff : BitVec 4
  /-- Sequence number of the next profile record and the number kept (R324). -/
  nextSeq : BitVec 32
  kept : Nat
  /-- The records of the open profile page, oldest first (R386). -/
  page : List (BitVec 64)
  pscale : BitVec 2
  md : Vector Demand 4
  /-- The newest snapshot, held until both copies of it are stored (R330). -/
  snapshot : Bytes
  snapshotHeld : Bool
  /-- Billing closes since BLANK (R330). -/
  closes : Nat
  /-- CLOCK_SET_BACK awaits HWM_REGAINED (R332). -/
  setBack : Bool
  /-- Sum of |Q| / 64 over the ticks of the one-second span in progress, in 1/64 uL/s (R323). -/
  span : Nat
  /-- The default tariff of an untrusted calendar source has been logged (R317). -/
  defaultLogged : Bool
  /-- Calendar time, in ticks since 2000-01-01, of the latest tick that the LEDGER has processed (R332, R334). -/
  seen : Nat
deriving DecidableEq, Repr, Inhabited

/-- A season, a switch point and a special day of the tariff calendar (R316), as lists of their fields. -/
structure TariffCal where
  season : List (List Int)
  week : List (List Int)
  dayprof : List (List Int)
  special : List (List Int)
deriving DecidableEq, Repr, Inhabited

/-! ### Prepayment (R340 to R364) -/

/-- A token under evaluation whose log entry is being written (R347), or accepted and waiting for its tick (R354). -/
structure Token where
  cls : Nat
  id : Nat
  amount : BitVec 16
  /-- Token log sequence. -/
  seq : BitVec 32
  /-- Its log entry is stored. -/
  written : Bool
  /-- Its tick has come: applied on the first tick after the write. -/
  since : BitVec 32
  /-- Submitted by the action of the credit object. -/
  byAction : Bool
deriving DecidableEq, Repr, Inhabited

/-- Prepayment in retained RAM (R348 to R362). -/
structure PrepayRet where
  credit : BitVec 64
  lrem : Nat
  idhwm : BitVec 20
  /-- Bit i: the ID idhwm - i has been accepted (R348). -/
  bitmap : BitVec 1024
  wrong : Nat
  locks : Byte
  /-- Free-running tick at which the lock-out ends, and its length in ticks (R350). -/
  lockFrom : Option (BitVec 32)
  lockTicks : Nat
  emerg : Bool
  lastEnd : BitVec 4
  /-- Sequence of the next token log entry and of the latest token applied (R383, R387). -/
  logSeq : BitVec 32
  tokSeq : BitVec 32
  tokens : List Token
  /-- A pour was open at the latest reset and is ended on the first tick (R359, END 4). -/
  pourCut : Bool
  /-- PRICE_1 to PRICE_4 as they apply to the open interval (R361). -/
  prices : List Int
deriving DecidableEq, Repr, Inhabited

/-- What a row of the keypad holds (R342). -/
inductive RowPin where
  | low | highZ
deriving DecidableEq, Repr, Inhabited

/-- The keypad, the pour and the valve (R342, R355 to R359). -/
structure PrepayWork where
  keyDown : Bool
  entry : List (Fin 10)
  lastKey : BitVec 32
  pour : Bool
  valve : Bool
  stopPressed : Bool
  noFlowSince : Option (BitVec 32)
  /-- The token result that the display shows (R505). -/
  result : Option Nat
deriving DecidableEq, Repr, Inhabited

/-- Price table and valve object (R361). -/
structure Prices where
  price : List Int
  currency : Int
deriving DecidableEq, Repr, Inhabited

structure ValveObj where
  emergLimit : Int
  emergThreshold : Int
  friendlyLimit : Int
  windows : List Window
deriving DecidableEq, Repr, Inhabited

/-! ### The store (R365 to R397) -/

/-- The records kept in two copies (R365, R371). The wafer trim record is never written and stands in `Trim`. -/
inductive Rec where
  | metro | state | settings | keys
deriving DecidableEq, Repr, Inhabited

/-- What a page write belongs to, and so what its completion does. -/
inductive Job where
  | record (r : Rec) (copyB : Bool) (ix : Nat)
  | ringA | ringB
  | snapshot (pos : Nat) (copyB : Bool) (ix : Nat)
  | tail | profile | journal | countRing
  | tokenLog
  | log (l : LogId) (n : Nat)
  | scrub | repair | notes | roster | display
  | erase
deriving DecidableEq, Repr, Inhabited

/-- A page write in the line or with its initiator (R368, R369). -/
structure Req where
  page : Nat
  data : Bytes
  job : Job
  /-- The page belongs to an object write of the exchange engine (R372, R606). -/
  object : Bool
  /-- The page belongs to the life-cycle change in progress (R551). -/
  change : Bool
  /-- A page of the power-fail flush (R377). -/
  flush : Bool
  /-- Step 1 has passed: the erase has begun (R368). -/
  started : Bool
  /-- The verify has failed once (R368). -/
  retried : Bool
deriving DecidableEq, Repr, Inhabited

/-- The STORE's working state (R368 to R397). -/
structure StoreWork where
  present : Bool
  /-- The write in progress and up to 4 waiting requests, oldest first (R369). -/
  line : List Req
  /-- Pages that wait with their initiators (R369). -/
  held : List Req
  /-- Consecutive failed reserve checks of the head of the line (R374). -/
  failed : Nat
  /-- Submissions that met the absent STORE: their part of the ABSENT count (R66). -/
  absentSeen : BitVec 16
  vres : Byte
  corrected : BitVec 16
  unreadable : BitVec 16
  invalid : BitVec 16
  rewrites : BitVec 16
  sweeps : Byte
  abandoned : Byte
  /-- Pages counted in INVALID since they were last written (R395). -/
  countedInvalid : List Nat
  /-- The power-fail flush runs (R377), and the pages it has completed. -/
  flushing : Bool
  flushed : Nat
  /-- The scrub of a multiple of 20 224 ticks has not been made yet (R390). -/
  scrubDue : Bool
  /-- RECORD_LOST has been logged since reset (R436). -/
  recordLost : Bool
deriving DecidableEq, Repr, Inhabited

/-- An entry of the pending list (R378). -/
structure Pending where
  page : Nat
  job : Job
  /-- For a committed record write, its content; empty otherwise (R605). -/
  data : Bytes
  /-- The page belongs to an object write (R606), to the life-cycle change in progress (R551). -/
  object : Bool
  change : Bool
deriving DecidableEq, Repr, Inhabited

/-- The wipe of R393 as the journal shows it. -/
structure Wipe where
  op : Nat
  next : Nat
  done : Bool
  target : Nat
  keyMask : Nat
  clear : Bool
deriving DecidableEq, Repr, Inhabited

/-- The STORE's retained values (R378, R390, R396, R609). -/
structure StoreRet where
  pending : List Pending
  scrubPtr : BitVec 13
  flushShort : Nat
deriving DecidableEq, Repr, Inhabited

/-- What a read of a page returns (R380). A page that is not listed reads clean. -/
inductive PageCond where
  | corrected | uncorrectable
deriving DecidableEq, Repr, Inhabited

/-- The wafer trim record and the values fixed at manufacture (R20, R145, R418). RTREF is in units of 0.1 Ohm. -/
structure Trim where
  serial : BitVec 64
  romid : Byte
  rtref : Nat
  lin : Vector (Vector (List Int) 4) 6
  validA : Bool
  validB : Bool
deriving DecidableEq, Repr, Inhabited

/-- The non-volatile store (R365): its bytes in canonical form, an unlisted address reading 0xFF (R366), the pages
whose ECC is not clean, and the wafer trim. -/
structure Nv where
  mem : List Host.Cell
  ecc : List (Nat × PageCond)
  trim : Trim
deriving DecidableEq, Repr, Inhabited

/-! ### Object exchange (R398 to R428) -/

/-- A session slot (R406 to R410). -/
structure Session where
  role : Role
  port : Port
  /-- Reserved by step 1, not yet open (R407). -/
  reserved : Bool
  cc : BitVec 64
  cd : BitVec 64
  ks : BitVec 128
  initialKey : Bool
  seq : Byte
  lastReply : Bytes
  blocks : List Bytes
  block : Nat
  macFails : Nat
  lastTick : BitVec 32
  /-- CLOSE has been executed: the session ends with its reply (R402, R410). -/
  closing : Bool
deriving DecidableEq, Repr, Inhabited

/-- Which structure object a write leaves its new values in (R417). -/
inductive ObjVal where
  | calib (c : Calib)
  | prof (p : List ProfEntry)
  | curve (c : Curve)
  | pscale (p : BitVec 2)
  | tariffCal (t : TariffCal)
  | source (default_ bday bhour : Int)
  | prices (p : Prices)
  | valve (v : ValveObj)
  | sensor (n : Nat) (x : Sensor)
  | aux (a : AuxSched)
  | pwake (p : PeriodicWake)
  | alarm (b : Bool) (a : Alarm)
  | pwron (p : PwronSched)
  | port (mbAddr mbBaud rsAddr stream : Int)
  | line (l : List Int)
  | key (k : Nat) (v : BitVec 128) (session : Nat)
  | template (e : Nat) (v : List Int)
  | curves (e : Nat) (v : List Int)
  | notes
  | roster
deriving DecidableEq, Repr, Inhabited

/-- What the engine is waiting for before it answers the command in hand (R371, R405). -/
inductive Await where
  | write (v : ObjVal) (left : Nat) (committed : Bool)
  /-- The values of a committed write have taken effect; pages of copy B are still to be written (R606). -/
  | copyB
  | clock
  | token
  | clear (n : Nat)
  /-- A group read holds a freeze; `again`: it is the repeat of R289. -/
  | freeze (again : Bool)
  | retry
  /-- A read takes its place in the STORE's line behind `ahead` requests (R369). -/
  | read (ahead : Nat)
deriving DecidableEq, Repr, Inhabited

/-- The command in hand: its frame, its clamp entries, and what it waits for. -/
structure InHand where
  frame : Frame
  clamps : List (BitVec 64)
  /-- The SET answers CLAMPED. -/
  clamped : Bool
  await : Await
deriving DecidableEq, Repr, Inhabited

/-- The object exchange engine (R398 to R410, R430). -/
structure Exchange where
  sessions : Vector (Option Session) 4
  inHand : Option InHand
  /-- Complete frames that wait for the engine, in order of arrival (R405). -/
  queue : List Frame
  /-- Formed replies that have not left their port: optical, M-Bus, EIA-485, LINK, line (R430). -/
  replies : Vector (Option Bytes) 5
  /-- The bytes that each port sent last. -/
  sent : Vector Bytes 5
  /-- Tick of the latest byte received or sent per port (R526). -/
  lastTraffic : Vector (Option (BitVec 32)) 5
  /-- The access in hand is the retry of R54: a full line holds it as DONE-pending (R55). -/
  retrying : Bool
deriving DecidableEq, Repr, Inhabited

/-- The engine's retained values (R411, R424, R426). -/
structure ExchangeRet where
  fails : Vector Nat 5
  lockFrom : Vector (Option (BitVec 32)) 5
  clampReport : List (BitVec 64)
deriving DecidableEq, Repr, Inhabited

/-- The window of a code limited to one entry in 3 600 s (R426). -/
structure LogWindow where
  log : LogId
  code : BitVec 16
  key : Byte
  seq : BitVec 32
  since : BitVec 32
  count : BitVec 16
deriving DecidableEq, Repr, Inhabited

/-- The event logs (R425, R426): next sequence numbers and the windows. -/
structure Logs where
  nextM : BitVec 32
  nextG : BitVec 32
  windows : List LogWindow
  /-- Entries of events in LIMP, without their SEQ, written when CORE next runs (R532). -/
  limp : List (LogId × BitVec 128)
deriving DecidableEq, Repr, Inhabited

/-! ### Ports, line signalling and display (R429 to R515) -/

/-- M-Bus (R434 to R438). -/
structure Mbus where
  rate : BitVec 3
  access : Byte
  /-- FCB of the latest REQ_UD2 and of the latest SND_UD, if any (R435, R437). -/
  fcb : Option Bool
  udFcb : Option Bool
  selected : Bool
  /-- A tunnelled Graoc request has been taken and its reply not fetched (R437). -/
  tunnel : Bool
  lastResponse : Bytes
  lastValid : BitVec 32
deriving DecidableEq, Repr, Inhabited

/-- The LINK port (R441 to R446). -/
structure Link where
  selected : Bool
  /-- LCS_N is low (R69). -/
  lcsLow : Bool
  /-- The LINK shift register: the bits of a byte that LSCK has not completed, and the level that LSDO holds (R71). -/
  shift : List Bool
  lsdo : Bool
  /-- Bytes that fill the receive FIFO while CORE is stopped (R65, R442). -/
  fifo : Nat
  op : Byte
  /-- RDY as the STATUS of the transaction showed it (R442). -/
  ready : Bool
  rxOverflow : Bool
  /-- Bytes of a record that is not yet complete (R443). -/
  rx : Bytes
  symbols : List Bytes
  graoc : List Bytes
  stream : List Bytes
  raw : List Bytes
  /-- Bytes of the record in progress already shifted out, and its queue (R444). -/
  shifted : Nat
  source : Nat
  sent : Bytes
  alive : Bool
  everAlive : Bool
  lastEdge : BitVec 32
deriving DecidableEq, Repr, Inhabited

/-- A pulse output (R447, R448). -/
structure PulseWork where
  low : Bool
  lost : BitVec 16
deriving DecidableEq, Repr, Inhabited

structure PulseRet where
  backlog : BitVec 16
  rem : Nat
deriving DecidableEq, Repr, Inhabited

/-- The wired ports (R429 to R453). -/
structure Ports where
  frameDiscard : BitVec 16
  streamDrop : BitVec 16
  recordDrop : BitVec 16
  mbAddr : Int
  mbBaud : Int
  rsAddr : Int
  stream : Int
  /-- Settings that take effect after the reply on a port (R451). -/
  setNew : Option (Port × List Int)
  mbus : Mbus
  link : Link
  pulseA : PulseWork
  pulseB : PulseWork
  flowDir : Bool
  /-- Elements 1 and 2 of 0-0:96.20.0 (R452). -/
  lbRequest : BitVec 32
  lbResult : BitVec 3
  lbBits : BitVec 16
  lbErrors : BitVec 16
  lbSession : Nat
  /-- A request waits for its reply to leave or for the loop-back before it: its session. -/
  lbPending : Bool
  lbNextSession : Nat
  /-- The request of the loop-back that runs or ran last (R452). -/
  lbRun : BitVec 32
  /-- The byte that a LINK loop-back returns next (R453). -/
  lbEcho : Option Byte
  /-- The bit rate that the optical port found in its latest frame (R433), and the rate at which each port sent last. -/
  optRate : Nat
  sentRate : Vector Nat 5
deriving DecidableEq, Repr, Inhabited

/-- A symbol that waits in a context's transmit queue (R463): its first half-cycle and its value, 2 silent. -/
structure TxSym where
  hc : BitVec 16
  sym : Nat
  /-- Its drive record has been given to the crossing FIFO (R463). -/
  passed : Bool
deriving DecidableEq, Repr, Inhabited

/-- A poll of the master service (R473). -/
structure Poll where
  node : Nat
  attempt : Nat
  waiting : Bool
  /-- A SET has written the entry since the first attempt began (R476). -/
  touched : Bool
  /-- Half-cycles since the POLL's last symbol, up to 65 535. -/
  waited : Nat
deriving DecidableEq, Repr, Inhabited

/-- A reply that a node owes (R471). -/
structure Owed where
  bits : List Bool
  formed : Bool
  dueAt : BitVec 16
  fromEngine : Bool
deriving DecidableEq, Repr, Inhabited

/-- A frame kept by the receiver (R467, R468). -/
structure LineFrame where
  dest : Nat
  src : Nat
  type : Nat
  payload : Bytes
  margin : Nat
  endHc : BitVec 16
deriving DecidableEq, Repr, Inhabited

/-- A drive record (R463, R64): its context, and the half-cycle count and LINE tick at which it must act. One whose frame has been
given up is not live: it stays in the FIFO and fires nothing (R66, R68). `sym` is the half-cycle with which its symbol begins. -/
structure LineDrive where
  ctx : Fin 3
  hc : BitVec 16
  tick : Nat
  live : Bool
  sym : BitVec 16
deriving DecidableEq, Repr, Inhabited

/-- A pulse on a PD pin (R461): high from a LINE tick on, for GATEW ticks. -/
structure LinePulse where
  hc : BitVec 16
  tick : Nat
  ticks : Nat
  sym : BitVec 16
deriving DecidableEq, Repr, Inhabited

/-- A phase context (R455 to R468, R484). -/
structure LineCtx where
  idle : Bool
  xofs : Nat
  hc : BitVec 16
  prevNotch : Int
  prevErased : Bool
  prevTx : Bool
  windows : List (List Int)
  warmup : Nat
  /-- SOFT_h of the latest half-cycles, newest first; none = erased (R464). -/
  soft : List (Option Int)
  /-- The frame in reception: decided bits after the sync, half-cycles to the end of the next bit, smallest margin (R468). -/
  rx : Option (List Bool × Nat × Nat)
  frame : Option LineFrame
  /-- The samples of the LINE half-cycle before (R456). -/
  past : List Int
  /-- Good spacings while idle, and the previous crossing among the LINE ticks, in 1/16 tick (R457). -/
  good : Nat
  lastCross : Option Nat
  /-- The transmit queue of 256 symbols (R463), and the symbols of the device's own frame that wait for a place in it. -/
  queue : List TxSym
  rest : List TxSym
  /-- Half-cycles since the context last transmitted, received a frame or ended a wait, up to 65 535 (R473, R481). -/
  quiet : Nat
  framesOk : BitVec 16
  bad : BitVec 16
  erased : BitVec 16
  restart : Bool
  txAbort : Bool
  softOut : Bytes
  softFrom : BitVec 16
  poll : Option Poll
  owed : Option Owed
  serviceOn : Bool
  /-- The settings in force on the context (R483). -/
  inForce : List Int
  /-- The PD pin is high within the LINE half-cycle in progress (R461). -/
  pdHigh : Bool
  /-- The pulses that the LINE side has taken and that have not ended. -/
  pulses : List LinePulse
deriving DecidableEq, Repr, Inhabited

/-- LINE SIGNALLING (R455 to R487). -/
structure Line where
  running : Bool
  ref : Fin 3
  settings : List Int
  /-- The words of element 1 as they stood when the LINE clock stopped (R54, R484). -/
  kept : Option (List (BitVec 64))
  ctxs : Vector LineCtx 3
  /-- Device service in force in PHY-for-host service (R478). -/
  deviceService : Bool
  handback : Bool
  hostSymbolsOk : Bool
  resetTick : BitVec 32
  ncount : BitVec 16
  sweeps : BitVec 16
  /-- The CORE to LINE drive FIFO (R65). -/
  drive : List LineDrive
  lbRequest : BitVec 32
  lbResult : BitVec 3
  lbSymbols : BitVec 16
  lbErrors : BitVec 16
  lbErased : BitVec 16
  lbSession : Nat
  /-- A request that waits for the loop-back before it, its session, and the request of the one that runs or ran last (R485). -/
  lbPending : Bool
  lbNextSession : Nat
  lbRun : BitVec 32
  lbSent : Nat
  /-- The half-cycle with which the symbols of the loop-back begin (R486). -/
  lbFrom : Option (BitVec 16)
deriving DecidableEq, Repr, Inhabited

/-- NEXT and the sweeps in retained RAM (R477). -/
structure LineRet where
  next : Vector Nat 3
  /-- A sweep is in progress on the context. -/
  sweeping : Vector Bool 3
  /-- Calendar-independent tick of the start of the current sweep. -/
  sweepTick : Vector (Option (BitVec 32)) 3
deriving DecidableEq, Repr, Inhabited

/-- A rectangle (R498): in 8-pixel columns and rows. `field` is the field it draws, 63 for a full panel (R508). -/
structure Rect where
  x : Nat
  y : Nat
  wcol : Nat
  h : Nat
  clear : Bool
  field : Nat
  /-- Band and frames of a running rectangle (R497, R498). -/
  band : Nat
  frames : Nat
  frame : Nat
  /-- The values that its DRAW rendered, by field number. -/
  shown : List (Nat × Bytes)
  /-- The 17 sequences of the band with which it started (R496). -/
  seqs : List (List Int)
deriving DecidableEq, Repr, Inhabited

/-- The pins of the panel bus in one CORE period (R489, R491, R492); `data` says that SDCLK runs. -/
structure PanelPins where
  sdsp : Bool
  gdclk : Bool
  gdsp : Bool
  sdle : Bool
  sdoe : Bool
  gdoe : Bool
  data : Bool
  sd : Byte
deriving DecidableEq, Repr, Inhabited

/-- The DISPLAY (R488 to R515). -/
structure Display where
  present : Bool
  /-- Template elements 0-16 as lists of field values (R502, R503) and drive curve elements (R496). -/
  mainEntry : List Int
  templates : List (List Int)
  edges : List Int
  curves : List (List Int)
  /-- The frame buffer: one nibble per pixel, target in [3:2], current in [1:0] (R490). -/
  fb : List (BitVec 4)
  running : List Rect
  pend : List Rect
  pmic : Bool
  band : BitVec 3
  updates : BitVec 16
  collapses : BitVec 16
  interrupted : List Rect
  infoAt : Option (BitVec 32)
  infoTemplate : Nat
  resultAt : Option (BitVec 32)
  lbRequest : BitVec 32
  lbResult : BitVec 3
  lbMask : BitVec 15
  recovered : Bool
deriving DecidableEq, Repr, Inhabited

/-- The panel record (R508) and its CRC. -/
structure DisplayRet where
  crc : BitVec 16
  th8 : BitVec 4
  shownTemplate : Nat
  tcrc : BitVec 32
  shown : List (Nat × Bytes)
  slots : List Rect
deriving DecidableEq, Repr, Inhabited

/-! ### Fabric, crossings, chain, power and life cycle (R48 to R71, R516 to R577) -/

/-- A request that waits for a grant (R51). -/
structure FabReq where
  target : Target
  who : Initiator
  aged : Bool
deriving DecidableEq, Repr, Inhabited

/-- A counted toggle channel into CORE (R67): the request toggle that awaits its acknowledge, and the events behind it. Round
completions have such a channel too; CORE runs whenever FINE does and acknowledges each at once. -/
structure Channel where
  toggled : Bool
  pending : Byte
deriving DecidableEq, Repr, Inhabited

/-- The fabric and the crossing counters (R50 to R67). -/
structure Fabric where
  waiting : List FabReq
  /-- The latest grants of a target whose requests were granted together, in their order (R51). -/
  granted : List FabReq
  toggleOvf : BitVec 16
  fifoOvf : BitVec 16
  absent : BitVec 16
  late : Byte
  pllUnlock : Byte
  /-- The LF tick channel and the HBEAT channel (R67, R70). -/
  tick : Channel
  hbeat : Channel
deriving DecidableEq, Repr, Inhabited

/-- What a primary knows of a position (R571 to R574). -/
structure ChainPos where
  known : Bool
  paths : Nat
  missing : Nat
  lost : Bool
  ends : Nat
  conflict : Bool
  flow : BitVec 64
  flags : Byte
deriving DecidableEq, Repr, Inhabited

/-- Chaining (R561 to R577). -/
structure Chain where
  positions : Vector ChainPos 4
  /-- The positions as the cycle found them, which a conflict brings back (R574). -/
  before : Vector ChainPos 4
  /-- The PATH records of the cycle: joint index and result word (R572). -/
  paths : List (Nat × Nat)
  tokenOut : Bool
  syncLow : Bool
  syncHeld : Bool
  /-- The device takes part in the cycle that SYNC announces, and in the one that runs (R565). -/
  takesPart : Bool
  inCycle : Bool
  ownDone : Bool
  mode : Option Bool
  modeDiff : Bool
  chout : List Bytes
deriving DecidableEq, Repr, Inhabited

/-- The power states of R523, and the reset held by a pin. -/
inductive PState where
  | off | keep | sleep | limp | doze | measure
  /-- Held in reset by RST_N or TESTEN: CORE stopped, the backup domain running (R538, R539). -/
  | held
deriving DecidableEq, Repr, Inhabited

/-- What clocks CORE (R56, R563). -/
inductive CoreSrc where
  | rc | crystal | clko
deriving DecidableEq, Repr, Inhabited

/-- A reset that waits: held by RST_N or TESTEN, or deferred behind a write (R538 to R540). -/
structure HeldReset where
  cause : Cause
  pins : StartIn
  /-- Milliseconds of the deferral so far (R545). -/
  defer : Nat
  /-- The reset has been deferred (R559). -/
  late : Bool
  wdBlock : Nat
deriving DecidableEq, Repr, Inhabited

/-- The supervisor and POWER in the backup domain (R519 to R533, R543). -/
structure Power where
  state : PState
  full : Bool
  core : Bool
  src : CoreSrc
  hfxo : Bool
  hfxoFailed : Bool
  pll : Bool
  lfStandin : Bool
  /-- The stand-in of a cold start (R611). -/
  coldStandin : Bool
  warning : Bool
  vsupOk : Bool
  onVres : Bool
  brownOut : Bool
  /-- A brown-out has come since the warning was raised (R520). -/
  browned : Bool
  iovddLow : Bool
  /-- Failed wake attempts in a row, and the tick of the first failure (R532). -/
  attempts : Nat
  failTick : BitVec 32
  /-- Tick on which the latest wake ended: CORE on its clock of step 4 (R123, R530). -/
  wakeEnd : BitVec 32
  /-- Tick on which that wake began, none where CORE runs since a start (R123). -/
  wakeFrom : Option (BitVec 32)
  /-- The wake that is being retried: its source and its collision flag (R532). -/
  retrying : Option (WakeSource × Bool)
  /-- Tick of the previous attempt in LIMP (R532). -/
  limpLast : BitVec 32
  /-- A reset that holds the device: by RST_N, or by TESTEN with its cause (R538, R539). -/
  rstLow : Bool
  testenHold : Option Cause
  deferred : Option HeldReset
  /-- Checks not yet acknowledged, per watched block: the tick of the check (R543). -/
  checks : Vector (Option (BitVec 32)) 7
  /-- LINGER runs from this tick (R299). -/
  lingerFrom : Option (BitVec 32)
  /-- Tick on which the latest DOZE period began (R45). -/
  dozeFrom : BitVec 32
  /-- The level of WAKE_N, and the tick on which it was last seen low (R526). -/
  wakeNIsLow : Bool
  wakeNLow : Option (BitVec 32)
  /-- SLEEP has been entered on this tick: a source raised now may have met the entry (R528). -/
  entering : Bool
  /-- A change of SEAL that was accepted while CORE was stopped, and for which no wake has been made (R520, R532, R547). -/
  sealNews : Bool
  /-- Tick of the latest check, while CORE runs (R543). -/
  lastCheck : Option (BitVec 32)
deriving DecidableEq, Repr, Inhabited

/-- The reset record (R545). -/
structure ResetRec where
  cause : BitVec 5
  cold : Bool
  time : BitVec 34
  subsec : BitVec 6
  defer : Byte
  wdBlock : Byte
deriving DecidableEq, Repr, Inhabited

/-- The availability record (R558). -/
structure Avail where
  elapsed : BitVec 32
  lost : BitVec 32
  lastLost : BitVec 32
  windows : BitVec 16
  wresets : BitVec 16
deriving DecidableEq, Repr, Inhabited

/-- The life-cycle states of R544. -/
inductive LState where
  | blank | calibrate | sealed | service | retired
deriving DecidableEq, Repr, Inhabited

/-- The stages of a life-cycle change, in the order of R551. -/
inductive ChangeStage where
  | flush | sealedRec | journal | rings | stateRecs | wipe | finalJournal | reset
deriving DecidableEq, Repr, Inhabited

/-- A change that the supervisor carries out (R551). -/
structure Change where
  target : LState
  stage : ChangeStage
  pins : StartIn
  /-- Pages of the stage that are not yet complete. -/
  left : Nat
  mecount : BitVec 32
  /-- 0 none, 1 general wipe, 2 key wipe. -/
  op : Nat
  clear : Bool
  next : Nat
  /-- Awaited by LIFECYCLE_CHANGE: the reply of the action has not left. -/
  begun : Bool
  /-- The port on which the action is answered, and its tick (R551). -/
  via : Option Port
  since : BitVec 32
deriving DecidableEq, Repr, Inhabited

/-- The life-cycle state word, the keys and the sealed thatch record, as read from the store at the latest start
(R33, R412, R544), and the change in progress. -/
structure Life where
  state : LState
  pending : Bool
  target : LState
  stateLost : Bool
  mecount : BitVec 32
  seals : Byte
  keyset : BitVec 5
  keylost : BitVec 5
  keys : Vector (BitVec 128) 5
  sealedCodes : Vector (BitVec 4) 12
  sealedRole : BitVec 2
  change : Option Change
  wiping : Bool
  wipeOp : BitVec 2
  wipeNext : Nat
deriving DecidableEq, Repr, Inhabited

/-- Configuration objects as written and as in force (R216, R278, R361). -/
structure Objects where
  calib : Calib
  calibNew : Option Calib
  prof : List ProfEntry
  profNew : Option (List ProfEntry)
  /-- The stored record is absent: BLANK values hold (R424). -/
  calibBlank : Bool
  tariffCal : TariffCal
  default_ : Int
  bday : Int
  bhour : Int
  prices : Prices
  pricesNew : Option Prices
  valve : ValveObj
  sensors : Vector Sensor 6
  aux : AuxSched
  /-- Written values that take effect on the next tick, oldest first (R299, R327, R361). -/
  nextTick : List ObjVal
deriving DecidableEq, Repr, Inhabited

/-! ### The four parts and the whole -/

/-- Working RAM: cleared by every reset (R538). -/
structure Work where
  th : Thatch
  fe : FrontEnd
  cyc : Cycle
  loop : AcLoop
  te : Timing
  /-- The copy of the lane entries that the FLOW ENGINE holds (R417). -/
  laneCopy : Vector (BitVec 64) 6
  ports : Vector PortTrack 16
  paths : Vector PathWork 33
  shown : PathShown
  levels : Vector LevelWork 17
  flow : FlowWork
  aux : AuxWork
  obj : Objects
  pre : PrepayWork
  store : StoreWork
  ex : Exchange
  pt : Ports
  line : Line
  disp : Display
  fab : Fabric
  chain : Chain
  life : Life
  /-- The raw stream buffer of R160, in words used. -/
  streamWords : Nat
deriving DecidableEq, Repr, Inhabited

/-- Retained RAM: survives every reset but the loss of VBK (R538). -/
structure Ret where
  flow : FlowRet
  led : LedgerRet
  pre : PrepayRet
  count : Vector (BitVec 48) 6
  store : StoreRet
  ex : ExchangeRet
  logs : Logs
  pulseA : PulseRet
  pulseB : PulseRet
  line : LineRet
  disp : DisplayRet
  reset : ResetRec
  avail : Avail
deriving DecidableEq, Repr, Inhabited

/-- The backup domain (R282 to R307, R25, R524). -/
structure Bak where
  count : BitVec 32
  cal : Cal
  osf : Bool
  osfCause : BitVec 4
  slewLeft : Int
  /-- SUBSEC 32 has been held once in this second (R294). -/
  slewHeld : Bool
  tempDie : BitVec 12
  lastReading : Option Int
  tcorr : Int
  tfast : Bool
  tfault : Bool
  tDiscards : Nat
  tCalm : Nat
  /-- Tick of the latest reading (R283). -/
  tempTick : Option (BitVec 32)
  /-- LF periods added or removed so far in the window, as an accumulator of TCORR / 8192 (R284). -/
  tcAcc : Int
  /-- LF periods of the crystal in the window, and those added less those removed (R282, R284). -/
  lfPeriods : Nat
  tcAdded : Int
  curve : Curve
  freeze : Option Freeze
  /-- Readers whose reads carry STALE until they read CENTURY (R289). -/
  staleReaders : List Initiator
  stage : Option Stage
  pwake : PeriodicWake
  alarmA : Alarm
  alarmB : Alarm
  pwron : PwronSched
  pwronLevel : Bool
  /-- MIN has advanced on this tick, a commit has stepped the calendar on it, or OSF has changed on it (R302). -/
  pwronTick : Bool
  lastWake : LastWake
  /-- HWM in ticks of 1/64 s since 2000-01-01 00:00:00 (R328). -/
  hwm : Nat
  /-- Held event ticks, oldest first (R335). -/
  heldTicks : List HeldTick
  /-- SEC has advanced on this tick, or a commit has stepped the calendar on it (R300). -/
  secTick : Bool
  /-- The accepted levels of the tariff inputs, true = low, and the faulty inputs (R313, R314). -/
  accepted : Option (Bool × Bool)
  inFault : BitVec 2
  /-- Tick on which another combination was last accepted (R529). -/
  tariffAt : Option (BitVec 32)
  sealOpen : Bool
  sealCand : Bool
  sealRun : Nat
  /-- The latest sample of SEAL, taken once per second (R25). -/
  sealTick : Option (BitVec 32)
  /-- The pulse samplers of FIN0 to FIN3, and the tick of the latest hourly copy of the counts (R273, R274). -/
  pulses : Vector PulseSampler 4
  pulseCopy : BitVec 32
  power : Power
deriving DecidableEq, Repr, Inhabited

end Sys2Proof.Machine
end

