-- ==== Sys2Proof/Machine/Blank.lean ====
section
/-! DEFINITION. Reset values and BLANK values (R11, R222, R382, R604): what working RAM, retained RAM and the backup
domain hold when nothing has been written. A field not named is 0, false, none or empty. -/

namespace Sys2Proof.Machine

/-! ### BLANK values of the configuration objects -/

/-- N_h of R83 for the taken TH1 code. -/
def halfPeriod (th1 : Nat) : Nat :=
  [1280, 1024, 813, 640, 512, 406, 320, 256, 205, 160, 128, 102, 81, 64].getD th1 256

/-- The default ring-down of R83 in microseconds. -/
def ringDefault (th1 : Nat) : Nat :=
  [50, 40, 32, 25, 20, 16, 13, 10, 9, 7, 5, 4, 4, 3].getD th1 10

/-- The number of own paths of the taken TH0 code (R27). -/
def pathCount (th0 : Nat) : Nat :=
  [1, 2, 3, 4, 5, 6, 7, 8, 4, 2, 1, 0, 6].getD th0 1

/-- RESMAX of R190 in fs. -/
def resMax (th1 : Nat) : Nat := (halfPeriod th1 * 1953125 + 4) / 8

/-- The BLANK values of the calibration set for the taken TH0 and TH1 (R189, R222, R604). -/
def calibBlank (th0 th1 : Nat) : Calib where
  phaseRev := 0
  tring := ringDefault th1
  eaveOpen := 0
  eaveClose := 0xFFFFFFFF
  ridgeFrac := 45
  fitN := 16
  resLimit := min 2000000 (resMax th1)
  onset := List.replicate 16 0
  len := List.replicate 8 100000
  cos := List.replicate 8 0x5A82799A
  tauUp := List.replicate 8 0
  tauDn := List.replicate 8 0
  w := (List.range 32).map fun i =>
    if i < pathCount th0 then (2 ^ 30 + pathCount th0 / 2) / pathCount th0 else (0 : Int)
  rsub := List.replicate 32 (2 ^ 30)
  area := 0
  cutoff := 500
  lofs := List.replicate 16 0
  ldir := List.replicate 16 0
  tauL := List.replicate 16 0
  lsrc := List.replicate 16 (if pathCount th0 = 0 then 2 else 0)
  refCh := 0
  refDist := 10000
  fixedSos := 1482340

/-- The BLANK profile correction table (R223). -/
def profBlank : List ProfEntry :=
  (List.range 16).map fun i => { vbar := i * 1000000, k := 2 ^ 30 }

/-- The BLANK temperature compensation curve (R285). -/
def curveBlank : Curve where
  e := (List.range 64).map fun i =>
    let x : Int := 2 * i - 65
    (2 * 340000 * x * x + 2384186) / (2 * 2384186)
  offset := 0

/-- The default sensor conversion coefficients (R276). -/
def sensorBlank : Sensor where
  imode := 0
  pol := 0
  presc := 0
  hyst := 5
  holdoff := 10
  f0 := 0
  m := [0, 1, 0, 0]
  e := [0, 0, 0, 0]
  unit := 0

/-- The default AUX schedule (R277). -/
def auxBlank : AuxSched where
  gate := 1000
  repeat_ := 60
  ivlTimeout := 1000000

/-- The default periodic wake (R299). -/
def pwakeBlank : PeriodicWake where
  enable := 1
  interval := 230400
  phase := 0
  duty := 1
  linger := 0

/-- An alarm that has never been written: disabled (DESIGN CHOICE, log entry 7). -/
def alarmBlank : Alarm where
  enable := 0
  sec := 0
  min := 0
  hour := 0
  day := 1
  wday := 1
  month := 1
  mask := 0

/-- A disabled window of R302. -/
def windowBlank : Window where
  enable := 0
  days := 0
  hour := 0
  min := 0
  length := 1

/-- The BLANK PWRON schedule (R302). -/
def pwronBlank : PwronSched where
  windows := List.replicate 8 windowBlank
  untrust := 1

/-- The BLANK tariff calendar: every entry disabled (R316, DESIGN CHOICE, log entry 7). -/
def tariffCalBlank : TariffCal where
  season := List.replicate 4 [0, 1, 1, 0]
  week := List.replicate 4 (List.replicate 7 0)
  dayprof := List.replicate 64 [0, 0, 0, 1]
  special := List.replicate 24 [0, 0xFF, 1, 1, 0]

/-- The default price table and valve object (R361). -/
def pricesBlank : Prices where
  price := [0, 0, 0, 0]
  currency := 0

def valveBlank : ValveObj where
  emergLimit := 0
  emergThreshold := 0
  friendlyLimit := 0
  windows := List.replicate 4 windowBlank

/-- The default line signalling settings in the order of R483. -/
def lineBlank : List Int :=
  [71, 8, 0, 0, 0, 48, 4, 32, 32, 3, 24, 0, 1, 5461, 5462, 10922, 10923, 16382, 0, 1]

/-- The default field entry of R503: ENABLE, KIND, X, Y, WCOL, H, FONT, FG, ALIGN, IDENT, ATTR, SHIFT, WIDTH, SIGNED,
DROP, DPOINT, DIGITS, TEXT. -/
def fieldBlank : List Int :=
  [0, 0, 0, 0, 1, 16, 0, 0, 0, 0, 0xFF, 0, 32, 0, 0, 0, 8, 0x202020202020]

/-- The default template: disabled, on white (R502). -/
def templateBlank : List Int := [0, 1] ++ (List.replicate 32 fieldBlank).flatten

/-- The default drive curve element 0: the edges and PMIC_DELAY (R496). -/
def edgesBlank : List Int := [0, 6, 12, 18, 24, 30, 40, 20]

/-! ### Working RAM -/

def thEntryClear : ThEntry := { (default : ThEntry) with read := 15, taken := 15, latest := 15 }

def thatchClear : Thatch :=
  { (default : Thatch) with
    entries := Vector.replicate 12 thEntryClear
    roleRead := 3
    roleAtReset := 3
    roleTaken := 3 }

/-- Cycle schedule of the safe code 15 of TH4: 1 cycle/s, rate code 2 (R27, R131). -/
def cycleClear : Cycle := { (default : Cycle) with rate := 2, nextRate := 2 }

def pathClear : PathWork := { (default : PathWork) with verdict := 3, sosHeld := true }

/-- No path has been decided since reset: VERDICT 3, SOS_HELD 1 and DLEARN 1 (R225). A start shows the kept fields as they are. -/
def shownClear : PathShown := { (default : PathShown) with words := Vector.replicate 33 0xC0900000#128 }

def levelClear : LevelWork := { (default : LevelWork) with status := 1, held := true }

def flowClear : FlowWork := { (default : FlowWork) with stale := true, tempNone := true }

def finClear : FinWork := { (default : FinWork) with status := 1, held := true }

def auxClear : AuxWork :=
  { (default : AuxWork) with
    sched := auxBlank
    sensors := Vector.replicate 6 sensorBlank
    fins := Vector.replicate 6 finClear }

def objectsClear : Objects :=
  { (default : Objects) with
    calib := calibBlank 15 15
    prof := profBlank
    calibBlank := true
    tariffCal := tariffCalBlank
    default_ := 1
    bday := 1
    bhour := 0
    prices := pricesBlank
    valve := valveBlank
    sensors := Vector.replicate 6 sensorBlank
    aux := auxBlank }

def portsClear : Ports :=
  { (default : Ports) with
    mbAddr := 0
    mbBaud := 3
    rsAddr := 1
    stream := 0
    mbus := { (default : Mbus) with rate := 3 } }

def ctxClear : LineCtx := { (default : LineCtx) with idle := true, inForce := lineBlank }

def lineClear : Line :=
  { (default : Line) with settings := lineBlank, ctxs := Vector.replicate 3 ctxClear, hostSymbolsOk := true }

def displayClear : Display :=
  { (default : Display) with
    mainEntry := [0, 1]
    templates := List.replicate 16 templateBlank
    edges := edgesBlank
    curves := List.replicate 136 (List.replicate 64 0) }

/-- The life cycle as working RAM holds it before the records are read. The manual gives no BLANK value of the sealed thatch record
(R33); a SEALED device that has lost it in both copies takes code 15 in every field and standalone: DESIGN CHOICE, log entry
120. -/
def lifeClear : Life := { (default : Life) with sealedCodes := Vector.replicate 12 15, sealedRole := 3 }

/-- Working RAM as every reset leaves it (R11, R538). -/
def workClear : Work :=
  { (default : Work) with
    th := thatchClear
    cyc := cycleClear
    paths := Vector.replicate 33 pathClear
    shown := shownClear
    levels := Vector.replicate 17 levelClear
    flow := flowClear
    aux := auxClear
    obj := objectsClear
    pt := portsClear
    line := lineClear
    disp := displayClear
    life := lifeClear }

/-! ### Retained RAM and the backup domain -/

/-- Retained RAM as the loss of VBK leaves it: PGA codes 60 (R97), learn counts 0 (R192), the token window at ID 0
(R348), tariff T1, the token log sequence at 1, so that TOKSEQ 0 names no token (R383, DEDUCED, log entry 15), availability record with no complete window
(R558), NEXT at the start of each range (R477). -/
def retClear : Ret :=
  { (default : Ret) with
    flow := { (default : FlowRet) with
      pga := Vector.replicate 16 60
      keptTh0 := 15 }
    led := { (default : LedgerRet) with tariff := 1 }
    pre := { (default : PrepayRet) with bitmap := 1, logSeq := 1 }
    line := { (default : LineRet) with next := #v[1, 5462, 10923] }
    avail := { (default : Avail) with lastLost := 0xFFFFFFFF } }

/-- 2000-01-01 00:00:00, a Saturday (R292, R298). -/
def calStart : Cal where
  subsec := 0
  sec := 0
  min := 0
  hour := 0
  day := 1
  wday := 6
  month := 1
  year := 0
  century := 0x20

/-- The backup domain before it first starts: OSFCAUSE 1, first power-up (R297). -/
def bakClear : Bak :=
  { (default : Bak) with
    cal := calStart
    osf := true
    osfCause := 1
    curve := curveBlank
    pwake := pwakeBlank
    alarmA := alarmBlank
    alarmB := alarmBlank
    pwron := pwronBlank }

/-- The wafer trim at its nominal values: RTREF 10.0 kOhm in units of 0.1 Ohm, linearity tables of zero (R20, R145, DESIGN CHOICE, log entry 6). -/
def trimNominal : Trim where
  serial := 0
  romid := 0
  rtref := 100000
  lin := Vector.replicate 6 (Vector.replicate 4 (List.replicate 15 0))
  validA := true
  validB := true

end Sys2Proof.Machine
end

