-- ==== Sys2Proof/Machine/State.lean ====
section
/-! DEFINITION. The state of the block (R538 says what of it survives a reset), why it can stop, and the state from
which a run starts. -/

namespace Sys2Proof.Machine

/-- All of the state but the store array and the queue: what the commands' effects read and write. -/
structure Vol where
  work : Work
  ret : Ret
  bak : Bak
  /-- The model's own: the number of free values taken so far (DESIGN CHOICE, log entry 3). -/
  free : Nat
deriving DecidableEq, Repr, Inhabited

/-- The state of the block. -/
structure State where
  vol : Vol
  nv : Nv
  /-- The commands that wait, first in, first out. -/
  pending : List Instr
deriving DecidableEq, Repr, Inhabited

/-- Why the machine stops: nothing that the manual describes stops the block, so there is no reason. -/
inductive Fault where
deriving DecidableEq, Repr

/-- Why a command has no meaning. -/
inductive Refusal where
  /-- Raised by an arm of `exec` whose command has not been modelled. Safe: nothing is claimed of it. -/
  | notModelled (mnemonic : String)
deriving DecidableEq, Repr

/-- The block right after power-up, before VBK_RELEASE: the power state OFF (R523), every field at the value its map
gives under "At reset", every kept field at the value the loss of VBK leaves, the store never written (R366), the
queue empty. Values the manual does not give: DESIGN CHOICE, log entries 5 and 6. -/
def State.reset : State where
  vol :=
    { work := workClear
      ret := retClear
      bak := bakClear
      free := 0 }
  nv :=
    { mem := []
      ecc := []
      trim := trimNominal }
  pending := []

end Sys2Proof.Machine
end

