-- ==== Sys2Proof/Machine/Ops.lean ====
section
/-! DEFINITION. The arithmetic that the rules share (roundings, clamps, saturating counters, byte order, CRCs), the store
array as bytes, and the update of the state by a command's effect. -/

namespace Sys2Proof.Machine

/-! ### Integers -/

/-- n / d rounded to nearest, halves away from zero; 0 for d = 0. DESIGN CHOICE: log entry 22. -/
def roundAway (n d : Int) : Int :=
  if d = 0 then 0
  else
    let q := (2 * n.natAbs + d.natAbs) / (2 * d.natAbs)
    if (n < 0) = (d < 0) ∨ n = 0 then (q : Int) else -(q : Int)

/-- n / d rounded to nearest, halves up, for d > 0. -/
def roundUp (n d : Int) : Int := (2 * n + d) / (2 * d)

/-- n / d rounded up, for d > 0. -/
def ceilDiv (n d : Nat) : Nat := (n + d - 1) / d

def clampInt (lo hi x : Int) : Int := if x < lo then lo else if hi < x then hi else x

def fitsSigned (w : Nat) (x : Int) : Bool := -(2 ^ (w - 1) : Int) ≤ x ∧ x < (2 ^ (w - 1) : Int)

/-- Saturation at the limits of an s-type of w bits (R8). -/
def satSigned (w : Nat) (x : Int) : Int := clampInt (-(2 ^ (w - 1) : Int)) (2 ^ (w - 1) - 1) x

/-- A saturating counter of w bits. -/
def satAdd {w : Nat} (x : BitVec w) (n : Nat) : BitVec w := BitVec.ofNat w (min (x.toNat + n) (2 ^ w - 1))

def satInc {w : Nat} (x : BitVec w) : BitVec w := satAdd x 1

def ofInt (w : Nat) (x : Int) : BitVec w := BitVec.ofInt w x

def b2n (b : Bool) : Nat := if b then 1 else 0

/-- Integer square root by bisection on `fuel` bits: the largest r + 2^fuel - 1 or less whose square is at most n. -/
def isqrtAux (n : Nat) : Nat → Nat → Nat
  | 0, r => r
  | f + 1, r => if (r + 2 ^ f) * (r + 2 ^ f) ≤ n then isqrtAux n f (r + 2 ^ f) else isqrtAux n f r

def isqrt (n : Nat) : Nat := isqrtAux n (n.log2 / 2 + 1) 0

/-- The square root of n / d, rounded to nearest, halves up: the largest r with (2 r - 1)^2 d at most 4 n. -/
def rootRound (n d : Nat) : Nat := (isqrt (4 * n / d) + 1) / 2

def sumInt (l : List Int) : Int := l.foldl (· + ·) 0

def maxNat (l : List Nat) : Nat := l.foldl max 0

/-! ### Vectors and lists -/

def vset {α : Type} {n : Nat} (v : Vector α n) (i : Nat) (x : α) : Vector α n := v.setIfInBounds i x

def vget {α : Type} [Inhabited α] {n : Nat} (v : Vector α n) (i : Nat) : α := v.getD i default

def vmod {α : Type} [Inhabited α] {n : Nat} (v : Vector α n) (i : Nat) (f : α → α) : Vector α n :=
  vset v i (f (vget v i))

def lget (l : List Int) (i : Nat) : Int := l.getD i 0

/-- Consecutive pieces of k elements, at most `fuel` of them. -/
def chunks {α : Type} (k : Nat) : Nat → List α → List (List α)
  | 0, _ => []
  | f + 1, l => if l.isEmpty then [] else l.take k :: chunks k f (l.drop k)

/-- l padded with x to n elements, and cut there. -/
def padTo {α : Type} (n : Nat) (x : α) (l : List α) : List α := (l ++ List.replicate (n - l.length) x).take n

/-! ### Bytes (R7) -/

/-- x in n bytes, most significant first. -/
def beBytes : Nat → Nat → Bytes
  | 0, _ => []
  | n + 1, x => BitVec.ofNat 8 (x / 256 ^ n) :: beBytes n x

/-- x in n bytes, least significant first (EN 13757-3). -/
def leBytes (n x : Nat) : Bytes := (beBytes n x).reverse

/-- The number that a byte string spells, most significant byte first. -/
def beNat (l : Bytes) : Nat := l.foldl (fun a b => 256 * a + b.toNat) 0

/-- The signed number that n bytes spell. -/
def beInt (l : Bytes) : Int :=
  let x := beNat l
  if 2 * x < 256 ^ l.length then (x : Int) else (x : Int) - 256 ^ l.length

/-- A signed value in n bytes, two's complement (R403). -/
def beSigned (n : Nat) (x : Int) : Bytes := beBytes n (x % (256 ^ n : Int)).toNat

def slice (l : Bytes) (i n : Nat) : Bytes := (l.drop i).take n

/-! ### CRCs -/

/-- CRC-16/CCITT of R400 over one byte. -/
def crc16Bit (c : BitVec 16) (bit : Bool) : BitVec 16 :=
  if c.msb != bit then (c <<< 1) ^^^ 0x1021#16 else c <<< 1

def byteBits (b : Byte) : List Bool := (List.range 8).map fun i => b.getLsbD (7 - i)

/-- CRC-16 over bits, first bit first (R467). -/
def crc16Bits (l : List Bool) : BitVec 16 := l.foldl crc16Bit 0xFFFF#16

/-- CRC-16 over bytes (R400). -/
def crc16 (l : Bytes) : BitVec 16 := l.foldl (fun c b => (byteBits b).foldl crc16Bit c) 0xFFFF#16

def crc32Step (c : BitVec 32) : Nat → BitVec 32
  | 0 => c
  | n + 1 => crc32Step (if c.getLsbD 0 then (c >>> 1) ^^^ 0xEDB88320#32 else c >>> 1) n

/-- CRC-32 of IEEE 802.3 (R381), in its reflected form (DEDUCED, log entry 9). -/
def crc32 (l : Bytes) : BitVec 32 :=
  ~~~ (l.foldl (fun c b => crc32Step (c ^^^ b.setWidth 32) 8) 0xFFFFFFFF#32)

/-! ### BCD (R286) -/

def bcdOk (b : Byte) : Bool := b.toNat % 16 ≤ 9 ∧ b.toNat / 16 ≤ 9

def ofBcd (b : Byte) : Nat := b.toNat / 16 * 10 + b.toNat % 16

def toBcd (n : Nat) : Byte := BitVec.ofNat 8 (n / 10 % 10 * 16 + n % 10)

/-! ### The store array (R365, R366) -/

/-- One byte of the array; an address never written reads 0xFF (R366; DEDUCED: log entry 100). -/
def memRead : List Host.Cell → Nat → Byte
  | [], _ => 0xFF
  | (k, v) :: r, a => if k = a then v else memRead r a

/-- One byte written, in canonical form: addresses rise strictly and no entry holds 0xFF. -/
def memWrite : List Host.Cell → Nat → Byte → List Host.Cell
  | [], a, b => if b = 0xFF then [] else [(a, b)]
  | (k, v) :: r, a, b =>
    if a < k then if b = 0xFF then (k, v) :: r else (a, b) :: (k, v) :: r
    else if a = k then if b = 0xFF then r else (a, b) :: r
    else (k, v) :: memWrite r a b

/-- The canonical form, from a lower bound of the addresses. -/
def memWfFrom : Nat → List Host.Cell → Bool
  | _, [] => true
  | lo, (k, v) :: r => decide (lo ≤ k) && v != 0xFF && memWfFrom (k + 1) r

/-- The store array is in canonical form. -/
def Memory.wf (m : List Host.Cell) : Bool := memWfFrom 0 m

/-- Bytes written at rising addresses. -/
def memWriteList : List Host.Cell → Nat → Bytes → List Host.Cell
  | m, _, [] => m
  | m, a, b :: r => memWriteList (memWrite m a b) (a + 1) r

/-- Page n of the array (R365). -/
def memPage (m : List Host.Cell) (n : Nat) : Bytes := (List.range 64).map fun i => memRead m (64 * n + i)

/-- A page written whole (R368). -/
def memWritePage (m : List Host.Cell) (n : Nat) (d : Bytes) : List Host.Cell :=
  memWriteList m (64 * n) (padTo 64 0xFF d)

/-- An erased page (R366). -/
def erasedPage : Bytes := List.replicate 64 0xFF

/-! ### The state -/

/-- The state with all but the array and the queue replaced: the frame of every command but PAGE_WRITE_DONE. -/
def State.up (s : State) (v : Vol) : State := { s with vol := v }

/-- A free value (R407, DESIGN CHOICE, log entry 3), and the state with it taken. -/
def takeFree (s : Vol) : BitVec 64 × Vol := (Config.freeValue s.free, { s with free := s.free + 1 })

/-- A choice that the manual leaves open (DESIGN CHOICE, log entry 3). -/
def freeBit (s : Vol) : Bool × Vol :=
  let (r, s) := takeFree s
  (r.getLsbD 0, s)

/-! ### Blocks and power (R48, R523) -/

/-- CORE runs: DOZE, MEASURE and the start of a wake (R525, R530). -/
def coreRuns (s : Vol) : Bool := s.bak.power.core

/-- The taken code of a field of the thatch (R27 to R31). -/
def th (s : Vol) (f : Nat) : Nat := (vget s.work.th.entries f).taken.toNat

def isSecondary (s : Vol) : Bool := s.work.th.roleTaken = 1

def isPrimary (s : Vol) : Bool := s.work.th.roleTaken = 2

/-- The position in the chain; 0 for the primary (R31, R35). -/
def position (s : Vol) : Nat := if th s 10 < 8 then th s 10 % 4 else 0

/-- Joint integration, on a primary from its own code and on a secondary from the latest TOKEN (R561). -/
def jointMode (s : Vol) : Bool :=
  if isPrimary s then th s 10 < 4 else (s.work.chain.mode.getD false)

/-- The rules of the fault chapter apply: a secondary in joint integration applies none (R572). -/
def faultRules (s : Vol) : Bool := !(isSecondary s && jointMode s)

/-- The ports of the taken TH7 set (R29). -/
def portInSet (s : Vol) : Port → Bool
  | .optical => true
  | .mbus => [0, 2, 11, 12, 13, 14].contains (th s 7)
  | .rs485 => [3, 4, 5, 6, 7, 8, 9, 10, 11, 12, 13, 14].contains (th s 7)
  | .link => [1, 2, 7, 8, 9, 10, 13, 14].contains (th s 7)
  | .line => th s 6 ≠ 15

/-- The bit rate of EIA-485 (R29), 0 where the set has no such port. -/
def rs485Rate (s : Vol) : Nat :=
  match th s 7 with
  | 3 | 7 | 11 => 9600
  | 4 | 8 | 12 | 13 => 19200
  | 5 | 9 => 38400
  | 6 | 10 | 14 => 115200
  | _ => 0

/-- The nominal half-period of the mains in ns: 50 Hz, or 60 Hz under the odd codes of TH6 (R29). -/
def halfPeriodNs (s : Vol) : Nat := if th s 6 % 2 = 0 then 10000000 else 8333333

/-- A duration within a share of a nominal one, in parts per thousand. -/
def withinPm (pm x nominal : Nat) : Bool := decide (nominal * (1000 - pm) ≤ x * 1000 ∧ x * 1000 ≤ nominal * (1000 + pm))

/-- An event of a counted channel whose destination is stopped; the second part says that it is refused (R67). -/
def Channel.raise (c : Channel) : Channel × Bool :=
  if !c.toggled then ({ c with toggled := true }, false)
  else if c.pending = 255 then (c, true)
  else ({ c with pending := c.pending + 1 }, false)

/-- Prepayment is active (R340). -/
def prepaid (s : Vol) : Bool := [4, 5, 6, 7].contains (th s 5)

/-- The eave is in force (R132). -/
def eaveOn (s : Vol) : Bool := [5, 6, 7, 8, 9, 10].contains (th s 11)

/-- The pulse value of TH11 in mL, none where pulses are off (R31, R449). -/
def pulseValue (s : Vol) : Option Nat :=
  if isSecondary s then none
  else match th s 11 with
    | 0 | 5 => some 1000
    | 1 | 6 => some 10000
    | 2 | 7 => some 100000
    | 3 | 8 => some 1000000
    | 4 | 9 => some 10000000
    | _ => none

/-- Signalling in PHY-for-host service (R29, R478). -/
def phyForHost (s : Vol) : Bool := th s 6 = 6 ∨ th s 6 = 7

/-- RETIRED, or a change to it under way: what R554 stops has stopped (R551). -/
def retired (s : Vol) : Bool :=
  s.work.life.state == .retired || s.work.life.change.any fun c => c.begun && c.target == .retired

/-- The LINE side is absent: TH6 off, or its clock stopped (R48, R54). -/
def lineAbsent (s : Vol) : Bool := th s 6 == 15 || !s.work.line.running

/-- CORE is on the internal RC (R58, R246). -/
def onRc (s : Vol) : Bool := s.bak.power.src == .rc

/-- The TH8 panel: width and height in pixels and the number of colours (R31, R488). -/
def panel (s : Vol) : Option (Nat × Nat × Nat) :=
  match th s 8 with
  | 15 => none
  | c => some (([296, 400, 600, 640, 800].getD (c / 3) 296, [128, 300, 448, 384, 480].getD (c / 3) 128, 2 + c % 3))

end Sys2Proof.Machine
end

