-- ==== Sys2Proof/Machine/Crypto.lean ====
section
/-! DEFINITION. AES-128 (FIPS 197) and AES-128-CMAC (NIST SP 800-38B), as R346, R407, R408 and R413 use them. -/

namespace Sys2Proof.Machine

def sbox0 : List Nat := [0x63, 0x7C, 0x77, 0x7B, 0xF2, 0x6B, 0x6F, 0xC5, 0x30, 0x01, 0x67, 0x2B, 0xFE, 0xD7, 0xAB,
  0x76, 0xCA, 0x82, 0xC9, 0x7D, 0xFA, 0x59, 0x47, 0xF0, 0xAD, 0xD4, 0xA2, 0xAF, 0x9C, 0xA4, 0x72, 0xC0]

def sbox1 : List Nat := [0xB7, 0xFD, 0x93, 0x26, 0x36, 0x3F, 0xF7, 0xCC, 0x34, 0xA5, 0xE5, 0xF1, 0x71, 0xD8, 0x31,
  0x15, 0x04, 0xC7, 0x23, 0xC3, 0x18, 0x96, 0x05, 0x9A, 0x07, 0x12, 0x80, 0xE2, 0xEB, 0x27, 0xB2, 0x75]

def sbox2 : List Nat := [0x09, 0x83, 0x2C, 0x1A, 0x1B, 0x6E, 0x5A, 0xA0, 0x52, 0x3B, 0xD6, 0xB3, 0x29, 0xE3, 0x2F,
  0x84, 0x53, 0xD1, 0x00, 0xED, 0x20, 0xFC, 0xB1, 0x5B, 0x6A, 0xCB, 0xBE, 0x39, 0x4A, 0x4C, 0x58, 0xCF]

def sbox3 : List Nat := [0xD0, 0xEF, 0xAA, 0xFB, 0x43, 0x4D, 0x33, 0x85, 0x45, 0xF9, 0x02, 0x7F, 0x50, 0x3C, 0x9F,
  0xA8, 0x51, 0xA3, 0x40, 0x8F, 0x92, 0x9D, 0x38, 0xF5, 0xBC, 0xB6, 0xDA, 0x21, 0x10, 0xFF, 0xF3, 0xD2]

def sbox4 : List Nat := [0xCD, 0x0C, 0x13, 0xEC, 0x5F, 0x97, 0x44, 0x17, 0xC4, 0xA7, 0x7E, 0x3D, 0x64, 0x5D, 0x19,
  0x73, 0x60, 0x81, 0x4F, 0xDC, 0x22, 0x2A, 0x90, 0x88, 0x46, 0xEE, 0xB8, 0x14, 0xDE, 0x5E, 0x0B, 0xDB]

def sbox5 : List Nat := [0xE0, 0x32, 0x3A, 0x0A, 0x49, 0x06, 0x24, 0x5C, 0xC2, 0xD3, 0xAC, 0x62, 0x91, 0x95, 0xE4,
  0x79, 0xE7, 0xC8, 0x37, 0x6D, 0x8D, 0xD5, 0x4E, 0xA9, 0x6C, 0x56, 0xF4, 0xEA, 0x65, 0x7A, 0xAE, 0x08]

def sbox6 : List Nat := [0xBA, 0x78, 0x25, 0x2E, 0x1C, 0xA6, 0xB4, 0xC6, 0xE8, 0xDD, 0x74, 0x1F, 0x4B, 0xBD, 0x8B,
  0x8A, 0x70, 0x3E, 0xB5, 0x66, 0x48, 0x03, 0xF6, 0x0E, 0x61, 0x35, 0x57, 0xB9, 0x86, 0xC1, 0x1D, 0x9E]

def sbox7 : List Nat := [0xE1, 0xF8, 0x98, 0x11, 0x69, 0xD9, 0x8E, 0x94, 0x9B, 0x1E, 0x87, 0xE9, 0xCE, 0x55, 0x28,
  0xDF, 0x8C, 0xA1, 0x89, 0x0D, 0xBF, 0xE6, 0x42, 0x68, 0x41, 0x99, 0x2D, 0x0F, 0xB0, 0x54, 0xBB, 0x16]

/-- The S-box of FIPS 197. -/
def sboxTable : List Nat := sbox0 ++ sbox1 ++ sbox2 ++ sbox3 ++ sbox4 ++ sbox5 ++ sbox6 ++ sbox7

def subByte (b : Byte) : Byte := BitVec.ofNat 8 (sboxTable.getD b.toNat 0)

def invSubByte (b : Byte) : Byte := BitVec.ofNat 8 (sboxTable.findIdx (· == b.toNat))

/-- Multiplication by x in GF(2^8). -/
def xtime (b : Byte) : Byte := if b.msb then (b <<< 1) ^^^ 0x1B else b <<< 1

/-- Multiplication in GF(2^8) by a constant below 16. -/
def gmul (c : Nat) (b : Byte) : Byte :=
  let b2 := xtime b
  let b4 := xtime b2
  let b8 := xtime b4
  (if c % 2 = 1 then b else 0) ^^^ (if c / 2 % 2 = 1 then b2 else 0)
    ^^^ (if c / 4 % 2 = 1 then b4 else 0) ^^^ (if c / 8 % 2 = 1 then b8 else 0)

def xorBytes (a b : Bytes) : Bytes := List.zipWith (· ^^^ ·) a b

/-- The next round key of 16 bytes. -/
def nextKey (k : Bytes) (rcon : Byte) : Bytes :=
  let w0 := k.take 4
  let w1 := slice k 4 4
  let w2 := slice k 8 4
  let w3 := slice k 12 4
  let t := (w3.drop 1 ++ w3.take 1).map subByte
  let t := xorBytes t [rcon, 0, 0, 0]
  let n0 := xorBytes w0 t
  let n1 := xorBytes w1 n0
  let n2 := xorBytes w2 n1
  n0 ++ n1 ++ n2 ++ xorBytes w3 n2

/-- The round keys after the first, in order. -/
def keySchedule : Nat → Bytes → Byte → List Bytes
  | 0, _, _ => []
  | n + 1, k, rcon => let k' := nextKey k rcon; k' :: keySchedule n k' (xtime rcon)

def shiftRows (s : Bytes) : Bytes :=
  (List.range 16).map fun i => s.getD (4 * ((i / 4 + i % 4) % 4) + i % 4) 0

def invShiftRows (s : Bytes) : Bytes :=
  (List.range 16).map fun i => s.getD (4 * ((i / 4 + 4 - i % 4) % 4) + i % 4) 0

/-- One column times the circulant matrix whose first row is `c`. -/
def mixColumn (c : List Nat) (col : Bytes) : Bytes :=
  (List.range 4).map fun r =>
    (List.range 4).foldl (fun a j => a ^^^ gmul (c.getD ((j + 4 - r) % 4) 0) (col.getD j 0)) 0

def mixColumns (c : List Nat) (s : Bytes) : Bytes :=
  (List.range 4).flatMap fun i => mixColumn c (slice s (4 * i) 4)

def encRounds : List Bytes → Bytes → Bytes
  | [], s => s
  | [k], s => xorBytes (shiftRows (s.map subByte)) k
  | k :: r, s => encRounds r (xorBytes (mixColumns [2, 3, 1, 1] (shiftRows (s.map subByte))) k)

/-- AES-128 encryption of one block. -/
def aesEnc (key block : Bytes) : Bytes := encRounds (keySchedule 10 key 1) (xorBytes block key)

/-- The inverse rounds, over the round keys from the last but one to the first. -/
def decRounds : List Bytes → Bytes → Bytes
  | [], s => s
  | [k], s => xorBytes ((invShiftRows s).map invSubByte) k
  | k :: r, s => decRounds r (mixColumns [14, 11, 13, 9] (xorBytes ((invShiftRows s).map invSubByte) k))

/-- AES-128 decryption of one block (R413). -/
def aesDec (key block : Bytes) : Bytes :=
  let ks := (key :: keySchedule 10 key 1).reverse
  decRounds ks.tail (xorBytes block (ks.headD []))

/-- Doubling of a 16-byte block in GF(2^128) (SP 800-38B). -/
def cmacDouble (b : Bytes) : Bytes :=
  let n := beNat b
  let d := beBytes 16 (2 * n)
  if n / 2 ^ 127 % 2 = 1 then xorBytes d (List.replicate 15 0 ++ [0x87]) else d

/-- AES-128-CMAC over a message. -/
def cmac (key msg : Bytes) : Bytes :=
  let k1 := cmacDouble (aesEnc key (List.replicate 16 0))
  let k2 := cmacDouble k1
  let n := if msg.isEmpty then 0 else (msg.length - 1) / 16
  let body := msg.take (16 * n)
  let rest := msg.drop (16 * n)
  let last := if rest.length = 16 then xorBytes rest k1 else xorBytes (padTo 16 0 (rest ++ [0x80])) k2
  (chunks 16 (n + 1) body ++ [last]).foldl (fun c b => aesEnc key (xorBytes c b)) (List.replicate 16 0)

/-- A 128-bit key as bytes. -/
def keyBytes (k : BitVec 128) : Bytes := beBytes 16 k.toNat

end Sys2Proof.Machine
end

