-- ==== Sys2Proof/Machine/Calendar.lean ====
section
/-! DEFINITION. The calendar of R286 and R287 as arithmetic: dates, seconds since 2000-01-01, the tick. -/

namespace Sys2Proof.Machine

def isLeap (y : Nat) : Bool := (y % 4 == 0 && y % 100 != 0) || y % 400 == 0

/-- The days of a month, 1 to 12, of a full year (R287). -/
def daysInMonth (y m : Nat) : Nat :=
  if m = 2 then (if isLeap y then 29 else 28) else [31, 28, 31, 30, 31, 30, 31, 31, 30, 31, 30, 31].getD (m - 1) 31

/-- Days from 2000-01-01 to the first of January of y. -/
def daysToYear (y : Nat) : Nat :=
  let k := y - 2000
  365 * k + (k + 3) / 4 - (k + 99) / 100 + (k + 399) / 400

/-- Days from the first of January to the first of month m. -/
def daysToMonth (y m : Nat) : Nat := ((List.range (m - 1)).map fun i => daysInMonth y (i + 1)).sum

def Cal.fullYear (c : Cal) : Nat := ofBcd c.century * 100 + ofBcd c.year

/-- Days since 2000-01-01. -/
def Cal.days (c : Cal) : Nat :=
  daysToYear c.fullYear + daysToMonth c.fullYear (ofBcd c.month) + ofBcd c.day - 1

/-- Calendar seconds since 2000-01-01 00:00:00. -/
def Cal.seconds (c : Cal) : Nat :=
  c.days * 86400 + ofBcd c.hour * 3600 + ofBcd c.min * 60 + ofBcd c.sec

/-- The calendar in ticks of 1/64 s since 2000-01-01. -/
def Cal.ticks (c : Cal) : Nat := 64 * c.seconds + c.subsec.toNat

/-- The weekday of a day number, 1 Monday to 7 Sunday; 2000-01-01 is 6 (R292). -/
def weekdayOf (days : Nat) : Nat := (days + 5) % 7 + 1

/-- The year of a day number and the days left in it, from year y on. -/
def yearOfDays : Nat → Nat → Nat → Nat × Nat
  | 0, y, d => (y, d)
  | f + 1, y, d =>
    let n := if isLeap y then 366 else 365
    if d < n then (y, d) else yearOfDays f (y + 1) (d - n)

/-- The month of a day of the year and the days left in it. -/
def monthOfDays : Nat → Nat → Nat → Nat → Nat × Nat
  | 0, _, m, d => (m, d)
  | f + 1, y, m, d => if d < daysInMonth y m then (m, d) else monthOfDays f y (m + 1) (d - daysInMonth y m)

/-- The calendar that stands at a number of seconds since 2000-01-01, SUBSEC 0. -/
def calOfSeconds (t : Nat) : Cal :=
  let d := t / 86400 % 146097
  let (y, r) := yearOfDays 400 2000 d
  let (m, k) := monthOfDays 12 y 1 r
  { subsec := 0
    sec := toBcd (t % 60)
    min := toBcd (t / 60 % 60)
    hour := toBcd (t / 3600 % 24)
    day := toBcd (k + 1)
    wday := toBcd (weekdayOf d)
    month := toBcd m
    year := toBcd (y % 100)
    century := toBcd (y / 100) }

/-- The checks of R292 on the staged values; SUBSEC and WDAY are not judged. -/
def Cal.valid (c : Cal) : Bool :=
  [c.sec, c.min, c.hour, c.day, c.wday, c.month, c.year, c.century].all bcdOk
    && decide (0x20 ≤ c.century.toNat ∧ c.century.toNat ≤ 0x23)
    && decide (1 ≤ ofBcd c.month ∧ ofBcd c.month ≤ 12)
    && decide (1 ≤ ofBcd c.day ∧ ofBcd c.day ≤ daysInMonth c.fullYear (ofBcd c.month))
    && decide (ofBcd c.hour ≤ 23 ∧ ofBcd c.min ≤ 59 ∧ ofBcd c.sec ≤ 59)

/-- The next calendar second, and whether the calendar wrapped (R287). -/
def Cal.nextSecond (c : Cal) : Cal × Bool :=
  let c := { c with subsec := 0 }
  if ofBcd c.sec < 59 then ({ c with sec := toBcd (ofBcd c.sec + 1) }, false)
  else
    let c := { c with sec := 0 }
    if ofBcd c.min < 59 then ({ c with min := toBcd (ofBcd c.min + 1) }, false)
    else
      let c := { c with min := 0 }
      if ofBcd c.hour < 23 then ({ c with hour := toBcd (ofBcd c.hour + 1) }, false)
      else
        let w := if ofBcd c.wday ≥ 7 then 1 else ofBcd c.wday + 1
        let c := { c with hour := 0, wday := toBcd w }
        if ofBcd c.day < daysInMonth c.fullYear (ofBcd c.month) then
          ({ c with day := toBcd (ofBcd c.day + 1) }, false)
        else
          let c := { c with day := 1 }
          if ofBcd c.month < 12 then ({ c with month := toBcd (ofBcd c.month + 1) }, false)
          else
            let c := { c with month := 1 }
            if c.fullYear = 2399 then ({ c with year := 0, century := 0x20 }, true)
            else
              let y := c.fullYear + 1
              ({ c with year := toBcd (y % 100), century := toBcd (y / 100) }, false)

/-- One tick of the calendar (R282): the next SUBSEC, or the next second. -/
def Cal.nextTick (c : Cal) : Cal × Bool :=
  if c.subsec.toNat < 63 then ({ c with subsec := c.subsec + 1 }, false) else c.nextSecond

/-- A quarter-hour (R319). -/
def Cal.quarter (c : Cal) : Bool := ofBcd c.min % 15 == 0 && c.sec == 0 && c.subsec == 0

/-- The end of the interval that begins at a number of seconds: the next quarter-hour after it (R319, R331). -/
def nextQuarter (sec : Nat) : Nat := (sec / 900 + 1) * 900

/-- The billing boundary of a month under BDAY and BHOUR, in seconds since 2000-01-01 (R327). -/
def boundaryOf (bday bhour y m : Nat) : Nat :=
  (daysToYear y + daysToMonth y m + min bday (daysInMonth y m) - 1) * 86400 + bhour * 3600

/-- The number of boundaries at or before a tick since 2000-01-01, and the latest of them in seconds (R329). -/
def boundariesUpTo (bday bhour ticks : Nat) : Nat × Nat :=
  if bday = 0 then (0, 0)
  else
    let c := calOfSeconds (ticks / 64)
    let y := c.fullYear
    let m := ofBcd c.month
    let n := 12 * (y - 2000) + (m - 1)
    if 64 * boundaryOf bday bhour y m ≤ ticks then (n + 1, boundaryOf bday bhour y m)
    else if n = 0 then (0, 0)
    else (n, if m = 1 then boundaryOf bday bhour (y - 1) 12 else boundaryOf bday bhour y (m - 1))

/-- Whether the calendar lies inside an enabled window (R302, R356): it opens at START on each day in DAYS and lasts
LENGTH minutes, across midnight if need be. -/
def inWindow (c : Cal) (w : Window) : Bool :=
  let now := ofBcd c.hour * 60 + ofBcd c.min
  let start := ofBcd (BitVec.ofInt 8 w.hour) * 60 + ofBcd (BitVec.ofInt 8 w.min)
  let len := w.length.toNat
  let wd := ofBcd c.wday - 1
  let dayBit := fun (d : Nat) => w.days.toNat / 2 ^ d % 2 == 1
  w.enable == 1 &&
    ((dayBit wd && decide (start ≤ now ∧ now < start + len))
      || (dayBit ((wd + 6) % 7) && decide (now + 1440 < start + len)))

def inAnyWindow (c : Cal) (l : List Window) : Bool := l.any (inWindow c)

end Sys2Proof.Machine
end

