-- ==== Sys2Proof/Machine/StoreOps.lean ====
section
/-! DEFINITION. The store's pages, its line of writes and the pending list (R365 to R382, R605 to R609), and the two event
logs (R425, R426), which every block writes through it. -/

namespace Sys2Proof.Machine

/-! ### Pages and regions -/

/-- The region code of a page (R365). -/
def regionOf (n : Nat) : Nat :=
  if n < 32 then 0x01 else if n < 96 then 0x02 else if n < 112 then 0x03 else if n < 120 then 0x04
  else if n < 128 then 0x05 else if n < 160 then 0x06 else if n < 192 then 0x07 else if n < 336 then 0x08
  else if n < 592 then 0x09 else if n < 848 then 0x0A else if n < 1024 then 0x00 else if n < 4096 then 0x0B
  else if n < 4224 then 0x11 else if n < 4228 then 0x12 else if n < 4236 then 0x13 else if n < 4352 then 0x10
  else if n < 4864 then 0x14 else if n < 4928 then 0x15 else if n < 5184 then 0x16 else if n < 6144 then 0x10
  else 0x17

/-- A reserved page (R365, R366). -/
def reservedPage (n : Nat) : Bool := regionOf n == 0x00 || regionOf n == 0x10

/-- A page in the format of R381: those of two-copy records, rings, the token log and the event logs. -/
def formatted (n : Nat) : Bool :=
  [0x02, 0x03, 0x05, 0x06, 0x07, 0x08, 0x09, 0x0A, 0x11, 0x12, 0x13, 0x16].contains (regionOf n)

/-- A page of the LEGAL partition (R365). -/
def legalPage (n : Nat) : Bool := n < 4096

/-- The log of an event "by region" (R397). -/
def regionLog (region : Nat) : LogId := if region < 0x10 then .metrology else .general

/-- First page of copy A and pages in a copy of a two-copy record (R365). -/
def Rec.base : Rec → Nat
  | .metro => 32 | .state => 96 | .settings => 4096 | .keys => 4224

def Rec.pages : Rec → Nat
  | .metro => 32 | .state => 8 | .settings => 64 | .keys => 2

/-- A page in the format of R381. -/
def pageForm (seq kind index count : Nat) (payload : Bytes) : Bytes :=
  let body := beBytes 4 seq ++ beBytes 1 kind ++ beBytes 1 index ++ beBytes 1 count ++ [0] ++ padTo 52 0 payload
  body ++ beBytes 4 (crc32 body).toNat

def pageSeq (d : Bytes) : Nat := beNat (d.take 4)

def pagePayload (d : Bytes) : Bytes := slice d 8 52

/-- What a read of page n meets (R380). -/
def pageCond (nv : Nv) (n : Nat) : Option PageCond := (nv.ecc.find? (·.1 == n)).map (·.2)

/-- The page as the requests in the line leave it, or as it stands in the array (R369, R371, DEDUCED, log entry 12). -/
def viewPage (nv : Nv) (s : Vol) (n : Nat) : Bytes :=
  match (s.work.store.line ++ s.work.store.held).reverse.find? (·.page == n) with
  | some r => r.data
  | none => memPage nv.mem n

def queued (s : Vol) (n : Nat) : Bool := (s.work.store.line ++ s.work.store.held).any (·.page == n)

def uncorrectable (nv : Nv) (s : Vol) (n : Nat) : Bool := pageCond nv n == some .uncorrectable && !queued s n

/-- A page reads erased (R366): 0xFF in every byte with clean ECC. -/
def pageErased (nv : Nv) (s : Vol) (n : Nat) : Bool :=
  viewPage nv s n == erasedPage && (queued s n || pageCond nv n == none)

/-- A page is valid (R381). -/
def pageValid (nv : Nv) (s : Vol) (n : Nat) : Bool :=
  let d := viewPage nv s n
  pageSeq d != 0xFFFFFFFF && beNat (slice d 4 1) == regionOf n && !uncorrectable nv s n
    && beNat (slice d 60 4) == (crc32 (d.take 60)).toNat

/-- The valid page of a ring with the highest SEQ: its page and SEQ (R384). -/
def ringNewest (nv : Nv) (s : Vol) (base count : Nat) : Option (Nat × Nat) :=
  ((List.range count).map (base + ·)).foldl (init := none) fun best n =>
    if pageValid nv s n then
      let q := pageSeq (viewPage nv s n)
      match best with
      | some (_, q0) => if q0 < q then some (n, q) else best
      | none => some (n, q)
    else best

def ringErased (nv : Nv) (s : Vol) (base count : Nat) : Bool :=
  (List.range count).all fun i => pageErased nv s (base + i)

/-- The slot and SEQ of the next ring write (R384). DEDUCED: log entry 99. -/
def ringNext (nv : Nv) (s : Vol) (base count : Nat) : Nat × Nat :=
  match ringNewest nv s base count with
  | some (n, q) => (base + (n - base + 1) % count, q + 1)
  | none => (base, 0)

/-! ### Two-copy records (R382) -/

/-- The array alone: a record is read from its copies as they are stored, and of one whose write is under way that is the copy that is not
being written (R371). -/
def stored (s : Vol) : Vol := { s with work.store.line := [], work.store.held := [] }

/-- The SEQ of a copy whose pages are all valid and share it. -/
def copySeq (nv : Nv) (s : Vol) (base count : Nat) : Option Nat :=
  let s := stored s
  let q := pageSeq (viewPage nv s base)
  if (List.range count).all fun i => pageValid nv s (base + i) && pageSeq (viewPage nv s (base + i)) == q
  then some q else none

def copyContent (nv : Nv) (s : Vol) (base count : Nat) : Bytes :=
  (List.range count).flatMap fun i => pagePayload (viewPage nv (stored s) (base + i))

/-- What the start check of a record finds (R382): the base of the copy taken and whether the other needs repair, or
whether the record was never written. -/
inductive RecState where
  | taken (base : Nat) (repair : Option Nat)
  | blank
  | lost
deriving DecidableEq, Repr

def recState (nv : Nv) (s : Vol) (base count : Nat) : RecState :=
  match copySeq nv s base count, copySeq nv s (base + count) count with
  | some a, some b =>
    if a = b then .taken base none
    else if b < a then .taken base (some (base + count)) else .taken (base + count) (some base)
  | some _, none => .taken base (some (base + count))
  | none, some _ => .taken (base + count) (some base)
  | none, none =>
    if (List.range (2 * count)).all fun i => pageErased nv (stored s) (base + i) then .blank else .lost

/-- The SEQ that the next write of a record carries: one above the highest of its valid pages (R381, R382). -/
def recNextSeq (nv : Nv) (s : Vol) (base count : Nat) : Nat :=
  (List.range (2 * count)).foldl (init := 0) fun q i =>
    if pageValid nv s (base + i) then max q (pageSeq (viewPage nv s (base + i)) + 1) else q

/-! ### The line (R368 to R377) -/

/-- An ordinary write may start (R374): no warning, VSUP at least 2.5 V, VRES at least 4.8 V at the latest check. DEDUCED:
log entry 79. -/
def reserveOk (s : Vol) : Bool :=
  !s.bak.power.warning && s.bak.power.vsupOk && decide (192 ≤ s.work.store.vres.toNat)

/-- A flush page may start (R377): VRES at least 3.0 V. -/
def flushOk (s : Vol) : Bool := decide (120 ≤ s.work.store.vres.toNat)

/-- An entry of the pending list; a full list discards its oldest (R378). -/
def addPending (p : Pending) (s : Vol) : Vol :=
  let l := s.ret.store.pending ++ [p]
  { s with ret.store.pending := l.drop (l.length - 32) }

def Req.toPending (r : Req) : Pending := { page := r.page, job := r.job, data := r.data, object := r.object, change := r.change }

/-- A page of copy A of record r. -/
def isCopyA (r : Rec) (q : Req) : Bool :=
  match q.job with
  | .record r' copyB _ => r == r' && !copyB
  | _ => false

/-- The entry of a removed page: a page of a record write that is not committed stands for the whole write (R378, R605). -/
def pendOf (gone : List Req) (r : Req) : Pending :=
  match r.job with
  | .record k _ _ => if gone.any (isCopyA k) then { r.toPending with data := [] } else r.toPending
  | _ => r.toPending

/-- The record that a page write belongs to. -/
def jobRec : Job → Option Rec
  | .record r _ _ => some r
  | _ => none

/-- A record write is not committed where its last copy A pages are among those given up: what the pending list holds of it stands for
the whole write (R605). -/
def uncommit (gone : List Req) (p : Pending) : Pending :=
  if (jobRec p.job).any fun k => gone.any (isCopyA k) then { p with data := [] } else p

/-- The flush ends at a page that finds VRES below 3.0 V (R609): that page and those after it enter the pending list. -/
def flushEnds (s : Vol) : Vol :=
  let l := s.work.store.line.filter (·.flush)
  let s := { s with ret.store.pending := s.ret.store.pending.map (uncommit l) }
  let s := l.foldl (fun s r => addPending (pendOf l r) s) s
  { s with
    work.store.line := s.work.store.line.filter (!·.flush)
    work.store.flushing := false
    ret.store.flushShort := s.ret.store.flushShort + l.length }

/-- The head of the line passes step 1 of R368 if its checks hold; step 1 needs CORE, but no flush is held up. A reset that
waits for the write before (R540) comes first. -/
def startHead (s : Vol) : Vol :=
  match s.work.store.line with
  | [] => s
  | r :: rest =>
    if r.started then s
    else if r.flush then
      if flushOk s then { s with work.store.line := { r with started := true } :: rest } else flushEnds s
    else if reserveOk s && coreRuns s && s.bak.power.deferred.isNone then
      { s with work.store.line := { r with started := true } :: rest, work.store.failed := 0 }
    else s

/-- A write in progress: its erase has begun (R540). -/
def writeRuns (s : Vol) : Bool := s.work.store.line.any (·.started)

/-- Requests in the line: pages, and a read of the object exchange engine that takes one place (R369). -/
def lineFill (s : Vol) : Nat :=
  s.work.store.line.length
    + match s.work.ex.inHand with
      | some { await := .read _, .. } => 1
      | _ => 0

/-- A transaction with the STORE: an absent one is woken by the fabric, and the transaction that met it is counted (R48, R53, R66). -/
def storeMet (s : Vol) : Vol :=
  { s with
    work.store.absentSeen := if s.work.store.present then s.work.store.absentSeen else satInc s.work.store.absentSeen
    work.store.present := true }

/-- A request enters the line, or waits with its initiator where the line is full or earlier pages wait (R369). -/
def submit (r : Req) (s : Vol) : Vol :=
  let s := storeMet s
  if lineFill s < 5 ∧ s.work.store.held.isEmpty then
    startHead { s with work.store.line := s.work.store.line ++ [r] }
  else { s with work.store.held := s.work.store.held ++ [r] }

def submitAll (l : List Req) (s : Vol) : Vol := l.foldl (fun s r => submit r s) s

/-- Waiting pages enter the places that are free. -/
def refill (s : Vol) : Vol :=
  let n := 5 - lineFill s
  { s with
    work.store.line := s.work.store.line ++ s.work.store.held.take n
    work.store.held := s.work.store.held.drop n }

def plainReq (page : Nat) (data : Bytes) (job : Job) : Req :=
  { page, data, job, object := false, change := false, flush := false, started := false, retried := false }

/-- The pages of a write of both copies of a record, copy A first (R371, R382, R605). -/
def recordReqs (nv : Nv) (s : Vol) (r : Rec) (content : Bytes) (object change : Bool) : List Req :=
  let q := recNextSeq nv s r.base r.pages
  let page := fun (copyB : Bool) (i : Nat) =>
    { page := r.base + (if copyB then r.pages else 0) + i
      data := pageForm q (regionOf r.base) i r.pages (slice content (52 * i) 52)
      job := .record r copyB i
      object, change
      flush := false
      started := false
      retried := false : Req }
  (List.range r.pages).map (page false) ++ (List.range r.pages).map (page true)

/-! ### The event logs (R425, R426) -/

/-- SUBSEC, seconds and OSF as every record of a time takes them. -/
def nowSeconds (s : Vol) : Nat := s.bak.cal.seconds

def stateCode (l : LState) : Nat :=
  match l with
  | .blank => 0 | .calibrate => 1 | .sealed => 2 | .service => 3 | .retired => 4

/-- An entry of R425. -/
def logEntry (s : Vol) (seq : Nat) (code : Nat) (data : Nat) (rep : Nat) : Nat :=
  seq * 2 ^ 96 + (nowSeconds s % 2 ^ 34) * 2 ^ 62 + s.bak.cal.subsec.toNat * 2 ^ 56 + b2n s.bak.osf * 2 ^ 55
    + stateCode s.work.life.state * 2 ^ 52 + (code % 65536) * 2 ^ 32 + (data % 256) * 2 ^ 24 + rep * 2 ^ 8

def logBase : LogId → Nat
  | .metrology => 592 | .general => 4928

def logNext (s : Vol) : LogId → BitVec 32
  | .metrology => s.ret.logs.nextM
  | .general => s.ret.logs.nextG

/-- The page of entry n of a log (R426). -/
def logPage (l : LogId) (n : Nat) : Nat := logBase l + n % 256

/-- An entry without its SEQ takes the next number of its log, and its page is written. -/
def writeEntry (l : LogId) (entry : Nat) (s : Vol) : Vol :=
  let n := (logNext s l).toNat
  let page := logPage l n
  let d := pageForm n (regionOf page) 0 1 (beBytes 16 (n * 2 ^ 96 + entry))
  let s := match l with
    | .metrology => { s with ret.logs.nextM := s.ret.logs.nextM + 1 }
    | .general => { s with ret.logs.nextG := s.ret.logs.nextG + 1 }
  submit (plainReq page d (.log l n)) s

/-- Entries wait in retained RAM: in LIMP (R532), and as there in KEEP and while a pin holds the reset (DEDUCED, log entry 16). -/
def logsWait (s : Vol) : Bool := [PState.limp, .keep, .held].contains s.bak.power.state

/-- An entry is logged. -/
def logEvent (l : LogId) (code : Nat) (data : Nat) (s : Vol) : Vol :=
  let e := logEntry s 0 code data 0
  if logsWait s then { s with ret.logs.limp := s.ret.logs.limp ++ [(l, BitVec.ofNat 128 e)] }
  else writeEntry l e s

def logM (code data : Nat) (s : Vol) : Vol := logEvent .metrology code data s
def logG (code data : Nat) (s : Vol) : Vol := logEvent .general code data s

/-- The window of a limited code and its key (R426). -/
def isWindow (l : LogId) (code : Nat) (key : Nat) (w : LogWindow) : Bool :=
  w.log == l && w.code == BitVec.ofNat 16 code && w.key == BitVec.ofNat 8 key

/-- 3 600 s have passed since the entry of a window (R426). -/
def logWindowOver (s : Vol) (w : LogWindow) : Bool := decide (230400 ≤ (s.bak.count - w.since).toNat)

/-- A code limited to one entry in any 3 600 s: an occurrence within the window only counts (R426). A window that is over counts nothing
more, and its entry's page waits for LOG_WINDOW_END. -/
def logLimited (l : LogId) (code key data : Nat) (s : Vol) : Vol :=
  let waiting := (s.ret.logs.limp.filter (·.1 == l)).length
  let here := fun w => isWindow l code key w && !logWindowOver s w
  if s.ret.logs.windows.any here then
    { s with ret.logs.windows := s.ret.logs.windows.map fun w => if here w then { w with count := satInc w.count } else w }
  else
    let w : LogWindow :=
      { log := l, code := BitVec.ofNat 16 code, key := BitVec.ofNat 8 key, seq := logNext s l + BitVec.ofNat 32 waiting,
        since := s.bak.count, count := 0 }
    logEvent l code data { s with ret.logs.windows := s.ret.logs.windows ++ [w] }

/-- n occurrences of a limited code at once. -/
def logLimitedTimes (l : LogId) (code key data n : Nat) (s : Vol) : Vol :=
  if n = 0 then s
  else
    let s := logLimited l code key data s
    let here := fun w => isWindow l code key w && !logWindowOver s w
    { s with ret.logs.windows :=
        s.ret.logs.windows.map fun w => if here w then { w with count := satAdd w.count (n - 1) } else w }

def limM (code key data : Nat) (s : Vol) : Vol := logLimited .metrology code key data s
def limG (code key data : Nat) (s : Vol) : Vol := logLimited .general code key data s

/-! ### Reads that count (R380, R395) -/

/-- The counters of a read of page n (R380, R395, R397). DESIGN CHOICE: log entry 92. -/
def noteRead (nv : Nv) (n : Nat) (s : Vol) : Vol :=
  let region := regionOf n
  if queued s n then s
  else match pageCond nv n with
    | none => s
    | some .corrected =>
      logLimited (regionLog region) 0x0401 region region
        { s with work.store.corrected := satInc s.work.store.corrected }
    | some .uncorrectable =>
      logEvent (regionLog region) 0x0402 region
        { s with work.store.unreadable := satInc s.work.store.unreadable }

/-- INVALID counts a written page found invalid, once (R395). -/
def noteInvalid (nv : Nv) (n : Nat) (s : Vol) : Vol :=
  if pageErased nv s n || s.work.store.countedInvalid.contains n || pageValid nv s n then s
  else
    { s with
      work.store.invalid := satInc s.work.store.invalid
      work.store.countedInvalid := n :: s.work.store.countedInvalid }

/-- What a read of a page counts; INVALID knows the pages in the format of R381. -/
def readNote (nv : Nv) (n : Nat) (s : Vol) : Vol :=
  let s := noteRead nv n s
  if formatted n then noteInvalid nv n s else s

/-- The region of the guard's refusal is logged (R373). -/
def guardRefused (page : Nat) (s : Vol) : Vol :=
  let region := regionOf page
  logLimited (regionLog region) 0x0409 region region s

/-- The guard's table for the blocks (R366, R372): a reserved page and the wafer trim record have no writer but the wipe, which
erases the reserved pages of its range (R393; DEDUCED, log entry 157), and a GENERAL page any; in RETIRED the supervisor and the
STORE itself write what is left. The object exchange engine has `guardStatus`. -/
def guardPasses (s : Vol) (r : Req) : Bool :=
  (!reservedPage r.page || r.job == .erase)
    && (!legalPage r.page
      || (decide (32 ≤ r.page) && (s.work.life.state != .retired
        || match r.job with
          | .record .state _ _ | .journal | .log _ _ | .scrub | .repair => true
          | _ => false)))

/-- The pages of a write are submitted, or refused as a whole (R372, R373). -/
def submitGuarded (l : List Req) (s : Vol) : Vol :=
  match l.find? (!guardPasses s ·) with
  | some r => guardRefused r.page s
  | none => submitAll l s

/-! ### Locked records (R371) -/

/-- A page write of a record kept in two copies. -/
def recordWrite : Job → Bool
  | .record _ _ _ | .snapshot _ _ _ => true
  | _ => false

/-- The record in pages `base` to `base + n` is locked: pages of its write are in the line or with its initiator, or its committed copy
B waits in the pending list. -/
def pagesLocked (s : Vol) (base n : Nat) : Bool :=
  let mine := fun (j : Job) (p : Nat) => recordWrite j && decide (base ≤ p ∧ p < base + n)
  (s.work.store.line ++ s.work.store.held).any (fun q => mine q.job q.page)
    || s.ret.store.pending.any fun p => mine p.job p.page && !p.data.isEmpty

/-- The first page of copy A and the pages of both copies of the two-copy record to which page n belongs (R365, R367). -/
def recordRange (n : Nat) : Option (Nat × Nat) :=
  match regionOf n with
  | 0x02 => some (32, 64)
  | 0x03 => some (96, 16)
  | 0x08 => some (192 + 6 * ((n - 192) / 6), 6)
  | 0x11 => some (4096, 128)
  | 0x12 => some (4224, 4)
  | _ => none

/-- A further write of a record waits for its committed copy B: the pages of it on the pending list enter the line first. -/
def drainRecord (r : Rec) (s : Vol) : Vol :=
  let (mine, rest) := s.ret.store.pending.partition fun p => jobRec p.job == some r && !p.data.isEmpty
  mine.foldl (init := { s with ret.store.pending := rest }) fun s p =>
    submit { plainReq p.page p.data p.job with object := p.object, change := p.change } s

end Sys2Proof.Machine
end

