-- ==== Sys2Proof/Machine/Operands.lean ====
section
/-! DEFINITION. The values that commands carry and objects hold: the fields of every writable object with their ranges,
their serialised form (R403), their clamping (R422), and the timing values that follow from the taken thatch codes. -/

namespace Sys2Proof.Machine

/-! ### Timing from the thatch codes (R27, R28, R83, R110, R112, R114, R117, R125) -/

/-- TOF_max of a TH3 code, in microseconds (R27). -/
def tofMaxUs (c : Nat) : Nat :=
  [50, 100, 200, 300, 500, 700, 1000, 1500, 2000, 3000, 4000, 6000, 8000, 12000, 16000].getD c 1000

/-- Cycles of a burst (R28). -/
def burstCycles (th2 : Nat) : Nat := [4, 8, 16, 32].getD (th2 % 4) 32

/-- The drive amplitude of TH2 in quarters of VDRV (R28). -/
def driveQuarters (th2 : Nat) : Nat := th2 / 4 % 4 + 1

/-- The halves of a burst in order, true = high; with PHASEREV the last cycle is inverted (R82 to R84). -/
def burstHalves (cycles : Nat) (rev : Bool) : List Bool :=
  (List.range cycles).flatMap fun i => if rev && i + 1 == cycles then [false, true] else [true, false]

/-- tBURST in T (R99). -/
def burstT (th1 th2 : Nat) : Nat := burstCycles th2 * 2 * halfPeriod th1

/-- The stagger S in T (R110). -/
def staggerT (th1 th2 : Nat) : Nat := burstT th1 th2 + 1024

/-- The slots of the longest round of a plan, m of R112. -/
def longestRound (th0 : Nat) : Nat :=
  if th0 = 0 ∨ 13 ≤ th0 then 1 else if th0 ≤ 7 then 2 else 4

/-- The rounds of a cycle (R112). -/
def roundsOf (th0 : Nat) : List (List SlotUse) :=
  let lv := fun (a b : Nat) => (List.range (b + 1 - a)).map fun i => SlotUse.level (a + i)
  let pp := fun (a : Nat) => [SlotUse.path a, SlotUse.path (a + 1)]
  let p1 := fun (a : Nat) => [SlotUse.path a]
  match th0 with
  | 0 => [p1 1]
  | 1 => [pp 1]
  | 2 => [pp 1, p1 3]
  | 3 => [pp 1, pp 3]
  | 4 => [pp 1, pp 3, p1 5]
  | 5 => [pp 1, pp 3, pp 5]
  | 6 => [pp 1, pp 3, pp 5, p1 7]
  | 7 => [pp 1, pp 3, pp 5, pp 7]
  | 8 => [pp 1, pp 3, lv 9 12, lv 13 16]
  | 9 => [pp 1, lv 5 8, lv 9 12, lv 13 16]
  | 10 => [[.path 1, .level 3, .level 4], lv 5 8, lv 9 12, lv 13 16]
  | 11 => [lv 1 4, lv 5 8, lv 9 12, lv 13 16]
  | 12 => [pp 1, pp 3, pp 5, lv 13 16]
  | _ => [p1 1]

/-- The level channels of a plan (R27). -/
def levelsOf (th0 : Nat) : List Nat :=
  match th0 with
  | 8 => (List.range 8).map (· + 9)
  | 9 => (List.range 12).map (· + 5)
  | 10 => (List.range 14).map (· + 3)
  | 11 => (List.range 16).map (· + 1)
  | 12 => (List.range 4).map (· + 13)
  | _ => []

/-- tROUND,max in T / 8: tPREP is 9.125 us = 4 672 T and the settle TOF_max / 8 (R114, R115, R128). -/
def roundMaxT8 (th0 th1 th2 th3 : Nat) : Nat :=
  let tof := tofMaxUs th3 * 512
  8 * (4672 + (longestRound th0 - 1) * staggerT th1 th2 + tof) + max tof (8 * 20 * 512)

/-- The opening time of R117 of slot j in a round of k slots, in T after the slot's shot. -/
def windowOpen (th1 th2 tring k j : Nat) : Nat :=
  let own := burstT th1 th2 + tring * 512
  if j + 1 < k then max own ((k - 1 - j) * staggerT th1 th2 + burstT th1 th2 + 512) else own

/-- tBLOOM in microseconds: 80 periods, rounded up, at least 50 (R125). -/
def bloomUs (th1 : Nat) : Nat := max 50 (ceilDiv (160 * halfPeriod th1) 512)

/-- The period P in ticks of a rate code 0-8 (R123). -/
def periodOf (rate : Nat) : Nat := 256 / 2 ^ rate

/-- The bottom and the top of the range of a taken TH4 code, as rate codes (R130). -/
def rateRange (th4 : Nat) : Nat × Nat :=
  if th4 = 9 then (2, 6) else if th4 = 10 then (4, 8) else if th4 ≤ 8 then (th4, th4) else (2, 2)

/-- The band period P in TOF units (R182). -/
def bandPeriod (th1 : Nat) : Nat := 2 * halfPeriod th1 * 65536

/-! ### Fields -/

/-- A field: its serialised bytes, whether it is signed, its range, and the value that stands for one above the range
where the rule names another than the upper limit. -/
structure Fld where
  bytes : Nat
  signed : Bool
  lo : Int
  hi : Int
  other : Option Int
  /-- The value is a BCD byte. -/
  bcd : Bool
deriving DecidableEq, Repr, Inhabited

def fu (bytes : Nat) (lo hi : Int) : Fld := { bytes, signed := false, lo, hi, other := none, bcd := false }
def fs (bytes : Nat) (lo hi : Int) : Fld := { bytes, signed := true, lo, hi, other := none, bcd := false }
def fz (bytes : Nat) (lo hi z : Int) : Fld := { bytes, signed := false, lo, hi, other := some z, bcd := false }
def fb (lo hi : Int) : Fld := { bytes := 1, signed := false, lo, hi, other := none, bcd := true }

/-- The greatest BCD byte at or below a byte. DESIGN CHOICE: log entry 116. -/
def bcdBelow (x : Int) : Int := if 0xA0 ≤ x then 0x99 else x / 16 * 16 + min (x % 16) 9

/-- The serialised length of a field list. -/
def fldBytes (l : List Fld) : Nat := (l.map (·.bytes)).sum

/-- Serialisation field by field (R403). -/
def serialise : List Fld → List Int → Bytes
  | [], _ => []
  | f :: fs, vs => beSigned f.bytes (vs.headD 0) ++ serialise fs vs.tail

def deserialise : List Fld → Bytes → List Int
  | [], _ => []
  | f :: fs, d =>
    let b := d.take f.bytes
    (if f.signed then beInt b else (beNat b : Int)) :: deserialise fs (d.drop f.bytes)

/-- One field clamped: its value and the KIND of its clamp entry (R422, R423). -/
def clampField (f : Fld) (x : Int) : Int × Option Nat :=
  if f.hi < x then (f.other.getD f.hi, some 0) else if x < f.lo then (f.lo, some 1)
  else if f.bcd ∧ x ≠ 0xFF ∧ bcdBelow x ≠ x then (bcdBelow x, some 0)
  else (x, none)

/-- Every field clamped on its own; the clamps carry field numbers from `i`. -/
def clampFields : Nat → List Fld → List Int → List Int × List (Nat × Nat)
  | _, [], _ => ([], [])
  | i, f :: fs, vs =>
    let (x, k) := clampField f (vs.headD 0)
    let (xs, ks) := clampFields (i + 1) fs vs.tail
    (x :: xs, (k.map fun k => (i, k)).toList ++ ks)

/-! ### Calibration set (R100, R133, R189, R222, R604) -/

/-- The largest TRING that leaves tBURST + tRING at or below half of TOF_max (R100). -/
def ringMax (th1 th2 th3 : Nat) : Nat := (tofMaxUs th3 * 256 - burstT th1 th2) / 512

/-- The fields of the calibration set for the taken codes; `tring` is the clamped TRING of the same write. -/
def calibFields (th1 th2 th3 tring : Nat) : List Fld :=
  let tau := fu 4 0 3355443200
  let open_ : Nat := burstT th1 th2 + tring * 512
  [fu 1 0 1, fu 1 1 (min 255 (ringMax th1 th2 th3)), fu 4 open_ (2 ^ 32 - 1), fu 4 0 (tofMaxUs th3 * 512), fu 1 30 70,
   fu 1 8 64, fu 4 10000 (resMax th1)]
  ++ List.replicate 16 (fu 5 0 (64 * bandPeriod th1))
  ++ List.replicate 8 (fu 4 1000 8000000)
  ++ List.replicate 8 (fs 4 107374183 (2 ^ 31 - 1))
  ++ List.replicate 16 tau
  ++ List.replicate 32 (fs 4 (-(2 ^ 31)) (2 ^ 31 - 1))
  ++ List.replicate 32 (fs 4 0 (2 ^ 31 - 1))
  ++ [fu 6 0 (2 ^ 48 - 1), fu 4 0 100000]
  ++ List.replicate 16 (fs 4 (-(2 ^ 31)) (2 ^ 31 - 1))
  ++ List.replicate 16 (fu 1 0 1)
  ++ List.replicate 16 tau
  ++ List.replicate 16 (fu 1 0 2)
  ++ [fu 1 0 16, fu 4 10000 10000000, fu 4 1300000 1700000]

def calibList (c : Calib) : List Int :=
  [c.phaseRev, c.tring, c.eaveOpen, c.eaveClose, c.ridgeFrac, c.fitN, c.resLimit]
  ++ c.onset ++ c.len ++ c.cos ++ c.tauUp ++ c.tauDn ++ c.w ++ c.rsub ++ [c.area, c.cutoff]
  ++ c.lofs ++ c.ldir ++ c.tauL ++ c.lsrc ++ [c.refCh, c.refDist, c.fixedSos]

def calibOf (l : List Int) : Calib where
  phaseRev := lget l 0
  tring := lget l 1
  eaveOpen := lget l 2
  eaveClose := lget l 3
  ridgeFrac := lget l 4
  fitN := lget l 5
  resLimit := lget l 6
  onset := (l.drop 7).take 16
  len := (l.drop 23).take 8
  cos := (l.drop 31).take 8
  tauUp := (l.drop 39).take 8
  tauDn := (l.drop 47).take 8
  w := (l.drop 55).take 32
  rsub := (l.drop 87).take 32
  area := lget l 119
  cutoff := lget l 120
  lofs := (l.drop 121).take 16
  ldir := (l.drop 137).take 16
  tauL := (l.drop 153).take 16
  lsrc := (l.drop 169).take 16
  refCh := lget l 185
  refDist := lget l 186
  fixedSos := lget l 187

/-- The calibration set clamped against the taken codes, with its clamp entries; EAVE_OPEN is judged against the TRING
of the same values and carries KIND 3 (R133, R423). -/
def calibClamp (s : Vol) (c : Calib) : Calib × List (Nat × Nat) :=
  let t1 := th s 1
  let t2 := th s 2
  let t3 := th s 3
  let tring := (clampInt 1 (min 255 (ringMax t1 t2 t3)) c.tring).toNat
  let (l, k) := clampFields 0 (calibFields t1 t2 t3 tring) (calibList c)
  (calibOf l, k.map fun p => if p.1 = 2 then (2, 3) else p)

/-- The limits of the calibration set do not depend on the thatch in its serialised form. -/
def calibShape : List Fld := calibFields 7 0 14 1

/-- A write that leaves the eave window below 2 N_h, or LSRC 1 without REF_CH, or a REF_CH outside the plan, is refused
(R133, R610). -/
def calibRefused (s : Vol) (c : Calib) : Bool :=
  decide (c.eaveClose - c.eaveOpen < 2 * (halfPeriod (th s 1) : Int))
    || (c.refCh == 0 && c.lsrc.any (· == 1))
    || (c.refCh != 0 && !(levelsOf (th s 0)).contains c.refCh.toNat)

/-! ### The other objects -/

/-- The profile correction table (R223). -/
def profFields : List Fld :=
  (List.replicate 16 [fu 4 0 (2 ^ 32 - 1), fs 4 (2 ^ 29) (3 * 2 ^ 29)]).flatten

def profList (p : List ProfEntry) : List Int := p.flatMap fun e => [e.vbar, e.k]

def profOf (l : List Int) : List ProfEntry :=
  (List.range 16).map fun i => { vbar := lget l (2 * i), k := lget l (2 * i + 1) }

def profAscending (p : List ProfEntry) : Bool :=
  (List.zip p p.tail).all fun (a, b) => decide (a.vbar < b.vbar)

/-- The temperature compensation curve (R285). -/
def curveFields : List Fld := List.replicate 65 (fs 2 (-2047) 2047)

def curveList (c : Curve) : List Int := c.e ++ [c.offset]

def curveOf (l : List Int) : Curve := { e := l.take 64, offset := lget l 64 }

/-- OLDEST, NEWEST and PSCALE of the load profile; only PSCALE is written (R321, R325). -/
def pscaleFields : List Fld := [fu 4 0 (2 ^ 32 - 1), fu 4 0 (2 ^ 32 - 1), fu 1 0 3]

/-- The tariff calendar (R316). A byte in BCD whose digits are none is clamped to the BCD number below it: log entry 116. -/
def tariffCalFields : List Fld :=
  (List.replicate 4 [fu 1 0 1, fb 1 0x12, fb 1 0x31, fu 1 0 3]).flatten
  ++ List.replicate 28 (fu 1 0 7)
  ++ (List.replicate 64 [fu 1 0 1, fb 0 0x23, fb 0 0x59, fu 1 1 4]).flatten
  ++ (List.replicate 24 [fu 1 0 1, fb 0 0xFF, fb 1 0x12, fb 1 0x31, fu 1 0 7]).flatten

def tariffCalList (t : TariffCal) : List Int :=
  t.season.flatten ++ t.week.flatten ++ t.dayprof.flatten ++ t.special.flatten

def tariffCalOf (l : List Int) : TariffCal where
  season := chunks 4 4 (l.take 16)
  week := chunks 7 4 ((l.drop 16).take 28)
  dayprof := chunks 4 64 ((l.drop 44).take 256)
  special := chunks 5 24 ((l.drop 300).take 120)

/-- MIN of a switch point is rounded down to a quarter-hour, and a special day that cannot exist becomes the last day of
its month (R316); a yearly special day of 29 February exists. -/
def tariffCalFix (t : TariffCal) : TariffCal :=
  { t with
    dayprof := t.dayprof.map fun p =>
      [lget p 0, lget p 1, ((toBcd (ofBcd (ofInt 8 (lget p 2)) / 15 * 15)).toNat : Int), lget p 3]
    special := t.special.map fun p =>
      let y := if lget p 1 = 0xFF then 2000 else 2000 + ofBcd (ofInt 8 (lget p 1))
      let last := daysInMonth y (ofBcd (ofInt 8 (lget p 2)))
      if last < ofBcd (ofInt 8 (lget p 3)) then
        [lget p 0, lget p 1, lget p 2, ((toBcd last).toNat : Int), lget p 4]
      else p }

/-- The tariff source and default object (R338); DEFAULT, BDAY and BHOUR are written. -/
def sourceFields (count : Nat) : List Fld :=
  [fu 1 0 255, fu 1 0 255, fu 1 1 count, fu 1 0 31, fu 1 0 23, fu 1 0 255, fu 1 0 255, fu 1 0 255, fu 5 0 (2 ^ 40 - 1)]

/-- Price table (R361). -/
def priceFields : List Fld := List.replicate 4 (fu 4 0 (2 ^ 32 - 1)) ++ [fu 2 0 999]

def priceList (p : Prices) : List Int := p.price ++ [p.currency]

def priceOf (l : List Int) : Prices := { price := l.take 4, currency := lget l 4 }

/-- A window of R302. -/
def windowFields : List Fld := [fu 1 0 1, fu 1 0 127, fb 0 0x23, fb 0 0x59, fu 2 1 1440]

def windowList (w : Window) : List Int := [w.enable, w.days, w.hour, w.min, w.length]

def windowOf (l : List Int) : Window where
  enable := lget l 0
  days := lget l 1
  hour := lget l 2
  min := lget l 3
  length := lget l 4

/-- Valve and emergency credit (R361). -/
def valveFields : List Fld :=
  List.replicate 3 (fu 6 0 (10 ^ 12)) ++ (List.replicate 4 windowFields).flatten

def valveList (v : ValveObj) : List Int :=
  [v.emergLimit, v.emergThreshold, v.friendlyLimit] ++ v.windows.flatMap windowList

def valveOf (l : List Int) : ValveObj where
  emergLimit := lget l 0
  emergThreshold := lget l 1
  friendlyLimit := lget l 2
  windows := (chunks 5 4 (l.drop 3)).map windowOf

/-- Sensor conversion coefficients of FIN n (R276). A field that an input ignores is checked all the same. -/
def sensorFields (n : Nat) : List Fld :=
  [fu 1 0 1, fu 1 0 1, if n < 4 then fu 1 0 8 else fu 1 0 0, fu 1 1 20, fu 2 1 10000, fu 6 0 150000000000000]
  ++ List.replicate 4 (fs 4 (-(2 ^ 31)) (2 ^ 31 - 1)) ++ List.replicate 4 (fs 1 (-64) 63) ++ [fz 1 0 3 0]

def sensorList (x : Sensor) : List Int :=
  [x.imode, x.pol, x.presc, x.hyst, x.holdoff, x.f0] ++ x.m ++ x.e ++ [x.unit]

def sensorOf (l : List Int) : Sensor where
  imode := lget l 0
  pol := lget l 1
  presc := lget l 2
  hyst := lget l 3
  holdoff := lget l 4
  f0 := lget l 5
  m := (l.drop 6).take 4
  e := (l.drop 10).take 4
  unit := lget l 14

/-- The AUX schedule with its read-only SKIPPED (R277). -/
def auxFields : List Fld := [fu 2 1 16000, fu 2 0 3600, fu 4 1 4000000, fu 2 0 65535]

def auxOf (l : List Int) : AuxSched := { gate := lget l 0, repeat_ := lget l 1, ivlTimeout := lget l 2 }

/-- The periodic wake (R299); PHASE is judged against the INTERVAL of the same write. -/
def pwakeFields (interval : Int) : List Fld :=
  [fu 1 0 1, fu 3 1 5529600, fu 3 0 (interval - 1), fu 1 0 3, fu 2 0 60000]

def pwakeList (p : PeriodicWake) : List Int := [p.enable, p.interval, p.phase, p.duty, p.linger]

def pwakeOf (l : List Int) : PeriodicWake where
  enable := lget l 0
  interval := lget l 1
  phase := lget l 2
  duty := lget l 3
  linger := lget l 4

/-- An alarm (R300). A match byte whose digits are no BCD number has no nearer limit in the rule, and is clamped to the BCD number
below it. DESIGN CHOICE: log entry 116. -/
def alarmFields : List Fld :=
  [fu 1 0 1, fb 0 0x59, fb 0 0x59, fb 0 0x23, fb 1 0x31, fb 1 7, fb 1 0x12, fu 1 0 63]

def alarmList (a : Alarm) : List Int := [a.enable, a.sec, a.min, a.hour, a.day, a.wday, a.month, a.mask]

def alarmOf (l : List Int) : Alarm where
  enable := lget l 0
  sec := lget l 1
  min := lget l 2
  hour := lget l 3
  day := lget l 4
  wday := lget l 5
  month := lget l 6
  mask := lget l 7

/-- The PWRON schedule (R302). -/
def pwronFields : List Fld := (List.replicate 8 windowFields).flatten ++ [fu 1 0 2]

def pwronList (p : PwronSched) : List Int := p.windows.flatMap windowList ++ [p.untrust]

def pwronOf (l : List Int) : PwronSched :=
  { windows := (chunks 5 8 (l.take 40)).map windowOf, untrust := lget l 40 }

/-- Port settings, element 0 (R451). -/
def portFields : List Fld := [fu 1 0 250, fu 1 0 5, fu 1 1 247, fu 1 0 31]

/-- Line signalling settings, element 0 (R483). -/
def lineFields : List Fld :=
  [fu 1 29 113, fu 1 2 32, fu 1 0 2, fu 1 0 2, fu 1 0 2, fu 2 8 2047, fu 1 1 127, fu 1 8 63, fu 1 8 63, fu 1 0 3,
   fu 1 0 168, fu 2 0 16382, fu 2 1 16382, fu 2 1 16382, fu 2 1 16382, fu 2 1 16382, fu 2 1 16382, fu 2 1 16382,
   fu 1 0 3, fu 1 1 7]

/-- LO exceeds HI, or two ranges overlap (R483). -/
def lineRefused (l : List Int) : Bool :=
  let r := [(lget l 12, lget l 13), (lget l 14, lget l 15), (lget l 16, lget l 17)]
  let clash := fun (a b : Int × Int) => decide (a.1 ≤ b.2 ∧ b.1 ≤ a.2)
  r.any (fun p => decide (p.2 < p.1)) || clash (r.getD 0 (0, 0)) (r.getD 1 (0, 0))
    || clash (r.getD 0 (0, 0)) (r.getD 2 (0, 0)) || clash (r.getD 1 (0, 0)) (r.getD 2 (0, 0))

/-- A field entry of a template on a panel of w x h pixels with `colours` colours, for the X, Y and SHIFT of the same
entry (R503). -/
def entryFields (w h colours : Nat) (x y shift : Int) : List Fld :=
  [fu 1 0 1, fu 1 0 3, fu 1 0 (w / 8 - 1), fu 2 0 (h - 1), fu 1 1 (w / 8 - x), fu 2 1 (h - y), fu 1 0 3,
   fz 1 0 (colours - 1) 0, fu 1 0 1, fu 6 0 (2 ^ 48 - 1), fu 1 0 255, fu 1 0 63, fu 1 1 (64 - shift), fu 1 0 1,
   fu 1 0 15, fu 1 0 15, fu 1 1 24, fu 6 0 (2 ^ 48 - 1)]

/-- TEXT bytes outside 0x20-0x7E become spaces (R503). -/
def textFix (x : Int) : Int :=
  (beNat ((beBytes 6 x.toNat).map fun b => if 0x20 ≤ b.toNat ∧ b.toNat ≤ 0x7E then b else 0x20) : Int)

/-- One field entry clamped; X, Y and SHIFT first, the limits that depend on them after (KIND 3, R423). -/
def entryClamp (w h colours base : Nat) (v : List Int) : List Int × List (Nat × Nat) :=
  let x := clampInt 0 (w / 8 - 1) (lget v 2)
  let y := clampInt 0 (h - 1) (lget v 3)
  let sh := clampInt 0 63 (lget v 11)
  let (l, k) := clampFields base (entryFields w h colours x y sh) v
  let t := textFix (lget l 17)
  let k := k.map fun p => if [4, 5, 12].contains (p.1 - base) ∧ p.2 = 0 then (p.1, 3) else p
  (l.take 17 ++ [t], if t = lget l 17 then k else k ++ [(base + 17, 2)])

def templateShape : List Fld := [fu 1 0 1, fu 1 0 3] ++ (List.replicate 32 (entryFields 800 480 4 0 0 0)).flatten

/-- A whole template clamped (R502, R503): BG outside the colour set becomes 0 as FG does. -/
def templateClamp (w h colours : Nat) (v : List Int) : List Int × List (Nat × Nat) :=
  let (hd, hk) := clampFields 0 [fu 1 0 1, fz 1 0 (colours - 1) 0] v
  ((List.range 32).foldl (init := (hd, hk)) fun acc i =>
    let (l, k) := entryClamp w h colours (2 + 18 * i) ((v.drop (2 + 18 * i)).take 18)
    (acc.1 ++ l, acc.2 ++ k))

/-- Field entry i of a template. -/
def entryOf (t : List Int) (i : Nat) : List Int := (t.drop (2 + 18 * i)).take 18

/-- Two enabled fields of one template overlap (R504). -/
def entriesOverlap (a b : List Int) : Bool :=
  lget a 0 == 1 && lget b 0 == 1
    && decide (lget a 2 < lget b 2 + lget b 4 ∧ lget b 2 < lget a 2 + lget a 4
      ∧ lget a 3 < lget b 3 + lget b 5 ∧ lget b 3 < lget a 3 + lget a 5)

def templateOverlaps (t : List Int) : Bool :=
  (List.range 32).any fun i => (List.range 32).any fun j => i < j && entriesOverlap (entryOf t i) (entryOf t j)

/-- Templates element 0: MAIN, ENTRY and the read-only TCRC (R502). -/
def mainFields : List Fld := [fu 1 0 15, fu 1 0 15, fu 4 0 (2 ^ 32 - 1)]

/-- Drive curve element 0 (R496). -/
def edgeFields : List Fld := List.replicate 7 (fs 1 (-128) 127) ++ [fu 1 1 255]

/-- A drive sequence: 64 segments whose reserved bits read 0 (R495). -/
def seqFields : List Fld := List.replicate 64 (fu 2 0 65535)

def seqClamp (v : List Int) : List Int × List (Nat × Nat) :=
  let l := (List.range 64).map fun i => let x := (lget v i).toNat; ((x / 16384 * 16384 + x % 256 : Nat) : Int)
  (l, (List.range 64).filterMap fun i => if lget v i = lget l i then none else some (i, 0))

def ascending (l : List Int) : Bool := (List.zip l l.tail).all fun (a, b) => decide (a < b)

end Sys2Proof.Machine
end

