-- ==== Sys2Proof/Machine/Flags.lean ====
section
/-! DEFINITION. Every field map of the manual: the status words and records that objects publish, computed from the state,
highest field first (R11). -/

namespace Sys2Proof.Machine

/-- A record from its fields, highest first: widths and values. -/
def pack (l : List (Nat × Nat)) : Nat := l.foldl (fun a p => a * 2 ^ p.1 + p.2 % 2 ^ p.1) 0

/-- A signed value in w bits. -/
def sg (w : Nat) (x : Int) : Nat := (x % (2 ^ w : Int)).toNat

/-! ### Thatch, blocks, cycles, lanes -/

/-- R42. -/
def thatchWord (e : ThEntry) : Nat :=
  pack [(16, e.ratio.toNat), (4, e.read.toNat), (4, e.taken.toNat), (4, e.latest.toNat), (1, b2n e.pending), (3, 0),
    (8, e.reason.toNat), (8, e.lreason.toNat), (8, e.changes.toNat), (8, 0)]

/-- R43. -/
def strapWord (s : Vol) : Nat :=
  let t := s.work.th
  pack [(8, 0), (1, b2n s.bak.sealOpen), (2, t.roleRead.toNat), (2, t.roleTaken.toNat), (1, b2n t.rolePending), (2, 0),
    (8, t.roleReason.toNat), (40, 0)]

/-- R66. -/
def crossingWord (s : Vol) : Nat :=
  let f := s.work.fab
  pack [(16, f.toggleOvf.toNat), (16, f.fifoOvf.toNat), (16, min 65535 (f.absent.toNat + s.work.store.absentSeen.toNat)),
    (8, f.late.toNat), (8, f.pllUnlock.toNat)]

/-- TROUND in ns, rounded up (R131): T / 8 is 1 953 125 / 8 000 000 ns. -/
def troundNs (s : Vol) : Nat := ceilDiv (roundMaxT8 (th s 0) (th s 1) (th s 2) (th s 3) * 1953125) 8000000

/-- R131. -/
def scheduleWord (s : Vol) : Nat :=
  pack [(4, s.work.cyc.rate.toNat), (3, (roundsOf (th s 0)).length), (1, b2n (th s 4 == 9 || th s 4 == 10)),
    (1, b2n (eaveOn s)), (1, b2n s.work.cyc.feHeld), (6, 0), (16, s.work.cyc.overruns.toNat), (32, troundNs s)]

/-- R168. -/
def laneWord (l : Lane) : Nat :=
  let out := fun i => b2n (vget l.cells i).out
  pack [(16, l.gutter.toNat), (16, l.peakFill.toNat), (8, l.calFail.toNat), (1, out 3), (1, out 2), (1, out 1),
    (1, out 0), (1, b2n l.out), (7, 0), (12, l.span.toNat)]

/-! ### Receptions, paths, flow, levels -/

/-- R202. -/
def rxWord (r : RxRec) : Nat :=
  pack [(4, r.port.val), (2, r.slot), (1, b2n r.swapped), (1, b2n r.eave), (40, r.tof), (10, r.peak), (7, r.gain),
    (7, r.used), (6, r.ridge), (4, sg 4 (clampInt (-8) 7 r.slipCount)), (1, b2n r.learn), (4, r.status), (1, b2n r.slip),
    (3, r.weakWhy), (5, 0), (32, r.resid)]

/-- R225; DLEARN from the retained learn count. -/
def pathWord (s : Vol) (j : Nat) : Nat :=
  let p := vget s.work.paths j
  let r := vget s.ret.flow.paths j
  pack [(32, p.dt.toNat), (32, p.vel.toNat), (32, p.sos.toNat), (2, p.verdict.toNat), (2, p.state.toNat),
    (3, p.cause.toNat), (1, b2n p.swapped), (1, b2n p.sosHeld), (1, b2n p.sat), (1, b2n p.degraded),
    (1, b2n (decide (r.n < 64))), (4, 0), (16, p.cycle.toNat)]

/-- R226. -/
def offsetWord (s : Vol) (j : Nat) : Nat :=
  let p := vget s.work.paths j
  let r := vget s.ret.flow.paths j
  pack [(32, r.delta.toNat), (7, r.n), (9, p.skips), (16, p.samples.toNat)]

/-- R227. -/
def flowWord (f : FlowWork) : Nat :=
  pack [(48, f.flow.toNat), (1, b2n f.empty), (1, b2n f.cutoff), (1, b2n f.degraded), (1, b2n f.subst), (1, b2n f.sat),
    (1, b2n f.stale), (4, 0), (6, f.valid.toNat)]

/-- R229. -/
def tempWord (f : FlowWork) : Nat :=
  pack [(16, f.temp.toNat), (32, f.sosMean.toNat), (6, f.tempPaths.toNat), (1, b2n f.tempRange), (1, b2n f.tempNone),
    (8, 0)]

/-- R233. -/
def levelWord (s : Vol) (n : Nat) : Nat :=
  let l := vget s.work.levels n
  pack [(32, l.level.toNat), (32, l.sos.toNat), (32, l.dist.toNat), (4, l.status.toNat), (1, b2n l.slip), (1, b2n l.held),
    (2, l.sosSrc.toNat), (1, b2n l.sosHeld), (1, b2n (s.work.obj.calib.refCh == (n : Int))), (1, b2n l.degraded), (5, 0),
    (16, l.age.toNat)]

/-- R253. -/
def pathFaultWord (s : Vol) (j : Nat) : Nat :=
  let p := vget s.work.paths j
  let r := vget s.ret.flow.paths j
  pack [(1, b2n r.dropped), (1, b2n r.anchorValid), (5, r.discards), (4, r.good), (3, r.lastCause.toNat), (2, 0),
    (16, p.drops.toNat), (16, p.discarded.toNat), (16, p.subcyc.toNat)]

/-- R254. -/
def flowFaultWord (s : Vol) : Nat :=
  let f := s.work.flow
  pack [(1, b2n s.ret.flow.empty), (1, b2n f.lastDegraded), (1, b2n f.noResult), (4, s.ret.flow.ecount), (9, 0),
    (16, f.emptySets.toNat), (32, f.unmetered.toNat)]

/-- R255. -/
def levelFaultWord (s : Vol) : Nat :=
  (List.range 16).foldl (fun a i => a + b2n (vget s.work.levels (i + 1)).empty * 2 ^ (48 + i)) 0

/-! ### FIN results -/

/-- MODE of an input under a TH9 code (R261, R280). -/
def finMode (th9 n : Nat) : Nat :=
  match th9 with
  | 0 => if n = 0 then 1 else 0
  | 1 => if n ≤ 1 then 1 else 0
  | 2 => if n ≤ 3 then 1 else 0
  | 3 => if 4 ≤ n then 1 else 0
  | 4 => 1
  | 5 => if n ≤ 1 then 2 else 0
  | 6 => if 4 ≤ n then 2 else 0
  | 7 => if 4 ≤ n then 2 else 1
  | 8 => if n ≤ 3 then 3 else 0
  | 9 => if n ≤ 3 then 3 else 1
  | _ => 0

/-- R279. -/
def finValueWord (s : Vol) (n : Nat) : Nat :=
  let f := vget s.work.aux.fins n
  if finMode (th s 9) n = 3 then pack [(48, (vget s.ret.count n).toNat), (80, 0)]
  else pack [(48, f.period.toNat), (48, f.freq.toNat), (32, f.value.toNat)]

/-- R280. -/
def finStatusWord (s : Vol) (n : Nat) : Nat :=
  let f := vget s.work.aux.fins n
  let m := finMode (th s 9) n
  if m = 3 then pack [(2, 3), (6, 0), (1, b2n (eaveOn s)), (55, 0)]
  else
    pack [(2, m), (3, f.status.toNat), (1, b2n f.gap), (1, b2n f.irreg), (1, b2n f.inverted), (1, b2n (eaveOn s)),
      (1, b2n f.degraded), (1, b2n f.sat), (1, b2n f.held), (4, 0), (24, f.stamps.toNat), (16, f.resid.toNat),
      (8, f.age.toNat)]

/-! ### Timekeeper -/

/-- R303. -/
def lastWakeWord (l : LastWake) : Nat :=
  pack [(6, l.source.toNat), (1, b2n l.collision), (1, b2n l.untrusted), (6, l.subsec.toNat), (34, l.time.toNat),
    (16, l.count.toNat)]

/-- The time group that a read meets: the shadows of a freeze, or the live calendar (R288). -/
def groupOf (s : Vol) : Cal := (s.bak.freeze.map (·.shadow)).getD s.bak.cal

/-- R306, for a time group and its STALE flag. -/
def clockWord (s : Vol) (c : Cal) (stale : Bool) : Nat :=
  let b := s.bak
  pack [(8, c.century.toNat), (8, c.year.toNat), (8, c.month.toNat), (8, c.day.toNat), (8, c.wday.toNat),
    (8, c.hour.toNat), (8, c.min.toNat), (8, c.sec.toNat), (6, c.subsec.toNat), (1, b2n b.osf),
    (1, b2n (b.slewLeft != 0)), (12, sg 12 b.slewLeft), (12, b.tempDie.toNat), (12, sg 12 b.tcorr), (1, b2n stale),
    (1, b2n b.power.lfStandin), (1, b2n b.tfast), (1, b2n b.tfault), (4, b.osfCause.toNat), (12, 0)]

/-! ### Ledger -/

/-- PEAK of a flow F in uL/s, and whether it saturates (R323). -/
def peakCode (f : Nat) : Nat × Bool :=
  if f < 2048 then (f, false)
  else if 4096 * 2 ^ 30 ≤ f then (0xFFFF, true)
  else
    let e := f.log2 - 10
    (e * 2048 + (f / 2 ^ (e - 1) - 2048), false)

/-- STATUS [15:8] of R320. -/
def intervalStatus (i : Interval) (prev : Nat) : Nat :=
  pack [(1, b2n i.timeUntrusted), (1, b2n i.repeat_), (1, b2n i.gapFilled), (1, b2n i.powerDown),
    (1, b2n (i.tariff.toNat != prev)), (1, b2n i.empty), (1, b2n i.reverse), (1, b2n i.clockSet)]

/-- DELTA of R320 and whether it saturates. -/
def deltaOf (vol : Nat) (pscale : Nat) : Nat × Bool :=
  let d := vol / 10 ^ pscale
  if 2 ^ 32 ≤ d then (2 ^ 32 - 1, true) else (d, false)

/-- An interval record (R320); `prev` is the TARIFF of the preceding interval record. -/
def intervalRecord (i : Interval) (prev : Nat) : Nat :=
  let (d, s1) := deltaOf i.vol i.pscale.toNat
  let (p, s2) := peakCode i.peak
  pack [(32, d), (16, p), (8, intervalStatus i prev), (4, i.tariff.toNat), (1, b2n i.subst), (1, b2n i.degraded),
    (1, b2n i.unmetered), (1, b2n (s1 || s2 || i.sat))]

/-- An anchor record (R322). -/
def anchorRecord (sec subsec : Nat) (untrusted rep powerDown clockSet : Bool) (kind : Nat) : Nat :=
  pack [(34, sec), (6, subsec), (8, 0), (1, b2n untrusted), (1, b2n rep), (1, 0), (1, b2n powerDown), (3, 0),
    (1, b2n clockSet), (4, 0), (4, kind)]

/-- R326. -/
def demandWord (d : Demand) : Nat := pack [(48, d.demand.toNat), (34, d.time.toNat), (1, b2n d.repeat_), (45, 0)]

/-- HWM as R338 shows it. -/
def hwmWord (s : Vol) : Nat := s.bak.hwm % 2 ^ 40

/-! ### Prepayment, store, exchange -/

/-- Ticks of lock-out left. -/
def lockTicksLeft (s : Vol) : Nat :=
  match s.ret.pre.lockFrom with
  | none => 0
  | some t => s.ret.pre.lockTicks - (s.bak.count - t).toNat

def lockedOut (s : Vol) : Bool := s.ret.pre.lockFrom.isSome

/-- A friendly window is in force (R356). -/
def friendly (s : Vol) : Bool := !s.bak.osf && inAnyWindow s.bak.cal s.work.obj.valve.windows

/-- R362. -/
def creditStatus (s : Vol) : Nat :=
  let p := s.ret.pre
  pack [(1, b2n s.work.pre.pour), (1, b2n s.work.pre.valve), (1, b2n p.emerg), (1, b2n (friendly s)),
    (1, b2n (lockedOut s)), (3, p.wrong), (8, p.locks.toNat), (16, ceilDiv (lockTicksLeft s) 3840), (20, p.idhwm.toNat),
    (4, p.lastEnd.toNat), (8, 0)]

/-- A token log entry (R363). -/
def tokenEntry (s : Vol) (result cls id amount : Nat) (credit : Int) : Nat :=
  pack [(34, nowSeconds s), (1, b2n s.bak.osf), (4, result), (2, cls), (20, id), (16, amount), (51, sg 51 (satSigned 51 credit))]

/-- R395. -/
def health0 (s : Vol) : Nat :=
  let h := s.work.store
  pack [(16, h.corrected.toNat), (16, h.unreadable.toNat), (16, h.invalid.toNat), (16, h.rewrites.toNat)]

/-- R396. -/
def health1 (s : Vol) : Nat :=
  let h := s.work.store
  pack [(13, s.ret.store.scrubPtr.toNat), (3, 0), (8, h.sweeps.toNat), (8, h.vres.toNat), (8, s.ret.store.pending.length),
    (8, h.abandoned.toNat), (2, s.work.life.wipeOp.toNat), (1, b2n s.work.life.wiping),
    (13, if s.work.life.wipeOp = 1 then s.work.life.wipeNext - 4096 else 0)]

/-- The identity word of R418. -/
def identityWord (nv : Nv) (s : Vol) : Nat :=
  pack [(16, 0x1680), (8, 0xB1), (8, nv.trim.romid.toNat), (5, s.work.life.keyset.toNat), (5, s.work.life.keylost.toNat),
    (22, 0)]

/-- R544. -/
def lifeWord (l : Life) : Nat :=
  pack [(3, stateCode l.state), (1, b2n l.pending), (3, if l.pending then stateCode l.target else 0), (1, b2n l.stateLost),
    (32, l.mecount.toNat), (8, l.seals.toNat), (16, 0)]

/-- R545. -/
def resetWord (r : ResetRec) : Nat :=
  pack [(5, r.cause.toNat), (1, b2n r.cold), (2, 0), (34, r.time.toNat), (6, r.subsec.toNat), (8, r.defer.toNat),
    (8, r.wdBlock.toNat)]

/-- R558. -/
def availWord (a : Avail) : Nat :=
  pack [(32, a.elapsed.toNat), (32, a.lost.toNat), (32, a.lastLost.toNat), (16, a.windows.toNat), (16, a.wresets.toNat)]

/-! ### Ports, line, display -/

/-- R451. -/
def portWord0 (p : Ports) : Nat :=
  pack [(16, p.frameDiscard.toNat), (16, p.streamDrop.toNat), (16, p.recordDrop.toNat), (1, b2n p.link.alive),
    (3, p.mbus.rate.toNat), (12, 0)]

def portWord1 (s : Vol) : Nat :=
  pack [(16, s.ret.pulseA.backlog.toNat), (16, s.ret.pulseB.backlog.toNat), (16, s.work.pt.pulseA.lost.toNat),
    (16, s.work.pt.pulseB.lost.toNat)]

/-- Element 2 of 0-0:96.20.0 (R452). -/
def portLoopWord (p : Ports) : Nat :=
  pack [(4, p.lbRun.toNat / 2 ^ 28), (2, p.lbRun.toNat / 2 ^ 26), (3, p.lbResult.toNat), (7, 0),
    (16, p.lbBits.toNat), (16, p.lbErrors.toNat), (16, 0)]

/-- A setting in force on context k, by its place in R483. -/
def lineSet (s : Vol) (k i : Nat) : Nat := (lget (vget s.work.line.ctxs k).inForce i).toNat

/-- FALLBACK, as it is in force on context k, names a service that uses the context (R455, R478, R483): its SVC code, 0 where it
does not. -/
def fallbackSvc (s : Vol) (k : Nat) : Nat :=
  match lineSet s k 18 with
  | 1 => if k = 0 then 2 else 0
  | 2 => if k = 0 then 3 else 0
  | 3 => 3
  | _ => 0

def hostCtx (s : Vol) (k : Nat) : Bool := lineSet s k 19 / 2 ^ k % 2 == 1

/-- The service of context k: 0 unused, 1 PHY, 2 node, 3 master (R29, R455, R484). -/
def svcOf (s : Vol) (k : Nat) : Nat :=
  match th s 6 with
  | 0 | 1 => if k = 0 then 2 else 0
  | 2 | 3 => if k = 0 then 3 else 0
  | 4 | 5 => 3
  | 6 | 7 => if s.work.line.deviceService then fallbackSvc s k else b2n (hostCtx s k)
  | _ => 0

/-- A context is in use (R455). -/
def ctxInUse (s : Vol) (k : Nat) : Bool := decide (k < 3) && (svcOf s k != 0 || (phyForHost s && hostCtx s k))

/-- A symbol of the queue is on the line in half-cycle n (R462). DEDUCED: log entry 68. -/
def ctxSends (c : LineCtx) (n : BitVec 16) : Bool :=
  match c.queue with
  | q :: _ => q.hc == n || q.hc + 1 == n
  | [] => false

/-- A context word (R484). -/
def ctxWord (s : Vol) (k : Nat) : Nat :=
  let c := vget s.work.line.ctxs k
  pack [(16, c.framesOk.toNat), (16, c.bad.toNat), (16, c.erased.toNat), (10, c.xofs / 16 % 1024),
    (2, svcOf s k), (1, b2n (!c.idle)), (1, b2n (ctxSends c c.hc)), (2, 0)]

/-- The service word (R484). -/
def serviceWord (s : Vol) : Nat :=
  let role := match th s 6 with
    | 6 | 7 => if s.work.line.deviceService then 2 else 1
    | 15 => 0
    | _ => 3
  pack [(2, role), (1, b2n s.work.pt.link.alive), (14, vget s.ret.line.next 0), (14, vget s.ret.line.next 1),
    (14, vget s.ret.line.next 2), (16, s.work.line.sweeps.toNat), (3, 0)]

/-- Element 4 of 0-0:96.20.0 (R485). -/
def lineLoopWord (l : Line) : Nat :=
  pack [(4, l.lbRun.toNat / 2 ^ 28), (2, l.lbRun.toNat / 2 ^ 26), (3, l.lbResult.toNat), (7, 0),
    (16, l.lbSymbols.toNat), (16, l.lbErrors.toNat), (16, l.lbErased.toNat)]

/-- R513. -/
def displayWord (s : Vol) : Nat :=
  let d := s.work.disp
  pack [(4, s.ret.disp.shownTemplate), (3, d.running.length), (4, d.pend.length), (3, d.band.toNat), (1, b2n d.pmic),
    (1, b2n (!s.ret.disp.slots.isEmpty)), (16, d.updates.toNat), (16, d.collapses.toNat), (16, 0)]

/-- Element 6 of 0-0:96.20.0 (R514). -/
def displayLoopWord (d : Display) : Nat := pack [(3, d.lbResult.toNat), (15, d.lbMask.toNat), (46, 0)]

/-- The error flags byte of R436. -/
def errorFlags (s : Vol) : Nat :=
  b2n s.ret.flow.empty + 2 * b2n s.work.flow.degraded + 4 * b2n s.work.flow.subst + 8 * b2n s.work.flow.stale
    + 16 * b2n s.bak.osf + 32 * b2n s.work.store.recordLost + 64 * b2n (s.bak.inFault != 0)
    + 128 * b2n ((List.range 6).any fun i => (vget s.work.te.lanes i).out)

end Sys2Proof.Machine
end

