-- ==== Sys2Proof/Machine/Records.lean ====
section
/-! DEFINITION. What the store's records, rings and single pages hold, formed from the live values and read back at a start
(R330, R365, R367, R382 to R388, R393), the pending list's drain (R378), and the journal. Where the manual gives a record's
contents but not its layout, the payload is the concatenation of the serialised objects in the order of R365 (log entry
11). -/

namespace Sys2Proof.Machine

/-! ### Two-copy records -/

/-- The calibration set as written (R216). -/
def calibWritten (s : Vol) : Calib := s.work.obj.calibNew.getD s.work.obj.calib

def profWritten (s : Vol) : List ProfEntry := s.work.obj.profNew.getD s.work.obj.prof

/-- Metrology configuration: calibration set, profile table, compensation curve, sealed thatch record (R365). -/
def metroPayload (s : Vol) : Bytes :=
  serialise calibShape (calibList (calibWritten s)) ++ serialise profFields (profList (profWritten s))
    ++ serialise curveFields (curveList s.bak.curve)
    ++ (s.work.life.sealedCodes.toList.map fun c => c.setWidth 8) ++ [s.work.life.sealedRole.setWidth 8]

/-- The first token log sequence that the window does not hold (R387, DESIGN CHOICE, log entry 11). -/
def windowSeq (s : Vol) : Nat :=
  (s.ret.pre.tokens.filter fun t => !t.written).foldl (init := s.ret.pre.logSeq.toNat) fun a t => min a t.seq.toNat

/-- State records: state word, KEYSET, demand records, PSCALE, IDHWM and the window bitmap (R365). -/
def statePayload (s : Vol) : Bytes :=
  let l := s.work.life
  beBytes 8 (pack [(3, stateCode l.state), (1, 0), (3, 0), (1, b2n l.stateLost), (32, l.mecount.toNat), (8, l.seals.toNat),
    (16, 0)])
    ++ [l.keyset.setWidth 8] ++ (s.ret.led.md.toList.flatMap fun d => beBytes 16 (demandWord d))
    ++ [s.ret.led.pscale.setWidth 8] ++ beBytes 3 s.ret.pre.idhwm.toNat ++ beBytes 128 s.ret.pre.bitmap.toNat
    ++ beBytes 4 (windowSeq s)

/-- The port settings as written (R451). -/
def portWritten (s : Vol) : List Int :=
  match s.work.pt.setNew with
  | some (_, l) => l
  | none => [s.work.pt.mbAddr, s.work.pt.mbBaud, s.work.pt.rsAddr, s.work.pt.stream]

/-- A value that waits for the next tick takes effect (R299, R327, R361). -/
def putNext (s : Vol) (v : ObjVal) : Vol :=
  match v with
  | .source _ b h => { s with work.obj.bday := b, work.obj.bhour := h }
  | .prices x => { s with work.obj.prices := { s.work.obj.prices with currency := x.currency } }
  | .valve x => { s with work.obj.valve := x }
  | .pwake w => { s with bak.pwake := w }
  | _ => s

/-- A tick begins: the values that waited for it take effect. -/
def takeNext (s : Vol) : Vol := { s.work.obj.nextTick.foldl putNext s with work.obj.nextTick := [] }

/-- The state with every object as it was written last. -/
def written (s : Vol) : Vol := s.work.obj.nextTick.foldl putNext s

/-- Settings (R365). -/
def settingsPayload (s : Vol) : Bytes :=
  let s := written s
  let o := s.work.obj
  serialise tariffCalFields (tariffCalList o.tariffCal)
    ++ beSigned 1 o.default_ ++ beSigned 1 o.bday ++ beSigned 1 o.bhour
    ++ serialise priceFields (priceList (o.pricesNew.getD o.prices)) ++ serialise valveFields (valveList o.valve)
    ++ ((List.range 6).flatMap fun n => serialise (sensorFields n) (sensorList (vget o.sensors n)))
    ++ serialise (auxFields.take 3) [o.aux.gate, o.aux.repeat_, o.aux.ivlTimeout]
    ++ serialise (pwakeFields 1) (pwakeList s.bak.pwake) ++ serialise alarmFields (alarmList s.bak.alarmA)
    ++ serialise alarmFields (alarmList s.bak.alarmB) ++ serialise pwronFields (pwronList s.bak.pwron)
    ++ serialise portFields (portWritten s)
    ++ serialise lineFields s.work.line.settings

/-- The keys: of each, whether the record holds it (R388), and its 16 bytes. -/
def keysPayload (s : Vol) : Bytes :=
  (List.range 5).flatMap fun k =>
    beBytes 1 (b2n (s.work.life.keyset.getLsbD k && !s.work.life.keylost.getLsbD k)) ++ keyBytes (vget s.work.life.keys k)

def recPayload (s : Vol) : Rec → Bytes
  | .metro => metroPayload s
  | .state => statePayload s
  | .settings => settingsPayload s
  | .keys => keysPayload s

/-- A record is written from the live values, after a write of it that is still under way (R371, R382). -/
def writeRec (nv : Nv) (r : Rec) (change : Bool) (s : Vol) : Vol :=
  let s := drainRecord r s
  submitGuarded (recordReqs nv s r (recPayload s r) false change) s

/-- The settings read back. -/
def settingsLoad (d : Bytes) (s : Vol) : Vol :=
  let nCal := fldBytes tariffCalFields
  let cal := deserialise tariffCalFields d
  let d := d.drop nCal
  let dflt := beNat (slice d 0 1)
  let bday := beNat (slice d 1 1)
  let bhour := beNat (slice d 2 1)
  let d := d.drop 3
  let price := deserialise priceFields d
  let d := d.drop (fldBytes priceFields)
  let valve := deserialise valveFields d
  let d := d.drop (fldBytes valveFields)
  let nSen := fldBytes (sensorFields 0)
  let sens := (List.range 6).map fun n => sensorOf (deserialise (sensorFields n) (d.drop (n * nSen)))
  let d := d.drop (6 * nSen)
  let aux := deserialise (auxFields.take 3) d
  let d := d.drop 8
  let pw := deserialise (pwakeFields 1) d
  let d := d.drop 10
  let aa := deserialise alarmFields d
  let ab := deserialise alarmFields (d.drop 8)
  let d := d.drop 16
  let pr := deserialise pwronFields d
  let d := d.drop (fldBytes pwronFields)
  let po := deserialise portFields d
  let li := deserialise lineFields (d.drop 4)
  { s with
    work.obj.tariffCal := tariffCalOf cal
    work.obj.default_ := dflt
    work.obj.bday := bday
    work.obj.bhour := bhour
    work.obj.prices := priceOf price
    work.obj.valve := valveOf valve
    work.obj.sensors := #v[sens.getD 0 default, sens.getD 1 default, sens.getD 2 default, sens.getD 3 default,
      sens.getD 4 default, sens.getD 5 default]
    work.obj.aux := auxOf aux
    bak.pwake := pwakeOf pw
    bak.alarmA := alarmOf aa
    bak.alarmB := alarmOf ab
    bak.pwron := pwronOf pr
    work.pt.mbAddr := lget po 0
    work.pt.mbBaud := lget po 1
    work.pt.rsAddr := lget po 2
    work.pt.stream := lget po 3
    work.line.settings := li }

/-- The life-cycle state word read back from the state records (R544, R555). -/
def stateLoad (d : Bytes) (s : Vol) : Vol :=
  let w := beNat (d.take 8)
  let st := match w / 2 ^ 61 with
    | 0 => LState.blank | 1 => .calibrate | 2 => .sealed | 3 => .service | _ => .retired
  { s with
    work.life.state := st
    work.life.stateLost := w / 2 ^ 56 % 2 = 1
    work.life.mecount := BitVec.ofNat 32 (w / 2 ^ 24)
    work.life.seals := BitVec.ofNat 8 (w / 2 ^ 16)
    work.life.keyset := BitVec.ofNat 5 (beNat (slice d 8 1)) }

def demandOf (w : Nat) : Demand where
  demand := BitVec.ofNat 48 (w / 2 ^ 80)
  time := BitVec.ofNat 34 (w / 2 ^ 46)
  repeat_ := w / 2 ^ 45 % 2 = 1

/-- Demand registers, PSCALE and the token window read back after the loss of VBK (R326, R348, R542). -/
def stateRestore (d : Bytes) (s : Vol) : Vol :=
  let md := fun i => demandOf (beNat (slice d (9 + 16 * i) 16))
  { s with
    ret.led.md := #v[md 0, md 1, md 2, md 3]
    ret.led.pscale := BitVec.ofNat 2 (beNat (slice d 73 1))
    ret.pre.idhwm := BitVec.ofNat 20 (beNat (slice d 74 3))
    ret.pre.bitmap := BitVec.ofNat 1024 (beNat (slice d 77 128)) }

/-! ### Rings -/

/-- Ring A (R383). -/
def ringAPayload (s : Vol) : Bytes :=
  let l := s.ret.led
  beBytes 8 l.fwd.toNat ++ beBytes 8 l.rev.toNat ++ l.t.toList.flatMap fun x => beBytes 8 x.toNat

/-- Ring B (R383). -/
def ringBPayload (s : Vol) : Bytes :=
  let l := s.ret.led
  let i := l.interval
  beBytes 8 l.estF.toNat ++ beBytes 8 l.estR.toNat ++ beBytes 8 s.ret.pre.credit.toNat ++ beBytes 5 (hwmWord s)
    ++ beBytes 4 s.ret.pre.tokSeq.toNat ++ beBytes 2 s.ret.pre.lrem ++ beBytes 4 (min i.vol (2 ^ 32 - 1))
    ++ beBytes 2 (peakCode i.peak).1 ++ beBytes 1 (intervalStatus i l.prevTariff.toNat) ++ [i.tariff.setWidth 8]
    ++ beBytes 5 i.endTime

/-- The write of one ring slot (R384). -/
def ringReq (nv : Nv) (s : Vol) (base count : Nat) (payload : Bytes) (job : Job) : Req :=
  let (page, q) := ringNext nv s base count
  plainReq page (pageForm q (regionOf page) (page - base) count payload) job

def ringAReq (nv : Nv) (s : Vol) : Req := ringReq nv s 128 32 (ringAPayload s) .ringA
def ringBReq (nv : Nv) (s : Vol) : Req := ringReq nv s 160 32 (ringBPayload s) .ringB

/-- A ring is written when its payload differs from its newest slot's (R384). -/
def ringChanged (nv : Nv) (s : Vol) (base count : Nat) (payload : Bytes) : Bool :=
  match ringNewest nv s base count with
  | some (n, _) => pagePayload (viewPage nv s n) != padTo 52 0 payload
  | none => true

def writeRingA (nv : Nv) (s : Vol) : Vol :=
  if ringChanged nv s 128 32 (ringAPayload s) then submitGuarded [ringAReq nv s] s else s

def writeRingB (nv : Nv) (s : Vol) : Vol :=
  if ringChanged nv s 160 32 (ringBPayload s) then submitGuarded [ringBReq nv s] s else s

/-- The count ring: the four counts of R274 and the lock-out copy of R350. -/
def countPayload (s : Vol) : Bytes :=
  ((List.range 4).flatMap fun n => beBytes 6 (vget s.ret.count n).toNat)
    ++ beBytes 1 s.ret.pre.wrong ++ [s.ret.pre.locks] ++ beBytes 1 (b2n s.ret.pre.lockFrom.isSome)

def writeCounts (nv : Nv) (s : Vol) : Vol := submitGuarded [ringReq nv s 4228 8 (countPayload s) .countRing] s

/-! ### The wipe journal (R393, R551) -/

/-- A journal slot: OP, NEXT, DONE, then TARGET, the key mask and CLEAR. -/
def journalPayload (w : Wipe) : Bytes :=
  beBytes 1 w.op ++ beBytes 2 w.next ++ beBytes 1 (b2n w.done) ++ beBytes 1 w.target ++ beBytes 1 w.keyMask
    ++ beBytes 1 (b2n w.clear)

def journalOf (d : Bytes) : Wipe where
  op := beNat (slice d 0 1)
  next := beNat (slice d 1 2)
  done := beNat (slice d 3 1) = 1
  target := beNat (slice d 4 1)
  keyMask := beNat (slice d 5 1)
  clear := beNat (slice d 6 1) = 1

def journalReq (nv : Nv) (s : Vol) (w : Wipe) : Req :=
  { ringReq nv s 120 8 (journalPayload w) .journal with change := true }

/-- The newest valid journal slot (R393). -/
def journalNewest (nv : Nv) (s : Vol) : Option Wipe :=
  (ringNewest nv s 120 8).map fun p => journalOf (pagePayload (viewPage nv s p.1))

/-! ### Load profile and snapshots -/

/-- A page of the load profile or its tail (R385). -/
def profilePage (first : Nat) (recs : List (BitVec 64)) : Bytes :=
  let body := beBytes 4 first ++ beBytes 1 recs.length ++ List.replicate 7 0
    ++ padTo 48 0 (recs.flatMap fun r => beBytes 8 r.toNat)
  body ++ beBytes 4 (crc32 body).toNat

/-- The page of FIRST = 6k (R385). -/
def profilePageNo (first : Nat) : Nat := 1024 + first / 6 % 3072

def profilePageOk (d : Bytes) : Bool :=
  d != erasedPage && decide (beNat (slice d 4 1) ≤ 6) && beNat (slice d 60 4) == (crc32 (d.take 60)).toNat

/-- A record is appended to the profile: first in the tail, and a full page then in the profile area (R324, R386; the tail slot: DEDUCED, log
entry 99). -/
def appendProfile (r : Nat) (s : Vol) : Vol :=
  let l := s.ret.led
  let seq := l.nextSeq.toNat
  let page := l.page ++ [BitVec.ofNat 64 r]
  let first := seq + 1 - page.length
  let s := { s with
    ret.led.nextSeq := l.nextSeq + 1
    ret.led.kept := min 18432 (l.kept + 1)
    ret.led.page := if page.length = 6 then [] else page }
  let s := submitGuarded [plainReq (112 + seq % 8) (profilePage first page) .tail] s
  if page.length = 6 then submitGuarded [plainReq (profilePageNo first) (profilePage first page) .profile] s else s

/-- A record of the profile by its sequence number, from the open page or the array (R325). -/
def profileRecord (nv : Nv) (s : Vol) (seq : Nat) : Option (BitVec 64) :=
  let l := s.ret.led
  let open_ := l.nextSeq.toNat - l.page.length
  if open_ ≤ seq then l.page[seq - open_]?
  else
    let d := viewPage nv s (profilePageNo (seq / 6 * 6))
    if profilePageOk d && beNat (d.take 4) == seq / 6 * 6 then
      some (BitVec.ofNat 64 (beNat (slice d (12 + 8 * (seq % 6)) 8)))
    else none

/-- The pages of both copies of the newest snapshot (R330, R367). -/
def snapshotReqs (s : Vol) : List Req :=
  let n := s.ret.led.closes
  let pos := (n - 1) % 24
  let page := fun (copyB : Bool) (i : Nat) =>
    let p := 192 + 6 * pos + (if copyB then 3 else 0) + i
    plainReq p (pageForm n 0x08 i 3 (slice s.ret.led.snapshot (52 * i) 52)) (.snapshot pos copyB i)
  (List.range 3).map (page false) ++ (List.range 3).map (page true)

/-- The 152 bytes of a stored snapshot position, from the valid copy (R367, R382). -/
def snapshotOf (nv : Nv) (s : Vol) (pos : Nat) : Option (Nat × Bytes) :=
  match recState nv s (192 + 6 * pos) 3 with
  | .taken b _ => some (pageSeq (viewPage nv (stored s) b), (copyContent nv s b 3).take 152)
  | _ => none

/-- The pages that rewrite a copy from the valid one (R382). -/
def repairReqs (nv : Nv) (s : Vol) (from_ to_ count : Nat) : List Req :=
  (List.range count).map fun i => plainReq (to_ + i) (viewPage nv (stored s) (from_ + i)) .repair

/-- A copy that is found invalid or older is rewritten, unless the record is locked or pages of it are on their way, and COPY_REPAIRED is
logged. -/
def repairCopy (nv : Nv) (base count : Nat) (s : Vol) : Vol :=
  match recState nv s base count with
  | .taken from_ (some to_) =>
    if pagesLocked s base (2 * count) || (List.range count).any fun i => queued s (to_ + i) then s
    else
      let region := regionOf base
      logEvent (regionLog region) 0x0403 region (submitGuarded (repairReqs nv s from_ to_ count) s)
  | _ => s

/-! ### The pending list (R378) -/

/-- The page of a copy that a repair rewrites, from the copy that is valid now (R382). -/
def repairAgain (nv : Nv) (s : Vol) (n : Nat) : List Req :=
  match recordRange n with
  | none => []
  | some (base, both) =>
    match recState nv s base (both / 2) with
    | .taken from_ (some to_) =>
      if to_ ≤ n ∧ n < to_ + both / 2 ∧ !pagesLocked s base both ∧ !queued s n then
        [plainReq n (viewPage nv (stored s) (from_ + (n - to_))) .repair]
      else []
    | _ => []

/-- The page of the profile tail: the open page as it now stands, where it is still the entry's (R386). -/
def tailAgain (s : Vol) (p : Pending) : Bytes :=
  let l := s.ret.led
  let first := l.nextSeq.toNat - l.page.length
  if !l.page.isEmpty && beNat (p.data.take 4) == first then profilePage first l.page else p.data

/-- The page of a snapshot, from the LEDGER's copy where that is still the entry's (R330, R609). -/
def snapshotAgain (s : Vol) (p : Pending) : Bytes :=
  (((snapshotReqs s).find? fun r => r.page == p.page && s.ret.led.snapshotHeld).map (·.data)).getD p.data

/-- A page of a two-copy record on the list: the whole write where it was not committed, otherwise the page of copy B, unless a later
write has taken its place (R605). -/
def recordAgain (nv : Nv) (s : Vol) (r : Rec) (p : Pending) : List Req :=
  if p.data.isEmpty then recordReqs nv s r (recPayload s r) false false
  else if pageSeq p.data + 1 < recNextSeq nv s r.base r.pages then []
  else [plainReq p.page p.data p.job]

/-- The requests of one entry of the pending list, formed at the time of writing. An entry of a log whose page a later entry has taken
writes nothing, nor does a scrub whose page is being written. -/
def pendingReqs (nv : Nv) (s : Vol) (p : Pending) : List Req :=
  let plain := fun (d : Bytes) => [plainReq p.page d p.job]
  let kept := fun (next : Nat) => decide (next ≤ pageSeq p.data + 256)
  List.map (fun r => { r with object := p.object, change := p.change }) <| match p.job with
  | .ringA => [ringAReq nv s]
  | .ringB => [ringBReq nv s]
  | .countRing => [ringReq nv s 4228 8 (countPayload s) .countRing]
  | .journal => [ringReq nv s 120 8 (pagePayload p.data) .journal]
  | .record r _ _ => recordAgain nv s r p
  | .tail => plain (tailAgain s p)
  | .snapshot _ _ _ => plain (snapshotAgain s p)
  | .log l _ => if kept (logNext s l).toNat then plain p.data else []
  | .tokenLog => if kept s.ret.pre.logSeq.toNat then plain p.data else []
  | .repair => repairAgain nv s p.page
  | .scrub =>
    let locked := queued s p.page || (recordRange p.page).any fun x => pagesLocked s x.1 x.2
    if locked || pageCond nv p.page == some .uncorrectable then [] else plain (memPage nv.mem p.page)
  | .profile | .notes | .roster | .display | .erase => plain p.data

/-- An uncommitted record write is one entry's work: the other pages of the same record leave the list with it. -/
def sameUncommitted (p q : Pending) : Bool :=
  match p.job, q.job with
  | .record r _ _, .record r' _ _ => r == r' && p.data.isEmpty && q.data.isEmpty
  | _, _ => false

def drainLoop (nv : Nv) : Nat → Vol → Vol
  | 0, s => s
  | f + 1, s =>
    match s.ret.store.pending with
    | [] => s
    | p :: rest =>
      let s := { s with ret.store.pending := rest.filter (!sameUncommitted p ·) }
      drainLoop nv f (submitGuarded (pendingReqs nv s p) s)

/-- The list is drained, oldest first, as soon as R374 allows. -/
def drainPending (nv : Nv) (s : Vol) : Vol :=
  if reserveOk s && coreRuns s then drainLoop nv 32 s else s

end Sys2Proof.Machine
end

