-- ==== Sys2Proof/Machine/Booking.lean ====
section
/-! DEFINITION. A booking (R217 to R221, R247 to R251, R607, R608) with what hangs on it: the gap rules, the registers of
R309, the one-second flows of R323, the deduction of R353 and the pulse outputs of R447 to R449. -/

namespace Sys2Proof.Machine

/-- Availability counts: SEALED or SERVICE, the plan has paths (R557), and a cycle has been executed since the loss of VBK
(R608). -/
def availRuns (s : Vol) : Bool :=
  s.ret.flow.booked && (s.work.life.state == .sealed || s.work.life.state == .service) && pathCount (th s 0) != 0

/-- Ticks not booked into the legal accumulators (R251, R557). DEDUCED: log entry 26. -/
def countUnmetered (n : Nat) (s : Vol) : Vol :=
  { s with
    work.flow.unmetered := satAdd s.work.flow.unmetered n
    ret.avail.lost := if availRuns s then satAdd s.ret.avail.lost n else s.ret.avail.lost }

/-- |q| x n / 64 uL added exactly (R218). -/
def Accum.add (a : Accum) (x : Nat) : Accum :=
  let t := a.uL.toNat * 64 + a.rem.toNat + x
  { uL := BitVec.ofNat 64 (t / 64), rem := BitVec.ofNat 6 t }

/-- The increase of the whole-millilitre part (R221). -/
def Accum.gain (a : Accum) (x : Nat) : Nat :=
  (a.uL.toNat * 64 + a.rem.toNat + x) / 64000 - a.uL.toNat / 1000

/-- The age limit of R220. The ticks of a span that a change of rate divides are judged by the rate at the booking: DESIGN CHOICE, log
entry 134. -/
def ageLimit (s : Vol) : Nat := max (4 * periodOf s.work.cyc.rate.toNat) 128

/-- The ticks of a span of n, after the latest booking, at which the flow in force is within its age limit (R220). -/
def coveredTicks (s : Vol) (n : Nat) : Nat :=
  match s.ret.flow.inForce with
  | none => 0
  | some f => min n (ageLimit s - (s.ret.flow.lastBooking - f.startTick).toNat)

/-- One-second spans (R323): m ticks of flow q after tick a; the sum of the span in progress and the largest flow of
the spans that end. Spans end on multiples of 64. -/
def spanAdd (a m q span : Nat) : Nat × Nat :=
  let r := 64 - a % 64
  if m < r then (span + m * q, 0)
  else ((m - r) % 64 * q, max ((span + r * q) / 64) (if 64 ≤ m - r then q else 0))

/-- m ticks after the latest booking run at forward legal flow q, 0 where nothing legal and forward is booked. -/
def spanBook (from_ : Nat) (m q : Nat) (s : Vol) : Vol :=
  let (span, f) := spanAdd from_ m q s.ret.led.span
  { s with
    ret.led.span := span
    ret.led.interval.peak := max s.ret.led.interval.peak f }

/-! ### Credit and pulses -/

/-- LREM and CREDIT take a forward volume in mL (R353). -/
def deduct (v : Nat) (s : Vol) : Vol :=
  if prepaid s then
    let l := s.ret.pre.lrem + v
    let price := lget s.work.obj.prices.price (s.ret.led.tariff.toNat - 1)
    { s with
      ret.pre.lrem := l % 1000
      ret.pre.credit := s.ret.pre.credit - ofInt 64 (price * (l / 1000 : Nat)) }
  else s

/-- The backlog of an output rises by one for each V completed; a rise above 65 535 is lost (R447, R448). -/
def pulsesDue (v : Nat) (x : Nat) (p : PulseRet) : PulseRet × Nat :=
  let t := p.rem + x
  let b := p.backlog.toNat + t / v
  ({ backlog := BitVec.ofNat 16 (min b 65535), rem := t % v }, b - 65535)

/-- Lost pulses of an output: LOST, and one occurrence of PULSE_OVERFLOW for each (R448, R454). -/
def pulseLost (out lost : Nat) (s : Vol) : Vol :=
  if lost = 0 then s
  else
    let s := if out = 0 then { s with work.pt.pulseA.lost := satAdd s.work.pt.pulseA.lost lost }
      else { s with work.pt.pulseB.lost := satAdd s.work.pt.pulseB.lost lost }
    logLimitedTimes .general 0x0607 out out lost s

/-- Pulses and FLOWDIR after a booking of dF and dR whole mL; `fwd` and `rev` say which legal volume it had (R447, R449).
DEDUCED: log entry 25. -/
def pulseBook (dF dR : Nat) (fwd rev : Bool) (s : Vol) : Vol :=
  match pulseValue s with
  | none => s
  | some v =>
    let (a, la) := pulsesDue v dF s.ret.pulseA
    let (b, lb) := pulsesDue v dR s.ret.pulseB
    let dir := if fwd then true else if rev then false else s.work.pt.flowDir
    pulseLost 1 lb (pulseLost 0 la
      { s with ret.pulseA := a, ret.pulseB := b, work.pt.flowDir := dir })

/-! ### Registers -/

/-- The LEDGER takes whole-mL increases (R309, R250) and marks the open interval (R320). A secondary's volume enters no
register (R573). -/
def ledgerTakes (dF dR dEF dER : Nat) (s : Vol) : Vol :=
  if isSecondary s then s else
  let l := s.ret.led
  let t := l.tariff.toNat - 1
  let s := { s with
    ret.led.fwd := l.fwd + BitVec.ofNat 64 dF
    ret.led.rev := l.rev + BitVec.ofNat 64 dR
    ret.led.net := l.fwd + BitVec.ofNat 64 dF - (l.rev + BitVec.ofNat 64 dR)
    ret.led.t := vset l.t t (vget l.t t + BitVec.ofNat 64 dF)
    ret.led.estF := l.estF + BitVec.ofNat 64 dEF
    ret.led.estR := l.estR + BitVec.ofNat 64 dER
    ret.led.interval.vol := l.interval.vol + dF
    ret.led.interval.reverse := l.interval.reverse || decide (1 ≤ dR)
    ret.led.interval.empty := l.interval.empty || s.ret.flow.empty }
  deduct (dF + dEF) s

/-! ### Gaps -/

/-- A gap of n ticks ends (R249): the estimated increases in mL, forward and reverse. -/
def endGap (n : Nat) (flow : Option Int) (s : Vol) : Vol × Nat × Nat :=
  if n = 0 then (s, 0, 0)
  else match flow with
    | some q =>
      if n ≤ 640 then
        let x := q.natAbs * n
        let s := { s with ret.led.interval.gapFilled := true }
        let s := limM 0x0167 0xFF (ceilDiv n 4) s
        if 0 ≤ q then
          ({ s with ret.flow.accEF := s.ret.flow.accEF.add x }, s.ret.flow.accEF.gain x, 0)
        else ({ s with ret.flow.accER := s.ret.flow.accER.add x }, 0, s.ret.flow.accER.gain x)
      else (logM 0x0168 (min 255 (ceilDiv n 64)) s, 0, 0)
    | none => (logM 0x0168 (min 255 (ceilDiv n 64)) s, 0, 0)

/-- A gap that cannot be filled any more (R249). -/
def unfillable (g : Gap) : Bool := decide (640 < g.ticks) || g.flow.isNone

/-- An interval with ticks of an unfilled gap is UNMETERED (R320). -/
def markUnfilled (g : Gap) (s : Vol) : Vol :=
  if g.here && unfillable g then { s with ret.led.interval.unmetered := true } else s

/-- The gaps that wait are decided, oldest first (R607), each by itself (DEDUCED, log entry 154). -/
def decideGaps (s : Vol) : Vol × Nat × Nat :=
  s.ret.flow.gaps.foldl (init := ({ s with ret.flow.gaps := [], ret.flow.gapOpen := false }, 0, 0)) fun x g =>
    let (s, e0, e1) := endGap g.ticks g.flow (markUnfilled g x.1)
    (s, x.2.1 + e0, x.2.2 + e1)

/-- n more ticks, up to a tick, join the gap in progress or begin one (R248). They lie in the open interval unless it opened on
that tick. -/
def addGap (count : BitVec 32) (n : Nat) (s : Vol) : Vol :=
  if n = 0 then s
  else
    let f := s.ret.flow
    let here := s.ret.led.interval.openedAt != count
    let gaps := match f.gapOpen, f.gaps.getLast? with
      | true, some g => f.gaps.dropLast ++ [{ g with ticks := g.ticks + n, here := g.here || here }]
      | _, _ => f.gaps ++ [{ ticks := n, flow := f.inForce.map (·.q), here }]
    countUnmetered n { s with ret.flow.gaps := gaps, ret.flow.gapOpen := true }

/-! ### The booking -/

/-- The increases of m covered ticks of the flow in force: legal forward, legal reverse, estimated forward and
reverse. -/
def bookFlow (m : Nat) (s : Vol) : Vol × Nat × Nat × Nat × Nat :=
  match s.ret.flow.inForce with
  | none => (s, 0, 0, 0, 0)
  | some f =>
    if m = 0 then (s, 0, 0, 0, 0)
    else
      let x := f.q.natAbs * m
      let s := { s with
        ret.led.interval.subst := s.ret.led.interval.subst || f.subst
        ret.led.interval.degraded := s.ret.led.interval.degraded || f.degraded }
      let s := if f.degraded then countUnmetered m s else s
      let r := s.ret.flow
      match f.degraded, decide (0 ≤ f.q) with
      | false, true => ({ s with ret.flow.accF := r.accF.add x }, r.accF.gain x, 0, 0, 0)
      | false, false => ({ s with ret.flow.accR := r.accR.add x }, 0, r.accR.gain x, 0, 0)
      | true, true => ({ s with ret.flow.accEF := r.accEF.add x }, 0, 0, r.accEF.gain x, 0)
      | true, false => ({ s with ret.flow.accER := r.accER.add x }, 0, 0, 0, r.accER.gain x)

/-- The legal forward flow of the flow in force, for R323. -/
def legalForward (s : Vol) : Nat :=
  match s.ret.flow.inForce with
  | some f => if f.degraded then 0 else f.q.toNat
  | none => 0

/-- The ticks of a booking: none for a tick that an earlier booking has passed, as a late start tick may be (R123, R218; DEDUCED,
log entry 154). -/
def bookTicks (last count : BitVec 32) : Nat := if (count - last).toNat < 2 ^ 31 then (count - last).toNat else 0

/-- A booking up to a tick, outside an outage (R218, R220, R607). A secondary in joint integration forms no flow and no gap (R572). -/
def bookTo (count : BitVec 32) (s : Vol) : Vol :=
  let last := s.ret.flow.lastBooking
  let n := bookTicks last count
  if n = 0 then s
  else if !faultRules s then { s with ret.flow.lastBooking := count }
  else
  let m := coveredTicks s n
  let q := legalForward s
  let (s, e0, e1) := if m = 0 then (s, 0, 0) else decideGaps s
  let (s, dF, dR, dEF, dER) := bookFlow m s
  let s := spanBook (last.toNat + m) (n - m) 0 (spanBook last.toNat m q s)
  let s := addGap count (n - m) s
  let s := { s with ret.flow.lastBooking := count }
  let s := ledgerTakes dF dR (dEF + e0) (dER + e1) s
  let legal := match s.ret.flow.inForce with
    | some f => !f.degraded && decide (0 < m)
    | none => false
  let pos := match s.ret.flow.inForce with
    | some f => decide (0 < f.q)
    | none => false
  let neg := match s.ret.flow.inForce with
    | some f => decide (f.q < 0)
    | none => false
  pulseBook dF dR (legal && pos) (legal && neg) s

/-- The ticks of a loop-back are excluded (R106, R251) and end the gap in progress, whose decision waits (R248, R607). Before the
first executed cycle of a cold start nothing counts (R608). -/
def bookLoop (count : BitVec 32) (s : Vol) : Vol :=
  let last := s.ret.flow.lastBooking
  let n := (count - last).toNat
  if n = 0 then s
  else
    let s := if s.ret.flow.booked && faultRules s then
        let s := spanBook last.toNat n 0 (countUnmetered n s)
        { s with ret.led.interval.unmetered := true }
      else s
    { s with
      ret.flow.gapOpen := false
      ret.flow.lastBooking := count }

/-- The ticks of an outage up to a loop-back belong to the gap of the restart (R248, R608). -/
def bookOutage (count : BitVec 32) (s : Vol) : Vol :=
  if s.ret.flow.booked && faultRules s then
    let last := s.ret.flow.lastBooking
    let n := (count - last).toNat
    let s := spanBook last.toNat n 0 (addGap count n s)
    { s with ret.flow.lastBooking := count }
  else s

/-- A booking at a tick with a LEDGER event or the flush (R218): nothing before the first executed cycle after a
restart, nothing in RETIRED (R554). -/
def bookEvent (count : BitVec 32) (s : Vol) : Vol :=
  if retired s then s
  else if s.work.loop.running then bookLoop count s
  else if s.ret.flow.restartGap then s
  else bookTo count s

/-- The gap of a restart ends at the first executed cycle (R218, R248, R607, R608). -/
def bookRestart (count : BitVec 32) (s : Vol) : Vol :=
  let s :=
    if s.ret.flow.booked then
      let (s, e0, e1) := decideGaps (bookOutage count s)
      ledgerTakes 0 0 e0 e1 s
    else s
  { s with
    ret.flow.restartGap := false
    ret.flow.booked := true
    ret.flow.lastBooking := count }

/-- The booking at the start tick of an executed cycle. -/
def bookCycle (count : BitVec 32) (s : Vol) : Vol :=
  if retired s then s
  else if s.ret.flow.restartGap then bookRestart count s
  else bookTo count s

end Sys2Proof.Machine
end

