-- ==== Sys2Proof/Machine/Ledger.lean ====
section
/-! DEFINITION. The LEDGER (R311 to R336): requested tariffs, the interval close, demand, billing closes, steps of the clock,
outages and held ticks, in the order of R336. -/

namespace Sys2Proof.Machine

/-- The LEDGER gives no service in RETIRED (R554) and on a chain secondary (R570). -/
def noLedger (s : Vol) : Bool := retired s || isSecondary s

/-! ### Tariffs (R312 to R318) -/

/-- SOURCE and COUNT of the taken TH5 code (R312, R338). -/
def tariffSource (s : Vol) : Nat × Nat :=
  match th s 5 with
  | 1 | 5 => (1, 2)
  | 2 | 6 => (1, 4)
  | 3 | 7 => (2, 4)
  | _ => (0, 1)

/-- The default tariff, within the number of tariffs (R317). DEDUCED: log entry 42. -/
def defaultTariff (s : Vol) : Nat := (clampInt 1 (tariffSource s).2 s.work.obj.default_).toNat

/-- A special day matches a date (R315, R316). -/
def specialMatches (c : Cal) (p : List Int) : Bool :=
  lget p 0 == 1 && (lget p 1 == 0xFF || lget p 1 == c.year.toNat)
    && lget p 2 == c.month.toNat && lget p 3 == c.day.toNat

/-- Enabled entries of a list ordered by a key: the latest at or before x, or else the latest of all
(ties: log entry 151). -/
def latestBy (key : List Int → Int) (x : Int) (l : List (List Int)) : Option (List Int) :=
  let l := l.filter (lget · 0 == 1)
  let best := fun (l : List (List Int)) =>
    l.foldl (init := none) fun (b : Option (List Int)) p =>
      match b with
      | some q => if key q < key p then some p else b
      | none => some p
  match best (l.filter fun p => key p ≤ x) with
  | some p => some p
  | none => best l

/-- The day profile of a date (R315, steps 1 and 2). Of several special days that match, and of seasons or switch points that start
together, the first entry counts: DESIGN CHOICE, log entry 151. -/
def dayProfile (t : TariffCal) (c : Cal) : Nat :=
  match t.special.find? (specialMatches c) with
  | some p => (lget p 4).toNat
  | none =>
    let key := fun (p : List Int) => lget p 1 * 256 + lget p 2
    let week := match latestBy key (c.month.toNat * 256 + c.day.toNat) t.season with
      | some p => (lget p 3).toNat
      | none => 0
    (lget (t.week.getD week []) (ofBcd c.wday - 1)).toNat

/-- The tariff that the calendar requests, none where the profile has no enabled switch point (R315, step 3). -/
def calendarTariff (t : TariffCal) (c : Cal) : Option Nat :=
  let points := (t.dayprof.drop (8 * dayProfile t c)).take 8
  let key := fun (p : List Int) => lget p 1 * 256 + lget p 2
  (latestBy key (c.hour.toNat * 256 + c.min.toNat) points).map fun p => (lget p 3).toNat

/-- The requested tariff at a calendar time (R313 to R317). -/
def requestedTariff (s : Vol) (ticks : Nat) : Nat :=
  let d := defaultTariff s
  match th s 5 with
  | 1 | 5 =>
    if s.bak.inFault.getLsbD 0 then d
    else match s.bak.accepted with
      | some (low0, _) => 1 + b2n low0
      | none => 1
  | 2 | 6 =>
    if s.bak.inFault != 0 then d
    else match s.bak.accepted with
      | some (low0, low1) => 1 + 2 * b2n low1 + b2n low0
      | none => 1
  | 3 | 7 =>
    if s.bak.osf then d else (calendarTariff s.work.obj.tariffCal (calOfSeconds (ticks / 64))).getD d
  | _ => 1

/-- Step 3 of R336: the requested tariff becomes the tariff in force (R318), with DEFAULT_TARIFF (R317). -/
def takeTariff (ticks : Nat) (s : Vol) : Vol :=
  let t := requestedTariff s ticks
  let dflt := s.bak.osf && (tariffSource s).1 == 2
  let first := dflt && !s.ret.led.defaultLogged
  let s := { s with
    ret.led.tariff := BitVec.ofNat 3 t
    ret.led.interval.tariff := BitVec.ofNat 4 t
    ret.led.defaultLogged := dflt }
  if first then logG 0x0308 t s else s

/-! ### Intervals (R319 to R326) -/

/-- The demand of a closed interval (R326). DEDUCED: log entry 24. -/
def evalDemand (i : Interval) (md : Vector Demand 4) : Vector Demand 4 :=
  if i.timeUntrusted || i.powerDown || i.clockSet then md
  else
    let d := (roundUp (i.vol * 10) 9).toNat
    let t := i.tariff.toNat - 1
    if (vget md t).demand.toNat < d then
      vset md t
        { demand := BitVec.ofNat 48 (min d (2 ^ 48 - 1)), time := BitVec.ofNat 34 i.endTime, repeat_ := i.repeat_ }
    else md

/-- The TARIFF of the preceding interval record, or the interval's own where there is none. -/
def prevTariffOf (s : Vol) : Nat :=
  if s.ret.led.prevTariff = 0 then s.ret.led.interval.tariff.toNat else s.ret.led.prevTariff.toNat

/-- The gap of a restart with the ticks of the outage up to now, where there is one (R248, R608). -/
def restartTicks (s : Vol) : Nat :=
  if s.ret.flow.restartGap && s.ret.flow.booked && !s.work.loop.running then
    (s.bak.count - s.ret.flow.lastBooking).toNat
  else 0

/-- UNMETERED of the interval that closes, from the gaps that have ticks in it and cannot be filled any more (R320); a gap that is
not decided yet and can still be filled leaves it clear: DESIGN CHOICE, log entry 112. -/
def closeGaps (s : Vol) : Vol :=
  let n := restartTicks s
  let s := if n = 0 then s else
    match s.ret.flow.gapOpen, s.ret.flow.gaps.getLast? with
    | true, some g => markUnfilled { g with ticks := g.ticks + n, here := true } s
    | _, _ => markUnfilled { ticks := n, flow := s.ret.flow.inForce.map (·.q), here := true } s
  let s := s.ret.flow.gaps.foldl (fun s g => markUnfilled g s) s
  { s with ret.flow.gaps := s.ret.flow.gaps.map fun g => { g with here := false } }

/-- The open interval closes: its record is appended and its demand evaluated; a new maximum is stored (R310, R319). -/
def closeInterval (nv : Nv) (s : Vol) : Vol :=
  if !s.ret.led.interval.isOpen then s
  else
    let s := closeGaps s
    let i := s.ret.led.interval
    let md := evalDemand i s.ret.led.md
    let changed := md != s.ret.led.md
    let s := appendProfile (intervalRecord i (prevTariffOf s)) s
    let s := { s with
      ret.led.prevTariff := i.tariff
      ret.led.md := md
      ret.led.interval.isOpen := false }
    if changed then writeRec nv .state false s else s

/-- An interval opens at a calendar time (R319, R320, R332); a written price comes into force (R361). -/
def openInterval (ticks : Nat) (clockSet powerDown : Bool) (s : Vol) : Vol :=
  { s with
    ret.led.interval :=
      { (default : Interval) with
        isOpen := true
        timeUntrusted := s.bak.osf
        repeat_ := decide (ticks ≤ s.bak.hwm)
        powerDown
        clockSet
        tariff := s.ret.led.tariff.setWidth 4
        pscale := s.ret.led.pscale
        endTime := nextQuarter (ticks / 64)
        openedAt := s.bak.count }
    work.obj.prices := s.work.obj.pricesNew.getD s.work.obj.prices
    work.obj.pricesNew := none
    ret.pre.prices := (s.work.obj.pricesNew.getD s.work.obj.prices).price }

/-- An anchor is appended (R322). DEDUCED: log entry 23. -/
def appendAnchor (ticks kind : Nat) (untrusted clockSet : Bool) (s : Vol) : Vol :=
  appendProfile
    (anchorRecord (ticks / 64) (ticks % 64) untrusted (decide (ticks ≤ s.bak.hwm)) (kind == 4) clockSet kind) s

/-- The rings are written at an interval close (R384). -/
def writeRings (nv : Nv) (s : Vol) : Vol := writeRingB nv (writeRingA nv s)

/-! ### Billing closes (R327 to R333) -/

/-- The header of a snapshot (R330). -/
def snapshotHeader (ticks bounds index : Nat) (late step restart : Bool) : Nat :=
  pack [(34, ticks / 64), (16, min bounds 65535), (1, b2n late), (1, b2n step), (1, b2n restart), (3, 0), (8, index)]

/-- The 152 bytes of a snapshot (R330). -/
def snapshotBytes (s : Vol) (header latest : Nat) : Bytes :=
  let l := s.ret.led
  beBytes 8 header ++ beBytes 8 latest ++ beBytes 8 l.fwd.toNat ++ beBytes 8 l.net.toNat ++ beBytes 8 l.rev.toNat
    ++ (l.t.toList.flatMap fun x => beBytes 8 x.toNat) ++ beBytes 8 l.estF.toNat ++ beBytes 8 l.estR.toNat
    ++ l.md.toList.flatMap fun d => beBytes 16 (demandWord d)

/-- A billing close over `bounds` boundaries (R330): snapshot, demand registers to 0, the copy of HWM. -/
def billingClose (nv : Nv) (ticks bounds latest : Nat) (late step restart : Bool) (s : Vol) : Vol :=
  let n := s.ret.led.closes + 1
  let snap := snapshotBytes s (snapshotHeader ticks bounds n late step restart) latest
  let s := { s with
    ret.led.closes := n
    ret.led.snapshot := snap
    ret.led.snapshotHeld := true
    ret.led.md := Vector.replicate 4 default
    bak.hwm := max s.bak.hwm ticks }
  let s := submitAll (snapshotReqs s) s
  let s := writeRingB nv (writeRec nv .state false s)
  logM (if late then 0x0302 else 0x0301) (min bounds 255) s

/-- Boundaries above HWM and at or before a time, and the latest of them in seconds. -/
def boundsDue (s : Vol) (ticks : Nat) : Nat × Nat :=
  let day := s.work.obj.bday.toNat
  let hour := s.work.obj.bhour.toNat
  let (n, latest) := boundariesUpTo day hour ticks
  (n - (boundariesUpTo day hour s.bak.hwm).1, latest)

/-- The boundaries in (from, to] that lie at or below HWM: they are suppressed (R332). -/
def boundsPassed (s : Vol) (from_ to_ : Nat) : Nat :=
  let day := s.work.obj.bday.toNat
  let hour := s.work.obj.bhour.toNat
  (boundariesUpTo day hour (min to_ s.bak.hwm)).1 - (boundariesUpTo day hour from_).1

/-- HWM passes on to a processed time, and CLOCK_SET_BACK is over (R329, R332). -/
def advanceHwm (ticks : Nat) (s : Vol) : Vol :=
  if s.bak.hwm < ticks then
    let s' := { s with bak.hwm := ticks, ret.led.setBack := false }
    if s.ret.led.setBack then logM 0x0304 0xFF s' else s'
  else s

/-- The test and close of R329 while time is trusted, and the boundaries suppressed below HWM (R332). -/
def billingTest (nv : Nv) (before ticks : Nat) (late step restart : Bool) (s : Vol) : Vol :=
  let (n, latest) := boundsDue s ticks
  let s := logLimitedTimes .metrology 0x0305 0xFF 0xFF (boundsPassed s before ticks) s
  let s := if s.bak.hwm < ticks ∧ n ≠ 0 then
      let s := if s.ret.led.setBack then logM 0x0304 0xFF { s with ret.led.setBack := false } else s
      billingClose nv ticks n latest late step restart s
    else s
  advanceHwm ticks s

/-- Step 2 of R336: the tick is processed (R332), and where time is trusted the test and close of R329 are made; `before` is the calendar
time before the tick. -/
def billingStep (nv : Nv) (before ticks : Nat) (late step restart : Bool) (s : Vol) : Vol :=
  let s := { s with ret.led.seen := ticks }
  if s.bak.osf then s else billingTest nv before ticks late step restart s

/-! ### Tokens (R351, R354, R357) -/

/-- The effect of a token on CREDIT (R351): m x 10^e x 10 000 uCU (R345). -/
def amountOf (a : Nat) : Nat := a % 8192 * 10 ^ (a / 8192) * 10000

def tokenEffect (cls amount : Nat) : Int :=
  if cls = 0 then amountOf amount else if cls = 1 then -(amountOf amount : Int) else 0

/-- An accepted token acts on CREDIT; emergency credit disarms where it brings CREDIT from below 0 to 0 or
above (R357; DESIGN CHOICE, log entry 156). -/
def applyToken (t : Token) (s : Vol) : Vol :=
  let c := s.ret.pre.credit + ofInt 64 (tokenEffect t.cls t.amount.toNat)
  { s with
    ret.pre.credit := c
    ret.pre.emerg := s.ret.pre.emerg && !(decide (s.ret.pre.credit.toInt < 0) && decide (0 ≤ c.toInt))
    ret.pre.tokSeq := t.seq }

/-- A token whose tick has come: the first tick after its log write. -/
def tokenDue (s : Vol) (t : Token) : Bool := t.written && t.since != s.bak.count

/-- The tokens due at this tick act, after its booking (R354), but in RETIRED none does (R554); the booking of the tick: DEDUCED, log entry 113. -/
def applyTokens (nv : Nv) (s : Vol) : Vol :=
  let due := s.ret.pre.tokens.filter (tokenDue s)
  if due.isEmpty || retired s then s
  else
    let s := bookEvent s.bak.count s
    let s := due.foldl (init := s) fun s t => applyToken t s
    writeRingB nv { s with ret.pre.tokens := s.ret.pre.tokens.filter (!tokenDue s ·) }

/-! ### A quarter-hour (R336) -/

/-- The open interval has its end on this tick: a quarter-hour other than the tick on which it opened (R319). -/
def intervalDue (s : Vol) : Bool :=
  s.bak.cal.quarter && s.ret.led.interval.isOpen && s.ret.led.interval.openedAt != s.bak.count

/-- HWM takes the time of a trusted tick that closes no billing period (R328, R329); after CLOCK_SET_BACK, HWM_REGAINED does. -/
def hwmTakes (ticks : Nat) (s : Vol) : Vol :=
  if !s.bak.osf && !s.ret.led.setBack && decide (s.bak.hwm < ticks) && decide ((boundsDue s ticks).1 = 0) then
    { s with bak.hwm := ticks }
  else s

/-- A one-second span that no booking has taken to its end (R323): where it has ended, it counts for the interval in which its last tick
lies, or for none. -/
def closeSpan (now : Nat) (s : Vol) : Vol :=
  let last := s.ret.flow.lastBooking
  let n := (s.bak.count - last).toNat
  let r := 64 - last.toNat % 64
  if n < r then s
  else
    let i := s.ret.led.interval
    let peak := if decide (now + r ≤ 64 * i.endTime + n) then max i.peak (s.ret.led.span / 64) else i.peak
    { s with ret.led.interval.peak := peak, ret.led.span := 0 }

/-- A quarter-hour tick (R336): the booking, the tokens of the tick, step 1, step 2 where no boundary is to close, step 3. -/
def quarterTick (nv : Nv) (ticks : Nat) (count : BitVec 32) (s : Vol) : Vol :=
  let s := closeInterval nv (closeSpan ticks (applyTokens nv (bookEvent count s)))
  let s := if ticks / 64 % 86400 = 0 then appendAnchor ticks 1 s.bak.osf false s else s
  writeRings nv (takeTariff ticks (hwmTakes ticks (openInterval ticks false false s)))

/-! ### Steps, outages, trust -/

/-- A step commit (R331, R333): old and new calendar time, and whether OSF is cleared with it. -/
def ledgerStep (nv : Nv) (old new : Nat) (clears : Bool) (s : Vol) : Vol :=
  if noLedger s then (if clears then { s with bak.osf := false } else s)
  else
    let s := applyTokens nv (bookEvent s.bak.count s)
    let s := closeInterval nv (closeSpan old { s with ret.led.interval.clockSet := true })
    let s := appendAnchor old 2 s.bak.osf true s
    let s := if clears then { s with bak.osf := false } else s
    let s := appendAnchor new 3 s.bak.osf true s
    let s := openInterval new true false s
    let s := if new ≤ s.bak.hwm then logM 0x0303 0xFF { s with ret.led.setBack := true } else s
    let s := billingStep nv (min old new) new clears true false s
    writeRings nv (takeTariff new s)

/-- OSF is set on this tick: open intervals carry TIME_UNTRUSTED (R298, R333). -/
def ledgerOsf (s : Vol) : Vol :=
  if s.ret.led.interval.isOpen then { s with ret.led.interval.timeUntrusted := true } else s

/-- The end of the interval open before an outage is still in the future (R334). A calendar below its beginning has wrapped in
the outage (R287). -/
def stillOpen (now : Nat) (i : Interval) : Bool :=
  decide (now < 64 * i.endTime) && decide (64 * i.endTime ≤ now + 57600)

/-- The first tick after an outage (R334); `lost` after the loss of VBK, where the interval comes from ring B. The calendar has
run from the latest tick processed before it (R332), and tokens that are due act first (R354). -/
def outageTick (nv : Nv) (lost : Bool) (s : Vol) : Vol :=
  if noLedger s then s
  else
    let now := s.bak.cal.ticks
    let before := if lost then now else min s.ret.led.seen now
    let s := applyTokens nv s
    let i := s.ret.led.interval
    if i.isOpen && !lost && stillOpen now i then
      billingStep nv before now false false true
        { closeSpan now s with
          ret.led.interval.powerDown := true
          ret.led.interval.timeUntrusted := i.timeUntrusted || s.bak.osf }
    else
      let s := if i.isOpen then
          { closeSpan now s with
            ret.led.interval.powerDown := true
            ret.led.interval.timeUntrusted := i.timeUntrusted || lost }
        else s
      let s := appendAnchor now 4 s.bak.osf false (closeInterval nv s)
      let s := openInterval now false true s
      let s := billingStep nv before now false false true s
      writeRings nv (takeTariff now s)

/-- A calendar time in ticks as the registers of R286. -/
def calOfTicks (t : Nat) : Cal := { calOfSeconds (t / 64) with subsec := BitVec.ofNat 6 (t % 64) }

/-- The timekeeper as it stood on a held tick. -/
def atTick (t : HeldTick) (b : Bak) : Bak :=
  { b with cal := calOfTicks t.ticks, count := t.count, osf := t.osf, accepted := t.accepted, inFault := t.inFault }

/-- The steps of R336 of a held tick: the booking, step 1 and step 2. -/
def heldSteps (nv : Nv) (t : HeldTick) (s : Vol) : Vol :=
  let s := bookEvent t.count s
  let s := if t.osf then ledgerOsf s else s
  let s := if intervalDue s then quarterTick nv t.ticks t.count s else s
  billingStep nv (t.ticks - 1) t.ticks false false false s

/-- One held tick (R335), processed as it would have been on the tick itself. -/
def heldTick (nv : Nv) (t : HeldTick) (s : Vol) : Vol :=
  let b := s.bak
  let s := heldSteps nv t { s with bak := atTick t b }
  { s with
    bak.cal := b.cal
    bak.count := b.count
    bak.osf := b.osf
    bak.accepted := b.accepted
    bak.inFault := b.inFault }

/-- The held ticks are processed in order when CORE next runs (R335). -/
def processHeld (nv : Nv) (s : Vol) : Vol :=
  let l := s.bak.heldTicks
  let s := { s with bak.heldTicks := [] }
  if noLedger s then s else l.foldl (fun s t => heldTick nv t s) s

/-- A tick with a LEDGER event: a quarter-hour, or a boundary passed while time is trusted (R335). -/
def isEventTick (s : Vol) : Bool :=
  let t := s.bak.cal.ticks
  decide (t % 57600 = 0) || (!s.bak.osf && decide ((boundsDue s t).1 ≠ 0 ∨ boundsPassed s (t - 1) t ≠ 0))

/-- The present tick is held, once however many events fall on it. -/
def holdTick (s : Vol) : Vol :=
  let b := s.bak
  let t : HeldTick :=
    { ticks := b.cal.ticks, count := b.count, osf := b.osf, accepted := b.accepted, inFault := b.inFault }
  { s with bak.heldTicks := b.heldTicks.filter (·.count != b.count) ++ [t] }

/-- A commit is to be applied before this tick: the tick's events wait for it (R295). -/
def commitStands (s : Vol) : Bool := s.bak.stage.any fun g => g.committed && g.since != s.bak.count

/-- INTERVAL_END (R319, R336). -/
def execIntervalEnd (s : State) : Host.Outcome State Fault Refusal :=
  let v := s.vol
  if coreRuns v && !noLedger v && !commitStands v && intervalDue v then .next (s.up (quarterTick s.nv v.bak.cal.ticks v.bak.count v))
  else .next s

/-- Step 2 of R336 on a running CORE, after the tick's booking and its step 1. A boundary on a tick that has been processed is not
passed again. -/
def billingTick (nv : Nv) (s : Vol) : Vol :=
  let t := s.bak.cal.ticks
  let before := if s.ret.led.seen = t then t else t - 1
  let s := bookEvent s.bak.count s
  billingStep nv before t false false false (if intervalDue s then quarterTick nv t s.bak.count s else s)

/-- BILLING_BOUNDARY (R329). -/
def execBillingBoundary (s : State) : Host.Outcome State Fault Refusal :=
  let v := s.vol
  if coreRuns v && !noLedger v && !commitStands v && !v.bak.osf then .next (s.up (billingTick s.nv v)) else .next s

/-- HWM_REGAINED (R332): the calendar passes HWM after CLOCK_SET_BACK. -/
def execHwmRegained (s : State) : Host.Outcome State Fault Refusal :=
  let v := s.vol
  let t := v.bak.cal.ticks
  if coreRuns v && !noLedger v && !commitStands v && !v.bak.osf && v.ret.led.setBack && (boundsDue v t).1 == 0 then
    .next (s.up (advanceHwm t v))
  else .next s

/-- Whether the tariff inputs are sampled (R313). -/
def tariffSampled (s : Vol) : Bool :=
  [1, 2, 5, 6].contains (th s 5) && [PState.sleep, .doze, .measure].contains s.bak.power.state

/-- TARIFF_ACCEPTED (R313, R314): 128 equal valid samples. Another combination than the one accepted before is a change, which wakes
the device (R529). -/
def acceptTariff (low0 low1 : Bool) (s : Vol) : Vol :=
  if !tariffSampled s then s
  else
    let fault := s.bak.inFault
    let levels := some (low0, low1 && (th s 5 == 2 || th s 5 == 6))
    let s := { s with
      bak.accepted := levels
      bak.inFault := 0
      bak.tariffAt := if s.bak.accepted == levels then s.bak.tariffAt else some s.bak.count }
    if fault = 0 then s else logG 0x0307 0xFF s

def execTariffAccepted (low0 low1 : Bool) (s : State) : Host.Outcome State Fault Refusal :=
  .next (s.up (acceptTariff low0 low1 s.vol))

/-- TARIFF_INPUT_FAULT (R314): 128 invalid samples of an input in use. -/
def faultTariff (input : Fin 2) (s : Vol) : Vol :=
  let used := input = 0 ∨ th s 5 = 2 ∨ th s 5 = 6
  if !tariffSampled s ∨ ¬ used ∨ s.bak.inFault.getLsbD input.val then s
  else
    limG 0x0306 0xFF input.val
      { s with bak.inFault := s.bak.inFault ||| BitVec.ofNat 2 (2 ^ input.val) }

def execTariffInputFault (input : Fin 2) (s : State) : Host.Outcome State Fault Refusal :=
  .next (s.up (faultTariff input s.vol))

end Sys2Proof.Machine
end

