-- ==== Sys2Proof/Machine/Timekeeper.lean ====
section
/-! DEFINITION. The timekeeper (R282 to R307): the tick, temperature compensation, OSF, the clock's stage and commit,
slews and steps, PWRON; and the change of the LF source (R57). -/

namespace Sys2Proof.Machine

/-! ### PWRON (R302) -/

def pwronEval (b : Bak) : Bool :=
  let ws := b.pwron.windows
  if ws.all (·.enable == 0) then false
  else if b.osf then
    if b.pwron.untrust = 1 then true else if b.pwron.untrust = 2 then false else inAnyWindow b.cal ws
  else inAnyWindow b.cal ws

/-- PWRON takes the level of the schedule, as it does where MIN advances, at a step commit and where OSF changes; in OFF and on a
secondary it is low (R302, R575). -/
def setPwron (s : Vol) : Vol :=
  { s with
    bak.pwronTick := true
    bak.pwronLevel := pwronEval s.bak && s.bak.power.state != .off && !isSecondary s }

/-! ### OSF (R297, R298) -/

/-- The LEDGER is told of a change of OSF: at its tick while CORE runs, from a held tick in SLEEP (R298, R335), and in an outage
by the open interval alone (DEDUCED, log entry 152). -/
def tellOsf (s : Vol) : Vol :=
  if noLedger s then s
  else if coreRuns s then ledgerOsf (bookEvent s.bak.count s)
  else if s.bak.power.state == .sleep then holdTick s
  else ledgerOsf s

/-- OSF is set with its cause, the LEDGER is told, and PWRON follows. -/
def setOsf (cause : Nat) (s : Vol) : Vol :=
  let s := tellOsf { s with bak.osf := true, bak.osfCause := BitVec.ofNat 4 cause }
  setPwron (logM 0x0201 cause s)

/-! ### The tick (R282, R287, R294) -/

/-- The calendar's next tick under a slew: the calendar, the ticks of D left, whether SUBSEC 32 was held, a wrap. -/
def slewTick (c : Cal) (left : Int) (held : Bool) : Cal × Int × Bool × Bool :=
  if 0 < left ∧ c.subsec = 31 then ({ c with subsec := 33 }, left - 1, false, false)
  else if left < 0 ∧ c.subsec = 32 ∧ !held then (c, left + 1, true, false)
  else
    let (c, wrap) := c.nextTick
    (c, left, false, wrap)

/-- The LEDGER runs, on each tick or from the held ticks (R334, R335); a tick on which a commit stands is left to the commit
(R295). -/
def ledgerRuns (s : Vol) : Bool :=
  [PState.sleep, .doze, .measure].contains s.bak.power.state && !retired s && s.bak.heldTicks.isEmpty && !commitStands s

/-- The tick that ends has been processed (R328, R332). -/
def endTick (s : Vol) : Vol :=
  if ledgerRuns s then
    let t := s.bak.cal.ticks
    hwmTakes t { s with ret.led.seen := t }
  else s

/-- A tick without an event of the LEDGER is processed at once. -/
def plainTick (s : Vol) : Vol :=
  if ledgerRuns s && !isEventTick s then hwmTakes s.bak.cal.ticks s else s

/-- LF periods of the crystal in one tick of 512 counts: an added period counts as one of them, so that the tick of a slow crystal
is a period shorter; an accumulator spreads them (R282, R284). DEDUCED: log entry 114. -/
def lfTick (b : Bak) : Bak :=
  let acc := b.tcAcc + b.tcorr
  if 8192 ≤ acc then { b with tcAcc := acc - 8192, lfPeriods := b.lfPeriods + 511, tcAdded := b.tcAdded + 1 }
  else if acc ≤ -8192 then { b with tcAcc := acc + 8192, lfPeriods := b.lfPeriods + 513, tcAdded := b.tcAdded - 1 }
  else { b with tcAcc := acc, lfPeriods := b.lfPeriods + 512 }

/-- A tick while CORE is stopped waits in its channel; the count tells CORE the time at its restart (R67, R70). -/
def fabTick (f : Fabric) : Fabric :=
  let (c, refused) := f.tick.raise
  { f with tick := c, toggleOvf := if refused then satInc f.toggleOvf else f.toggleOvf }

/-- A tick of the free-running count on which the STORE scrubs a page (R390). -/
def scrubTick (count : BitVec 32) : Bool := decide (count.toNat % 20224 = 0)

/-- One LF tick. In OFF nothing runs. -/
def tickAdvance (s : Vol) : Vol :=
  if s.bak.power.state == .off then s
  else
    let s := takeNext (endTick s)
    let (c, left, held, wrap) := slewTick s.bak.cal s.bak.slewLeft s.bak.slewHeld
    let minute := c.min != s.bak.cal.min
    let b := { lfTick s.bak with pwronTick := false, power := { s.bak.power with entering := false } }
    let s := { s with
      bak := { b with count := b.count + 1, cal := c, slewLeft := left, slewHeld := held, secTick := c.sec != b.cal.sec }
      work.fab := if coreRuns s then { s.work.fab with tick := default } else fabTick s.work.fab
      work.store.scrubDue := s.work.store.scrubDue || scrubTick (b.count + 1)
      ret.avail.elapsed := if availRuns s then satInc s.ret.avail.elapsed else s.ret.avail.elapsed }
    let s := if wrap then setOsf 4 (logM 0x0208 0xFF s) else s
    plainTick (if minute then setPwron s else s)

/-- The calendar stands at its last tick (R287). -/
def atWrap (c : Cal) : Bool := c.nextTick.2

/-- PWRON_EVALUATE (R302): on a tick that calls for it. -/
def execPwronEvaluate (s : State) : Host.Outcome State Fault Refusal :=
  if s.vol.bak.pwronTick then .next (s.up (setPwron s.vol)) else .next s

/-! ### The LF source (R57, R611) -/

/-- LF_STANDIN: the crystal misses 4 periods. -/
def lfStandin (s : Vol) : Vol :=
  if s.bak.power.lfStandin || s.bak.power.state == .off then s
  else setOsf 2 (logG 0x0205 0xFF { s with bak.power.lfStandin := true })

/-- The plausibility check of R57: CORE periods while CORE runs on its crystal, otherwise stand-in periods. -/
def lfPlausible (s : Vol) (measured : Nat) : Bool :=
  if coreRuns s && !onRc s then decide (999800 ≤ measured ∧ measured ≤ 1000200)
  else decide (94 * 4096 ≤ 100 * measured ∧ 100 * measured ≤ 106 * 4096)

/-- LF_RESTORED: the crystal has run 4 096 periods, of the measured length. -/
def lfRestored (measured : Nat) (s : Vol) : Vol :=
  if s.bak.power.lfStandin && lfPlausible s measured then
    let cold := s.bak.power.coldStandin
    let s := { s with bak.power.lfStandin := false, bak.power.coldStandin := false }
    if cold then s else logG 0x0206 0xFF s
  else s

def execLfRestored (measured : Nat) (s : State) : Host.Outcome State Fault Refusal :=
  .next (s.up (lfRestored measured s.vol))

/-! ### Temperature compensation (R283 to R285). Readings are in 0.01 C (DESIGN CHOICE, log entry 13). -/

/-- TCORR of a reading (R284). -/
def tcorrOf (c : Curve) (r : Int) : Int :=
  let e := fun (i : Int) => lget c.e i.toNat
  let x :=
    if r < -4000 then e 0
    else if 8600 ≤ r then e 63
    else
      let i := (r + 4000) / 200
      e i + roundAway ((e (i + 1) - e i) * (r + 4000 - 200 * i)) 200
  clampInt (-2047) 2047 (c.offset + x)

/-- A temperature in units of 0.25 C. -/
def quarterDegree (r : Int) : Int := roundAway r 25

/-- The interval since the latest reading has passed: 64 s, or 16 s with TFAST (R283). -/
def readingDue (b : Bak) : Bool :=
  match b.tempTick with
  | some t => decide ((if b.tfast then 1024 else 4096) ≤ (b.count - t).toNat)
  | none => true

/-- An accepted or discarded reading of the die temperature (R283). A reading is compared with the latest accepted one, and a
discarded reading leaves the run of calm readings as it is: DESIGN CHOICE, log entry 115. -/
def tempRead (r : Int) (s : Vol) : Vol :=
  let s := { s with bak.tempTick := some s.bak.count }
  let b := s.bak
  if r < -5500 ∨ 13000 < r then
    let s := { s with bak.tDiscards := b.tDiscards + 1 }
    if 3 ≤ b.tDiscards ∧ !b.tfault then
      limG 0x0207 0xFF 0xFF { s with bak.tfault := true }
    else s
  else
    let diff := (r - b.lastReading.getD r).natAbs
    let calm := if diff < 50 then b.tCalm + 1 else 0
    let fast := if 100 ≤ diff then true else b.tfast && decide (calm < 8)
    { s with
      bak.tempDie := ofInt 12 (quarterDegree r)
      bak.lastReading := some r
      bak.tDiscards := 0
      bak.tfault := false
      bak.tCalm := min calm 8
      bak.tfast := fast }

/-- The 4 194 304 LF periods of the window have been counted (R284). -/
def windowOver (b : Bak) : Bool := decide (4194304 ≤ (b.lfPeriods : Int) + b.tcAdded)

/-- TCORR_WINDOW (R284): the next 128 s window begins with the correction of the latest reading; TFAULT holds the
correction in force. -/
def tcorrWindow (s : Vol) : Vol :=
  let b := s.bak
  if !windowOver b then s
  else
    let tc := match b.lastReading with
      | some r => if b.tfault then b.tcorr else tcorrOf b.curve r
      | none => b.tcorr
    { s with bak.tcorr := tc, bak.tcAcc := 0, bak.lfPeriods := 0, bak.tcAdded := 0 }

def execTcorrWindow (s : State) : Host.Outcome State Fault Refusal := .next (s.up (tcorrWindow s.vol))

/-! ### Commit (R293 to R297, R305) -/

/-- D of a committed stage, in ticks (R293). -/
def commitDiff (s : Vol) (g : Stage) : Int := (g.time.ticks : Int) - s.bak.cal.ticks

/-- The boundary refuses a HOST commit (R305). -/
def commitRefused (s : Vol) (g : Stage) : Bool :=
  g.role == .host && (s.bak.osf || decide (512 < (commitDiff s g).natAbs))

/-- The calendar steps: the LEDGER is given both times, and PWRON is evaluated. -/
def stepClock (nv : Nv) (c : Cal) (clears : Bool) (s : Vol) : Vol :=
  let old := s.bak.cal.ticks
  let s := { s with bak.cal := { c with subsec := 0 }, bak.slewLeft := 0, bak.slewHeld := false, bak.secTick := true }
  let s := logM 0x0203 (if s.bak.cal.ticks < old then 1 else 0) s
  let was := s.bak.osf
  let s := ledgerStep nv old s.bak.cal.ticks (clears && was) s
  let s := if clears && was then logM 0x0202 0xFF s else s
  setPwron s

/-- The stage is applied at the tick boundary. -/
def applyStage (nv : Nv) (g : Stage) (s : Vol) : Vol :=
  let s := { s with bak.stage := none }
  if commitRefused s g then s
  else
    let d := commitDiff s g
    if !s.bak.osf && decide (d.natAbs ≤ 512) then
      let s := { s with bak.slewLeft := d, bak.slewHeld := false }
      if d = 0 then s else logG 0x0204 (if d < 0 then 1 else 0) s
    else stepClock nv g.time (g.role == .operator) s

end Sys2Proof.Machine
end

