-- ==== Sys2Proof/Machine/FrontEnd.lean ====
section
/-! DEFINITION. The acoustic front end (R72 to R99, R110 to R119, R132): ports and sets, rounds, windows, gates and arming.
Times are in T from the FINE epoch of the round; VDRV is in mV. -/

namespace Sys2Proof.Machine

/-! ### Ports and sets (R72, R77, R111) -/

/-- Upstream and downstream port of path p (R72). -/
def upPort (p : Nat) : Fin 16 := Fin.ofNat 16 (2 * p - 2)
def downPort (p : Nat) : Fin 16 := Fin.ofNat 16 (2 * p - 1)

/-- The port of level channel n (R72). -/
def levelPort (n : Nat) : Fin 16 := Fin.ofNat 16 (n - 1)

/-- The sets and ports of slot j (R77, R111): electronics set, port. -/
def slotSets (slots : List SlotUse) (swapped : Bool) (j : Nat) : List (Nat × Fin 16) :=
  let mixed := match slots with
    | .path _ :: _ => true
    | _ => false
  match slots[j]? with
  | some (.path p) =>
    if swapped then [(2 * j + 1, upPort p), (2 * j, downPort p)] else [(2 * j, upPort p), (2 * j + 1, downPort p)]
  | some (.level n) => [(if mixed then 1 + j else j, levelPort n)]
  | none => []

/-- The slot that set k serves in the round. -/
def setSlot (slots : List SlotUse) (k : Nat) : Option Nat :=
  (List.range slots.length).find? fun j => (slotSets slots false j).any (·.1 == k)

/-- The PGA code of a slot (R81, R96). -/
def slotCode (s : Vol) (u : SlotUse) : Nat :=
  let g := fun (p : Fin 16) => vget s.ret.flow.pga p.val
  match u with
  | .path p => min (g (upPort p)) (g (downPort p))
  | .level n => g (levelPort n)

/-! ### Rounds (R99, R110, R111) -/

def setClear : ESet := { (default : ESet) with gated := false }

/-- KIND of the loop-back that the cycle in progress runs, 0 in a normal cycle (R104). -/
def loopKind (s : Vol) : Nat :=
  if s.work.cyc.kind == .loopback then s.work.loop.inForce.toNat / 2 ^ 28 else 0

/-- PORT, the amplitude of LEVEL in mV and DELAY in T of the loop-back in force (R104). -/
def acousticPort (s : Vol) : Nat := s.work.loop.inForce.toNat / 2 ^ 24 % 16
def loopLevel (s : Vol) : Nat := [1, 10, 100, 200].getD (s.work.loop.inForce.toNat / 2 ^ 22 % 4) 1
def loopDelay (s : Vol) : Nat := s.work.loop.inForce.toNat % 2 ^ 16 * 128

/-- Slot j holds the path whose end is the PORT of a cross-point loop (R105). -/
def crossLoopSlot (s : Vol) (slots : List SlotUse) (j : Nat) : Bool :=
  loopKind s == 3 && (slotSets slots s.work.cyc.swapped j).any (·.2.val == acousticPort s)

/-- A set joined to a port for a round, its PGA code and its burst loaded (R82, R99, step 1). In a loop-back the injector
fires no driver and feeds the set of PORT; a cross-point loop fires the driver of PORT alone into the other set of its
path, and both TP pins are apart (R105). -/
def joinSet (s : Vol) (slots : List SlotUse) (port : Fin 16) (slot pga vdrv : Nat) : ESet :=
  let kind := loopKind s
  let cross := crossLoopSlot s slots slot
  let here := port.val == acousticPort s
  { setClear with
    port := some port
    slot
    pga
    apart := cross
    fires := kind == 0 || (cross && here)
    high := driveQuarters (th s 2) * vdrv
    burst := burstHalves (burstCycles (th s 2)) (s.work.obj.calib.phaseRev == 1)
    feed :=
      if kind == 1 && here then some (.injector (loopLevel s) (loopDelay s))
      else if cross && !here then some (.loop (loopDelay s))
      else none }

/-- VDRV is too low for a round (R87). DESIGN CHOICE: log entry 10. -/
def vdrvLow (vdrv : Nat) : Bool := decide (vdrv < 2800)

/-- VDRV_LOW (R108). -/
def logVdrv (s : Vol) : Vol := limM 0x0110 0xFF 0xFF s

/-- Round `ix` of the cycle begins (R99, R112): the cross-point is set, codes are loaded, VDRV is sampled. A port that
is joined to a set that fires uses its code (R98). The quiet window follows, with the receive switches of the sets in use closed
(R91). -/
def roundStart (ix vdrv : Nat) (s : Vol) : Vol :=
  let slots := (roundsOf (th s 0)).getD ix []
  let low := vdrvLow vdrv
  let sets := Vector.ofFn fun (k : Fin 4) =>
    match setSlot slots k.val with
    | none => setClear
    | some j =>
      match (slotSets slots s.work.cyc.swapped j).find? (·.1 == k.val) with
      | some (_, port) => { joinSet s slots port j (slotCode s (slots.getD j (.path 1))) vdrv with listening := true }
      | none => setClear
  let s := { s with
    work.fe.sets := sets
    work.fe.round :=
      { running := true, index := ix, slots, shots := 0, windows := 0, gap := low, unfired := low, lostLock := false,
        settling := false, waiting := none, vdrv } }
  if low then logVdrv s else s

/-- Sets of the round that serve a slot for which f holds. -/
def modSets (f : Nat → Bool) (g : ESet → ESet) (s : Vol) : Vol :=
  { s with
    work.fe.sets := s.work.fe.sets.map fun e => if e.port.isSome && f e.slot then g e else e }

/-- The sets of slot j begin their bursts (R99, step 3). -/
def fireSlot (j : Nat) (s : Vol) : Vol :=
  modSets (fun i => i == j) (fun e => if e.fires then { e with drive := .burst } else e) s

/-- The port belongs to a path or a level channel of the plan (R72). -/
def portUsed (s : Vol) (p : Fin 16) : Bool :=
  (roundsOf (th s 0)).flatten.any fun u =>
    match u with
    | .path k => p == upPort k || p == downPort k
    | .level n => p == levelPort n

/-- What holds a TP pin (R74, R82, R85, R105). -/
def pinHold (s : Vol) (p : Fin 16) : PinHold :=
  if !portUsed s p then .gnd
  else match s.work.fe.sets.toList.find? (·.port == some p) with
    | none => .rest
    | some e =>
      if e.apart then .open_
      else match e.drive with
        | .off => if e.listening then .receives else .rest
        | .burst => .driven
        | .damping => .damped
        | .released => .receives

/-! ### The coarse counter (R136) -/

/-- The free-running counter has reached t, in T. -/
def clockTo (t : Nat) (s : Vol) : Vol := { s with work.te.coarse := max s.work.te.coarse t }

/-! ### Windows (R117, R119, R132) -/

/-- tRING in force in microseconds (R100). -/
def tring (s : Vol) : Nat := s.work.obj.calib.tring.toNat

def roundSlots (s : Vol) : Nat := s.work.fe.round.slots.length

/-- The full window of slot j, in T after its shot (R117). -/
def fullWindow (s : Vol) (j : Nat) : Nat × Nat :=
  (windowOpen (th s 1) (th s 2) (tring s) (roundSlots s) j, tofMaxUs (th s 3) * 512)

/-- The search window of a port in slot j, in T after the slot's shot (R117, R119, R132). DESIGN CHOICE: a narrowed limit that
is no whole T is rounded into the window, log entry 101. -/
def searchWindow (s : Vol) (port : Fin 16) (j : Nat) : Nat × Nat :=
  let (o, c) := fullWindow s j
  if eaveOn s then (max o s.work.obj.calib.eaveOpen.toNat, min c s.work.obj.calib.eaveClose.toNat)
  else
    let t := vget s.work.ports port.val
    if t.locked then
      let lo := max o (ceilDiv (3 * t.tracked) (4 * 65536))
      let hi := min c (5 * t.tracked / (4 * 65536))
      if hi ≤ o then (o, c) else (lo, hi)
    else (o, c)

/-- A time in T from the epoch as a time after the shot of slot j (R110, R138). -/
def slotTime (s : Vol) (j t : Nat) : Int := (t : Int) - j * staggerT (th s 1) (th s 2)

/-- The end of the search window of a set, in T from the epoch. -/
def windowEnd (s : Vol) (e : ESet) : Nat :=
  match e.port with
  | some p => e.slot * staggerT (th s 1) (th s 2) + (searchWindow s p e.slot).2
  | none => 0

/-! ### Noise floor and arming (R91, R92, R173) -/

/-- The mean of the 32 samples of the quiet window, rounded to a whole code (R91). -/
def floorOf (q : Vector (BitVec 10) 32) : Nat := (roundUp ((q.toList.map (·.toNat)).sum : Nat) 32).toNat

/-- The floor as used (R173). -/
def floorUsed (e : ESet) : Nat := max 4 e.floor

/-- Sixteen band periods in T (R92). -/
def confirmT (s : Vol) : Nat := 32 * halfPeriod (th s 1)

def eset (s : Vol) (k : Nat) : ESet := vget s.work.fe.sets k

def setEset (k : Nat) (e : ESet) (s : Vol) : Vol := { s with work.fe.sets := vset s.work.fe.sets k e }

def setLane (k : Nat) (l : Lane) (s : Vol) : Vol := { s with work.te.lanes := vset s.work.te.lanes k l }

def lane (s : Vol) (k : Nat) : Lane := vget s.work.te.lanes k

/-- A round is under way with its shots fired. -/
def roundFires (s : Vol) : Bool := s.work.fe.round.running && !s.work.fe.round.unfired

/-- A lane of the round at its epoch: every cell has been free equally long (R137, R141). -/
def laneAtShot (coarse : Nat) (l : Lane) : Lane :=
  { l with
    epoch := coarse
    tentative := 0
    lastStart := none
    loss := Vector.replicate 16 default
    wraps := 0
    cells := l.cells.map fun c => { c with job := none, freeSince := 0 } }

/-- The quiet window has ended and slot 0 is shot: the FINE epoch opens on all acoustic lanes (R91, R99, R137). The counter
never runs back (R136), and the start-up calibration has ended (R146). -/
def shot (coarse : Nat) (quiet : Vector (Vector (BitVec 10) 32) 4) (s : Vol) : Vol :=
  let r := s.work.fe.round
  if !r.running || r.shots != 0 || r.settling || !s.work.te.calibrated || decide (coarse < s.work.te.coarse) then s
  else
    let sets := Vector.ofFn fun (k : Fin 4) =>
      let e := eset s k.val
      if e.port.isSome then { e with floor := floorOf (vget quiet k.val), listening := false } else e
    let lanes := Vector.ofFn fun (k : Fin 6) =>
      if k.val < 4 then laneAtShot coarse (lane s k.val) else lane s k.val
    let s := clockTo coarse { s with
      work.fe.sets := sets
      work.te.lanes := lanes
      work.fe.round.shots := 1 }
    if r.unfired then s else fireSlot 0 s

/-- SHOT (R99, step 3). -/
def execShot (coarse : Nat) (quiet : Vector (Vector (BitVec 10) 32) 4) (s : State) : Host.Outcome State Fault Refusal :=
  .next (s.up (shot coarse quiet s.vol))

/-- SLOT_SHOT (R110, R113): slot j fires; every set of an earlier slot is gated. -/
def slotShot (j : Nat) (s : Vol) : Vol :=
  let r := s.work.fe.round
  if !r.running || r.shots != j || j = 0 || r.slots.length ≤ j then s
  else
    let s := { s with work.fe.round.shots := j + 1 }
    if r.unfired then s else fireSlot j (modSets (fun i => decide (i < j)) (fun e => { e with gated := true }) s)

def execSlotShot (slot : Fin 4) (s : State) : Host.Outcome State Fault Refusal := .next (s.up (slotShot slot.val s.vol))

/-- COMPARATOR_GATE_END (R94, R113): 1 us after the last edge of slot j's burst. -/
def gateEnd (j : Nat) (s : Vol) : Vol :=
  if s.work.fe.round.shots = j + 1 then
    modSets (fun i => decide (i < j)) (fun e => { e with gated := false }) s
  else s

def execComparatorGateEnd (slot : Fin 4) (s : State) : Host.Outcome State Fault Refusal :=
  .next (s.up (gateEnd slot.val s.vol))

/-- BURST_END (R85, R87, R99, step 4): the drivers of the slot damp their ports; after the last burst of the round VDRV is
sampled again. -/
def burstEnd (j vdrv : Nat) (s : Vol) : Vol :=
  let r := s.work.fe.round
  let s := if r.running && !r.unfired then
      modSets (fun i => i == j) (fun e => if e.drive == .burst then { e with drive := .damping } else e) s
    else s
  if r.running && !r.unfired && decide (r.shots = j + 1 ∧ j + 1 = r.slots.length) && vdrvLow vdrv then
    let s' := { s with work.fe.round.gap := true }
    logVdrv s'
  else s

def execBurstEnd (slot : Fin 4) (vdrv : Nat) (s : State) : Host.Outcome State Fault Refusal :=
  .next (s.up (burstEnd slot.val vdrv s.vol))

/-- DRIVER_LIMIT (R86). -/
def execDriverLimit (port : Fin 16) (s : State) : Host.Outcome State Fault Refusal :=
  if roundFires s.vol && s.vol.work.fe.sets.toList.any (fun e => e.port == some port && e.drive == .burst) then
    .next (s.up (limM 0x0111 port.val port.val s.vol))
  else .next s

/-- BLANKING_END (R85, R99, step 5): the drivers of the slot release their ports and its receive switches close; none is
closed in the settle (R115). -/
def blankingEnd (j : Nat) (s : Vol) : Vol :=
  if roundFires s && !s.work.fe.round.settling && decide (j < s.work.fe.round.shots) then
    modSets (fun i => i == j) (fun e =>
      { e with listening := true, drive := if e.fires then .released else e.drive }) s
  else s

def execBlankingEnd (slot : Fin 4) (s : State) : Host.Outcome State Fault Refusal :=
  .next (s.up (blankingEnd slot.val s.vol))

/-! ### Arming (R92, R158) -/

/-- COMPARATOR_ARMED: the first sample above three times the floor at or after the opening of the search window. -/
def arm (k t : Nat) (code : BitVec 10) (s : Vol) : Vol :=
  let e := eset s k
  match e.port with
  | none => s
  | some p =>
    let (o, _) := searchWindow s p e.slot
    if roundFires s && e.listening && decide (e.slot < s.work.fe.round.shots) && !e.closed && e.armedAt.isNone && e.endedAt.isNone
        && decide ((o : Int) ≤ slotTime s e.slot t ∧ t ≤ windowEnd s e ∧ 3 * floorUsed e < code.toNat) then
      let l := lane s k
      setLane k { l with lossAtArm := vget l.loss p.val, gutterAtArm := l.gutter, tentative := 0 }
        (setEset k { e with armedAt := some t, crossings := 0 } s)
    else s

def execComparatorArmed (set : Fin 4) (t : Nat) (code : BitVec 10) (s : State) : Host.Outcome State Fault Refusal :=
  .next (s.up (arm set.val t code s.vol))

/-- ARMING_CONFIRMED: six times the floor within sixteen band periods and before the window of the reception ends (R117); the
tentative words cross (R158). -/
def confirm (k t : Nat) (code : BitVec 10) (s : Vol) : Vol :=
  let e := eset s k
  match e.armedAt with
  | none => s
  | some a =>
    if !e.confirmed && !e.closed
        && decide (a ≤ t ∧ t ≤ windowEnd s e ∧ t - a ≤ confirmT s ∧ 6 * floorUsed e ≤ code.toNat) then
      setLane k { lane s k with tentative := 0 } (setEset k { e with confirmed := true } s)
    else s

def execArmingConfirmed (set : Fin 4) (t : Nat) (code : BitVec 10) (s : State) : Host.Outcome State Fault Refusal :=
  .next (s.up (confirm set.val t code s.vol))

/-- The lane drops the words of an arming, a close word among them (R158): its write pointer rewinds, and the losses are
cancelled. -/
def rewindLane (port : Nat) (l : Lane) : Lane :=
  { l with
    queue := l.queue.take (l.queue.length - l.tentative)
    tentative := 0
    gutter := l.gutterAtArm
    loss := vset l.loss port l.lossAtArm
    cells := l.cells.map fun c => { c with job := c.job.map fun j => { j with armed := false } } }

/-- The arming of a set is withdrawn. -/
def withdraw (k : Nat) (s : Vol) : Vol :=
  let e := eset s k
  match e.port with
  | some p =>
    setLane k (rewindLane p.val (lane s k))
      (setEset k { e with armedAt := none, confirmed := false, crossings := 0, endedAt := none, closeWritten := false } s)
  | none => s

/-- ARMING_WITHDRAWN: the envelope has not reached six times the floor within sixteen band periods of arming. -/
def withdrawn (k t : Nat) (s : Vol) : Vol :=
  let e := eset s k
  match e.armedAt with
  | some a => if !e.confirmed && !e.closed && decide (a + confirmT s ≤ t) then withdraw k s else s
  | none => s

def execArmingWithdrawn (set : Fin 4) (t : Nat) (s : State) : Host.Outcome State Fault Refusal :=
  .next (s.up (withdrawn set.val t s.vol))

end Sys2Proof.Machine
end

