-- ==== Sys2Proof/Machine/Stream.lean ====
section
/-! DEFINITION. The LINK stream (R160, R443 to R445): the records that the device forms for the host, and raw blocks. -/

namespace Sys2Proof.Machine

/-- A LINK record (R443). -/
def linkRecord (type : Nat) (body : Bytes) : Bytes :=
  BitVec.ofNat 8 type :: beBytes 2 body.length ++ body

/-- A kind of STREAM is selected and the port is there (R444, R451). -/
def streams (s : Vol) (bit : Nat) : Bool := portInSet s .link && s.work.pt.stream.toNat / 2 ^ bit % 2 == 1

def bytesOf (l : List Bytes) : Nat := (l.map (·.length)).sum

/-- A stream record of types 0x03 to 0x06 enters its 4 KiB buffer, or is left out whole (R444). -/
def streamPut (bit type : Nat) (body : Bytes) (s : Vol) : Vol :=
  if !streams s bit then s
  else
    let r := linkRecord type body
    if bytesOf s.work.pt.link.stream + r.length ≤ 4096 then
      { s with work.pt.link.stream := s.work.pt.link.stream ++ [r] }
    else { s with work.pt.recordDrop := satInc s.work.pt.recordDrop }

/-- A reception record (TYPE 0x03). -/
def streamRx (x : RxRec) (s : Vol) : Vol :=
  streamPut 1 3 (beBytes 2 s.work.cyc.count.toNat ++ beBytes 16 (rxWord x)) s

/-- The path results of a cycle (TYPE 0x04). -/
def streamPaths (js : List Nat) (s : Vol) : Vol :=
  js.foldl (init := s) fun s j =>
    streamPut 2 4 (beBytes 1 j ++ beBytes 16 (pathWord s j) ++ beBytes 8 (if j ≤ 8 then offsetWord s j else 0)) s

/-- The flow rate record of a cycle (TYPE 0x05). -/
def streamFlow (s : Vol) : Vol :=
  streamPut 3 5 (beBytes 8 (flowWord s.work.flow) ++ beBytes 2 s.work.cyc.count.toNat) s

/-- The level records of a cycle (TYPE 0x06). -/
def streamLevels (ns : List Nat) (s : Vol) : Vol :=
  ns.foldl (init := s) fun s n => streamPut 4 6 (beBytes 1 n ++ beBytes 16 (levelWord s n)) s

/-- A raw block (TYPE 0x02) enters the buffer of 2 048 words, or is left out whole (R160). -/
def streamBlock (lane round cycle : Nat) (words : List StampWord) (s : Vol) : Vol :=
  if !streams s 0 || words.isEmpty then s
  else if s.work.streamWords + words.length ≤ 2048 then
    let body := beBytes 1 lane ++ beBytes 1 round ++ beBytes 2 cycle ++ words.flatMap fun w => beBytes 6 w.toNat
    { s with
      work.streamWords := s.work.streamWords + words.length
      work.pt.link.raw := s.work.pt.link.raw ++ [linkRecord 2 body] }
  else { s with work.pt.streamDrop := satInc s.work.pt.streamDrop }

/-- LALERT (R445). -/
def lalert (s : Vol) : Bool :=
  let l := s.work.pt.link
  !(l.symbols.isEmpty && l.graoc.isEmpty && l.stream.isEmpty && l.raw.isEmpty)

end Sys2Proof.Machine
end

