-- ==== Sys2Proof/Machine/Timing.lean ====
section
/-! DEFINITION. The timing engine (R136 to R166): cells, stamps, calibration, queues, the gutter. Times of edges are in TOF
units of the coarse counter; coefficients are in 1/16 ADC code. -/

namespace Sys2Proof.Machine

/-! ### Words (R151, R152) -/

def stampWord (source gap cal edge ovr coarse fine : Nat) : StampWord :=
  BitVec.ofNat 48 (pack [(4, source), (1, gap), (1, cal), (1, edge), (1, ovr), (28, coarse), (12, fine)])

def wordSource (w : StampWord) : Nat := w.toNat / 2 ^ 44
def wordGap (w : StampWord) : Bool := w.getLsbD 43
def wordCal (w : StampWord) : Bool := w.getLsbD 42
def wordEdge (w : StampWord) : Bool := w.getLsbD 41
def wordOvr (w : StampWord) : Bool := w.getLsbD 40
def wordCoarse (w : StampWord) : Nat := w.toNat / 4096 % 2 ^ 28
def wordFine (w : StampWord) : Nat := w.toNat % 4096

def isData (w : StampWord) : Bool := !wordCal w
def isClose (w : StampWord) : Bool := wordCal w && wordEdge w
def isMarker (w : StampWord) : Bool := wordCal w && !wordEdge w && wordOvr w

/-! ### Queues (R157, R159) -/

def laneDepth (k : Nat) : Nat := if k < 4 then 512 else 256

/-- Words of a lane that the drain may take: those that are not tentative (R158). -/
def drainable (l : Lane) : Nat := l.queue.length - l.tentative

/-- CORE takes the oldest word of a lane; with raw streaming selected it is copied too (R159, R160). -/
def takeWord (copies : Bool) (l : Lane) : Lane :=
  { l with
    taken := l.taken ++ l.queue.take 1
    raw := if copies then l.raw ++ l.queue.take 1 else []
    queue := l.queue.drop 1 }

/-- The lane whose turn it is: the first with words, from `turn` on in the order LANE0 to AUXB (R159). -/
def drainTurn (te : Timing) : Option Nat :=
  ((List.range 6).map fun i => (te.turn + i) % 6).find? fun k => decide (0 < drainable (vget te.lanes k))

/-- n turns of the drain, one word each. -/
def drainTurns (copies : Bool) : Nat → Timing → Timing
  | 0, te => te
  | n + 1, te =>
    match drainTurn te with
    | none => te
    | some k => drainTurns copies n { te with lanes := vmod te.lanes k (takeWord copies), turn := (k + 1) % 6 }

def drainableWords (te : Timing) : Nat := (te.lanes.toList.map drainable).sum

/-- The drain up to a time in T, one word per CORE period of 64 T (R159). -/
def drainTo (t : Nat) (s : Vol) : Vol :=
  let te := s.work.te
  let n := min (t / 64 - te.drainedTo) (drainableWords te)
  { s with work.te := { drainTurns (streams s 0) n te with drainedTo := max te.drainedTo (t / 64) } }

/-- Every word that is not tentative has passed to CORE. DESIGN CHOICE: log entry 21. -/
def drainAll (s : Vol) : Vol :=
  { s with work.te := drainTurns (streams s 0) (drainableWords s.work.te) s.work.te }

/-- A word of lane k enters the queue. A word that is no data stamp and meets a full queue waits until the drain has taken
one. DEDUCED: log entry 102. -/
def pushWord (k : Nat) (copies : Bool) (w : StampWord) (tentative : Bool) (l : Lane) : Lane :=
  let l := if laneDepth k ≤ l.queue.length then takeWord copies l else l
  let q := l.queue ++ [w]
  { l with
    queue := q
    tentative := if tentative then l.tentative + 1 else l.tentative
    peakFill := BitVec.ofNat 16 (max l.peakFill.toNat q.length) }

/-! ### Losses (R161, R170) -/

/-- Whether a cell works on an edge of the source that came after t. -/
def laterJob (source t : Nat) (c : Cell) : Bool :=
  match c.job with
  | some j => j.armed && j.source.val == source && decide (t < j.t)
  | none => false

def jobTime (c : Cell) : Nat := (c.job.map (·.t)).getD 0

/-- The first of the cells at work on an edge of the source after t. -/
def nextJob (source t : Nat) (l : Lane) : Option Nat :=
  (List.range 4).foldl (init := none) fun b i =>
    if laterJob source t (vget l.cells i) then
      match b with
      | some j => if jobTime (vget l.cells i) < jobTime (vget l.cells j) then some i else b
      | none => some i
    else b

/-- A stamp of the source is lost, of an edge at t: GAP is due in the next data stamp of the source after it (R161). -/
def loseStamp (source t : Nat) (l : Lane) : Lane :=
  let l := { l with
    gutter := satInc l.gutter
    loss := vmod l.loss source fun x => { x with count := min 4095 (x.count + 1) } }
  match nextJob source t l with
  | some i => { l with cells := vmod l.cells i fun c => { c with job := c.job.map fun j => { j with gap := true } } }
  | none => { l with loss := vmod l.loss source fun x => { x with gap := true } }

/-- A lane after an event that may have lost a stamp: STAMP_LOSS when the gutter passes a multiple of 1 024, QUEUE_FULL
when a full queue lost it. -/
def putLane (k : Nat) (l : Lane) (full : Bool) (s : Vol) : Vol :=
  let old := lane s k
  let s := setLane k l s
  let s := if full then limM 0x0133 k (16 * k + 15) s else s
  if l.gutter.toNat / 1024 ≠ old.gutter.toNat / 1024 ∧ old.gutter.toNat < l.gutter.toNat then
    limM 0x0134 k (16 * k + 15) s
  else s

/-! ### Edges and cells (R140, R141, R166) -/

/-- 40 ns after an edge have not passed (R141). -/
def tooClose (last t : Nat) : Bool := decide ((t - last) * 1953125 < 40000000 * 65536)

/-- A cell can take an edge at t. -/
def cellFree (t : Nat) (c : Cell) : Bool := !c.out && !c.calibrating && c.job.isNone && decide (c.freeSince ≤ t)

/-- The free cell that has been free longest, the lowest-numbered among equals. -/
def pickCell (t : Nat) (l : Lane) : Option Nat :=
  (List.range 4).foldl (init := none) fun b i =>
    let c := vget l.cells i
    if cellFree t c then
      match b with
      | some j => if c.freeSince < (vget l.cells j).freeSince then some i else b
      | none => some i
    else b

/-- The stopping edge of a cell started at t: the second rising FINE edge after it, in T of the coarse counter (R140). -/
def stopEdge (t : Nat) : Nat := t / 65536 + 2

/-- Cell i takes an edge; its job carries the GAP that is due (R140, R161). -/
def startCell (i : Nat) (source : Fin 16) (falling : Bool) (t : Nat) (l : Lane) : Lane :=
  { l with
    cells := vmod l.cells i fun c =>
      { c with job := some { source, falling, t, cstop := stopEdge t, armed := true, gap := (vget l.loss source.val).gap } }
    loss := vmod l.loss source.val fun x => { x with gap := false }
    lastStart := some t }

/-- A cell of an AUX lane whose edge lies in the same FINE period and belongs to a higher FIN number (R166). -/
def outranked (k : Nat) (source : Fin 16) (t : Nat) (l : Lane) : Option Nat :=
  if k < 4 then none
  else (List.range 4).find? fun i =>
    match (vget l.cells i).job with
    | some j => j.t / 65536 == t / 65536 && decide (source.val < j.source.val)
    | none => false

/-- An edge is presented to a lane (R141). -/
def presentEdge (k : Nat) (source : Fin 16) (falling : Bool) (t : Nat) (l : Lane) : Lane :=
  match outranked k source t l with
  | some i =>
    let lost := ((vget l.cells i).job.map (·.source.val)).getD 0
    startCell i source falling t (loseStamp lost t l)
  | none =>
    if (match l.lastStart with | some u => tooClose u t | none => false) then loseStamp source.val t l
    else match pickCell t l with
      | some i => startCell i source falling t l
      | none => loseStamp source.val t l

/-! ### Conversion (R142, R145) -/

/-- lin(x) (R145). -/
def linOf (c : List Int) (x : Int) : Int :=
  let cs := 0 :: c ++ [0]
  let k := x / 4096
  let ck := lget cs k.toNat
  if 16 ≤ k then 0 else ck + roundUp ((lget cs (k.toNat + 1) - ck) * (x - k * 4096)) 4096

/-- The linearity table in use: all zero where both copies of the trim record fail (R145). -/
def linTable (nv : Nv) (k i : Nat) : List Int :=
  if nv.trim.validA || nv.trim.validB then (vget nv.trim.lin k).getD i [] else []

/-- x of R142 for a code in 1/16 ADC code. -/
def convertX (v16 : Nat) (c : Cell) : Int :=
  let span : Int := c.v2T.toNat - c.vT.toNat
  if span = 0 then Config.unstated 142 [v16, c.vT.toNat, c.v2T.toNat]
  else if 0 < span then roundUp (((v16 : Int) - c.vT.toNat) * 65536) span
  else roundUp (-(((v16 : Int) - c.vT.toNat) * 65536)) (-span)

/-- tau of R142, none where the conversion falls outside its limits. -/
def chargeTime (lin : List Int) (v16 : Nat) (c : Cell) : Option Int :=
  let x := convertX v16 c
  if x < -2048 ∨ 67584 < x then none
  else
    let x := clampInt 0 65536 x
    some (65536 + x + linOf lin x)

/-- u of R142 from a time in TOF units. -/
def stampUnits (t : Int) : Nat := (roundUp t 16).toNat

/-- Words of the acoustic lanes are tentative until the arming is confirmed (R158). -/
def isTentative (s : Vol) (k : Nat) : Bool :=
  decide (k < 4) && (eset s k).armedAt.isSome && !(eset s k).confirmed

/-- The close word of a reception (R156): once stamping has ended and no cell works on it. -/
def writeClose (k : Nat) (s : Vol) : Vol :=
  if 4 ≤ k then s
  else
    let e := eset s k
    let l := lane s k
    match e.port, e.endedAt with
    | some p, some t =>
      if e.closeWritten || l.cells.toList.any (fun c => match c.job with
          | some j => j.armed
          | none => false) then s
      else
        let x := vget l.loss p.val
        let w := stampWord p.val (b2n x.gap) 1 1 0 t x.count
        setLane k (pushWord k (streams s 0) w (isTentative s k) l) (setEset k { e with closeWritten := true } s)
    | _, _ => s

/-- A cell can end its cycle at t, in TOF units: after its stopping edge, at most 1 us after its edge, and after the cells of
the lane that started before it (R140, R157). -/
def cycleEnds (l : Lane) (j : CellJob) (t : Nat) : Bool :=
  decide (j.cstop * 65536 < t ∧ t ≤ j.t + 512 * 65536)
    && l.cells.toList.all fun c => match c.job with
      | some i => decide (j.t ≤ i.t)
      | none => true

/-- The stamp word of a converted edge (R142, R151). -/
def dataWord (epoch : Nat) (j : CellJob) (tau : Int) : StampWord :=
  let u := stampUnits (((j.cstop : Int) - epoch) * 65536 - tau)
  stampWord j.source.val (b2n j.gap) 0 (b2n j.falling) (b2n (decide (2 ^ 40 ≤ u))) (u / 4096) u

/-- CELL_CYCLE_END with the code of the cell and the C_stop that it latched (R140, R142, R151, R161). -/
def cellEnd (nv : Nv) (k i t : Nat) (v : BitVec 12) (cstop : Nat) (s : Vol) : Vol :=
  let c := vget (lane s k).cells i
  match c.job with
  | none => s
  | some j =>
    if !cycleEnds (lane s k) j t || cstop != j.cstop then s
    else
      let s := drainTo (t / 65536) (clockTo (t / 65536) s)
      let l := { lane s k with cells := vset (lane s k).cells i { c with job := none, freeSince := t } }
      if !j.armed || (decide (k < 4) && s.work.fe.round.lostLock) then writeClose k (setLane k l s)
      else
        match chargeTime (linTable nv k i) (16 * v.toNat) c with
        | none => writeClose k (putLane k (loseStamp j.source.val j.t l) false s)
        | some tau =>
          if laneDepth k ≤ l.queue.length then writeClose k (putLane k (loseStamp j.source.val j.t l) true s)
          else writeClose k (setLane k (pushWord k (streams s 0) (dataWord l.epoch j tau) (isTentative s k) l) s)

/-- EPOCH_MARKER (R152, R153): COARSE wraps on an AUX lane of an open slot. Its SOURCE and GAP are 0: DESIGN CHOICE, log
entry 103. The words of the edges before the wrap come before it (R157): its command comes once no cell works on one. -/
def epochMarker (k : Nat) (s : Vol) : Vol :=
  let l := lane s k
  let wrapAt := l.epoch + (l.wraps + 1) * 2 ^ 28
  let earlier := l.cells.toList.any fun c => match c.job with
    | some j => j.armed && decide (j.t < wrapAt * 65536)
    | none => false
  if k < 4 || !s.work.aux.isOpen || earlier then s
  else
    let s := drainTo wrapAt (clockTo wrapAt s)
    let l := { lane s k with wraps := l.wraps + 1 }
    setLane k (pushWord k (streams s 0) (stampWord 0 0 1 0 1 l.wraps 0) false l) s

def execEpochMarker (lane : Fin 6) (s : State) : Host.Outcome State Fault Refusal :=
  .next (s.up (epochMarker lane.val s.vol))

/-! ### Acoustic edges (R92, R94, R163) -/

/-- Whether the closing FINE edge of a window lets an edge through (R163): times in TOF units. -/
def beforeClose (t close : Nat) : Bool :=
  if close ≤ t then false
  else if (close - t) * 1953125 < 100000 * 65536 then Config.nearEdge t close
  else true

/-- A rising crossing of a receive chain (R92, R94, R158): the 64th ends the stamping. -/
def acousticEdge (k : Nat) (source : Fin 16) (falling : Bool) (t : Nat) (s : Vol) : Vol :=
  let e := eset s k
  let l := lane s k
  if roundFires s && !s.work.fe.round.lostLock && s.work.te.powered && e.port == some source && !falling && e.armedAt.isSome && !e.gated && !e.closed
      && decide (e.crossings < 64) && beforeClose t ((l.epoch + windowEnd s e) * 65536) then
    let n := e.crossings + 1
    let e := { e with
      crossings := n
      endedAt := if n = 64 then some (stopEdge t - l.epoch) else none }
    let s := putLane k (presentEdge k source falling t l) false (setEset k e (clockTo (t / 65536) s))
    if n = 64 then writeClose k s else s
  else s

/-! ### Calibration (R144 to R150, R154) -/

/-- A run is rejected (R149). -/
def runRejected (c : Cell) (startup : Bool) (mT m2T : Nat) : Bool :=
  let span : Int := m2T - mT
  let cur : Int := c.v2T.toNat - c.vT.toNat
  decide (span < 28800 ∨ 54400 < span) || decide (mT < 3200 ∨ 25600 < mT)
    || (!startup && decide (100 * (span - cur).natAbs > cur.natAbs))

/-- Smallest v2T - vT among the cells in service, in whole codes (R168). -/
def spanOf (l : Lane) : BitVec 12 :=
  let l := l.cells.toList.filter fun c => !c.out
  match l with
  | [] => 0
  | c :: r => BitVec.ofNat 12
      (((r.foldl (fun a c => min a (c.v2T.toNat - c.vT.toNat)) (c.v2T.toNat - c.vT.toNat)) + 8) / 16)

/-- The calibration word of a cell (R154): a reference measured, converted with the coefficients before the run. A measurement
outside the limits of R142 is written at the limit: DESIGN CHOICE, log entry 104. -/
def calWord (nv : Nv) (k i : Nat) (c : Cell) (twoT single : Bool) (m : Nat) : StampWord :=
  let x := clampInt 0 65536 (convertX m c)
  let u := stampUnits (65536 + x + linOf (linTable nv k i) x)
  stampWord (4 * i + 2 * b2n twoT + b2n single) 0 1 0 0 (u / 4096) u

/-- The mean of measured codes in 1/16 ADC code (R146, R147). -/
def meanCode (l : List (BitVec 12)) : Nat :=
  (roundUp ((16 * (l.map (·.toNat)).sum : Nat) : Int) ((max 1 l.length : Nat) : Int)).toNat

/-- A lane with fewer than two cells in service is out of service (R150). -/
def laneCheck (k : Nat) (s : Vol) : Vol :=
  let l := lane s k
  let out := decide ((l.cells.toList.filter fun c => !c.out).length < 2)
  let s' := setLane k { l with out } s
  if out && !l.out then logM 0x0131 (16 * k + 15) s' else s'

/-- A calibration run of a cell completes (R147, R149): its coefficients, CALFAIL, and CELL_OUT or CELL_RESTORED. The lane's
own state follows in `laneCheck`. -/
def calCell (nv : Nv) (k i : Nat) (startup : Bool) (mT m2T : Nat) (s : Vol) : Vol :=
  let l := lane s k
  let c := vget l.cells i
  let word := calWord nv k i c true false m2T
  let put := fun (c : Cell) (l : Lane) => pushWord k (streams s 0) word false { l with cells := vset l.cells i c }
  if runRejected c startup mT m2T then
    let out := c.out || startup || decide (16 ≤ c.rejects + 1)
    let c' := { c with rejects := c.rejects + 1, out, calibrating := false }
    let s := setLane k (put c' { l with calFail := satInc l.calFail }) s
    if out && !c.out then logM 0x0130 (16 * k + i) s else s
  else
    let step := fun (old : BitVec 16) (m : Nat) =>
      if startup then BitVec.ofNat 16 m else ofInt 16 ((old.toNat : Int) + roundUp ((m : Int) - old.toNat) 4)
    let c' := { c with
      vT := step c.vT mT
      v2T := step c.v2T m2T
      rejects := 0
      out := if startup then false else c.out
      calibrating := false }
    let l := put c' l
    let s := setLane k { l with span := spanOf l } s
    if startup && c.out then logM 0x0132 (16 * k + i) s else s

/-- One run of one cell, with what it makes of its lane (R149, R150). -/
def calRun (nv : Nv) (k i : Nat) (mT m2T : Nat) (s : Vol) : Vol := laneCheck k (calCell nv k i false mT m2T s)

/-- The round in progress belongs to a reference-edge loop-back (R104, R169). -/
def referenceLoop (s : Vol) : Bool := s.work.loop.running && loopKind s == 2

/-- The words of a cell in a reference-edge round: each measurement of T, with that of 2T after it (R169). DESIGN CHOICE: log
entry 130. -/
def singleWords (nv : Nv) (k i : Nat) (c : Cell) (mT m2T : List (BitVec 12)) : List StampWord :=
  (List.zip mT m2T).flatMap fun m =>
    [calWord nv k i c false true (16 * m.1.toNat), calWord nv k i c true true (16 * m.2.toNat)]

/-- CAL_RUN_DONE (R147, R148, R169, R612) at t, in T of the coarse counter: 8 measurements of each reference, or in a round of
a reference-edge loop-back 64 of each, while FINE is locked. -/
def calRunDone (nv : Nv) (k i t : Nat) (mT m2T : List (BitVec 12)) (s : Vol) : Vol :=
  let c := vget (lane s k).cells i
  let r := s.work.fe.round
  if !s.work.te.powered || c.out || !c.calibrating then s
  else if referenceLoop s && decide (k < 4) then
    if r.running && r.settling && !r.lostLock && s.bak.power.pll && mT.length == 64 && m2T.length == 64 then
      let s := drainTo t (clockTo t s)
      let l := (singleWords nv k i c mT m2T).foldl (fun l w => pushWord k (streams s 0) w false l) (lane s k)
      setLane k { l with cells := vset l.cells i { c with calibrating := false } } s
    else s
  else if mT.length == 8 && m2T.length == 8 then
    let s := calRun nv k i (meanCode mT) (meanCode m2T) (drainTo t (clockTo t s))
    setLane k { lane s k with cells := vmod (lane s k).cells i fun c => { c with freeSince := t * 65536 } } s
  else s

def execCalRunDone (lane : Fin 6) (cell : Fin 4) (t : Nat) (m : CalCodes) (s : State) : Host.Outcome State Fault Refusal :=
  .next (s.up (calRunDone s.nv lane.val cell.val t m.ofT m.of2T s.vol))

/-- STARTUP_CALIBRATION (R146, R150): 16 measurements of each reference for all 24 cells in parallel, whatever their state;
then each lane. -/
def startupCal (nv : Nv) (m : Vector (Vector CalCodes 4) 6) (s : Vol) : Vol :=
  let whole := m.toList.all fun l => l.toList.all fun x => x.ofT.length == 16 && x.of2T.length == 16
  if !s.work.te.powered || s.work.te.calibrated || !whole then s
  else
    let s := (List.range 24).foldl (init := s) fun s n =>
      let x := vget (vget m (n / 4)) (n % 4)
      calCell nv (n / 4) (n % 4) true (meanCode x.ofT) (meanCode x.of2T) s
    let s := (List.range 6).foldl (init := s) fun s k =>
      let l := lane s k
      laneCheck k (setLane k { l with span := if l.cells.toList.all (·.out) then l.span else spanOf l } s)
    { s with work.te.calibrated := true }

def execStartupCalibration (m : Vector (Vector CalCodes 4) 6) (s : State) : Host.Outcome State Fault Refusal :=
  .next (s.up (startupCal s.nv m s.vol))

/-- AUX_CELL_RECAL (R148) at t, in T of the coarse counter: every 2^25 T of an open slot the cell whose turn it is leaves
the rotation for a run, which ends with CAL_RUN_DONE. -/
def auxRecal (k i t : Nat) (s : Vol) : Vol :=
  let l := lane s k
  if k < 4 || i != l.recals % 4 || !s.work.aux.isOpen || s.work.aux.closing.isSome
      || decide (t < l.epoch + (l.recals + 1) * 2 ^ 25) then s
  else
    setLane k { l with
      recals := l.recals + 1
      cells := vmod l.cells i fun c => { c with calibrating := !c.out } } (clockTo t s)

def execAuxCellRecal (lane : Fin 6) (cell : Fin 4) (t : Nat) (s : State) : Host.Outcome State Fault Refusal :=
  .next (s.up (auxRecal lane.val cell.val t s.vol))

/-- The cells of some lanes begin a calibration run. -/
def beginCal (lanes : List Nat) (s : Vol) : Vol :=
  lanes.foldl (init := s) fun s k =>
    setLane k { lane s k with cells := (lane s k).cells.map fun c => { c with calibrating := !c.out } } s

/-- A cell of one of the lanes is in a calibration run. -/
def calibrates (lanes : List Nat) (s : Vol) : Bool :=
  lanes.any fun k => (lane s k).cells.toList.any (·.calibrating)

/-! ### The stamps that CORE takes (R153, R171) -/

/-- The words of a source up to its close word, and the words that remain; none where no close word has arrived. -/
def splitClose (source : Nat) : List StampWord → List StampWord → Option (List StampWord × StampWord × List StampWord)
  | _, [] => none
  | acc, w :: r =>
    if isClose w && wordSource w == source then some (acc.reverse, w, r) else splitClose source (w :: acc) r

/-- Data stamps with their times from the epoch in TOF units, of one source (R153): source, GAP, EDGE, time. -/
def stampTimes : Nat → List StampWord → List (Nat × Bool × Bool × Nat)
  | _, [] => []
  | w0, w :: r =>
    if isMarker w then stampTimes (w0 + 1) r
    else if isData w then
      (wordSource w, wordGap w, wordEdge w, (w0 * 2 ^ 28 + wordCoarse w) * 65536 + wordFine w * 16) :: stampTimes w0 r
    else stampTimes w0 r

end Sys2Proof.Machine
end

