-- ==== Sys2Proof/Machine/Arrival.lean ====
section
/-! DEFINITION. Picking the arrival (R171 to R202): the evaluation of a reception, its trackers, the automatic gain (R95 to
R98) and the lock (R118 to R120). Times of a reception count from its slot's shot. -/

namespace Sys2Proof.Machine

/-! ### Levels (R95, R178): roundings of decimal logarithms by exact powers -/

/-- The largest m, up to the fuel, with 10^m * b at most a. -/
def tenPower (a b : Nat) : Nat → Nat → Nat
  | 0, m => m
  | f + 1, m => if 10 ^ (m + 1) * b ≤ a then tenPower a b f (m + 1) else m

/-- round(k x log10(a / b)) for a at least b, from the (2k)th powers. -/
def logRound (k a b fuel : Nat) : Nat := (tenPower (a ^ (2 * k)) (b ^ (2 * k)) fuel 0 + 1) / 2

/-- Lvl in 1/8 dB (R178). -/
def levelOf (peak code : Nat) : Int :=
  if peak = 0 then Config.unstated 178 [peak, code] else (logRound 160 peak 1 1000 : Int) - 4 * code

/-- The measured step of R95, in 0.5 dB, within its clamp. -/
def gainStep (peak : Nat) : Int :=
  if peak = 0 then 12
  else if peak ≤ 614 then min 12 (logRound 40 614 peak 30)
  else -(min 12 (logRound 40 peak 614 30) : Int)

/-! ### Envelope (R93, R172, R174, R180, R191) -/

/-- Two consecutive samples read 1 023 (R93). -/
def clippedEnv : List (Int × Nat) → Bool
  | a :: b :: r => (a.2 == 1023 && b.2 == 1023) || clippedEnv (b :: r)
  | _ => false

/-- Samples with their times from the slot's shot. -/
def envTimes (t0 shift : Int) (env : List (BitVec 10)) : List (Int × Nat) :=
  (List.zip (List.range env.length) env).map fun p => (t0 + 64 * p.1 - shift, p.2.toNat)

/-- The gates that a round of k slots places on slot j, in T after the slot's shot (R94, R113). The sample exactly 1 us after the last
edge, at which R117 opens the window, counts as inside the gate here, though an arming on it is taken: DESIGN CHOICE, log entry
131. -/
def inGate (s : Vol) (k j : Nat) (t : Int) : Bool :=
  (List.range k).any fun i =>
    let from_ : Int := (i - j : Nat) * staggerT (th s 1) (th s 2)
    decide (j < i) && decide (from_ ≤ t ∧ t ≤ from_ + burstT (th s 1) (th s 2) + 512)

/-- Samples inside a gate replaced by the last one before it (R94). -/
def holdGated (gate : Int → Bool) : Nat → List (Int × Nat) → List (Int × Nat)
  | _, [] => []
  | held, (t, e) :: r => if gate t then (t, held) :: holdGated gate held r else (t, e) :: holdGated gate e r

/-- The envelope of a reception: gated samples replaced, and those of the search window kept (R93, R94). -/
def windowEnv (s : Vol) (port : Fin 16) (j : Nat) (l : List (Int × Nat)) : List (Int × Nat) :=
  let (o, c) := searchWindow s port j
  (holdGated (inGate s (roundSlots s) j) 0 l).filter fun p => decide ((o : Int) ≤ p.1 ∧ p.1 ≤ c)

/-- The span of R172: from the sample that armed, 2 048 samples or to the sample in which stamping ends. -/
def envSpan (from_ to_ : Int) (l : List (Int × Nat)) : List (Int × Nat) :=
  ((l.filter fun p => from_ ≤ p.1 ∧ p.1 ≤ to_).take 2048)

def peakOf (l : List (Int × Nat)) : Nat := maxNat (l.map (·.2))

/-- t_h of R180 on the samples before and after the first one at or above h. -/
def threshold (h : Nat) : Option (Int × Nat) → List (Int × Nat) → Option Int
  | _, [] => none
  | prev, (t, e) :: r =>
    if h ≤ e then
      match prev with
      | none => some t
      | some (t', e') => some (t' + roundUp (64 * ((h : Int) - e')) ((e : Int) - e'))
    else threshold h (some (t, e)) r

/-- The maximal run of samples at or above a limit that contains the sample at index i. -/
def runAround (lim i : Nat) (l : List (Int × Nat)) : List (Int × Nat) :=
  let ok := fun (p : Int × Nat) => decide (lim ≤ p.2)
  ((l.take i).reverse.takeWhile ok).reverse ++ (l.drop i).takeWhile ok

/-- The centroid of R191. -/
def centroid (l : List (Int × Nat)) : Int :=
  let peak := peakOf l
  let i := l.findIdx fun p => p.2 == peak
  let run := runAround ((peak + 1) / 2) i l
  roundUp (sumInt (run.map fun p => p.1 * p.2)) (max 1 (run.map (·.2)).sum : Nat)

/-! ### The fit (R182 to R184) -/

/-- The fit run from its first stamp (R182): at most `n` stamps, each one period after the last. -/
def fitRun (p : Int) : Nat → Int → List Int → List Int
  | 0, _, _ => []
  | _, _, [] => []
  | n + 1, last, t :: r => if roundUp (t - last) p = 1 then t :: fitRun p n t r else []

/-- The exact sums of R183: numerators of a' and b over D, and the residual's numerator over D (N - 2). -/
structure Fit where
  n : Int
  d : Int
  an : Int
  bn : Int
  rn : Int
deriving DecidableEq, Repr

/-- The sums over indices and times, both relative to their first. -/
def fitWith (ix ts : List Int) : Fit :=
  let n : Int := ts.length
  let t0 := ts.headD 0
  let ys := ts.map (· - t0)
  let sn := sumInt ix
  let snn := sumInt (ix.map fun i => i * i)
  let st := sumInt ys
  let snt := sumInt (List.zipWith (· * ·) ix ys)
  let stt := sumInt (ys.map fun y => y * y)
  let d := n * snn - sn * sn
  let an := snn * st - sn * snt
  let bn := n * snt - sn * st
  { n, d, an, bn, rn := d * stt - an * st - bn * snt }

/-- The fit of consecutive stamps (R183). -/
def fitOf (ts : List Int) : Fit := fitWith ((List.range ts.length).map fun (i : Nat) => (i : Int)) ts

/-- RESID in fs (R184). -/
def Fit.resid (f : Fit) : Nat :=
  min (2 ^ 32 - 1) (rootRound (f.rn.toNat * 1953125 ^ 2) ((f.d * (f.n - 2)).toNat * 65536 ^ 2))

/-- The residual exceeds a limit in fs, before any rounding. -/
def Fit.residAbove (f : Fit) (lim : Nat) : Bool :=
  decide (lim ^ 2 * ((f.d * (f.n - 2)).toNat * 65536 ^ 2) < f.rn.toNat * 1953125 ^ 2)

/-- |b - p| > p / 8. -/
def Fit.periodOff (f : Fit) (p : Int) : Bool := decide (p * f.d < 8 * (f.bn - p * f.d).natAbs)

/-! ### Evaluation (R186, R201, R202) -/

/-- What a reception brings: its set, whether its round or lane makes it GAP, whether it clipped, its data stamps (GAP
bit, time) and its envelope span. -/
structure RxIn where
  port : Fin 16
  slot : Nat
  swapped : Bool
  pga : Nat
  gap : Bool
  confirmed : Bool
  clipped : Bool
  stamps : List (Bool × Int)
  span : List (Int × Nat)
deriving DecidableEq, Repr

/-- A record without a time, before its status is known. -/
def rxBase (s : Vol) (x : RxIn) : RxRec where
  port := x.port
  slot := x.slot
  swapped := x.swapped
  eave := false
  tof := 0
  peak := 0
  gain := x.pga
  used := 0
  ridge := 0
  slipCount := 0
  learn := decide (vget s.ret.flow.learn x.port.val < 8)
  status := 3
  slip := false
  weakWhy := 0
  resid := 0

def plainEval (r : RxRec) : RxEval := { record := r, s := 0, lead := 0, lvl := 0 }

/-- A stamp was lost before stamp i or at it. -/
def lostBefore (l : List (Bool × Int)) (i : Nat) : Bool := (l.take (i + 1)).any (·.1)

/-- The eave evaluation (R201), the only one whose record carries EAVE (R202). -/
def evalEave (s : Vol) (x : RxIn) (r : RxRec) : RxRec :=
  let c := s.work.obj.calib
  let r := { r with eave := true }
  let i := x.stamps.findIdx fun p => c.eaveOpen * 65536 ≤ p.2
  match x.stamps[i]? with
  | none => { r with status := 1, peak := 0 }
  | some (_, te) =>
    if te > c.eaveClose * 65536 then { r with status := 1, peak := 0 }
    else if lostBefore x.stamps i then { r with status := 3, peak := 0 }
    else
      let onset := lget c.onset x.port.val
      if te < onset then { r with status := 2, weakWhy := 5, used := 1, ridge := i }
      else { r with status := 0, used := 1, ridge := i, tof := (te - onset).toNat }

/-- The fit, the period, residual, range and lead tests of R186. -/
def evalFit (s : Vol) (x : RxIn) (r : RxRec) (lvl : Int) (run : List Int) : RxEval :=
  let c := s.work.obj.calib
  let p : Int := bandPeriod (th s 1)
  let f := fitOf run
  let r := { r with resid := f.resid }
  let weak := fun (why : Nat) => { record := { r with status := 2, weakWhy := why }, s := 0, lead := 0, lvl : RxEval }
  if f.periodOff p then weak 3
  else if f.residAbove c.resLimit.toNat then weak 4
  else
    let tr := run.headD 0 + roundUp f.an f.d
    let onset := lget c.onset x.port.val
    if tr < onset then weak 5
    else
      let lead := centroid x.span - roundUp tr 65536
      let n := if r.learn then (0 : Int)
        else roundUp (vget s.ret.flow.lref x.port.val - 16 * lead) (32 * halfPeriod (th s 1))
      if 4 ≤ n.natAbs then
        { record := { r with status := 2, weakWhy := 6, slipCount := clampInt (-8) 7 n }, s := n, lead, lvl }
      else
        { record := { r with status := 0, slip := n != 0, slipCount := n, tof := (tr - onset).toNat }, s := n, lead, lvl }

/-- R186. -/
def evalReception (s : Vol) (x : RxIn) : RxEval :=
  let r := rxBase s x
  if x.gap then plainEval r
  else if !x.confirmed then plainEval { r with status := 1 }
  else
    let peak := peakOf x.span
    let r := { r with peak }
    if x.clipped then plainEval { r with status := 4 }
    else if eaveOn s then plainEval (evalEave s x r)
    else
      let lvl := levelOf peak x.pga
      let t := vget s.work.ports x.port.val
      let weak := fun (r : RxRec) (why : Nat) =>
        { record := { r with status := 2, weakWhy := why }, s := 0, lead := 0, lvl : RxEval }
      if t.trkValid && decide (lvl < t.trk - 160) then weak r 1
      else
        let h := ceilDiv (s.work.obj.calib.ridgeFrac.toNat * peak) 100
        match threshold h none x.span with
        | none => weak r 2
        | some t_h =>
          let from_ := (t_h - 4 * halfPeriod (th s 1)) * 65536
          let i := x.stamps.findIdx fun p => from_ ≤ p.2
          match x.stamps.drop i with
          | [] => weak r 2
          | (_, t0) :: rest =>
            let p : Int := bandPeriod (th s 1)
            let run := t0 :: fitRun p (s.work.obj.calib.fitN.toNat - 1) t0 (rest.map (·.2))
            let r := { r with ridge := min i 63, used := run.length }
            if lostBefore x.stamps (i + run.length - 1) then plainEval { r with status := 3, peak := 0 }
            else if run.length < 8 then weak r 2
            else evalFit s x r lvl run

/-! ### Gain and trackers (R95, R98, R118, R120, R179, R198) -/

/-- The requested PGA code after a reception (R95, R200). -/
def gainAfter (r : RxRec) (req : Nat) : Nat :=
  let x : Int := req
  let y := match r.status with
    | 4 => x - 12
    | 1 => x + 12
    | 3 => x
    | _ => x + gainStep r.peak
  (clampInt 0 120 y).toNat

/-- The lock of a port after a counted reception (R118, R120): the tracker, and whether the lock was lost. -/
def lockAfter (r : RxRec) (t : PortTrack) : PortTrack × Bool :=
  match r.status with
  | 0 =>
    let run := (r.tof :: t.okRun).take 3
    let sum := run.sum
    let close := decide (run.length = 3) && run.all fun x => decide (50 * ((3 * x : Int) - sum).natAbs ≤ sum)
    ({ t with okRun := run, badRun := 0, tracked := r.tof, locked := t.locked || close }, false)
  | 1 | 2 =>
    let n := min 4 (t.badRun + 1)
    ({ t with okRun := [], badRun := n, locked := t.locked && decide (n < 4) }, t.locked && decide (4 ≤ n))
  | _ => (t, false)

/-- Trk and its count (R179): the tracker, and whether it was reseated. -/
def trkAfter (x : RxEval) (t : PortTrack) : PortTrack × Bool :=
  let r := x.record
  match r.status with
  | 0 =>
    let trk := if t.trkValid then t.trk + roundAway (x.lvl - t.trk) 8 else x.lvl
    ({ t with trkValid := true, trk, ampCount := 0 }, false)
  | 1 => ({ t with ampCount := 0 }, false)
  | 2 =>
    if r.weakWhy = 1 then
      if 32 ≤ t.ampCount + 1 then ({ t with trk := x.lvl, ampCount := 0 }, true)
      else ({ t with ampCount := t.ampCount + 1 }, false)
    else ({ t with ampCount := 0 }, false)
  | _ => (t, false)

/-- The code-120 rounds of a port (R98): the new count, and whether GAIN_LIMIT is due. -/
def gain120After (code n : Nat) : Nat × Bool :=
  if code = 120 then (min 64 (n + 1), decide (n = 63)) else (0, false)

/-- One more round of a port at its code, of normal service or of a loop-back (R98). -/
def countGain (r : RxRec) (s : Vol) : Vol :=
  let p := r.port.val
  let (n, limit) := gain120After r.gain (vget s.work.ports p).gain120
  let s := { s with work.ports := vmod s.work.ports p fun t => { t with gain120 := n } }
  if limit then logM 0x0112 p s else s

/-- The trackers of a port after a reception of normal service (R198), with their events. -/
def trackersAfter (x : RxEval) (s : Vol) : Vol :=
  let r := x.record
  let p := r.port.val
  let t := { vget s.work.ports p with last := some r }
  let (t1, reseat) := if eaveOn s then (t, false) else trkAfter x t
  let (t2, lost) := if eaveOn s then (t1, false) else lockAfter r t1
  let s := { s with
    work.ports := vset s.work.ports p t2
    ret.flow.pga := vmod s.ret.flow.pga p (gainAfter r) }
  let s := if reseat then limM 0x0142 p p s else s
  if lost then limM 0x0122 p p s else s

/-- The lead reference after a reception that updates it (R193). -/
def leadUpdate (x : RxEval) (s : Vol) : Vol :=
  if eaveOn s then s
  else
    let p := x.record.port.val
    let n := vget s.ret.flow.learn p
    let l := vget s.ret.flow.lref p
    if n < 8 then
      let s' := { s with
        ret.flow.lref := vset s.ret.flow.lref p (l + roundAway (16 * x.lead - l) (n + 1))
        ret.flow.learn := vset s.ret.flow.learn p (n + 1) }
      if n + 1 = 8 then limM 0x0143 p p s' else s'
    else { s with ret.flow.lref := vset s.ret.flow.lref p (l + roundAway (16 * x.lead - l) 16) }

/-- The reception of a set from the words that CORE has taken and the envelope from time t0 on (R171). DESIGN CHOICE: log
entry 30. -/
def receptionIn (s : Vol) (k : Nat) (words : List StampWord) (t0 : Nat) (env : List (BitVec 10)) : RxIn :=
  let e := eset s k
  let port := e.port.getD 0
  let shift : Int := e.slot * staggerT (th s 1) (th s 2)
  let stamps := (stampTimes 0 words).filter fun w => w.1 == port.val
  let l := windowEnv s port e.slot (envTimes t0 shift env)
  let r := s.work.fe.round
  { port
    slot := e.slot
    swapped := s.work.cyc.swapped
    pga := e.pga
    gap := r.gap || (lane s k).out
    confirmed := e.confirmed
    clipped := clippedEnv l
    stamps := stamps.map fun w => (w.2.1, (w.2.2.2 : Int) - shift * 65536)
    span := envSpan ((e.armedAt.getD 0 : Int) - shift) ((e.endedAt.getD 0 : Int) - shift) l }

end Sys2Proof.Machine
end

