-- ==== Sys2Proof/Machine/Flow.lean ====
section
/-! DEFINITION. From receptions to flow: pairs (R195, R196), offsets and velocities (R204 to R211), path states and the empty
pipe (R235 to R244), the cycle result (R212 to R217, R224 to R229), adaptive rates (R130) and levels (R230 to R245). -/

namespace Sys2Proof.Machine

def pathW (s : Vol) (j : Nat) : PathWork := vget s.work.paths j
def pathR (s : Vol) (j : Nat) : PathRet := vget s.ret.flow.paths j
def setPathW (j : Nat) (p : PathWork) (s : Vol) : Vol := { s with work.paths := vset s.work.paths j p }
def setPathR (j : Nat) (p : PathRet) (s : Vol) : Vol := { s with ret.flow.paths := vset s.ret.flow.paths j p }

/-- The paths of the plan. -/
def ownPaths (s : Vol) : List Nat := (List.range (pathCount (th s 0))).map (· + 1)

/-- The joint indices of R572: every path of every position from which an END has arrived since reset. -/
def jointPaths (s : Vol) : List Nat :=
  if isPrimary s && jointMode s then
    [1, 2, 3].flatMap fun k =>
      let c := vget s.work.chain.positions k
      if c.known then (List.range (min 8 c.paths)).map (8 * k + 1 + ·) else []
  else []

/-- The joint set of R244. -/
def allPaths (s : Vol) : List Nat := ownPaths s ++ jointPaths s

/-- A value in a format that it may exceed where the manual states no result there. -/
def fitOr (lo hi : Int) (rule : Nat) (x : Int) : Int := if lo ≤ x ∧ x ≤ hi then x else Config.unstated rule [x]

/-- FLOW_SATURATED (R234). -/
def logSat (data : Nat) (s : Vol) : Vol := limM 0x0153 data data s

/-- The path objects take the values of the cycle (R224), formed with its result. -/
def showPaths (s : Vol) : Vol :=
  { s with
    work.shown :=
      { words := Vector.ofFn fun (j : Fin 33) => BitVec.ofNat 128 (pathWord s j.val)
        offsets := Vector.ofFn fun (j : Fin 9) => BitVec.ofNat 64 (offsetWord s j.val)
        rx := Vector.ofFn fun (p : Fin 16) => (vget s.work.ports p.val).last } }

/-! ### Pairs (R195, R204, R205) -/

/-- CAUSE of a status: the order of R195. -/
def causeOf (a b : Nat) : Nat :=
  if a = 3 ∨ b = 3 then 1 else if a = 1 ∨ b = 1 then 2 else if a = 4 ∨ b = 4 then 3 else if a = 2 ∨ b = 2 then 4 else 0

/-- The dead-time corrected times of path j, before the slip (R204). -/
def pathTimes (s : Vol) (j : Nat) (u d : RxEval) : Int × Int :=
  let c := s.work.obj.calib
  ((u.record.tof : Int) - lget c.tauUp (j - 1), (d.record.tof : Int) - lget c.tauDn (j - 1))

/-- Verdict and cause of a pair (R195, R204, R205): 0 KEPT, 1 KEPT with SLIP, 2 DISCARDED. -/
def verdictOf (s : Vol) (j : Nat) (u d : RxEval) : Nat × Nat :=
  let cause := causeOf u.record.status d.record.status
  if cause ≠ 0 then (2, cause)
  else if u.s ≠ d.s then (2, 5)
  else
    let (tu, td) := pathTimes s j u d
    let k := u.s * bandPeriod (th s 1)
    if tu ≤ 0 ∨ td ≤ 0 ∨ tu - k ≤ 0 ∨ td - k ≤ 0 then (2, 4) else (if u.s = 0 then 0 else 1, 0)

/-- v_p of R210 and c_p of R211, exact and rounded; the velocity may lie beyond s32. -/
def velocityOf (s : Vol) (j : Nat) (tu td dt256 : Int) : Int :=
  let c := s.work.obj.calib
  roundAway (lget c.len (j - 1) * dt256 * 1000000 * 2 ^ 47) (lget c.cos (j - 1) * tu * td)

def soundOf (s : Vol) (j : Nat) (tu td : Int) : Int :=
  fitOr 0 (2 ^ 32 - 1) 211 (roundAway (lget s.work.obj.calib.len (j - 1) * (tu + td) * 2 ^ 24 * 1000) (tu * td))

/-! ### The reciprocity offset (R206 to R209) -/

/-- A sample d is taken or rejected by path j (R208). An updated value beyond the s32 is stored modulo 2^32: DESIGN CHOICE, log entry 109. -/
def offsetSample (j : Nat) (d : Int) (s : Vol) : Vol :=
  let r := pathR s j
  let w := pathW s j
  let delta := r.delta.toInt
  let upd := fun (x : Int) (n : Nat) (s : Vol) =>
    let s := setPathR j { r with delta := ofInt 32 x, n } s
    let s := setPathW j { w with samples := satInc w.samples, skips := if r.n < 64 then w.skips else 0 } s
    let s := if r.n < 64 ∧ n = 64 then logM 0x0150 j s else s
    if 134218 * 256 < x.natAbs then limM 0x0152 j j s else s
  if r.n < 64 then upd (delta + roundAway (d - delta) (r.n + 1)) (r.n + 1) s
  else if 1048576 < (d - delta).natAbs then
    if w.skips + 1 = 64 then logM 0x0151 j (setPathW j { w with skips := 0 } (setPathR j { r with n := 0 } s))
    else setPathW j { w with skips := w.skips + 1 } s
  else upd (delta + roundAway (d - delta) 64) 64 s

def sign (swapped : Bool) : Int := if swapped then -1 else 1

/-- A discarded pair is counted (R253). -/
def countDiscard (s : Vol) (p : PathWork) : PathWork :=
  if faultRules s then { p with discarded := satInc p.discarded } else p

/-- A pair of path j is decided with verdict and cause. A KEPT pair gives its difference, its velocity, its anchor (R236) and its
sample. -/
def decidePair (j : Nat) (s : Vol) : Vol :=
  let p := pathW s j
  match p.up, p.down with
  | some u, some d =>
    if p.decided then s
    else
      let (verdict, cause) := verdictOf s j u d
      let p := { p with verdict := BitVec.ofNat 2 verdict, cause := BitVec.ofNat 3 cause, decided := true, sat := false,
                        swapped := s.work.cyc.swapped }
      let up := (upPort j).val
      if verdict = 2 then
        let s := setPathW j (countDiscard s { p with dt := 0, v := 0, raw := none, prev := none }) s
        if cause = 5 then limM 0x0141 up up s else s
      else
        let (tu, td) := pathTimes s j u d
        let k := u.s * bandPeriod (th s 1)
        let raw := tu - td
        let sg := sign s.work.cyc.swapped
        let dt256 := 256 * raw - sg * (pathR s j).delta.toInt
        let dt := roundAway dt256 256
        let v := velocityOf s j (tu - k) (td - k) dt256
        let sat := !fitsSigned 32 dt || !fitsSigned 32 v
        let v := satSigned 32 v
        let prev := p.prev
        let s := setPathW j
          { p with dt := ofInt 32 (satSigned 32 dt), v, sat, raw := some raw, prev := some (raw, s.work.cyc.swapped) } s
        let s := if faultRules s then setPathR j { pathR s j with anchor := v, anchorValid := true } s else s
        let s := if sat then logSat j { s with work.flow.satNow := true } else s
        let s := match prev with
          | some (raw0, sw0) => offsetSample j (128 * sign sw0 * (raw0 - raw)) s
          | none => s
        if verdict = 1 then limM 0x0140 up up s else leadUpdate d (leadUpdate u s)
  | _, _ => s

/-- A path of a round that was not fired (R235): DISCARDED with cause GAP. -/
def gapPair (j : Nat) (s : Vol) : Vol :=
  let p := pathW s j
  if p.decided then s
  else
    setPathW j
      (countDiscard s
        { p with verdict := 2, cause := 1, decided := true, sat := false, dt := 0, v := 0, raw := none, prev := none,
                 swapped := s.work.cyc.swapped, sosHeld := true }) s

/-! ### Path states and the empty pipe (R237, R241, R242) -/

def kept (p : PathWork) : Bool := p.verdict == 0 || p.verdict == 1

/-- PATH_DROPPED with its counter (R237, R242, R253). -/
def dropPath (j : Nat) (s : Vol) : Vol :=
  let w := pathW s j
  limM 0x0160 j j (setPathW j { w with drops := satInc w.drops } s)

/-- R237 on one path. -/
def holdPath (j : Nat) (s : Vol) : Vol :=
  let w := pathW s j
  let r := pathR s j
  if kept w then
    if r.dropped then
      if r.good + 1 = 8 then
        limM 0x0161 j j
          (setPathW j { w with state := 0 } (setPathR j { r with dropped := false, good := 0, discards := 0 } s))
      else setPathW j { w with state := 2 } (setPathR j { r with good := r.good + 1 } s)
    else setPathW j { w with state := 0 } (setPathR j { r with discards := 0 } s)
  else
    let r := { r with lastCause := w.cause }
    if r.dropped then setPathW j { w with state := 2 } (setPathR j { r with good := 0 } s)
    else if !r.anchorValid then
      dropPath j (setPathW j { w with state := 2 } (setPathR j { r with dropped := true, good := 0 } s))
    else if r.discards + 1 = 16 then
      dropPath j (setPathW j { w with state := 1 } (setPathR j { r with discards := 16, dropped := true, good := 0 } s))
    else setPathW j { w with state := 1 } (setPathR j { r with discards := r.discards + 1 } s)

/-- A port loses its lock (R120). -/
def unlockPort (p : Nat) (s : Vol) : Vol :=
  { s with work.ports := vmod s.work.ports p fun t => { t with locked := false, okRun := [], badRun := 0 } }

/-- EMPTY is set: counts of R242, locks of R243. -/
def setEmpty (js : List Nat) (s : Vol) : Vol :=
  let s := { s with
    ret.flow.empty := true
    ret.flow.ecount := 0
    work.flow.emptySets := satInc s.work.flow.emptySets }
  let s := logM 0x0162 0xFF s
  let s := js.foldl (init := s) fun s j =>
    setPathR j { pathR s j with dropped := false, discards := 0, good := 0 } s
  (ownPaths s).foldl (init := s) fun s j => unlockPort (downPort j).val (unlockPort (upPort j).val s)

/-- EMPTY is cleared: a path without a good pair is dropped (R242). -/
def clearEmpty (js : List Nat) (s : Vol) : Vol :=
  let s := logM 0x0163 0xFF { s with ret.flow.empty := false, ret.flow.ecount := 0 }
  js.foldl (init := s) fun s j =>
    if kept (pathW s j) then s
    else dropPath j (setPathR j { pathR s j with dropped := true, good := 0 } s)

/-- R241 and R242 on one executed cycle. -/
def emptyRun (js : List Nat) (s : Vol) : Vol :=
  if js.isEmpty && !s.ret.flow.empty then s
  else
    let ws := js.map (pathW s)
    let disc := fun (w : PathWork) (l : List Nat) => !kept w && l.contains w.cause.toNat
    let count := s.ret.flow.ecount
    if !s.ret.flow.empty then
      if ws.all (disc · [2]) then
        if count + 1 = 8 then setEmpty js s else { s with ret.flow.ecount := count + 1 }
      else if ws.all (disc · [1, 2]) then s
      else { s with ret.flow.ecount := 0 }
    else if ceilDiv ws.length 2 ≤ (ws.filter kept).length then
      if count + 1 = 8 then clearEmpty js s else { s with ret.flow.ecount := count + 1 }
    else if ws.all (disc · [1]) then s
    else { s with ret.flow.ecount := 0 }

/-! ### Velocities and flow (R212 to R215, R239) -/

/-- The good mean of R239. -/
def goodMean (s : Vol) (js : List Nat) : Int :=
  let vs := (js.filter fun j => (pathW s j).state == 0).map fun j => (pathW s j).v
  if vs.isEmpty then 0 else roundAway (sumInt vs) vs.length

/-- The velocity with which path j enters the sum, and whether it saturates (R212, R238, R239). -/
def pathVelocity (s : Vol) (m : Int) (j : Nat) : Int × Bool :=
  match (pathW s j).state.toNat with
  | 0 => ((pathW s j).v, false)
  | 1 => ((pathR s j).anchor, false)
  | 2 =>
    let v := roundAway (lget s.work.obj.calib.rsub (j - 1) * m) (2 ^ 30)
    (satSigned 32 v, !fitsSigned 32 v)
  | _ => (0, false)

/-- The profile factor at |v| (R214). -/
def profileFactor (t : List ProfEntry) (v : Int) : Int :=
  let x : Int := v.natAbs
  let i := (t.takeWhile fun e => e.vbar ≤ x).length
  match t[i - 1]?, t[i]? with
  | some a, some b => if i = 0 then a.k else a.k + roundAway ((b.k - a.k) * (x - a.vbar)) (b.vbar - a.vbar)
  | some a, none => a.k
  | none, _ => 2 ^ 30

/-- TEMP of R228 with RANGE. -/
def waterTable : List Int :=
  [1402390, 1426150, 1447270, 1465930, 1482340, 1496690, 1509150, 1519850, 1528910, 1536420, 1542500, 1547210, 1550630,
   1552830, 1553860]

def waterTemp (c : Int) : Int × Bool :=
  let i := (waterTable.takeWhile fun x => x ≤ c).length
  if i = 0 then (0, true)
  else if i = 15 then (7000, true)
  else
    let a := lget waterTable (i - 1)
    (500 * (i - 1 : Nat) + roundAway (500 * (c - a)) (lget waterTable i - a), false)

/-- The path's c_p is updated in this cycle (R211). -/
def sosUpdates (p : PathWork) : Bool := p.state == 0 && p.verdict == 0

/-- SOS of the own paths (R211). -/
def pathSos (j : Nat) (s : Vol) : Vol :=
  let p := pathW s j
  match p.up, p.down with
  | some u, some d =>
    if sosUpdates p then
      let (tu, td) := pathTimes s j u d
      setPathW j { p with sos := ofInt 32 (soundOf s j tu td), sosHeld := false } s
    else setPathW j { p with sosHeld := true } s
  | _, _ => setPathW j { p with sosHeld := true } s

/-- The water temperature record (R228, R229). -/
def tempResult (js : List Nat) (s : Vol) : Vol :=
  let cs := (js.filter fun j => sosUpdates (pathW s j)).map fun j => ((pathW s j).sos.toNat : Int)
  if cs.isEmpty then { s with work.flow.tempNone := true }
  else
    let c := roundAway (sumInt cs) cs.length
    let (t, range) := waterTemp c
    { s with
      work.flow.temp := ofInt 16 t
      work.flow.sosMean := ofInt 32 c
      work.flow.tempPaths := BitVec.ofNat 6 cs.length
      work.flow.tempRange := range
      work.flow.tempNone := false
      ret.flow.cbar := some c.toNat }

/-- DEGRADED_START and DEGRADED_END (R256), once the result of a cycle is formed and its last settle has ended, so that its
DEGRADED is final (R246). A start begins without a DEGRADED cycle before it: DESIGN CHOICE, log entry 106. -/
def degradedEvents (s : Vol) : Vol :=
  if !s.work.cyc.pairsDone || !faultRules s || (s.work.cyc.running && s.work.cyc.kind == .normal) then s
  else
    let d := s.work.cyc.degraded
    let was := s.work.flow.lastDegraded
    let s := { s with work.flow.lastDegraded := d }
    if d && !was then logM 0x0165 0xFF s else if was && !d then logM 0x0166 0xFF s else s

/-! ### Adaptive rates (R130) -/

/-- A new rate is to come, from a start tick after the end of the cycle (R130). -/
def setNextRate (r : Nat) (s : Vol) : Vol :=
  if s.work.cyc.nextRate.toNat = r then s
  else
    { s with
      work.cyc.nextRate := BitVec.ofNat 4 r
      work.cyc.rateFrom := if s.work.cyc.running then none else some s.bak.count }

/-- The rate after a cycle with mean velocity `v`, if it has one. The elapsed time of a cycle counts from the executed cycle before it: DEDUCED, log
entry 110. -/
def adaptRate (v : Option Int) (s : Vol) : Vol :=
  let c := s.work.cyc
  if th s 4 ≠ 9 ∧ th s 4 ≠ 10 then { s with work.cyc.vbarPrev := v }
  else
    let (bottom, top) := rateRange (th s 4)
    let high := match v, c.vbarPrev with
      | some a, some b => decide (2 * b.natAbs + 500000 < 100 * (a - b).natAbs)
      | _, _ => false
    let rate := c.nextRate.toNat
    let s := { s with work.cyc.vbarPrev := v, work.cyc.dvHigh := high }
    if s.work.pre.pour then setNextRate top s
    else if high && c.dvHigh then setNextRate (min (rate + 1) top) { s with work.cyc.calm := 0 }
    else
      let calm := c.calm + c.elapsed
      if 1920 ≤ calm then setNextRate (max (rate - 1) bottom) { s with work.cyc.calm := 0 }
      else { s with work.cyc.calm := calm }

/-! ### The cycle result (R216, R217, R225, R227, R240) -/

/-- The result words of a cycle (R225). A joint index keeps CYCLE and DEGRADED of the latest record that came for it: DESIGN CHOICE, log
entry 132. -/
def pathResults (js : List Nat) (vel : Nat → Int × Bool) (flowSat : Bool) (s : Vol) : Vol :=
  js.foldl (init := s) fun s j =>
    let p := pathW s j
    let (v, sat) := vel j
    let sub := p.state == 1 || p.state == 2
    let s := setPathW j
      { p with
        vel := ofInt 32 v
        sat := p.sat || sat || flowSat
        degraded := if j ≤ 8 then s.work.cyc.degraded else p.degraded
        cycle := if j ≤ 8 then s.work.cyc.count else p.cycle
        subcyc := if sub then satInc p.subcyc else p.subcyc } s
    if sat then logSat j { s with work.flow.satNow := true } else s

/-- A cycle without a result (R240). -/
def noResult (js : List Nat) (s : Vol) : Vol :=
  let s := pathResults js (fun _ => (0, false)) false s
  let s := { s with
    work.flow.valid := 0
    work.flow.subst := true
    work.flow.empty := false
    work.flow.degraded := s.work.cyc.degraded
    work.flow.sat := s.work.flow.satNow
    work.flow.noResult := true }
  adaptRate none (limM 0x0164 0xFF 0xFF s)

/-- The flow in force and the flow rate record of a cycle with a result (R217, R227). -/
def takeFlow (q : Int) (cutoff subst : Bool) (valid : Nat) (s : Vol) : Vol :=
  { s with
    work.flow.flow := ofInt 48 q
    work.flow.empty := s.ret.flow.empty
    work.flow.cutoff := cutoff
    work.flow.degraded := s.work.cyc.degraded
    work.flow.subst := subst
    work.flow.sat := s.work.flow.satNow
    work.flow.stale := false
    work.flow.valid := BitVec.ofNat 6 valid
    work.flow.noResult := false
    ret.flow.inForce :=
      some { q, degraded := s.work.cyc.degraded, startTick := s.work.cyc.startTick, subst } }

/-- A cycle with a result (R213 to R215, R243). -/
def flowResult (js : List Nat) (s : Vol) : Vol :=
  if s.ret.flow.empty then adaptRate none (takeFlow 0 false false 0 (pathResults js (fun _ => (0, false)) false s))
  else
    let m := goodMean s js
    let c := s.work.obj.calib
    let vel := pathVelocity s m
    let vbar := roundAway (sumInt (js.map fun j => lget c.w (j - 1) * (vel j).1)) (2 ^ 30)
    let k := profileFactor s.work.obj.prof vbar
    let cutoff := decide ((vbar.natAbs : Int) < c.cutoff)
    let q := if cutoff then 0 else roundAway (c.area * k * vbar) (2 ^ 30 * 10 ^ 9)
    let sat := !fitsSigned 48 q
    let s := if sat then logSat 0xFF { s with work.flow.satNow := true } else s
    let s := pathResults js vel sat s
    let valid := (js.filter fun j => (pathW s j).state == 0).length
    let subst := js.any fun j => (pathW s j).state == 1 || (pathW s j).state == 2
    adaptRate (some vbar) (takeFlow (satSigned 48 q) cutoff subst valid s)

/-- Since when the flow in force has been 0 during a pour: EMPTY and CUTOFF force it to 0 (R215, R242, R359). -/
def markNoFlow (s : Vol) : Vol :=
  let zero := match s.ret.flow.inForce with
    | some f => f.q == 0
    | none => false
  { s with
    work.pre.noFlowSince := if s.work.pre.pour && zero then some (s.work.pre.noFlowSince.getD s.bak.count) else none }

/-- The result word of a PATH record becomes that of joint index j (R572). A SAT bit of the record sets no SAT of this
device: DESIGN CHOICE, log entry 108. -/
def receivePath (j w : Nat) (s : Vol) : Vol :=
  let verdict := w / 2 ^ 30 % 4
  let s := setPathW j
    { pathW s j with
      dt := BitVec.ofNat 32 (w / 2 ^ 96)
      sos := BitVec.ofNat 32 (w / 2 ^ 32)
      verdict := BitVec.ofNat 2 (if verdict = 3 then 2 else verdict)
      cause := BitVec.ofNat 3 (if verdict = 3 then 1 else w / 2 ^ 25)
      swapped := w / 2 ^ 24 % 2 = 1
      sosHeld := w / 2 ^ 23 % 2 = 1
      sat := w / 2 ^ 22 % 2 = 1
      degraded := w / 2 ^ 21 % 2 = 1
      cycle := BitVec.ofNat 16 w
      decided := true
      v := (BitVec.ofNat 32 (w / 2 ^ 64)).toInt } s
  setPathR j { pathR s j with n := if w / 2 ^ 20 % 2 = 1 then 0 else 64 } s

/-- The verdict of a joint path in the cycle: that of its record, or GAP where none has come, where its position is lost and where
two ENDs conflict (R244, R574); a discard counts once (R253). -/
def jointVerdict (j : Nat) (s : Vol) : Vol :=
  let c := vget s.work.chain.positions ((j - 1) / 8)
  match s.work.chain.paths.find? (·.1 == j) with
  | some (_, w) =>
    if c.conflict || c.lost then gapPair j s
    else
      let s := receivePath j w s
      if kept (pathW s j) then s else setPathW j (countDiscard s (pathW s j)) s
  | none => gapPair j s

/-- The result of an executed cycle, once every pair of the set is decided. -/
def cycleResult (s : Vol) : Vol :=
  if s.work.cyc.pairsDone then s
  else
    let js := allPaths s
    let s := (jointPaths s).foldl (init := s) fun s j => jointVerdict j s
    let s := (jointPaths s).foldl (init := s) fun s j =>
      if kept (pathW s j) then setPathR j { pathR s j with anchor := (pathW s j).v, anchorValid := true } s else s
    let s := emptyRun js { s with work.cyc.pairsDone := true }
    let s :=
      if s.ret.flow.empty then js.foldl (init := s) fun s j => setPathW j { pathW s j with state := 3 } s
      else js.foldl (init := s) fun s j => holdPath j s
    let s := (ownPaths s).foldl (init := s) fun s j => pathSos j s
    let s := tempResult js s
    let none_ := !s.ret.flow.empty && js.all (fun j => (pathW s j).state != 0)
      && js.any fun j => (pathW s j).state == 2
    let s := showPaths (if none_ then noResult js s else flowResult js s)
    degradedEvents (markNoFlow (streamFlow (streamPaths js s)))

/-- What a secondary in joint integration forms of its own pairs: it applies no rule of the fault chapter (R572). -/
def jointSecondaryResult (s : Vol) : Vol :=
  if s.work.cyc.pairsDone then s
  else
    let s := (ownPaths s).foldl (init := { s with work.cyc.pairsDone := true }) fun s j =>
      let s := setPathW j { pathW s j with state := 0 } s
      let s := pathSos j s
      let p := pathW s j
      setPathW j
        { p with vel := ofInt 32 (if kept p then p.v else 0), degraded := s.work.cyc.degraded, cycle := s.work.cyc.count } s
    showPaths (tempResult (ownPaths s) s)

/-- CORE falls to the internal RC after the results of the cycle and before the end of its last settle: the cycle is DEGRADED
all the same (R246). -/
def degradeLate (s : Vol) : Vol :=
  if !s.work.cyc.pairsDone || s.work.cyc.degraded then s
  else
    showPaths { s with
      work.cyc.degraded := true
      work.flow.degraded := true
      work.paths := s.work.paths.mapIdx fun j p => { p with degraded := p.degraded || (ownPaths s).contains j }
      work.levels := s.work.levels.mapIdx fun n l => { l with degraded := l.degraded || (levelsOf (th s 0)).contains n }
      ret.flow.inForce := s.ret.flow.inForce.map fun f =>
        if f.startTick == s.work.cyc.startTick then { f with degraded := true } else f }

/-! ### Levels (R230 to R233, R245) -/

/-- A reception gives a level value: OK, SLIP clear, and a positive time (R230, R232). -/
def levelTime (s : Vol) (n : Nat) (x : RxEval) : Option Int :=
  let t := (x.record.tof : Int) - lget s.work.obj.calib.tauL (n - 1)
  if x.record.status = 0 ∧ !x.record.slip ∧ 0 < t then some t else none

/-- c of the reflector (R231). -/
def reflectorSos (s : Vol) (t : Int) : Int :=
  fitOr 0 (2 ^ 32 - 1) 231 (roundAway (2 * s.work.obj.calib.refDist * 2 ^ 25 * 1000) t)

/-- The speed of sound of a level channel: c, SOSSRC, SOSHELD (R231). `ref` is the reflector's c of this cycle. -/
def levelSos (s : Vol) (n : Nat) (ref : Option Int) : Int × Nat × Bool :=
  let c := s.work.obj.calib
  let pick := fun (src : Nat) (now : Option Int) (last : Option Nat) =>
    match now, last with
    | some x, _ => (x, src, false)
    | none, some y => ((y : Int), src, true)
    | none, none => (c.fixedSos, 3, false)
  match lget c.lsrc (n - 1) with
  | 0 => pick 0 (if s.work.flow.tempNone then none else some s.work.flow.sosMean.toNat) s.ret.flow.cbar
  | 1 => pick 1 ref s.ret.flow.refSos
  | _ => (c.fixedSos, 2, false)

/-- The empty run of a level channel (R245): the new record and the event. -/
def levelEmpty (n : Nat) (x : RxEval) (used : Bool) (s : Vol) : Vol :=
  if !faultRules s then s
  else
  let l := vget s.work.levels n
  let put := fun (l : LevelWork) => { s with work.levels := vset s.work.levels n l }
  match x.record.status with
  | 1 =>
    if l.noEcho + 1 = 8 ∧ !l.empty then
      limM 0x0169 n n (unlockPort (levelPort n).val (put { l with noEcho := 8, empty := true }))
    else put { l with noEcho := min 8 (l.noEcho + 1) }
  | 3 => s
  | _ =>
    let s' := put { l with noEcho := 0, empty := l.empty && !used }
    if used && l.empty then limM 0x016A n n s' else s'

/-- The record of level channel n at the end of a cycle. -/
def levelResult (ref : Option Int) (n : Nat) (s : Vol) : Vol :=
  let l := vget s.work.levels n
  match l.rx with
  | none => s
  | some x =>
    let c := s.work.obj.calib
    let isRef := c.refCh == (n : Int)
    let base := { l with
      status := BitVec.ofNat 4 x.record.status
      slip := x.record.slip
      degraded := s.work.cyc.degraded }
    let time := levelTime s n x
    let (l', dflt) := match time with
      | none => ({ base with held := true, age := satInc l.age }, false)
      | some t =>
        let (v, src, held) := levelSos s n ref
        if isRef then
          ({ base with
              level := 0
              dist := ofInt 32 c.refDist
              sos := ofInt 32 v
              sosSrc := BitVec.ofNat 2 src
              sosHeld := held
              held := false
              age := 0 }, src == 3)
        else
          let dist := roundAway (v * t) 67108864000
          let ofs := lget c.lofs (n - 1)
          let level := if lget c.ldir (n - 1) = 0 then ofs + dist else ofs - dist
          ({ base with
              level := ofInt 32 (fitOr (-(2 ^ 31)) (2 ^ 31 - 1) 230 level)
              dist := ofInt 32 (fitOr 0 (2 ^ 32 - 1) 230 dist)
              sos := ofInt 32 v
              sosSrc := BitVec.ofNat 2 src
              sosHeld := held
              held := false
              age := 0 }, src == 3)
    let s := { s with work.levels := vset s.work.levels n l' }
    let bit := BitVec.ofNat 16 (2 ^ (n - 1))
    let s := if dflt && s.ret.flow.sosDefault &&& bit == 0 then
        logM 0x0155 n { s with ret.flow.sosDefault := s.ret.flow.sosDefault ||| bit }
      else s
    levelEmpty n x time.isSome s

/-- All level records of a cycle, once its result is formed and every level reception is finished. -/
def tryLevels (s : Vol) : Vol :=
  let ns := levelsOf (th s 0)
  if s.work.cyc.pairsDone && !ns.isEmpty && ns.all fun n => (vget s.work.levels n).rx.isSome then
    let r := s.work.obj.calib.refCh.toNat
    let ref := match (vget s.work.levels r).rx with
      | some x => if ns.contains r then (levelTime s r x).map (reflectorSos s) else none
      | none => none
    let s := match ref with
      | some c => { s with ret.flow.refSos := some c.toNat }
      | none => s
    let s := ns.foldl (init := s) fun s n => levelResult ref n s
    streamLevels ns { s with work.levels := s.work.levels.map fun l => { l with rx := none } }
  else s

end Sys2Proof.Machine
end

