-- ==== Sys2Proof/Machine/Chain.lean ====
section
/-! DEFINITION. The chain link (R561 to R577): its records, what a secondary takes and sends, and when a primary decides its
cycle. -/

namespace Sys2Proof.Machine

/-! ### Records (R567, R568) -/

def chainCrc (r : ChainRec) : BitVec 16 := crc16 (r.src :: r.type :: r.len :: r.body)

/-- A record with its SOF and CRC. -/
def chainBytes (src type : Nat) (body : Bytes) : Bytes :=
  let b := [BitVec.ofNat 8 src, BitVec.ofNat 8 type, BitVec.ofNat 8 body.length] ++ body
  0x5A :: b ++ beBytes 2 (crc16 b).toNat

/-- The levels of CHOUT, one per CORE period (R567): each byte as a start bit, eight data bits from the most significant one and a
stop bit. CHOUT idles at 1. -/
def chainLevels (b : Bytes) : List Bool :=
  b.flatMap fun x => false :: ((List.range 8).map fun i => x.getLsbD (7 - i)) ++ [true]

/-- A chain loop-back runs (R576). -/
def chainLoop (s : Vol) : Bool := s.work.pt.lbResult == 1 && s.work.pt.lbRun.toNat / 2 ^ 28 == 5

/-- The receiver hears CHIN: CORE runs, and no loop-back has taken the receiver (R576). -/
def chainHears (s : Vol) : Bool := coreRuns s && !chainLoop s

/-- A record leaves on CHOUT. A chain loop-back sends and forwards none (R576), nor does a standalone device (R562). -/
def chainSend (b : Bytes) (s : Vol) : Vol :=
  if chainLoop s || !(isPrimary s || isSecondary s) then s
  else { s with work.chain.chout := s.work.chain.chout ++ [b] }

/-- A record as received is forwarded (R569). -/
def chainForward (r : ChainRec) (s : Vol) : Vol :=
  chainSend ([0x5A, r.src, r.type, r.len] ++ r.body ++ beBytes 2 r.crc.toNat) s

/-- A record that is acted on: its CRC and length hold, of the expected type. A record with a failed CRC is counted in
FRAME_DISCARD (R569). -/
def chainGood (type len : Nat) (r : ChainRec) : Bool :=
  r.crc == chainCrc r && r.type.toNat == type && r.len.toNat == len && r.body.length == len

def chainDiscard (r : ChainRec) (s : Vol) : Vol :=
  if r.crc == chainCrc r then s else { s with work.pt.frameDiscard := satInc s.work.pt.frameDiscard }

/-- The TOKEN of a cycle start (R568). -/
def tokenBytes (s : Vol) : Bytes :=
  chainBytes 0 1 (beBytes 2 s.work.cyc.count.toNat ++ beBytes 1 (b2n (!jointMode s))
    ++ beBytes 5 (nowSeconds s * 64 + b2n s.bak.osf * 32))

/-- The primary sends its TOKEN. -/
def sendToken (s : Vol) : Vol :=
  if isPrimary s && !chainLoop s then chainSend (tokenBytes s) { s with work.chain.tokenOut := true } else s

/-- The PATH and END records of a secondary (R568, R572). -/
def sendResults (s : Vol) : Vol :=
  let k := position s
  let s := (ownPaths s).foldl (init := s) fun s j =>
    chainSend (chainBytes k 2 (beBytes 1 j ++ beBytes 16 (pathWord s j))) s
  chainSend (chainBytes k 3 (beBytes 1 (pathCount (th s 0)) ++ beBytes 8 (flowWord s.work.flow)
    ++ beBytes 1 (errorFlags s))) s

/-! ### Deciding a cycle (R571, R574) -/

def chainPos (s : Vol) (k : Nat) : ChainPos := vget s.work.chain.positions k
def setChainPos (k : Nat) (p : ChainPos) (s : Vol) : Vol :=
  { s with work.chain.positions := vset s.work.chain.positions k p }

/-- The count of missing ENDs of a known position (R574). The ENDs of a conflict count as missing: DEDUCED, log entry 133. -/
def countMissing (k : Nat) (s : Vol) : Vol :=
  let p := chainPos s k
  if !p.known then s
  else if p.ends ≠ 0 ∧ !p.conflict then setChainPos k { p with missing := 0 } s
  else if p.missing + 1 = 8 ∧ !p.lost then
    logM 0x0180 k (setChainPos k { p with missing := 8, lost := true } s)
  else setChainPos k { p with missing := min 8 (p.missing + 1) } s

/-- The primary decides its cycle (R571). -/
def primaryDecides (s : Vol) : Vol :=
  if s.work.cyc.pairsDone then s
  else
    let s := if s.work.chain.tokenOut then limM 0x0184 0xFF 0xFF s else s
    let s := [1, 2, 3].foldl (init := s) fun s k => countMissing k s
    tryLevels (cycleResult s)

/-- ENDs that stand have come from every position known since reset. -/
def endsComplete (s : Vol) : Bool :=
  [1, 2, 3].all fun k => !(chainPos s k).known || decide ((chainPos s k).ends ≠ 0 ∧ !(chainPos s k).conflict)

/-- Every pair of the device's own plan is decided in this cycle. -/
def ownDecided (s : Vol) : Bool :=
  if (ownPaths s).isEmpty then (levelsOf (th s 0)).all fun n => (vget s.work.levels n).rx.isSome
  else (ownPaths s).all fun j => (pathW s j).decided

/-- What follows when the last own pair is decided (R188, R216, R569, R571, R572). -/
def ownFinished (s : Vol) : Vol :=
  if s.work.chain.ownDone || !ownDecided s then tryLevels s
  else
    let s := { s with work.chain.ownDone := true }
    if isSecondary s then
      let s := if jointMode s then jointSecondaryResult s else cycleResult s
      let s := if s.work.chain.inCycle then sendResults s else s
      tryLevels s
    else if isPrimary s then (if endsComplete s then primaryDecides s else tryLevels s)
    else tryLevels (cycleResult s)

/-! ### The commands -/

/-- A secondary takes calendar, OSF and mode from a TOKEN (R561, R570). -/
def takeToken (r : ChainRec) (s : Vol) : Vol :=
  let joint := beNat (slice r.body 2 1) = 0
  let t := beNat (slice r.body 3 5)
  let sec := t / 64
  let far := decide (64 < ((s.bak.cal.ticks : Int) - 64 * sec).natAbs)
  let own := th s 10 < 4
  let diff := decide (th s 10 < 8) && decide (joint ≠ own) && !s.work.chain.modeDiff
  let s := { s with
    bak.cal := if far then calOfSeconds sec else s.bak.cal
    bak.osf := t / 32 % 2 = 1
    work.chain.mode := some joint
    work.chain.modeDiff := s.work.chain.modeDiff || diff }
  if diff then logM 0x0185 (th s 10) s else s

/-- CHAIN_TOKEN (R570). -/
def chainToken (r : ChainRec) (s : Vol) : Vol :=
  if !isSecondary s || !chainHears s then s
  else
    let s := chainForward r s
    if chainGood 1 8 r && r.src == 0 then takeToken r s else chainDiscard r s

def execChainToken (r : ChainRec) (s : State) : Host.Outcome State Fault Refusal := .next (s.up (chainToken r s.vol))

/-- TOKEN_RETURNED (R569): the primary removes its TOKEN. -/
def tokenReturned (r : ChainRec) (s : Vol) : Vol :=
  if !isPrimary s || !chainHears s then s
  else if chainGood 1 8 r && r.src == 0 then { s with work.chain.tokenOut := false }
  else chainDiscard r s

def execTokenReturned (r : ChainRec) (s : State) : Host.Outcome State Fault Refusal :=
  .next (s.up (tokenReturned r s.vol))

/-- The primary takes a PATH record of a cycle, for its decision (R572). -/
def takePath (r : ChainRec) (s : Vol) : Vol :=
  let k := r.src.toNat
  let p := beNat (r.body.take 1)
  let j := 8 * k + p
  if !jointMode s || !s.work.chain.inCycle || s.work.cyc.pairsDone || (chainPos s k).conflict
      || !decide (1 ≤ k ∧ k ≤ 3 ∧ 1 ≤ p ∧ p ≤ 8) then s
  else
    { s with
      work.chain.paths := s.work.chain.paths.filter (·.1 != j) ++ [(j, beNat (r.body.drop 1))] }

/-- CHAIN_PATH (R568, R572): the primary keeps it, a secondary forwards it. -/
def chainPath (r : ChainRec) (s : Vol) : Vol :=
  if !chainHears s then s
  else if isSecondary s then chainDiscard r (chainForward r s)
  else if !isPrimary s then s
  else if chainGood 2 17 r then takePath r s
  else chainDiscard r s

def execChainPath (r : ChainRec) (s : State) : Host.Outcome State Fault Refusal := .next (s.up (chainPath r s.vol))

/-- Every record of a position in this cycle is discarded (R574): what the first END brought is as the cycle found it. A conflict after the decision
leaves the decided verdicts: DEDUCED, log entry 133. -/
def conflictPos (k : Nat) (s : Vol) : Vol :=
  logM 0x0182 k (setChainPos k { vget s.work.chain.before k with conflict := true, ends := 2 } s)

/-- The primary takes an END record (R571 to R574). -/
def takeEnd (r : ChainRec) (s : Vol) : Vol :=
  let k := r.src.toNat
  let p := chainPos s k
  if !s.work.chain.inCycle || !decide (1 ≤ k ∧ k ≤ 3) then s
  else if p.ends ≠ 0 then (if p.conflict then s else conflictPos k s)
  else
    let s' := setChainPos k
      { p with
        known := true
        paths := min 8 (beNat (r.body.take 1))
        ends := 1
        missing := 0
        lost := false
        flow := BitVec.ofNat 64 (beNat (slice r.body 1 8))
        flags := BitVec.ofNat 8 (beNat (slice r.body 9 1)) } s
    let s := if p.lost then logM 0x0181 k s' else s'
    if s.work.chain.ownDone && endsComplete s then primaryDecides s else s

/-- CHAIN_END (R571). -/
def chainEnd (r : ChainRec) (s : Vol) : Vol :=
  if !chainHears s then s
  else if isSecondary s then chainDiscard r (chainForward r s)
  else if !isPrimary s then s
  else if chainGood 3 10 r then takeEnd r s
  else chainDiscard r s

def execChainEnd (r : ChainRec) (s : State) : Host.Outcome State Fault Refusal := .next (s.up (chainEnd r s.vol))

/-- CHAIN_DECIDE_TIMEOUT (R571): 2 ms after the last own pair. -/
def execChainDecideTimeout (s : State) : Host.Outcome State Fault Refusal :=
  let v := s.vol
  if isPrimary v && coreRuns v && v.work.chain.ownDone then .next (s.up (primaryDecides v)) else .next s

end Sys2Proof.Machine
end

