-- ==== Sys2Proof/Machine/Objects.lean ====
section
/-! DEFINITION. The object directory (R401, R413, R417, R418): which objects exist, who may reach them, and the value of
every object and element as a GET returns it (R403, R404). -/

namespace Sys2Proof.Machine

/-- The objects of R417. -/
inductive Obj where
  | forward | reverse | tariffVol (t : Nat) | estimated | demand (t : Nat) | profile | snapshots
  | tariffCal | source
  | flow | path (p : Nat) | plan | calib | prof | temp | level (n : Nat)
  | fin (n : Nat) | sensor (n : Nat) | aux
  | clock | pwake | alarm (b : Bool) | curve | pwron | lastWake
  | prices | credit | tokenLog | valve
  | health | notes | thatch | identity | clampReport | life | log (l : LogId)
  | key (k : Nat) | portSettings | lineSettings | roster | templates | curves | control
deriving DecidableEq, Repr

/-- Objects of the water medium, 8-0 (R13). -/
def waterObj (c d e : Nat) : Option Obj :=
  match c, d, e with
  | 1, 8, 0 => some .forward
  | 2, 8, 0 => some .reverse
  | 1, 8, 9 => some .estimated
  | 1, 8, t => if 1 ≤ t ∧ t ≤ 4 then some (.tariffVol t) else none
  | 1, 6, t => if 1 ≤ t ∧ t ≤ 4 then some (.demand t) else none
  | 99, 1, 0 => some .profile
  | 98, 1, 0 => some .snapshots
  | 1, 7, 0 => some .flow
  | 96, 1, p => some (.path p)
  | 96, 2, 0 => some .plan
  | 96, 3, 0 => some .calib
  | 96, 4, 0 => some .prof
  | 96, 5, 0 => some .temp
  | 96, 6, n => some (.level n)
  | _, _, _ => none

/-- Objects of no medium, 0-0. -/
def plainObj (c d e : Nat) : Option Obj :=
  match c, d, e with
  | 1, 0, 0 => some .clock
  | 13, 0, 0 => some .tariffCal
  | 96, 1, 0 => some .identity
  | 96, 7, n => if n ≤ 5 then some (.fin n) else none
  | 96, 8, n => if n ≤ 5 then some (.sensor n) else if n = 6 then some .aux else none
  | 96, 9, 0 => some .pwake
  | 96, 9, 1 => some (.alarm false)
  | 96, 9, 2 => some (.alarm true)
  | 96, 9, 3 => some .curve
  | 96, 9, 4 => some .pwron
  | 96, 9, 5 => some .lastWake
  | 96, 10, 0 => some .source
  | 96, 10, 1 => some .prices
  | 96, 11, 0 => some .credit
  | 96, 11, 1 => some .tokenLog
  | 96, 11, 2 => some .valve
  | 96, 12, 0 => some .health
  | 96, 12, 1 => some .notes
  | 96, 13, 0 => some .thatch
  | 96, 13, 1 => some .clampReport
  | 96, 14, 0 => some .life
  | 96, 15, 1 => some (.log .metrology)
  | 96, 15, 2 => some (.log .general)
  | 96, 16, k => if 1 ≤ k ∧ k ≤ 5 then some (.key (k - 1)) else none
  | 96, 17, 0 => some .portSettings
  | 96, 18, 0 => some .lineSettings
  | 96, 18, 1 => some .roster
  | 96, 19, 0 => some .templates
  | 96, 19, 1 => some .curves
  | 96, 20, 0 => some .control
  | _, _, _ => none

/-- A path result object exists for the paths of the plan, and on a joint primary for the indices of R572 (R613). -/
def pathExists (s : Vol) (p : Nat) : Bool :=
  decide (1 ≤ p ∧ p ≤ pathCount (th s 0))
    || (isPrimary s && jointMode s && decide (9 ≤ p ∧ p ≤ 32)
      && (vget s.work.chain.positions ((p - 1) / 8)).known
      && decide ((p - 1) % 8 + 1 ≤ (vget s.work.chain.positions ((p - 1) / 8)).paths))

/-- The object of an identifier, none where there is no such object (R401, R613). -/
def objOf (s : Vol) (ident : BitVec 48) : Option Obj :=
  let g := fun (i : Nat) => ident.toNat / 256 ^ (5 - i) % 256
  if g 1 ≠ 0 ∨ g 5 ≠ 255 then none
  else
    match (if g 0 = 8 then waterObj (g 2) (g 3) (g 4) else if g 0 = 0 then plainObj (g 2) (g 3) (g 4) else none) with
    | some (.path p) => if pathExists s p then some (.path p) else none
    | some (.level n) => if (levelsOf (th s 0)).contains n then some (.level n) else none
    | o => o

/-! ### Rights (R41, R224, R275, R305, R337, R360, R394, R413, R418) -/

/-- Roles that may read, write and act on an object. -/
structure Rights where
  read : List Role
  write : List Role
  act : List Role
deriving DecidableEq, Repr

def everyone : List Role := [.pub, .customer, .operator, .metrology, .host]
def notPublic : List Role := [.customer, .operator, .metrology, .host]
def technical : List Role := [.operator, .metrology, .host]

def ro (r : List Role) : Rights := { read := r, write := [], act := [] }
def rw (r w : List Role) : Rights := { read := r, write := w, act := [] }

def rightsOf : Obj → Rights
  | .forward | .reverse | .tariffVol _ | .flow | .identity => ro everyone
  | .estimated | .demand _ | .snapshots | .temp | .level _ | .tokenLog => ro notPublic
  | .log .metrology => ro notPublic
  | .log .general => ro technical
  | .profile => rw notPublic [.metrology]
  | .tariffCal | .source => rw notPublic [.operator, .metrology]
  | .path _ | .plan | .thatch | .lastWake | .health | .clampReport => ro technical
  | .calib | .prof | .curve => rw technical [.metrology]
  | .fin _ => { read := notPublic, write := [], act := [.operator, .metrology] }
  | .sensor _ | .aux | .pwake | .alarm _ | .pwron | .templates | .curves => rw technical [.operator, .metrology]
  | .clock => rw everyone technical
  | .prices | .valve => rw notPublic [.operator]
  | .credit => { read := notPublic, write := [], act := [.customer, .operator, .host] }
  | .notes => rw notPublic technical
  | .life => { read := everyone, write := [], act := [.operator, .metrology] }
  | .key 4 => rw [] [.metrology]
  | .key _ => rw [] [.operator, .metrology]
  | .portSettings | .lineSettings => rw technical technical
  | .roster => rw technical [.operator, .host]
  | .control => rw [.metrology] [.metrology]

/-- A role may read an object; in RETIRED, PUBLIC reads what any role may read (R420). -/
def mayRead (s : Vol) (r : Role) (o : Obj) : Bool :=
  let l := (rightsOf o).read
  l.contains r || (retired s && r == .pub && !l.isEmpty)

/-- Inactive under the thatch (R29, R31, R340, R575); a SET of the clock on a secondary is one of these. -/
def inactive (s : Vol) (o : Obj) (isSet : Bool) : Bool :=
  match o with
  | .prices | .credit | .tokenLog | .valve => !prepaid s
  | .lineSettings | .roster => th s 6 == 15 || isSecondary s
  | .templates | .curves => th s 8 == 15 || isSecondary s
  | .pwake | .alarm _ | .pwron | .forward | .reverse | .tariffVol _ | .estimated | .demand _ | .profile | .snapshots
  | .tariffCal | .source => isSecondary s
  | .clock => isSecondary s && isSet
  | _ => false

/-! ### Values -/

/-- The elements of a record list as bytes of n each. -/
def words (n : Nat) (l : List Nat) : List Bytes := l.map (beBytes n)

/-- The words of element 1 of the line settings, retained while LINE is absent (R484). -/
def lineWordsLive (s : Vol) : List (BitVec 64) :=
  ([0, 1, 2].map fun k => BitVec.ofNat 64 (ctxWord s k)) ++ [BitVec.ofNat 64 (serviceWord s)]

def lineWords (s : Vol) : List (BitVec 64) :=
  if lineAbsent s then s.work.line.kept.getD (lineWordsLive s) else lineWordsLive s

/-- The result word and the offset word that a path object shows (R224). -/
def shownPath (s : Vol) (j : Nat) : Nat := (vget s.work.shown.words j).toNat
def shownOffset (s : Vol) (j : Nat) : Nat := (vget s.work.shown.offsets j).toNat

/-- A latest reception record; before the first one it has no value (R202), but for LEARN and the reserved bits. -/
def latestRx (s : Vol) (p : Fin 16) : Nat :=
  match vget s.work.shown.rx p.val with
  | some r => rxWord r
  | none =>
    let x := (Config.unstated 202 [p.val]).natAbs % 2 ^ 128
    x / 2 ^ 46 * 2 ^ 46 + b2n (decide (vget s.ret.flow.learn p.val < 8)) * 2 ^ 45 + x / 2 ^ 37 % 2 ^ 8 * 2 ^ 37 + x % 2 ^ 32

/-- The entries of the path plan and status object (R131, R168, R252, R572). -/
def planEntries (s : Vol) : List Nat :=
  [scheduleWord s] ++ (s.work.laneCopy.toList.map (·.toNat))
    ++ ((List.range 8).map fun i => pathFaultWord s (i + 1)) ++ [flowFaultWord s, levelFaultWord s]
    ++ (if isPrimary s && jointMode s then (List.range 24).map fun i => pathFaultWord s (i + 9) else [])

/-- The tariff source and default object (R338). -/
def sourceList (s : Vol) : List Int :=
  let o := s.work.obj
  [(tariffSource s).1, (tariffSource s).2, defaultTariff s, o.bday, o.bhour, s.ret.led.tariff.toNat,
   requestedTariff s s.bak.cal.ticks, s.bak.inFault.toNat, hwmWord s]

/-- Pages of a log, the token log and their newest entries. -/
def tokenPage (seq : Nat) : Nat := 336 + seq % 256

/-- The 16 bytes of a page that holds one entry (R387, R426). -/
def entryBytes (nv : Nv) (s : Vol) (page : Nat) : Bytes := slice (viewPage nv s page) 8 16

def tokenSeqs (s : Vol) : List Nat :=
  let n := s.ret.pre.logSeq.toNat
  (List.range (min 256 n)).map fun i => n - 1 - i

/-- The token log, newest first (R363). -/
def tokenEntries (nv : Nv) (s : Vol) : List Bytes :=
  (tokenSeqs s).filterMap fun q =>
    let p := tokenPage q
    if pageValid nv s p && pageSeq (viewPage nv s p) == q then some (entryBytes nv s p) else none

/-- The snapshots that are kept, newest first (R330). DEDUCED: log entry 47. -/
def snapshotList (nv : Nv) (s : Vol) : List Bytes :=
  let n := s.ret.led.closes
  (List.range (min 24 n)).filterMap fun i =>
    let k := n - i
    if i = 0 ∧ s.ret.led.snapshotHeld then some s.ret.led.snapshot
    else match snapshotOf nv s ((k - 1) % 24) with
      | some (q, b) => if q = k then some b else none
      | none => none

/-- TCRC (R502), over elements 1 to 16. -/
def templateBytes (t : List Int) : Bytes := serialise templateShape t

def tcrcAll (d : Display) : BitVec 32 := crc32 (d.templates.flatMap templateBytes)

def mainList (d : Display) : List Int := d.mainEntry ++ [((tcrcAll d).toNat : Int)]

/-- The elements of the test and loop-back control object (R104, R452, R485, R514). -/
def controlElems (s : Vol) : List Bytes :=
  [beBytes 4 s.work.loop.request.toNat, beBytes 4 s.work.pt.lbRequest.toNat, beBytes 8 (portLoopWord s.work.pt),
   beBytes 4 s.work.line.lbRequest.toNat, beBytes 8 (lineLoopWord s.work.line), beBytes 4 s.work.disp.lbRequest.toNat,
   beBytes 8 (displayLoopWord s.work.disp)]

/-- The flow rate records (R227, R573): on a primary in independent integration, those of the positions from which an END has
arrived follow the device's own. The whole object holds no place for another position: DESIGN CHOICE, log entry 124. -/
def flowElems (s : Vol) : List Bytes × Bool :=
  let own := flowWord s.work.flow
  if isPrimary s && !jointMode s then
    let known := [1, 2, 3].filter fun k => (vget s.work.chain.positions k).known
    (words 8 (own :: known.map fun k => (vget s.work.chain.positions k).flow.toNat), true)
  else (words 8 [own], false)

/-- The element of 8-0:1.7.0 that ATTR names (R573): SRC is the number of the element. -/
def flowElem (s : Vol) (attr : Nat) : Option Bytes :=
  if !(isPrimary s && !jointMode s) then none
  else if attr = 0 then some (beBytes 8 (flowWord s.work.flow))
  else
    let p := vget s.work.chain.positions attr
    if attr ≤ 3 ∧ p.known then some (beBytes 8 p.flow.toNat) else none

/-- The elements of an object, and whether ATTR may name one. A type that lists no elements has none (R401, R604). -/
def elements (nv : Nv) (s : Vol) : Obj → List Bytes × Bool
  | .forward => (words 8 [s.ret.led.fwd.toNat, s.ret.led.net.toNat], true)
  | .reverse => (words 8 [s.ret.led.rev.toNat], false)
  | .tariffVol t => (words 8 [(vget s.ret.led.t (t - 1)).toNat], false)
  | .estimated => (words 8 [s.ret.led.estF.toNat, s.ret.led.estR.toNat], true)
  | .demand t => (words 16 [demandWord (vget s.ret.led.md (t - 1))], false)
  | .profile =>
    let l := s.ret.led
    ([beBytes 4 (l.nextSeq - BitVec.ofNat 32 l.kept).toNat ++ beBytes 4 (l.nextSeq - 1).toNat ++ beBytes 1 l.pscale.toNat],
     false)
  | .snapshots => (snapshotList nv s, true)
  | .tariffCal => ([serialise tariffCalFields (tariffCalList s.work.obj.tariffCal)], false)
  | .source => ([serialise (sourceFields 4) (sourceList (written s))], false)
  | .flow => flowElems s
  | .path p =>
    if p ≤ 8 then
      ([beBytes 16 (shownPath s p), beBytes 8 (shownOffset s p), beBytes 16 (latestRx s (Fin.ofNat 16 (2 * p - 2))),
        beBytes 16 (latestRx s (Fin.ofNat 16 (2 * p - 1)))], true)
    else ([beBytes 16 (shownPath s p), beBytes 8 0, beBytes 16 0, beBytes 16 0], true)
  | .plan => (words 8 (planEntries s), true)
  | .calib => ([serialise calibShape (calibList (calibWritten s))], false)
  | .prof => ((profWritten s).map fun e => beSigned 4 e.vbar ++ beSigned 4 e.k, true)
  | .temp => (words 8 [tempWord s.work.flow], false)
  | .level n => (words 16 [levelWord s n], false)
  | .fin n => ([beBytes 16 (finValueWord s n), beBytes 8 (finStatusWord s n)], true)
  | .sensor n => ([serialise (sensorFields n) (sensorList (vget s.work.obj.sensors n))], false)
  | .aux =>
    let a := s.work.obj.aux
    ([serialise auxFields [a.gate, a.repeat_, a.ivlTimeout, s.work.aux.skipped.toNat]], false)
  | .clock => (words 16 [clockWord s (groupOf s) false], false)
  | .pwake => ([serialise (pwakeFields 1) (pwakeList (written s).bak.pwake)], false)
  | .alarm b => ([serialise alarmFields (alarmList (if b then s.bak.alarmB else s.bak.alarmA))], false)
  | .curve => ((curveList s.bak.curve).map (beSigned 2), true)
  | .pwron => ([serialise pwronFields (pwronList s.bak.pwron)], false)
  | .lastWake => (words 8 [lastWakeWord s.bak.lastWake], false)
  | .prices => ([serialise priceFields (priceList (s.work.obj.pricesNew.getD (written s).work.obj.prices))], false)
  | .credit => (words 8 [s.ret.pre.credit.toNat, creditStatus s], true)
  | .tokenLog => (tokenEntries nv s, true)
  | .valve => ([serialise valveFields (valveList (written s).work.obj.valve)], false)
  | .health => (words 8 [health0 s, health1 s], true)
  | .thatch => (words 8 ((s.work.th.entries.toList.map thatchWord) ++ [strapWord s]), true)
  | .identity => (words 8 [nv.trim.serial.toNat, identityWord nv s, crossingWord s], true)
  | .clampReport => ((padTo 32 0 s.ret.ex.clampReport).map fun e => beBytes 8 e.toNat, true)
  | .life => ([beBytes 8 (lifeWord s.work.life), beBytes 8 (resetWord s.ret.reset), beBytes 16 (availWord s.ret.avail)], true)
  | .portSettings => ([serialise portFields (portWritten s), beBytes 8 (portWord0 s.work.pt) ++ beBytes 8 (portWord1 s)], true)
  | .lineSettings => ([serialise lineFields s.work.line.settings, (lineWords s).flatMap fun w => beBytes 8 w.toNat], true)
  | .templates =>
    (serialise mainFields (mainList s.work.disp) :: s.work.disp.templates.map templateBytes
      ++ [beBytes 8 (displayWord s)], true)
  | .curves => (serialise edgeFields s.work.disp.edges :: s.work.disp.curves.map (serialise seqFields), true)
  | .control => (controlElems s, true)
  | .notes | .log _ | .roster | .key _ => ([], false)

/-- The number of elements that ATTR may name; the logs, the roster and the site notes are read with a selector. DEDUCED:
log entry 45. -/
def attrExists (nv : Nv) (s : Vol) (o : Obj) (attr : Nat) : Bool :=
  attr == 255
    || match o with
      | .roster => true
      | .templates => decide (attr < 18)
      | .curves => decide (attr < 137)
      | .snapshots => decide (attr < 24)
      | .tokenLog => true
      | .flow => (flowElem s attr).isSome
      | _ => let (l, listed) := elements nv s o; listed && decide (attr < l.length)

/-- The array pages that a GET of an object reads (R380, R395). -/
def pagesRead (s : Vol) : Obj → List Nat
  | .snapshots =>
    let n := s.ret.led.closes
    (List.range (min 24 n)).flatMap fun i => (List.range 6).map fun k => 192 + 6 * ((n - i - 1) % 24) + k
  | .tokenLog => (tokenSeqs s).map tokenPage
  | _ => []

/-! ### Selected reads (R325, R389, R404, R427, R475) -/

/-- What a GET returns. -/
inductive Got where
  | value (b : Bytes) (clamped : Bool) (pages : List Nat)
  | refused
  | unknown
deriving DecidableEq, Repr

/-- The sequence numbers that a ring of `kept` records from `oldest` gives for START and COUNT. -/
def ringSelect (oldest : BitVec 32) (kept : Nat) (start : BitVec 32) (count : Nat) : List (BitVec 32) :=
  let off := (start - oldest).toNat
  let from_ := if off < kept then off else if 2 ^ 31 ≤ off then 0 else kept
  (List.range (min count (kept - from_))).map fun i => oldest + BitVec.ofNat 32 (from_ + i)

/-- An event log entry with its running count (R426), none where its page is unreadable, not valid or holds another entry (R427). -/
def logEntryBytes (nv : Nv) (s : Vol) (l : LogId) (q : BitVec 32) : Option Bytes :=
  let p := logPage l q.toNat
  if !pageValid nv s p || pageSeq (viewPage nv s p) != q.toNat then none
  else
    let e := beNat (entryBytes nv s p)
    let e := match s.ret.logs.windows.find? fun w => w.log == l && w.seq == q with
      | some w => e / 2 ^ 24 * 2 ^ 24 + w.count.toNat * 256 + e % 256
      | none => e
    some (beBytes 16 e)

/-- The hour of a stamp (R475). -/
def hourStamp (s : Vol) : Nat := nowSeconds s / 3600 % 65535

/-- A roster entry as stored, and as a GET returns it (R388, R474, R475). -/
def rosterPage (n : Nat) : Nat := 6144 + n / 8

def rosterStored (nv : Nv) (s : Vol) (n : Nat) : Bytes := slice (viewPage nv s (rosterPage n)) (8 * (n % 8)) 8

def rosterEntry (nv : Nv) (s : Vol) (n : Nat) : Bytes :=
  let b := rosterStored nv s n
  let stamp := beNat (slice b 5 2)
  let age :=
    if stamp = 65535 ∨ uncorrectable nv s (rosterPage n) = true then 65535
    else (hourStamp s + 65535 - stamp % 65535) % 65535
  b.take 5 ++ beBytes 2 age ++ b.drop 7

def getSelected (nv : Nv) (s : Vol) (o : Obj) (d : Bytes) : Got :=
  let start := beNat (d.take 4)
  let count := beNat (slice d 4 1)
  match o with
  | .profile =>
    if d.length ≠ 5 ∨ count = 0 ∨ 128 < count then .refused
    else
      let l := s.ret.led
      let oldest := l.nextSeq - BitVec.ofNat 32 l.kept
      let qs := ringSelect oldest l.kept (BitVec.ofNat 32 start) count
      let open_ := l.nextSeq.toNat - l.page.length
      .value (beBytes 4 oldest.toNat ++ beBytes 4 (l.nextSeq - 1).toNat
          ++ (qs.filterMap fun q => profileRecord nv s q.toNat).flatMap fun r => beBytes 8 r.toNat)
        false ((qs.filter fun q => q.toNat < open_).map fun q => profilePageNo (q.toNat / 6 * 6)).eraseDups
  | .log l =>
    if d.length ≠ 5 ∨ count = 0 ∨ 64 < count then .refused
    else
      let next := logNext s l
      let kept := min 256 next.toNat
      let oldest := next - BitVec.ofNat 32 kept
      let qs := ringSelect oldest kept (BitVec.ofNat 32 start) count
      .value (beBytes 4 oldest.toNat ++ beBytes 4 (next - 1).toNat ++ (qs.filterMap (logEntryBytes nv s l)).flatten)
        false (qs.map fun q => logPage l q.toNat)
  | .roster =>
    let n := beNat (d.take 2)
    let k := beNat (slice d 2 1)
    if d.length ≠ 3 ∨ k = 0 ∨ 128 < k ∨ 16384 ≤ n then .refused
    else
      let ns := (List.range (min k (16384 - n))).map (n + ·)
      .value (ns.flatMap (rosterEntry nv s)) false ((ns.map rosterPage).eraseDups)
  | .notes =>
    let off := beNat (d.take 2)
    let len := beNat (slice d 2 2)
    if d.length ≠ 4 ∨ len = 0 ∨ 1024 < len ∨ 4096 ≤ off then .refused
    else
      let n := min len (4096 - off)
      let at_ := (List.range n).map (off + ·)
      .value (at_.map fun i => (viewPage nv s (4864 + i / 64)).getD (i % 64) 0xFF) (n < len)
        ((at_.map fun i => 4864 + i / 64).eraseDups)
  | _ => .refused

/-- The value of a GET (R401 to R404): a selector where the object takes one, otherwise an element or the whole. DEDUCED:
log entry 46. DEDUCED: log entry 48. -/
def getObj (nv : Nv) (s : Vol) (o : Obj) (attr : Nat) (d : Bytes) : Got :=
  match o with
  | .roster =>
    if attr < 255 then (if d.isEmpty then .value (rosterEntry nv s attr) false [rosterPage attr] else .refused)
    else getSelected nv s o d
  | .log _ | .notes => getSelected nv s o d
  | _ =>
    if !d.isEmpty then (if attr = 255 then getSelected nv s o d else .refused)
    else
      let (l, _) := elements nv s o
      if attr = 255 then
        if 4096 < bytesSum l then .refused else .value l.flatten false (pagesRead s o)
      else match (if o = .flow then flowElem s attr else l[attr]?) with
        | some b => .value b false (pagesRead s o)
        | none => .unknown
where bytesSum (l : List Bytes) : Nat := (l.map (·.length)).sum

end Sys2Proof.Machine
end

