-- ==== Sys2Proof/Machine/Display.lean ====
section
/-! DEFINITION. The DISPLAY (R488 to R515): drive curves, rectangles, requests and frames, templates and their fields, the
panel record, the read-back. -/

namespace Sys2Proof.Machine

/-! ### Text (R505) -/

def ascii (c : Char) : Byte := BitVec.ofNat 8 c.toNat

def textOf (t : String) : Bytes := t.toList.map ascii

/-- The decimal digits of n, at least k of them. -/
def decimals : Nat → Nat → Nat → Bytes
  | 0, _, _ => []
  | f + 1, k, n =>
    if n < 10 ∧ k ≤ 1 then [BitVec.ofNat 8 (48 + n)]
    else decimals f (k - 1) (n / 10) ++ [BitVec.ofNat 8 (48 + n % 10)]

/-- A value divided by 10^DROP toward zero, in decimal with DPOINT digits after a point. -/
def decimalText (v : Int) (drop dpoint : Nat) : Bytes :=
  let q := v.natAbs / 10 ^ drop
  let d := decimals 40 (dpoint + 1) q
  let body := if dpoint = 0 then d else d.take (d.length - dpoint) ++ textOf "." ++ d.drop (d.length - dpoint)
  if v < 0 ∧ q ≠ 0 then textOf "-" ++ body else body

/-- Names of the token results (R363). -/
def resultName (r : Nat) : Bytes :=
  textOf (["ACCEPTED", "FORMAT", "MAC", "CLASS", "USED", "TOO_OLD", "RANGE", "KEYLESS", "LOCKED", "STATE", "STORE"].getD r "")

/-- The digits of the entry, in groups of four. -/
def entryText (l : List (Fin 10)) : Bytes :=
  ((chunks 4 6 (l.map fun d => (BitVec.ofNat 8 (48 + d.val) : Byte))).intersperse (textOf " ")).flatten

def bcdText (b : Byte) : Bytes := [BitVec.ofNat 8 (48 + b.toNat / 16), BitVec.ofNat 8 (48 + b.toNat % 16)]

/-- YYYY-MM-DD HH:MM, with " ?" while OSF is set. -/
def dateText (s : Vol) : Bytes :=
  let c := groupOf s
  bcdText c.century ++ bcdText c.year ++ textOf "-" ++ bcdText c.month ++ textOf "-" ++ bcdText c.day ++ textOf " "
    ++ bcdText c.hour ++ textOf ":" ++ bcdText c.min ++ (if s.bak.osf then textOf " ?" else [])

/-- An object value as the CUSTOMER role may read it, none where the read gives no value or STALE. -/
def fieldValue (nv : Nv) (s : Vol) (e : List Int) : Option Nat :=
  match objOf s (ofInt 48 (lget e 9)) with
  | none => none
  | some o =>
    if inactive s o false || !mayRead s .customer o || (o == .lineSettings && lineAbsent s) then none
    else match getObj nv s o (lget e 10).toNat [] with
      | .value b _ _ => some (beNat b)
      | _ => none

/-- The text of a field entry. -/
def fieldText (nv : Nv) (s : Vol) (e : List Int) : Bytes :=
  match lget e 1 with
  | 0 => (beBytes 6 (lget e 17).toNat).reverse.dropWhile (· == 0x20) |>.reverse
  | 1 =>
    let n := (lget e 16).toNat
    match fieldValue nv s e with
    | none => List.replicate n (ascii '-')
    | some x =>
      let w := (lget e 12).toNat
      let u := x / 2 ^ (lget e 11).toNat % 2 ^ w
      let v : Int := if lget e 13 = 1 ∧ 2 ^ (w - 1) ≤ u then (u : Int) - 2 ^ w else u
      let t := decimalText v (lget e 14).toNat (lget e 15).toNat
      if n < t.length then List.replicate n (ascii '#') else t
  | 2 => match s.work.pre.result with
    | some r => resultName r
    | none => entryText s.work.pre.entry
  | _ => dateText s

/-! ### Rectangles (R498) -/

def rectOf (x y wcol h : Nat) (clear : Bool) (field : Nat) : Rect :=
  { (default : Rect) with x, y, wcol, h, clear, field }

/-- The box of a field entry. -/
def fieldRect (e : List Int) (field : Nat) (clear : Bool) : Rect :=
  rectOf (lget e 2).toNat (lget e 3).toNat (lget e 4).toNat (lget e 5).toNat clear field

def fullRect (s : Vol) (clear : Bool) : Rect :=
  match panel s with
  | some (w, h, _) => rectOf 0 0 (w / 8) h clear 63
  | none => rectOf 0 0 0 0 clear 63

def sameBox (a b : Rect) : Bool := a.x == b.x && a.y == b.y && a.wcol == b.wcol && a.h == b.h

def boxIn (a b : Rect) : Bool :=
  decide (b.x ≤ a.x ∧ a.x + a.wcol ≤ b.x + b.wcol ∧ b.y ≤ a.y ∧ a.y + a.h ≤ b.y + b.h)

/-- Two rectangles share a pixel (R499). -/
def boxesMeet (a b : Rect) : Bool :=
  decide (a.x < b.x + b.wcol ∧ b.x < a.x + a.wcol ∧ a.y < b.y + b.h ∧ b.y < a.y + a.h)

def inBox (r : Rect) (x y : Nat) : Bool :=
  decide (8 * r.x ≤ x ∧ x < 8 * (r.x + r.wcol) ∧ r.y ≤ y ∧ y < r.y + r.h)

/-! ### Drive curves (R491, R495 to R497) -/

/-- The segments of a sequence up to its end: code and frames. -/
def segments : List Int → List (Nat × Nat)
  | [] => []
  | x :: r => if x.toNat % 256 = 0 then [] else (x.toNat / 16384, x.toNat % 256) :: segments r

/-- The length of a sequence in frames. -/
def seqLen (q : List Int) : Nat := ((segments q).map (·.2)).sum

/-- The drive code of frame k; 0 after the end of the sequence. -/
def codeAt : List (Nat × Nat) → Nat → Nat
  | [], _ => 0
  | (c, n) :: r, k => if k < n then c else codeAt r (k - n)

def seqCode (q : List Int) (k : Nat) : Nat := codeAt (segments q) k

/-- The band of the latest die reading (R497). -/
def bandNow (s : Vol) : Nat :=
  ((s.work.disp.edges.take 7).filter fun e => decide (4 * e ≤ s.bak.tempDie.toInt)).length

def bandSeqs (s : Vol) (b : Nat) : List (List Int) := (s.work.disp.curves.drop (17 * b)).take 17

/-- F of a rectangle (R498). -/
def framesOf (seqs : List (List Int)) (clear : Bool) : Nat :=
  if clear then seqLen (seqs.getD 16 []) else maxNat ((seqs.take 16).map seqLen)

/-- The code that a pixel of a running rectangle receives in the frame in progress (R498). -/
def pixelCode (r : Rect) (nibble : BitVec 4) : Nat :=
  let q := if r.clear then 16 else 4 * (nibble.toNat % 4) + nibble.toNat / 4
  seqCode (r.seqs.getD q []) (r.frame - 1)

/-- The drive code of a pixel in the frame in progress: that of the rectangle it lies in, 0b00 outside every rectangle (R493). -/
def driveCode (s : Vol) (w x y : Nat) : Nat :=
  match s.work.disp.running.find? (inBox · x y) with
  | some r => pixelCode r (s.work.disp.fb.getD (y * w + x) 0)
  | none => 0

/-- SD0 to SD7 on data clock i of a row: four pixels, the first in SD[7:6] (R491). -/
def sdByte (s : Vol) (w y i : Nat) : Byte :=
  BitVec.ofNat 8 (pack ((List.range 4).map fun k => (2, driveCode s w (4 * i + k) y)))

/-- The panel bus in clock k of the line period for row n of the frame in progress, counted from 0 in CORE periods (R492). In the 16
line periods of blanking, on a device without a panel and between frames every pin is low (R489, R493): of GDCLK in blanking the
manual says nothing, DESIGN CHOICE, log entry 121. -/
def panelPins (s : Vol) (n k : Nat) : PanelPins :=
  match panel s with
  | none => default
  | some (w, h, _) =>
    if h ≤ n ∨ s.work.disp.running.isEmpty then default
    else
      let d := w / 4
      let data := decide (1 ≤ k ∧ k ≤ d)
      let out := decide (d + 4 ≤ k ∧ k < d + 20)
      { sdsp := k == 0
        gdclk := decide (k < 9)
        gdsp := n == 0 && k == 0
        sdle := decide (d + 1 ≤ k ∧ k ≤ d + 2)
        sdoe := out
        gdoe := out
        data
        sd := if data then sdByte s w n (k - 1) else 0 }

/-- The length of a line period in CORE periods (R488). -/
def lineClocks (s : Vol) : Nat :=
  match panel s with
  | some (w, _, _) => w / 4 + 24
  | none => 0

/-! ### Templates (R502 to R506) -/

def templateAt (s : Vol) (t : Nat) : List Int := s.work.disp.templates.getD t templateBlank

def templateOn (s : Vol) (t : Nat) : Bool := lget (templateAt s t) 0 == 1

/-- The template to be shown (R506). -/
def templateToShow (s : Vol) : Nat :=
  let d := s.work.disp
  if !s.work.pre.entry.isEmpty || s.work.pre.result.isSome || s.work.pre.pour then (lget d.mainEntry 1).toNat
  else if d.infoAt.isSome then d.infoTemplate
  else (lget d.mainEntry 0).toNat

/-- The enabled fields of a template with their numbers; none of a disabled template. -/
def fieldsOf (s : Vol) (t : Nat) : List (Nat × List Int) :=
  if !templateOn s t then []
  else ((List.range 32).map fun i => (i, entryOf (templateAt s t) i)).filter fun p => lget p.2 0 == 1

/-- The background of a template; white where it is disabled. -/
def groundOf (s : Vol) (t : Nat) : Nat := if templateOn s t then (lget (templateAt s t) 1).toNat else 1

/-- The colour of a pixel inside a field's box that holds a text (R505); text is clipped at the box (R504). -/
def glyphColour (e : List Int) (text : Bytes) (ground x y : Nat) : Nat :=
  let font := (lget e 6).toNat
  let cw := 8 * (font + 1)
  let start : Int := if lget e 8 = 1 then 8 * lget e 4 - cw * text.length else 0
  let dx : Int := (x : Int) - 8 * lget e 2 - start
  let dy := y - (lget e 3).toNat
  if dx < 0 ∨ 16 * (font + 1) ≤ dy then ground
  else match text[dx.toNat / cw]? with
    | none => ground
    | some c => if Config.glyph font c.toNat (dx.toNat % cw) dy then (lget e 7).toNat else ground

/-- The colour of a pixel of a template whose fields show given texts. -/
def pixelColour (s : Vol) (t : Nat) (texts : List (Nat × List Int × Bytes)) (x y : Nat) : Nat :=
  let ground := groundOf s t
  match texts.find? fun p => inBox (fieldRect p.2.1 p.1 false) x y with
  | some (_, e, text) => glyphColour e text ground x y
  | none => ground

/-- The frame buffer with every pixel changed by a function of its position and nibble. -/
def fbMap (s : Vol) (f : Nat → Nat → BitVec 4 → BitVec 4) : List (BitVec 4) :=
  match panel s with
  | none => []
  | some (w, h, _) =>
    let l := if s.work.disp.fb.isEmpty then List.replicate (w * h) 0 else s.work.disp.fb
    l.mapIdx fun i x => f (i % w) (i / w) x

def setTarget (x : BitVec 4) (c : Nat) : BitVec 4 := BitVec.ofNat 4 (4 * (c % 4) + x.toNat % 4)
def setCurrent (x : BitVec 4) (c : Nat) : BitVec 4 := BitVec.ofNat 4 (x.toNat / 4 * 4 + c % 4)

/-! ### Requests (R494, R499 to R501) -/

/-- Whether the DISPLAY may start a rectangle at all: no power-fail warning (R510). A read-back is one command. -/
def displayFree (s : Vol) : Bool := (panel s).isSome && !s.bak.power.warning

/-- The DISPLAY is reached over the fabric, which wakes it; the transaction that met it absent is counted (R53, R66). -/
def displayMet (s : Vol) : Vol :=
  { s with
    work.fab.absent := if s.work.disp.present || !coreRuns s then s.work.fab.absent else satInc s.work.fab.absent
    work.disp.present := true }

/-- PMIC_EN rises for a request that is due to start; a request whose band is empty is logged (R494, R501). While CORE is stopped
nothing is examined, and the wake makes up for it: DESIGN CHOICE, log entry 144. -/
def dueCheck (s : Vol) : Vol :=
  if !displayFree s || !coreRuns s then s
  else
    let b := bandNow s
    let seqs := bandSeqs s b
    (s.work.disp.pend.foldl (init := (s, ([] : List Rect))) fun (s, older) r =>
      if (s.work.disp.running ++ older).any (boxesMeet r) || decide (4 ≤ s.work.disp.running.length) then (s, older ++ [r])
      else if framesOf seqs r.clear = 0 then (limG 0x0702 0xFF b s, older ++ [r])
      else ({ s with work.disp.pmic := true }, older)).1

/-- The queue collapses (R499). -/
def collapse (r : Rect) (s : Vol) : Vol :=
  let all := s.work.disp.pend ++ [r]
  let draws := [fullRect s false]
  limG 0x0703 0xFF 0xFF
    { s with
      work.disp.pend := if all.any (·.clear) then fullRect s true :: draws else draws
      work.disp.collapses := satInc s.work.disp.collapses }

/-- A new request (R499). -/
def request (r : Rect) (s : Vol) : Vol :=
  if (panel s).isNone then s
  else
    let p := s.work.disp.pend
    let s := displayMet s
    let s :=
      if p.any fun q => sameBox q r && q.clear == r.clear then
        { s with work.disp.pend := p.map fun q => if sameBox q r && q.clear == r.clear then r else q }
      else if !r.clear && p.any fun q => !q.clear && boxIn r q then s
      else if 8 ≤ p.length then collapse r s
      else { s with work.disp.pend := p ++ [r] }
    if s.work.disp.pmic then s else dueCheck s

/-- A full-panel DRAW of the template to be shown. -/
def fullDraw (s : Vol) : Vol := request (fullRect s false) s

/-- A change of the state that may change the template to be shown (R506). -/
def withTemplate (f : Vol → Vol) (s : Vol) : Vol :=
  let s' := f s
  if templateToShow s' = templateToShow s then s' else fullDraw s'

/-- The shown value of a field (R507). -/
def shownOf (s : Vol) (field : Nat) : Option Bytes := (s.ret.disp.shown.find? (·.1 == field)).map (·.2)

/-- A field check (R507). -/
def fieldCheck (nv : Nv) (s : Vol) : Vol :=
  if (panel s).isNone then s
  else
    (fieldsOf s s.ret.disp.shownTemplate).foldl (init := s) fun s p =>
      if shownOf s p.1 = some (fieldText nv s p.2) then s else request (fieldRect p.2 p.1 false) s

/-! ### Starts and ends (R497, R498, R500, R508) -/

/-- A field DRAW that renders the shown value of its field completes at once (R500). -/
def drawnAlready (nv : Nv) (s : Vol) (r : Rect) : Bool :=
  !r.clear && r.field != 63 &&
    match (fieldsOf s s.ret.disp.shownTemplate).find? (·.1 == r.field) with
    | some (_, e) => sameBox (fieldRect e r.field false) r && shownOf s r.field == some (fieldText nv s e)
    | none => false

/-- A full-panel DRAW shows the template to be shown. -/
def takeTemplate (r : Rect) (s : Vol) : Vol :=
  if r.clear || r.field != 63 then s
  else
    let t := templateToShow s
    { s with
      ret.disp.th8 := BitVec.ofNat 4 (th s 8)
      ret.disp.shownTemplate := t
      ret.disp.tcrc := crc32 (templateBytes (templateAt s t))
      ret.disp.shown := [] }

/-- A slot of the panel record as bytes. -/
def slotBytes (r : Rect) : Bytes :=
  beBytes 1 r.x ++ beBytes 2 r.y ++ beBytes 1 r.wcol ++ beBytes 2 r.h ++ beBytes 1 (b2n r.clear) ++ beBytes 1 r.field

/-- The panel record as its CRC covers it (R508). The manual gives no order and no widths: DESIGN CHOICE, log entry 145. -/
def panelBytes (r : DisplayRet) : Bytes :=
  beBytes 1 r.th8.toNat ++ beBytes 1 r.shownTemplate ++ beBytes 4 r.tcrc.toNat
    ++ ((List.range 32).flatMap fun i =>
      let t := ((r.shown.find? (·.1 == i)).map (·.2)).getD []
      beBytes 1 t.length ++ t)
    ++ r.slots.flatMap slotBytes

/-- The panel record has been written: its CRC follows. -/
def sealPanel (s : Vol) : Vol := { s with ret.disp.crc := crc16 (panelBytes s.ret.disp) }

/-- The slots with that of a rectangle that starts. It takes the place of the slots whose boxes it covers; where four others are set, the
oldest of a rectangle that does not run gives way: DESIGN CHOICE, log entry 146. -/
def slotsWith (running : List Rect) (r : Rect) (l : List Rect) : List Rect :=
  let l := l.filter fun q => !boxIn q r
  (if l.length < 4 then l else l.eraseP fun q => !running.any (sameBox q)) ++ [r]

/-- A rectangle starts: its targets are rendered, its slot is written, its sequences are kept. -/
def startRect (nv : Nv) (b : Nat) (r : Rect) (s : Vol) : Vol :=
  let s := takeTemplate r s
  let t := s.ret.disp.shownTemplate
  let texts := (fieldsOf s t).map fun p => (p.1, p.2, fieldText nv s p.2)
  let seqs := bandSeqs s b
  let inside := if r.clear then [] else texts.filter fun p => boxIn (fieldRect p.2.1 p.1 false) r
  let run := { r with
    band := b
    frames := framesOf seqs r.clear
    frame := 1
    shown := inside.map fun p => (p.1, p.2.2)
    seqs := seqs }
  let slot := rectOf r.x r.y r.wcol r.h r.clear r.field
  sealPanel { s with
    work.disp.fb := fbMap s fun x y n =>
      if inBox r x y then setTarget n (if r.clear then 1 else pixelColour s t texts x y) else n
    work.disp.running := s.work.disp.running ++ [run]
    work.disp.band := BitVec.ofNat 3 b
    ret.disp.slots := slotsWith s.work.disp.running slot s.ret.disp.slots }

/-- The examination at a frame start, oldest first (R500). -/
def examine (nv : Nv) (s : Vol) : Vol :=
  let b := bandNow s
  let l := s.work.disp.pend
  let s := { s with work.disp.pend := [] }
  l.foldl (init := s) fun s r =>
    let keep := { s with work.disp.pend := s.work.disp.pend ++ [r] }
    if decide (4 ≤ s.work.disp.running.length) || (s.work.disp.running ++ s.work.disp.pend).any (boxesMeet r) then keep
    else if framesOf (bandSeqs s b) r.clear = 0 then limG 0x0702 0xFF b keep
    else if drawnAlready nv s r then { s with work.disp.updates := satInc s.work.disp.updates }
    else startRect nv b r s

/-- Something pending could start at the next frame start (R494): it meets nothing that runs and no older request that stays
pending (R500). -/
def startable (s : Vol) : Bool :=
  let seqs := bandSeqs s (bandNow s)
  let could := fun (older : List Rect) (r : Rect) =>
    !((s.work.disp.running ++ older).any (boxesMeet r)) && framesOf seqs r.clear != 0
  displayFree s
    && (s.work.disp.pend.foldl (fun (found, older) r => (found || could older r, older ++ [r])) (false, ([] : List Rect))).1

/-- PMIC_EN falls with the last running rectangle, unless a pending one can start. -/
def pmicRest (s : Vol) : Vol :=
  { s with work.disp.pmic := s.work.disp.pmic && (!s.work.disp.running.isEmpty || startable s) }

/-- DISPLAY_FRAME_START (R493, R500). -/
def frameStart (nv : Nv) (s : Vol) : Vol :=
  if !s.work.disp.pmic || !displayFree s || !coreRuns s then s
  else
    let run := s.work.disp.running.map fun r => { r with frame := min r.frames (r.frame + 1) }
    pmicRest (examine nv { s with work.disp.running := run })

def execDisplayFrameStart (s : State) : Host.Outcome State Fault Refusal := .next (s.up (frameStart s.nv s.vol))

/-- The shown values after a rectangle: a DRAW writes those of its fields, a CLEAR leaves none in its box. DEDUCED: log
entry 57. -/
def shownAfter (s : Vol) (r : Rect) : List (Nat × Bytes) :=
  if r.clear then
    s.ret.disp.shown.filter fun p =>
      match (fieldsOf s s.ret.disp.shownTemplate).find? (·.1 == p.1) with
      | some (_, e) => !boxesMeet (fieldRect e p.1 false) r
      | none => true
  else s.ret.disp.shown.filter (fun p => !r.shown.any (·.1 == p.1)) ++ r.shown

/-- A rectangle has run its frames (R498, R508). -/
def completeRect (r : Rect) (s : Vol) : Vol :=
  sealPanel { s with
    work.disp.fb := fbMap s fun x y n => if inBox r x y then setCurrent n (n.toNat / 4) else n
    work.disp.running := s.work.disp.running.filter (!sameBox r ·)
    work.disp.updates := satInc s.work.disp.updates
    ret.disp.shown := shownAfter s r
    ret.disp.slots := s.ret.disp.slots.filter fun q => !boxIn q r }

/-- RECTANGLE_END (R498): the frame F - 1 of running rectangle ix ends. -/
def rectangleEnd (ix : Nat) (s : Vol) : Vol :=
  match s.work.disp.running[ix]? with
  | none => s
  | some r => if r.frame = r.frames then pmicRest (completeRect r s) else s

def execRectangleEnd (ix : Fin 4) (s : State) : Host.Outcome State Fault Refusal :=
  .next (s.up (rectangleEnd ix.val s.vol))

/-! ### The warning and recovery (R508 to R510) -/

/-- The frame in progress completes; rectangles with frames left are interrupted (R510). -/
def displayInterrupt (s : Vol) : Vol :=
  let (done, cut) := s.work.disp.running.partition fun r => r.frame == r.frames
  let s := done.foldl (init := s) fun s r => completeRect r s
  { s with
    work.disp.running := []
    work.disp.interrupted := s.work.disp.interrupted ++ cut.map fun r => rectOf r.x r.y r.wcol r.h r.clear r.field
    work.disp.pmic := false }

/-- A CLEAR followed by a DRAW of a rectangle. -/
def redraw (r : Rect) (s : Vol) : Vol := request { r with clear := false } (request { r with clear := true } s)

/-- VSUP has recovered without a reset (R510). -/
def displayResume (s : Vol) : Vol :=
  let l := s.work.disp.interrupted
  if l.isEmpty then dueCheck s
  else
    let s := { s with work.disp.interrupted := [] }
    logG 0x0704 l.length (l.foldl (init := s) fun s r => redraw r s)

/-- The panel record answers for the panel (R509). -/
def panelKnown (lost : Bool) (s : Vol) : Bool :=
  let r := s.ret.disp
  !lost && r.crc == crc16 (panelBytes r) && r.th8.toNat == th s 8 && r.tcrc == crc32 (templateBytes (templateAt s r.shownTemplate))

/-- The DISPLAY first becomes present after a reset (R509); `lost` says that VBK was lost. -/
def displayRecover (nv : Nv) (lost : Bool) (s : Vol) : Vol :=
  if (panel s).isNone || s.work.disp.recovered then s
  else
    let s := { s with work.disp.recovered := true, work.disp.present := true }
    let s :=
      if !panelKnown lost s then
        logG 0x0701 0xFF (fullDraw (request (fullRect s true) { s with ret.disp.slots := [] }))
      else
        let t := s.ret.disp.shownTemplate
        let texts := (fieldsOf s t).filterMap fun p => (shownOf s p.1).map fun b => (p.1, p.2, b)
        let s := { s with work.disp.fb := fbMap s fun x y n => setCurrent n (pixelColour s t texts x y) }
        let l := s.ret.disp.slots
        let s := l.foldl (init := s) fun s r => redraw r s
        if l.isEmpty then s else logG 0x0701 l.length s
    fieldCheck nv s

/-- An update holds the device in DOZE (R511). -/
def displayHolds (s : Vol) : Bool :=
  let seqs := bandSeqs s (bandNow s)
  !s.work.disp.running.isEmpty || s.work.disp.pend.any fun r => framesOf seqs r.clear != 0

/-! ### Timeouts (R505, R506) -/

/-- INFO shows the next enabled template (R506). -/
def nextTemplate (s : Vol) : Nat :=
  let t := if s.work.disp.infoAt.isSome then s.work.disp.infoTemplate else (lget s.work.disp.mainEntry 0).toNat
  (((List.range 16).map fun i => (t + 1 + i) % 16).find? (templateOn s)).getD t

def infoPress (s : Vol) : Vol :=
  { s with work.disp.infoTemplate := nextTemplate s, work.disp.infoAt := some s.bak.count }

/-- INFO_TIMEOUT: sixty seconds after the latest press of INFO. -/
def infoTimeout (s : Vol) : Vol :=
  match s.work.disp.infoAt with
  | some t =>
    if 3840 ≤ (s.bak.count - t).toNat then withTemplate (fun s => { s with work.disp.infoAt := none }) s else s
  | none => s

def execInfoTimeout (s : State) : Host.Outcome State Fault Refusal := .next (s.up (infoTimeout s.vol))

/-- The token result leaves the display. -/
def dropResult (s : Vol) : Vol := { s with work.pre.result := none, work.disp.resultAt := none }

/-- TOKEN_RESULT_TIMEOUT (R505): 10 s after a submission. -/
def tokenResultTimeout (s : Vol) : Vol :=
  match s.work.disp.resultAt with
  | some t => if 640 ≤ (s.bak.count - t).toNat then withTemplate dropResult s else s
  | none => s

def execTokenResultTimeout (s : State) : Host.Outcome State Fault Refusal :=
  .next (s.up (tokenResultTimeout s.vol))

/-- TEMP_READ (R283, R501): a new reading, once its interval has passed, at which pending requests are examined again. -/
def execTempRead (reading : Int) (s : State) : Host.Outcome State Fault Refusal :=
  if s.vol.bak.power.state == .off || !readingDue s.vol.bak then .next s
  else
    let v := tempRead reading s.vol
    .next (s.up (if v.work.disp.pmic then v else dueCheck v))

/-! ### The read-back (R514) -/

/-- DISPLAY_LOOPBACK_START: no rectangle runs; every pin is driven and read, and the result is known at its end. -/
def displayLoopback (failing : BitVec 15) (s : Vol) : Vol :=
  if s.work.disp.lbResult != 1 || !s.work.disp.running.isEmpty || (panel s).isNone || !coreRuns s then s
  else
    let result : BitVec 3 := if failing = 0 then 2 else 3
    let s := logG 0x0706 0xFF { displayMet s with
      work.disp.pmic := false
      work.disp.lbResult := result
      work.disp.lbMask := failing }
    dueCheck (logG 0x0707 result.toNat s)

def execDisplayLoopbackStart (failing : BitVec 15) (s : State) : Host.Outcome State Fault Refusal :=
  .next (s.up (displayLoopback failing s.vol))

end Sys2Proof.Machine
end

