-- ==== Sys2Proof/Machine/Prepay.lean ====
section
/-! DEFINITION. Credit tokens and the filling point (R340 to R364): the keypad, the evaluation of a token, lock-outs, credit,
emergency credit and pours. -/

namespace Sys2Proof.Machine

/-! ### The token (R345, R346) -/

/-- The fields of the number N that 20 digits spell. -/
def tokenNumber (l : List Nat) : Nat := l.foldl (fun a d => 10 * a + d) 0

def tokenClass (n : Nat) : Nat := n / 2 ^ 64 % 4
def tokenId (n : Nat) : Nat := n / 2 ^ 44 % 2 ^ 20
def tokenAmount (n : Nat) : Nat := n / 2 ^ 28 % 2 ^ 16
def tokenMac (n : Nat) : Nat := n % 2 ^ 28

/-- The check code of R346. -/
def macOf (key : BitVec 128) (serial : BitVec 64) (cls id amount : Nat) : Nat :=
  let m := beBytes 8 serial.toNat ++ [0x54] ++ beBytes 1 cls ++ beBytes 3 id ++ beBytes 2 amount ++ [0x00]
  beNat ((cmac (keyBytes key) m).take 4) / 16

/-- The token key has never been written, or its record is lost and BLANK (R347, R388, R412). -/
def keyless (s : Vol) : Bool := !s.work.life.keyset.getLsbD 4 || s.work.life.keylost.getLsbD 4

/-- CREDIT with the accepted tokens that have not acted yet. -/
def creditAhead (s : Vol) : Int :=
  s.ret.pre.credit.toInt + sumInt (s.ret.pre.tokens.map fun t => tokenEffect t.cls t.amount.toNat)

/-- Bit of an ID in the once-only window (R348); a token under evaluation holds its ID. DEDUCED: log entry 56. -/
def idUsed (s : Vol) (id : Nat) : Bool :=
  (decide (id ≤ s.ret.pre.idhwm.toNat) && s.ret.pre.bitmap.getLsbD (s.ret.pre.idhwm.toNat - id))
    || s.ret.pre.tokens.any fun t => !t.written && t.id == id

/-- RANGE (R352). -/
def outOfRange (s : Vol) (cls amount : Nat) : Bool :=
  let c := creditAhead s + tokenEffect cls amount
  (cls == 0 && decide (10 ^ 15 < c)) || (cls == 1 && decide (c < 0))

/-- The result of R347 before the log write; 0 where the token is to be accepted. -/
def tokenResult (nv : Nv) (s : Vol) (n : Nat) : Nat :=
  let id := tokenId n
  if retired s then 9
  else if lockedOut s then 8
  else if keyless s then 7
  else if 2 ^ 66 ≤ n then 1
  else if tokenMac n ≠ macOf (vget s.work.life.keys 4) nv.trim.serial (tokenClass n) id (tokenAmount n) then 2
  else if tokenClass n = 3 then 3
  else if (id : Int) < (s.ret.pre.idhwm.toNat : Int) - 1023 then 5
  else if idUsed s id then 4
  else if outOfRange s (tokenClass n) (tokenAmount n) then 6
  else 0

/-! ### The token log (R363, R387) and the window (R348) -/

/-- The window after an ID is accepted: IDHWM and bitmap. -/
def windowWith (idhwm : BitVec 20) (bitmap : BitVec 1024) (id : Nat) : BitVec 20 × BitVec 1024 :=
  if idhwm.toNat < id then (BitVec.ofNat 20 id, (bitmap <<< (id - idhwm.toNat)) ||| 1)
  else (idhwm, bitmap ||| (1 <<< (idhwm.toNat - id)))

/-- The page of a token log entry. -/
def tokenReq (s : Vol) (entry idhwm : Nat) (bit : Bool) : Req :=
  let q := s.ret.pre.logSeq.toNat
  plainReq (tokenPage q)
    (pageForm q 0x09 0 1 (beBytes 16 entry ++ beBytes 3 idhwm ++ beBytes 1 (b2n bit))) .tokenLog

/-- An entry of a refused token. For FORMAT and MAC, CLASS, ID and AMOUNT read 0. -/
def logRefused (result n : Nat) (s : Vol) : Vol :=
  let blank := result = 1 ∨ result = 2
  let f := fun x => if blank then 0 else x
  let e := tokenEntry s result (f (tokenClass n)) (f (tokenId n)) (f (tokenAmount n)) s.ret.pre.credit.toInt
  let r := tokenReq s e s.ret.pre.idhwm.toNat (idUsed s (tokenId n))
  submit r { s with ret.pre.logSeq := s.ret.pre.logSeq + 1 }

/-- The entry whose write commits an acceptance (R347, R348). -/
def logAccepted (byAction : Bool) (n : Nat) (s : Vol) : Vol :=
  let id := tokenId n
  let c := creditAhead s + tokenEffect (tokenClass n) (tokenAmount n)
  let e := tokenEntry s 0 (tokenClass n) id (tokenAmount n) c
  let r := tokenReq s e (max s.ret.pre.idhwm.toNat id) true
  let t : Token :=
    { cls := tokenClass n, id, amount := BitVec.ofNat 16 (tokenAmount n), seq := s.ret.pre.logSeq, written := false,
      since := s.bak.count, byAction }
  submit r { s with ret.pre.logSeq := s.ret.pre.logSeq + 1, ret.pre.tokens := s.ret.pre.tokens ++ [t] }

/-! ### Lock-outs (R350) -/

/-- The length of a lock-out in minutes. -/
def lockMinutes (locks : Nat) : Nat := min (10 * 2 ^ (locks - 1)) 1440

def startLockout (nv : Nv) (s : Vol) : Vol :=
  let locks := satInc s.ret.pre.locks
  let s := { s with
    ret.pre.locks := locks
    ret.pre.wrong := 0
    ret.pre.lockFrom := some s.bak.count
    ret.pre.lockTicks := 3840 * lockMinutes locks.toNat }
  writeCounts nv (logG 0x0902 locks.toNat s)

/-- A wrong token (R347). -/
def countWrong (nv : Nv) (result : Nat) (s : Vol) : Vol :=
  let s := limG 0x0901 0xFF result { s with ret.pre.wrong := s.ret.pre.wrong + 1 }
  if 5 ≤ s.ret.pre.wrong then startLockout nv s else s

/-- LOCKOUT_END. -/
def lockoutEnd (nv : Nv) (s : Vol) : Vol :=
  if lockedOut s && lockTicksLeft s == 0 then
    writeCounts nv (logG 0x0903 0xFF { s with ret.pre.lockFrom := none, ret.pre.lockTicks := 0 })
  else s

def execLockoutEnd (s : State) : Host.Outcome State Fault Refusal := .next (s.up (lockoutEnd s.nv s.vol))

/-! ### Evaluation (R347) -/

/-- The display shows a token result (R505). -/
def showResult (r : Nat) (s : Vol) : Vol := { s with work.pre.result := some r, work.disp.resultAt := some s.bak.count }

/-- A submitted token: the state after its evaluation, and its result where it is known before the log write. -/
def submitToken (nv : Nv) (byAction : Bool) (digits : List Nat) (s : Vol) : Vol × Option Nat :=
  let n := tokenNumber digits
  let r := tokenResult nv s n
  if r = 0 then (logAccepted byAction n s, none)
  else
    let s := if r = 8 ∨ r = 9 then s else logRefused r n s
    let s := if r = 1 ∨ r = 2 then countWrong nv r s else s
    (showResult r s, some r)

/-- The log write of token `seq` completes: acceptance commits (R347, R348), and the bitmap is rewritten afterwards. -/
def tokenWritten (nv : Nv) (seq : BitVec 32) (s : Vol) : Vol :=
  match s.ret.pre.tokens.find? fun t => t.seq == seq && !t.written with
  | none => s
  | some t =>
    let (h, b) := windowWith s.ret.pre.idhwm s.ret.pre.bitmap t.id
    let s := { s with
      ret.pre.tokens := s.ret.pre.tokens.map fun x =>
        if x.seq == seq then { x with written := true, since := s.bak.count } else x
      ret.pre.idhwm := h
      ret.pre.bitmap := b
      ret.pre.wrong := 0
      ret.pre.locks := 0 }
    withTemplate (showResult 0) (writeRec nv .state false s)

/-- The log write of token `seq` does not complete: STORE (R349). -/
def tokenFailed (seq : BitVec 32) (s : Vol) : Vol :=
  if s.ret.pre.tokens.any fun t => t.seq == seq && !t.written then
    withTemplate (showResult 10)
      { s with ret.pre.tokens := s.ret.pre.tokens.filter fun t => !(t.seq == seq && !t.written) }
  else s

/-- TOKEN_APPLY (R351, R354, R357): the first tick after the log write. -/
def tokenApply (nv : Nv) (s : Vol) : Vol := if coreRuns s then applyTokens nv s else s

def execTokenApply (s : State) : Host.Outcome State Fault Refusal := .next (s.up (tokenApply s.nv s.vol))

/-! ### Pours (R355 to R359) -/

/-- The floor (R356). -/
def creditFloor (s : Vol) : Int :=
  let v := s.work.obj.valve
  min 0 (min (if s.ret.pre.emerg then -v.emergLimit else 0) (if friendly s then -v.friendlyLimit else 0))

/-- The flow in force has been 0, EMPTY or below CUTOFF for 30 min. -/
def noFlowLong (s : Vol) : Bool := s.work.pre.noFlowSince.any fun t => decide (115200 ≤ (s.bak.count - t).toNat)

/-- The first reason of R359 that holds; a pour that a reset has cut is on its first tick after it. -/
def pourEndReason (s : Vol) : Option Nat :=
  if s.ret.pre.credit.toInt ≤ creditFloor s then some 1
  else if s.work.pre.stopPressed then some 2
  else if noFlowLong s then some 3
  else if s.ret.pre.pourCut then some 4
  else none

/-- A pour ends: VALVE goes low, and a field check follows (R507). -/
def endPour (nv : Nv) (reason : Nat) (s : Vol) : Vol :=
  let s := withTemplate (fun s => { s with
    work.pre.pour := false
    work.pre.valve := false
    work.pre.stopPressed := false
    work.pre.noFlowSince := none
    ret.pre.pourCut := false
    ret.pre.lastEnd := BitVec.ofNat 4 reason }) s
  fieldCheck nv (logG 0x0905 reason s)

/-- POUR_END (R359). -/
def pourEnd (nv : Nv) (s : Vol) : Vol :=
  if !s.work.pre.pour && !s.ret.pre.pourCut then s
  else match pourEndReason s with
    | some r => endPour nv r s
    | none => s

def execPourEnd (s : State) : Host.Outcome State Fault Refusal := .next (s.up (pourEnd s.nv s.vol))

/-- START (R358). -/
def startPour (s : Vol) : Vol :=
  if s.work.pre.pour || retired s || decide (s.ret.pre.credit.toInt ≤ creditFloor s) then s
  else
    markNoFlow (logG 0x0904 s.ret.led.tariff.toNat
      { s with work.pre.pour := true, work.pre.valve := true, work.pre.stopPressed := false })

/-- EMERG (R357), without service in RETIRED (R546). -/
def armEmergency (s : Vol) : Vol :=
  let v := s.work.obj.valve
  if s.ret.pre.credit.toInt < v.emergThreshold ∧ 0 < v.emergLimit ∧ !s.ret.pre.emerg ∧ !retired s then
    logG 0x0906 0xFF { s with ret.pre.emerg := true }
  else s

/-! ### The keypad (R341 to R343) -/

/-- The keypad is active and scanned (R340, R342). -/
def keypadOn (s : Vol) : Bool := prepaid s && coreRuns s

/-- What the KU1680 drives on the four rows (R342): all low while no key is down; in a scan, which drives one row at a time, that
row low and the others at high impedance. Between the scans of a key that is down the rows are taken as in high impedance, and the scans
themselves are no commands: DESIGN CHOICE, log entry 139. -/
def rowPins (s : Vol) (scanned : Option (Fin 4)) : Option (Vector RowPin 4) :=
  if !prepaid s then none
  else some (Vector.ofFn fun r =>
    match scanned with
    | some k => if keypadOn s && r == k then .low else if keypadOn s || s.work.pre.keyDown then .highZ else .low
    | none => if s.work.pre.keyDown then .highZ else .low)

/-- A key is pressed: the result leaves the display, the key acts, and a field check follows (R505, R507). -/
def pressKey (nv : Nv) (f : Vol → Vol) (s : Vol) : Vol :=
  if !keypadOn s || s.work.pre.keyDown then s
  else
    let s := withTemplate (fun s => f (dropResult s)) s
    fieldCheck nv { s with work.pre.keyDown := true, work.pre.lastKey := s.bak.count }

/-- KEY_DIGIT. -/
def addDigit (d : Fin 10) (s : Vol) : Vol :=
  if s.work.pre.entry.length < 20 then { s with work.pre.entry := s.work.pre.entry ++ [d] } else s

def execKeyDigit (d : Fin 10) (s : State) : Host.Outcome State Fault Refusal :=
  .next (s.up (pressKey s.nv (addDigit d) s.vol))

/-- KEY_CLEAR. -/
def execKeyClear (s : State) : Host.Outcome State Fault Refusal :=
  .next (s.up (pressKey s.nv (fun v => { v with work.pre.entry := v.work.pre.entry.dropLast }) s.vol))

/-- KEY_ENTER: 20 digits are submitted, fewer are dropped. -/
def enterEntry (nv : Nv) (s : Vol) : Vol :=
  let e := s.work.pre.entry
  let s := { s with work.pre.entry := [] }
  if e.length = 20 then (submitToken nv false (e.map (·.val)) s).1 else s

def execKeyEnter (s : State) : Host.Outcome State Fault Refusal :=
  .next (s.up (pressKey s.nv (enterEntry s.nv) s.vol))

/-- KEY_START. -/
def execKeyStart (s : State) : Host.Outcome State Fault Refusal := .next (s.up (pressKey s.nv startPour s.vol))

/-- KEY_STOP: an open pour ends at the end of the tick (R359). -/
def stopPour (s : Vol) : Vol := { s with work.pre.stopPressed := s.work.pre.pour || s.ret.pre.pourCut }

def execKeyStop (s : State) : Host.Outcome State Fault Refusal := .next (s.up (pressKey s.nv stopPour s.vol))

/-- KEY_EMERG. -/
def execKeyEmerg (s : State) : Host.Outcome State Fault Refusal := .next (s.up (pressKey s.nv armEmergency s.vol))

/-- KEY_INFO (R506). -/
def execKeyInfo (s : State) : Host.Outcome State Fault Refusal := .next (s.up (pressKey s.nv infoPress s.vol))

/-- KEY_RELEASE (R342). -/
def execKeyRelease (s : State) : Host.Outcome State Fault Refusal :=
  if keypadOn s.vol then .next { s with vol.work.pre.keyDown := false } else .next s

/-- ENTRY_TIMEOUT (R343): 60 s after the previous key press. -/
def entryTimeout (s : Vol) : Vol :=
  if !s.work.pre.entry.isEmpty && decide (3840 ≤ (s.bak.count - s.work.pre.lastKey).toNat) then
    withTemplate (fun s => { s with work.pre.entry := [] }) s
  else s

def execEntryTimeout (s : State) : Host.Outcome State Fault Refusal := .next (s.up (entryTimeout s.vol))

end Sys2Proof.Machine
end

