-- ==== Sys2Proof/Machine/Rounds.lean ====
section
/-! DEFINITION. Cycles and rounds (R78, R87, R99, R106, R110 to R131, R171, R186, R216, R246): how a cycle starts, how its
rounds follow one another, how a reception is finished, and how the cycle ends. -/

namespace Sys2Proof.Machine

/-! ### MEASURE (R525, R126) -/

/-- The front end and the TIMING ENGINE are powered; a start-up calibration is due where the engine was off (R146). -/
def enterMeasure (s : Vol) : Vol :=
  { s with
    bak.power.state := .measure
    work.fe.powered := true
    work.te.calibrated := s.work.te.calibrated && s.work.te.powered
    work.te.powered := true }

/-- MEASURE ends when nothing needs FINE (R525): no front end is powered and no slot is due or open. The lane queues have passed to
CORE by then (R159). -/
def leaveMeasure (s : Vol) : Vol :=
  if s.bak.power.state == .measure && !s.work.fe.powered && !s.work.aux.due && !s.work.aux.isOpen then
    { drainAll s with
      bak.power.state := .doze
      bak.power.dozeFrom := s.bak.count
      bak.power.pll := false
      work.te.powered := false
      work.te.calibrated := false }
  else s

/-- The lane entries that the FLOW ENGINE copies (R417). -/
def copyLanes (s : Vol) : Vol :=
  { s with work.laneCopy := Vector.ofFn fun (k : Fin 6) => BitVec.ofNat 64 (laneWord (lane s k.val)) }

/-! ### Finishing a reception (R186, R188, R198, R199) -/

def inLoop (s : Vol) : Bool := s.work.cyc.kind == .loopback

/-- The use of the slot that set k serves in the round. -/
def setUse (s : Vol) (k : Nat) : Option SlotUse :=
  if (eset s k).port.isSome then s.work.fe.round.slots[(eset s k).slot]? else none

/-- The reception of set k has been finished in this round. -/
def rxDone (s : Vol) (k : Nat) : Bool := (eset s k).done || (setUse s k).isNone

/-- A finished reception of set k is kept with its path or channel, and the pair is decided (R188, R195). -/
def storeRx (k : Nat) (x : RxEval) (s : Vol) : Vol :=
  match setUse s k with
  | some (.path p) =>
    let w := pathW s p
    decidePair p (setPathW p (if x.record.port == upPort p then { w with up := some x } else { w with down := some x }) s)
  | some (.level n) =>
    let s := { s with work.levels := vmod s.work.levels n fun l => { l with rx := some x } }
    if x.record.status = 0 ∧ x.s = 0 then leadUpdate x s else s
  | none => s

/-- What follows an evaluated reception: the stream, the code's count, the trackers, the pair, the cycle. A loop-back
reception updates no tracker and forms no pair (R199). -/
def finishRx (k : Nat) (x : RxEval) (s : Vol) : Vol :=
  let s := countGain x.record (streamRx x.record (setEset k { eset s k with done := true } s))
  if inLoop s then s
  else ownFinished (storeRx k x (trackersAfter x s))

/-- A reception that ends as GAP without a close word (R59, R87, R377). DEDUCED: log entry 31. -/
def gapRx (k : Nat) (s : Vol) : Vol :=
  if rxDone s k then s
  else
    match (eset s k).port with
    | some p =>
      finishRx k (plainEval (rxBase s
        { port := p, slot := (eset s k).slot, swapped := s.work.cyc.swapped, pga := (eset s k).pga, gap := true,
          confirmed := false, clipped := false, stamps := [], span := [] })) s
    | none => s

def gapSets (ks : List Nat) (s : Vol) : Vol := ks.foldl (init := s) fun s k => gapRx k s

/-- A raw block leaves for the stream, if one is complete: the words of an acoustic lane up to a close word (R160). -/
def streamReception (k : Nat) (port : Nat) (s : Vol) : Vol :=
  match splitClose port [] (lane s k).raw with
  | none => s
  | some (words, close, rest) =>
    streamBlock k s.work.fe.round.index s.work.cyc.count.toNat (words ++ [close])
      (setLane k { lane s k with raw := rest } s)

/-- The close word of a reception reaches CORE, and the reception is evaluated (R156, R171, R186). -/
def receptionClose (k t0 : Nat) (env : List (BitVec 10)) (s : Vol) : Vol :=
  match (eset s k).port with
  | none => s
  | some p =>
    let d := drainAll s
    match splitClose p.val [] (lane d k).taken with
    | none => s
    | some (words, _, rest) =>
      let s := streamReception k p.val (setLane k { lane d k with taken := rest } d)
      if rxDone s k then s
      else finishRx k (evalReception s (receptionIn s k words t0 env)) s

/-- RECEPTION_CLOSE (R186). `env` holds the envelope samples from `t0` on, in T from the epoch. -/
def execReceptionClose (lane : Fin 4) (t0 : Nat) (env : List (BitVec 10)) (s : State) : Host.Outcome State Fault Refusal :=
  .next (s.up (receptionClose lane.val t0 env s.vol))

/-! ### The end of a cycle (R78, R126, R129) -/

/-- The uses of the rounds from index n on, each with its slot. -/
def usesFrom (s : Vol) (n : Nat) : List (SlotUse × Nat) := ((roundsOf (th s 0)).drop n).flatMap fun r => r.zipIdx

/-- The GAP reception of a port in a slot of a round that was not run (R175, R202). Its GAIN is the code that the slot would have used:
DEDUCED, log entry 31. -/
def unfiredRx (u : SlotUse) (j : Nat) (port : Fin 16) (s : Vol) : RxEval :=
  plainEval (rxBase s
    { port, slot := j, swapped := s.work.cyc.swapped, pga := slotCode s u, gap := true,
      confirmed := false, clipped := false, stamps := [], span := [] })

/-- That reception leaves its record (R202). -/
def unfiredRecord (x : RxEval) (s : Vol) : Vol := trackersAfter x (streamRx x.record s)

/-- The pair or the reception of a round that was not run is a GAP (R59, R116, R129, R175). DEDUCED: log entry 31. -/
def gapUse (u : SlotUse) (j : Nat) (s : Vol) : Vol :=
  match u with
  | .path p =>
    gapPair p (unfiredRecord (unfiredRx u j (downPort p) s) (unfiredRecord (unfiredRx u j (upPort p) s) s))
  | .level n =>
    let x := unfiredRx u j (levelPort n) s
    let s := unfiredRecord x s
    { s with work.levels := vmod s.work.levels n fun l => { l with rx := some (l.rx.getD x) } }

/-- The duration of a round of k slots in T / 8 (R114). -/
def roundT8 (s : Vol) (k : Nat) : Nat :=
  let tof := tofMaxUs (th s 3) * 512
  8 * (4672 + (k - 1) * staggerT (th s 1) (th s 2) + tof) + max tof (8 * 20 * 512)

/-- Ticks from the present one to the next start tick: a multiple of the period in force, or of a shorter one that is to come
(R123, R130). -/
def ticksToStart (s : Vol) : Nat :=
  let p := min (periodOf s.work.cyc.rate.toNat) (periodOf s.work.cyc.nextRate.toNat)
  p - s.bak.count.toNat % p

/-- The idle time after a cycle of `n` rounds is below tBLOOM + 2 ms (R126), in T / 8 (a tick is 64 000 000), with the rounds at
their durations and a late start or a wait seen through the tick count. DESIGN CHOICE: log entry 33. -/
def keepsPowered (n : Nat) (s : Vol) : Bool :=
  let run := (((roundsOf (th s 0)).take n).map fun r => roundT8 s r.length).sum
  let waited := (s.bak.count - s.work.cyc.startTick).toNat * 64000000
  let left := waited + ticksToStart s * 64000000
  decide (left - max run waited < (bloomUs (th s 1) + 2000) * 4096)

/-- Nothing of the cycle runs any more. `first` is the first round that was not run. The rounds that a loop-back cycle leaves unfired
give no GAP receptions: DEDUCED, log entry 31. -/
def endCycle (first : Nat) (s : Vol) : Vol :=
  let loop := inLoop s
  let s := if loop then s else (usesFrom s first).foldl (init := s) fun s u => gapUse u.1 u.2 s
  let held := keepsPowered first s && !s.bak.power.warning
  let s := { s with
    work.fe.powered := held || s.work.loop.running
    work.fe.round := default
    work.fe.sets := Vector.replicate 4 setClear
    work.cyc.running := false
    work.cyc.abandon := false
    work.cyc.relockFailed := false
    work.cyc.feHeld := held
    work.cyc.nextSwapped := if loop then s.work.cyc.nextSwapped else !s.work.cyc.swapped
    work.loop.nextSwapped := if loop then !s.work.loop.nextSwapped else s.work.loop.nextSwapped }
  let s := leaveMeasure (if loop then s else degradedEvents (ownFinished s))
  { s with work.cyc.rateFrom := some (s.work.cyc.rateFrom.getD s.bak.count) }

/-- CYCLE_ABANDONED (R129, R135), where rounds are left unfired. DEDUCED: log entry 35, also for a loop-back cycle, which logs
nothing. -/
def endAbandoned (first : Nat) (s : Vol) : Vol :=
  let n := (roundsOf (th s 0)).length - first
  let s := if n = 0 || inLoop s then s else logM 0x0121 n s
  endCycle first s

/-! ### Rounds in order (R99, R115, R116, R123) -/

/-- A round of a reference-edge loop-back: a calibration exercise of every acoustic cell and nothing else (R169). -/
def referenceRound (ix : Nat) (s : Vol) : Vol :=
  beginCal [0, 1, 2, 3] { s with
    work.fe.sets := Vector.replicate 4 setClear
    work.fe.round := { (default : Round) with running := true, index := ix, settling := true } }

def startRound (ix vdrv : Nat) (s : Vol) : Vol := if referenceLoop s then referenceRound ix s else roundStart ix vdrv s

/-- Round ix is due: it starts, waits for lock (R116), or ends the cycle. -/
def nextRound (ix vdrv : Nat) (s : Vol) : Vol :=
  if (roundsOf (th s 0)).length ≤ ix then endCycle ix s
  else if s.work.cyc.abandon then endAbandoned ix s
  else if s.work.cyc.relockFailed && !s.bak.power.pll then endCycle ix s
  else if s.bak.power.pll then startRound ix vdrv { s with work.cyc.relockFailed := false }
  else
    { s with
      work.fe.sets := Vector.replicate 4 setClear
      work.fe.round := { (default : Round) with index := ix, waiting := some vdrv } }

/-- The words of lanes without a reception in the round, calibration words alone, leave as blocks of their own (R160, R169).
DEDUCED: log entry 37. -/
def streamUnused (ix : Nat) (s : Vol) : Vol :=
  [0, 1, 2, 3].foldl (init := s) fun s k =>
    if (eset s k).port.isSome then s
    else
      let l := lane s k
      streamBlock k ix s.work.cyc.count.toNat l.raw (setLane k { l with taken := [], raw := [] } s)

/-- SETTLE_END (R115). -/
def settleEnd (vdrv : Nat) (s : Vol) : Vol :=
  let r := s.work.fe.round
  if !r.running || !r.settling then s
  else nextRound (r.index + 1) vdrv (streamUnused r.index (copyLanes (drainAll s)))

def execSettleEnd (vdrv : Nat) (s : State) : Host.Outcome State Fault Refusal := .next (s.up (settleEnd vdrv s.vol))

/-- The window of every set of slot j closes: an arming that is not confirmed is withdrawn, and the close words are written
(R117, R156). DEDUCED: log entry 29. -/
def closeSet (j k : Nat) (s : Vol) : Vol :=
  let e := eset s k
  if e.port.isNone || e.slot ≠ j || e.closed then s
  else
    let s := if e.armedAt.isSome && !e.confirmed then withdraw k s else s
    let e := eset s k
    let endAt := windowEnd s e
    writeClose k (setEset k { e with closed := true, endedAt := some (e.endedAt.getD endAt) } s)

/-- SEARCH_WINDOW_CLOSE (R115, R117): the window of slot j closes, and after the last window the settle begins. DEDUCED: log
entry 32. -/
def windowClose (j : Nat) (s : Vol) : Vol :=
  let r := s.work.fe.round
  let ks := (List.range 4).filter fun k => (eset s k).port.isSome && (eset s k).slot == j
  if !r.running || r.settling || decide (r.shots ≤ j) || ks.isEmpty || ks.all (fun k => (eset s k).closed) then s
  else
    let s :=
      if r.unfired then
        gapSets ks (ks.foldl (init := s) fun s k => setEset k { eset s k with closed := true, closeWritten := true } s)
      else ks.foldl (init := s) fun s k => closeSet j k s
    let s := { s with work.fe.round.windows := r.windows + 1 }
    if r.slots.length ≤ r.windows + 1 then
      let s := { s with
        work.fe.round.settling := true
        work.fe.sets := s.work.fe.sets.map fun e => { e with listening := false, drive := .off } }
      if r.lostLock then s else beginCal [0, 1, 2, 3] s
    else s

def execSearchWindowClose (slot : Fin 4) (s : State) : Host.Outcome State Fault Refusal :=
  .next (s.up (windowClose slot.val s.vol))

/-! ### The start of a cycle (R123, R127, R216) -/

/-- The latest multiple of a period of P ticks (R123). -/
def latestMultiple (p : Nat) (s : Vol) : BitVec 32 := BitVec.ofNat 32 (s.bak.count.toNat / p * p)

/-- Tick a lies after tick b, less than 2^31 ticks on. -/
def tickAfter (a b : BitVec 32) : Bool := decide (0 < (a - b).toNat ∧ (a - b).toNat < 2 ^ 31)

/-- The device is a member of a chain, whose cycles start on the rising edge of SYNC (R564). -/
def onChain (s : Vol) : Bool := isPrimary s || isSecondary s

/-- The tick is a start tick from which the new rate is taken (R130). -/
def rateStarts (tick : BitVec 32) (s : Vol) : Bool :=
  s.work.cyc.nextRate != s.work.cyc.rate && (onChain s || s.work.cyc.rateFrom.any (tickAfter tick))

/-- A new rate is taken from the first start tick of its period after the cycle that gave it (R130), in a chain from the next
cycle start. -/
def takeRate (s : Vol) : Vol :=
  if rateStarts (latestMultiple (periodOf s.work.cyc.nextRate.toNat) s) s then
    { s with work.cyc.rate := s.work.cyc.nextRate }
  else s

/-- The latest start tick: of the device's own schedule, or in a chain the tick of SYNC, for the primary uses no start tick
(R123, R124, R564). DEDUCED: log entry 34. -/
def startTickOf (s : Vol) : BitVec 32 :=
  if onChain s then s.bak.count else latestMultiple (periodOf s.work.cyc.rate.toNat) s

/-- A cycle may start now for a start tick: on that tick, or late where the wake ahead of it ended after it (R123). A start of the
device makes no cycle late. -/
def mayStart (tick : BitVec 32) (s : Vol) : Bool :=
  tick == s.bak.count
    || (s.bak.power.wakeFrom.any (fun t => !tickAfter t tick) && tickAfter s.bak.power.wakeEnd tick)

/-- CORE may run cycles: R520 (no warning), R246 (not on the RC while the crystal starts), R554 (not in RETIRED). -/
def cyclesRun (s : Vol) : Bool :=
  coreRuns s && !s.bak.power.warning && !(onRc s && !s.bak.power.hfxoFailed) && !retired s

/-- CAL_TAKEN (R216). -/
def takeCalib (s : Vol) : Vol :=
  let s := match s.work.obj.calibNew with
    | some c => logM 0x0154 0 { s with work.obj.calib := c, work.obj.calibNew := none }
    | none => s
  match s.work.obj.profNew with
  | some p => logM 0x0154 1 { s with work.obj.prof := p, work.obj.profNew := none }
  | none => s

/-- Nothing of the cycle has been received or decided yet. -/
def clearCycle (s : Vol) : Vol :=
  { s with
    work.paths := s.work.paths.map fun p => { p with up := none, down := none, decided := false, sat := false }
    work.levels := s.work.levels.map fun l => { l with rx := none }
    work.flow.satNow := false
    work.cyc.pairsDone := false
    work.chain.ownDone := false
    work.chain.inCycle := s.work.chain.takesPart
    work.chain.paths := []
    work.chain.positions := s.work.chain.positions.map fun p => { p with ends := 0, conflict := false }
    work.chain.before := s.work.chain.positions }

/-- The orientation of a loop-back cycle (R107). -/
def loopSwapped (s : Vol) : Bool :=
  let r := s.work.loop.inForce
  if r.getLsbD 21 then r.getLsbD 20 else s.work.loop.nextSwapped

/-- A cycle of normal service begins. It is DEGRADED from the start where CORE is on the RC, or was in its bloom (R246). -/
def beginCycle (tick : BitVec 32) (vdrv : Nat) (s : Vol) : Vol :=
  let bloomed := s.work.fe.powered && !s.work.cyc.feHeld
  let s := takeCalib (bookCycle tick s)
  let s := clearCycle s
  let s := { s with
    work.cyc.running := true
    work.cyc.kind := .normal
    work.cyc.swapped := s.work.cyc.nextSwapped
    work.cyc.count := s.work.cyc.count + 1
    work.cyc.startTick := tick
    work.cyc.executed := true
    work.cyc.degraded := onRc s || (bloomed && s.work.cyc.bloomRc)
    work.cyc.elapsed := if s.work.cyc.executed then (tick - s.work.cyc.startTick).toNat
      else periodOf s.work.cyc.rate.toNat }
  nextRound 0 vdrv (sendToken (enterMeasure s))

/-- A loop-back cycle begins (R106, R107). It follows the latest request but one with KIND 0: DESIGN CHOICE, log entry
105. -/
def beginLoopCycle (vdrv : Nat) (s : Vol) : Vol :=
  let r := s.work.loop.request
  let s := { s with work.loop.inForce := if r.toNat / 2 ^ 28 = 0 then s.work.loop.inForce else r }
  let s := { s with
    work.cyc.running := true
    work.cyc.kind := .loopback
    work.cyc.swapped := loopSwapped s
    work.cyc.startTick := s.bak.count }
  nextRound 0 vdrv (enterMeasure s)

/-- A start tick that is not executed (R127). -/
def overrun (s : Vol) : Vol :=
  let normal := s.work.cyc.running && !inLoop s
  let s := { s with work.cyc.overruns := satInc s.work.cyc.overruns }
  if normal then limM 0x0120 0xFF 0xFF s else s

/-- A cycle start on a tick that has not been taken yet. -/
def takeStart (tick : BitVec 32) (vdrv : Nat) (s : Vol) : Vol :=
  let s := { s with work.cyc.seen := some tick }
  if s.work.th.omitCycle then { s with work.th.omitCycle := false }
  else if s.work.cyc.running then overrun s
  else if s.work.loop.running then beginLoopCycle vdrv s
  else beginCycle tick vdrv s

/-- The start of a cycle at the present tick. A start tick of the own schedule is taken once. The boundary at which a loop-back has
ended starts no cycle (R106). -/
def cycleStart (vdrv : Nat) (s : Vol) : Vol :=
  if !cyclesRun s || s.work.loop.endTick == some s.bak.count then s
  else
    let s := takeRate s
    let tick := startTickOf s
    if (!onChain s && s.work.cyc.seen == some tick) || !mayStart tick s then s else takeStart tick vdrv s

/-- CYCLE_START (R123): the start tick of a standalone device. -/
def execCycleStart (vdrv : Nat) (s : State) : Host.Outcome State Fault Refusal :=
  if onChain s.vol then .next s else .next (s.up (cycleStart vdrv s.vol))

/-- The plan has paths or level channels. -/
def planMeasures (s : Vol) : Bool := !(roundsOf (th s 0)).isEmpty

/-- The next tick is the start tick of a cycle (R123), of the rate in force or the first of a new one (R130), for which the device wakes
ahead (R533). -/
def cycleNext (s : Vol) : Bool :=
  let t := s.bak.count + 1
  let starts := fun (rate : BitVec 4) => decide (t.toNat % periodOf rate.toNat = 0)
  planMeasures s && !isSecondary s && !retired s
    && (starts s.work.cyc.rate || (starts s.work.cyc.nextRate && rateStarts t s))

/-- A start tick of the own schedule that has come and that no cycle has taken may still have its cycle (R123). -/
def startWaits (s : Vol) : Bool :=
  let s := takeRate s
  let t := startTickOf s
  planMeasures s && s.work.cyc.seen != some t && mayStart t s

/-- A cycle begins within tBLOOM and 200 us: on the next tick, late for a tick that has come, or in a chain at the rise of SYNC, which
is low (R533, R564). -/
def measureDue (s : Vol) : Bool := if onChain s then s.work.chain.syncLow else cycleNext s || startWaits s

/-- MEASURE_ENTRY (R533): after step 4 of the wake, the PLL and the bloom start for the cycle that is due. -/
def measureEntry (s : Vol) : Vol :=
  if !cyclesRun s || !measureDue s
      || !(s.bak.power.state == .doze || (s.bak.power.state == .measure && !s.work.fe.powered)) then s
  else enterMeasure { s with work.cyc.bloomRc := onRc s, work.cyc.relockFailed := false }

def execMeasureEntry (s : State) : Host.Outcome State Fault Refusal := .next (s.up (measureEntry s.vol))

/-! ### Lock (R59, R116, R530, R531) -/

/-- PLL_LOCK: FINE runs; a round that waits begins. -/
def pllLock (s : Vol) : Vol :=
  if s.bak.power.state != .measure then s
  else
    let s := { s with bak.power.pll := true, work.cyc.relockFailed := false }
    match s.work.fe.round.waiting with
    | some v => if s.work.cyc.running then nextRound s.work.fe.round.index v s else s
    | none => s

def execPllLock (s : State) : Host.Outcome State Fault Refusal := .next (s.up (pllLock s.vol))

/-- No lock after 200 us: the rest of the cycle is left unfired (R116). A cycle that the power-fail warning has met while its round waits
ends so too, without CYCLE_ABANDONED: DEDUCED, log entry 35. -/
def lockFails (s : Vol) : Vol :=
  let s := { s with work.cyc.relockFailed := true }
  if s.work.cyc.running && s.work.fe.round.waiting.isSome then endCycle s.work.fe.round.index s else s

/-- RELOCK_TIMEOUT (R59, R116). -/
def execRelockTimeout (s : State) : Host.Outcome State Fault Refusal :=
  if s.vol.work.cyc.running && !s.vol.bak.power.pll then .next (s.up (lockFails s.vol)) else .next s

/-- PLL_LOCK_FAIL (R531). A due AUX slot is not opened. -/
def pllLockFail (s : Vol) : Vol :=
  if s.bak.power.state != .measure || s.bak.power.pll then s
  else leaveMeasure (lockFails (limM 0x0506 0xFF 0xFF { s with work.aux.due := false }))

def execPllLockFail (s : State) : Host.Outcome State Fault Refusal := .next (s.up (pllLockFail s.vol))

/-- The round in progress loses its stamps (R59): every reception of it becomes GAP, and no settle calibration runs
(R612). A reception that has been finished keeps its status and its pair, and a settle run that has ended keeps its coefficients and
its words: DEDUCED, log entry 135. -/
def roundLosesLock (s : Vol) : Vol :=
  let lanes := Vector.ofFn fun (k : Fin 6) =>
    let l := lane s k.val
    if k.val < 4 then
      { l with
        queue := l.queue.filter fun w => !isData w
        taken := l.taken.filter fun w => !isData w
        tentative := 0
        cells := l.cells.map fun c => { c with calibrating := false } }
    else l
  { s with
    work.te.lanes := lanes
    work.fe.round.gap := true
    work.fe.round.lostLock := true }

/-! ### The flow in force (R227) -/

/-- FLOW_STALE. -/
def execFlowStale (s : State) : Host.Outcome State Fault Refusal :=
  match s.vol.ret.flow.inForce with
  | some f =>
    if ageLimit s.vol < (s.vol.bak.count - f.startTick).toNat then
      .next { s with vol.work.flow.stale := true }
    else .next s
  | none => .next s

/-! ### Acoustic loop-backs (R106, R251) -/

/-- A cycle boundary of the schedule in force, at which no cycle runs. -/
def atBoundary (s : Vol) : Bool :=
  !s.work.cyc.running && coreRuns s && (isSecondary s || s.bak.count.toNat % periodOf s.work.cyc.rate.toNat = 0)

/-- The booking at the start of a loop-back: what came before it is booked, or is the gap of a restart, whose decision waits for
the first executed cycle (R106, R248, R607). -/
def bookBeforeLoop (t : BitVec 32) (s : Vol) : Vol :=
  if retired s then s
  else if s.ret.flow.restartGap then bookOutage t s
  else bookTo t s

/-- LOOPBACK_START. No offset sample is formed across a loop-back (R107, R207). -/
def loopbackStart (s : Vol) : Vol :=
  if !s.work.loop.requested || s.work.loop.running || !atBoundary s then s
  else
    let t := s.bak.count
    let s := bookBeforeLoop t s
    let s := { s with
      work.loop.requested := false
      work.loop.running := true
      work.loop.ending := none
      work.loop.startTick := t
      work.loop.inForce := s.work.loop.request
      work.loop.nextSwapped := s.work.cyc.nextSwapped
      work.paths := s.work.paths.map fun p => { p with prev := none } }
    logM 0x0113 (if s.work.loop.request.toNat / 2 ^ 28 = 2 then 0xFF else s.work.loop.request.toNat / 2 ^ 24 % 16) s

def execLoopbackStart (s : State) : Host.Outcome State Fault Refusal := .next (s.up (loopbackStart s.vol))

/-- The loop-back is to end, for the first reason that comes. All but the 600 s end a request that waits as well: DESIGN
CHOICE, log entry 105. -/
def loopEnds (reason : Nat) (s : Vol) : Vol :=
  { s with
    work.loop.ending :=
      if s.work.loop.running then some (s.work.loop.ending.getD (BitVec.ofNat 8 reason)) else s.work.loop.ending
    work.loop.requested := s.work.loop.requested && reason == 1 }

/-- LOOPBACK_TIMEOUT: 600 s from its start. -/
def execLoopbackTimeout (s : State) : Host.Outcome State Fault Refusal :=
  let v := s.vol
  if v.work.loop.running && decide (38400 ≤ (v.bak.count - v.work.loop.startTick).toNat) then
    .next (s.up (loopEnds 1 v))
  else .next s

/-- LOOPBACK_END: at the first cycle boundary after its end condition. DEDUCED: log entry 28. -/
def loopbackEnd (s : Vol) : Vol :=
  match s.work.loop.ending with
  | none => s
  | some reason =>
    if !s.work.loop.running || !atBoundary s then s
    else
      let t := s.bak.count
      let s := if retired s then s else bookLoop t s
      let s := { s with
        work.loop.running := false
        work.loop.ending := none
        work.fe.powered := false
        work.cyc.feHeld := false
        work.cyc.kind := .normal
        work.loop.endTick := some t }
      leaveMeasure (logM 0x0114 reason.toNat s)

def execLoopbackEnd (s : State) : Host.Outcome State Fault Refusal := .next (s.up (loopbackEnd s.vol))

end Sys2Proof.Machine
end

