-- ==== Sys2Proof/Machine/Exchange.lean ====
section
/-! DEFINITION. The object exchange engine (R398 to R424): frames, replies and blocks, sessions, the order of checks, what a
SET writes and when its values take effect. The commands that carry frames are in `Requests`. -/

namespace Sys2Proof.Machine

/-! ### Status codes (R414), ports and roles -/

def stOk : Nat := 0
def stDenied : Nat := 1
def stUnknown : Nat := 2
def stReadOnly : Nat := 3
def stClamped : Nat := 4
def stRefused : Nat := 5
def stBusy : Nat := 6
def stUnavailable : Nat := 7
def stState : Nat := 8
def stStale : Nat := 9
def stAuthFail : Nat := 10

def portIx : Port → Nat
  | .optical => 0 | .mbus => 1 | .rs485 => 2 | .link => 3 | .line => 4

def roleCode : Role → Nat
  | .pub => 0 | .customer => 1 | .operator => 2 | .metrology => 3 | .host => 4

def roleOf : Nat → Option Role
  | 1 => some .customer | 2 => some .operator | 3 => some .metrology | 4 => some .host | _ => none

/-- A role opens on a port (R398); nothing opens on the line (R472). -/
def roleOnPort (r : Role) (p : Port) : Bool :=
  match r with
  | .metrology => p == .optical
  | .host => p == .link
  | _ => p != .line

/-- The roles that a life-cycle state admits (R546). -/
def roleAdmitted (l : LState) (r : Role) : Bool :=
  match l with
  | .blank | .retired => r == .pub
  | .sealed => r != .metrology
  | _ => true

/-! ### Frames (R399, R400, R408) -/

/-- LEN to DATA of a frame. -/
def frameBody (f : Frame) : Bytes :=
  beBytes 2 f.len.toNat ++ [f.session, f.seq, f.cmd] ++ beBytes 6 f.ident.toNat ++ [f.attr] ++ f.data

/-- SESSION 1 to 4 carries a MAC. -/
def hasMac (session : Byte) : Bool := decide (1 ≤ session.toNat ∧ session.toNat ≤ 4)

/-- A frame that is discarded without reply (R400). -/
def frameBad (f : Frame) : Bool :=
  let mac := if hasMac f.session then beBytes 4 f.mac.toNat else []
  !f.bytesOk || crc16 (frameBody f ++ mac) != f.crc || decide (f.len.toNat < 10)
    || decide ((if f.session = 0 then 1034 else 1038) < f.len.toNat)
    || f.len.toNat != 10 + f.data.length + mac.length

def discardFrame (s : Vol) : Vol := { s with work.pt.frameDiscard := satInc s.work.pt.frameDiscard }

/-- The MAC of a frame under Ks (R408). -/
def frameMac (ks : BitVec 128) (dir : Byte) (body : Bytes) : Bytes := (cmac (keyBytes ks) (dir :: body)).take 4

/-- A reply frame: DATA is STATUS, BLOCK and payload (R404). Without a key, the MAC of a slot's reply is zeros (R410). -/
def replyFrame (f : Frame) (ks : Option (BitVec 128)) (status block : Nat) (payload : Bytes) : Bytes :=
  let data := beBytes 1 status ++ beBytes 1 block ++ payload
  let mac := hasMac f.session
  let body := beBytes 2 (10 + data.length + (if mac then 4 else 0)) ++ [f.session, f.seq, 0x80]
    ++ beBytes 6 f.ident.toNat ++ [f.attr] ++ data
  let body := if mac then
      body ++ (match ks with
        | some k => frameMac k 0x01 body
        | none => [0, 0, 0, 0])
    else body
  0xA5 :: body ++ beBytes 2 (crc16 body).toNat

/-- The payload that one block holds (R404, R438, R472). -/
def blockSize : Port → Nat
  | .mbus => 231
  | .line => 31
  | _ => 1022

/-! ### Sessions (R406 to R411) -/

def slotAt (s : Vol) (n : Nat) : Option Session := vget s.work.ex.sessions n

/-- The slot of a SESSION number on a port. -/
def sessionOf (s : Vol) (session : Byte) (p : Port) : Option Session :=
  if hasMac session then (slotAt s (session.toNat - 1)).filter (·.port == p) else none

def putSlot (n : Nat) (x : Option Session) (s : Vol) : Vol := { s with work.ex.sessions := vset s.work.ex.sessions n x }

def modSession (session : Byte) (g : Session → Session) (s : Vol) : Vol :=
  if hasMac session then putSlot (session.toNat - 1) ((slotAt s (session.toNat - 1)).map g) s else s

/-- A line loop-back begins (R485, R486). -/
def lineLoopStart (session : Nat) (request : BitVec 32) (s : Vol) : Vol :=
  logG 0x0618 (request.toNat / 2 ^ 28)
    { s with
      work.line.lbRun := request
      work.line.lbPending := false
      work.line.lbResult := 1
      work.line.lbSymbols := 0
      work.line.lbErrors := 0
      work.line.lbErased := 0
      work.line.lbSent := 0
      work.line.lbFrom := none
      work.line.lbSession := session }

/-- What the loop-back of a context has queued leaves with it: its symbols fire no more (R486). -/
def lineLoopDrop (s : Vol) : Vol :=
  let k := s.work.line.lbRun.toNat / 2 ^ 26 % 4
  let c := vget s.work.line.ctxs k
  if s.work.line.lbFrom.isNone then s
  else
    { s with
      work.line.lbFrom := none
      work.line.ctxs := vset s.work.line.ctxs k { c with queue := [], rest := [], pulses := [], pdHigh := false }
      work.line.drive := s.work.line.drive.map fun d => if d.ctx.val = k then { d with live := false } else d }

/-- A line loop-back has ended with a result; a request that waits begins. -/
def lineLoopResult (result : Nat) (s : Vol) : Vol :=
  let s := logG 0x0619 result
    { lineLoopDrop s with work.line.lbResult := BitVec.ofNat 3 result, work.line.lbSession := 0 }
  if s.work.line.lbPending then lineLoopStart s.work.line.lbNextSession s.work.line.lbRequest s else s

/-- The line loop-backs of a session end. -/
def endLineLoops (n : Nat) (s : Vol) : Vol :=
  let l := s.work.line
  let s := { s with work.line.lbPending := l.lbPending && l.lbNextSession != n + 1 }
  if l.lbSession = n + 1 ∧ l.lbResult = 1 then lineLoopResult 4 s else s

/-- The port loop-backs of a session end: one that runs is aborted, and a request that waits is dropped. DESIGN CHOICE: log entry 55.
-/
def endPortLoops (n : Nat) (s : Vol) : Vol :=
  let p := s.work.pt
  let s := { s with work.pt.lbPending := p.lbPending && p.lbNextSession != n + 1 }
  if p.lbSession = n + 1 ∧ p.lbResult = 1 then logG 0x0609 4 { s with work.pt.lbResult := 4, work.pt.lbSession := 0 } else s

/-- A session ends: its slot is freed, and loop-backs that it requested end with it (R106, R410, R453, R486). -/
def endSession (n : Nat) (s : Vol) : Vol :=
  let s := putSlot n none s
  let s := if s.work.loop.session = n + 1 then loopEnds 2 s else s
  endLineLoops n (endPortLoops n s)

/-- Every session that a test picks ends. -/
def endSessionsIf (p : Nat → Session → Bool) (s : Vol) : Vol :=
  [0, 1, 2, 3].foldl (init := s) fun s n =>
    match slotAt s n with
    | some x => if p n x then endSession n s else s
    | none => s

/-! ### Replies (R404, R409, R430) -/

/-- No reply waits for a port (R430, R443). -/
def replyGone (s : Vol) (p : Port) : Bool :=
  (vget s.work.ex.replies (portIx p)).isNone && (p != .link || s.work.pt.link.graoc.isEmpty)

/-- The sessions of a port whose CLOSE has been answered end (R402, R410). -/
def endClosed (p : Port) (s : Vol) : Vol := endSessionsIf (fun _ x => x.closing && x.port == p) s

/-- CLOSE is answered, and the session ends once the reply has left; a reply that cannot leave has left. -/
def answerClose (answered : Vol → Vol) (f : Frame) (s : Vol) : Vol :=
  let s := answered (modSession f.session (fun x => { x with closing := true }) s)
  if replyGone s f.port then endClosed f.port s else s

/-- A formed reply waits for its port: on LINK as a record (R443); a broadcast on the line is not answered and a late reply is
discarded (R471), as is one to a tunnelled request that SND_NKE has ended (R437). -/
def putReply (f : Frame) (b : Bytes) (s : Vol) : Vol :=
  match f.port with
  | .link => { s with work.pt.link.graoc := s.work.pt.link.graoc ++ [linkRecord 1 b] }
  | .line =>
    if f.addr = 1 || !(s.work.line.ctxs.any fun c => c.owed.any (·.fromEngine)) then s
    else { s with work.ex.replies := vset s.work.ex.replies 4 (some b) }
  | .rs485 => { s with work.ex.replies := vset s.work.ex.replies 2 (some (ofInt 8 s.work.pt.rsAddr :: b)) }
  | .mbus => if s.work.pt.mbus.tunnel then { s with work.ex.replies := vset s.work.ex.replies 1 (some b) } else s
  | p => { s with work.ex.replies := vset s.work.ex.replies (portIx p) (some b) }

/-- The key that signs the reply to a frame. -/
def replyKey (s : Vol) (f : Frame) : Option (BitVec 128) :=
  ((sessionOf s f.session f.port).filter (!·.reserved)).map (·.ks)

/-- An answer outside the session's memory: no block, no last reply. -/
def answerPlain (f : Frame) (status : Nat) (payload : Bytes) (s : Vol) : Vol :=
  putReply f (replyFrame f (replyKey s f) status 0 payload) s

/-- AUTH-FAIL (R406, R410). -/
def answerAuthFail (f : Frame) (s : Vol) : Vol := putReply f (replyFrame f none stAuthFail 0 []) s

/-- The answer of an executed command: its first block is sent and the rest is kept; a sessionless reply has one block
(R404). -/
def answer (f : Frame) (status : Nat) (payload : Bytes) (s : Vol) : Vol :=
  let parts := chunks (blockSize f.port) 4096 payload
  match sessionOf s f.session f.port with
  | none => if 1 < parts.length then answerPlain f stRefused [] s else answerPlain f status payload s
  | some _ =>
    let more := if 1 < parts.length then 128 else 0
    let b := replyFrame f (replyKey s f) status more (parts.headD [])
    putReply f b (modSession f.session (fun x => { x with lastReply := b, blocks := parts.tail, block := 1 }) s)

/-- NEXT (R404). -/
def answerNext (f : Frame) (s : Vol) : Vol :=
  match sessionOf s f.session f.port with
  | some x =>
    match x.blocks with
    | p :: rest =>
      let n := x.block % 128 + (if rest.isEmpty then 0 else 128)
      let b := replyFrame f (replyKey s f) stOk n p
      putReply f b (modSession f.session (fun x => { x with lastReply := b, blocks := rest, block := x.block + 1 }) s)
    | [] =>
      let b := replyFrame f (replyKey s f) stRefused 0 []
      putReply f b (modSession f.session (fun x => { x with lastReply := b }) s)
  | none => answerPlain f stRefused [] s

/-! ### Clamp entries (R423, R424) -/

def clampEntry (ident : BitVec 48) (field source kind : Nat) : BitVec 64 :=
  BitVec.ofNat 64 (pack [(48, ident.toNat), (8, min field 255), (2, source), (2, kind), (4, 0)])

/-- Entries are appended to the report, newest first. -/
def reportClamps (l : List (BitVec 64)) (s : Vol) : Vol :=
  { s with ret.ex.clampReport := (l.reverse ++ s.ret.ex.clampReport).take 32 }

/-- The payload of a CLAMPED reply: up to 16 entries in field order. -/
def clampPayload (l : List (BitVec 64)) : Bytes := (l.take 16).flatMap fun e => beBytes 8 e.toNat

/-! ### Display data in the store (DESIGN CHOICE, log entry 14) -/

/-- Bit widths of the fields of an entry (R503). -/
def entryWidths : List Nat := [1, 2, 7, 9, 7, 9, 2, 2, 1, 48, 8, 6, 7, 1, 4, 4, 5, 48]

def entryPacked (e : List Int) : Bytes := beBytes 22 (pack (List.zipWith (fun w x => (w, x.toNat)) entryWidths e))

/-- The pages of a template or curve element: first page and content. -/
def templatePages (t : Nat) (v : List Int) : Nat × Bytes :=
  (4352 + 12 * t, BitVec.ofNat 8 ((lget v 0).toNat * 4 + (lget v 1).toNat)
    :: (List.range 32).flatMap fun i => entryPacked (entryOf v i))

def seqPages (q : Nat) (v : List Int) : Nat × Bytes := (4544 + 2 * q, serialise seqFields v)
def mainPages (v : List Int) : Nat × Bytes := (4816, [ofInt 8 (lget v 0), ofInt 8 (lget v 1)])
def edgePages (v : List Int) : Nat × Bytes := (4817, serialise edgeFields v)

/-- Requests of whole pages from a content. -/
def plainPages (p : Nat × Bytes) (job : Job) : List Req :=
  (List.range (ceilDiv p.2.length 64)).map fun i =>
    { plainReq (p.1 + i) (padTo 64 0xFF (slice p.2 (64 * i) 64)) job with object := true }

/-! ### What a write leaves (R371, R417) -/

/-- The values of a write take effect with the next tick (R299, R327, R361). -/
def onNextTick (v : ObjVal) (s : Vol) : Vol := { s with work.obj.nextTick := s.work.obj.nextTick ++ [v] }

/-- The values that a completed write leaves, as data. DEDUCED: log entry 78. -/
def putVal (p : Port) (v : ObjVal) (s : Vol) : Vol :=
  match v with
  | .calib c => { s with work.obj.calibNew := some c, work.obj.calibBlank := false }
  | .prof l => { s with work.obj.profNew := some l }
  | .curve c => { s with bak.curve := c }
  | .pscale x => { s with ret.led.pscale := x }
  | .tariffCal t => { s with work.obj.tariffCal := t }
  | .source d _ _ => onNextTick v { s with work.obj.default_ := d }
  | .prices x => onNextTick v { s with work.obj.pricesNew := some x }
  | .valve _ | .pwake _ => onNextTick v s
  | .sensor n x => { s with work.obj.sensors := vset s.work.obj.sensors n x }
  | .aux a => { s with work.obj.aux := a }
  | .alarm b a => if b then { s with bak.alarmB := a } else { s with bak.alarmA := a }
  | .pwron x => { s with bak.pwron := x }
  | .port a b c d => { s with work.pt.setNew := some (p, [a, b, c, d]) }
  | .line l => { s with work.line.settings := l }
  | .key k x _ =>
    { s with
      work.life.keys := vset s.work.life.keys k x
      work.life.keyset := s.work.life.keyset ||| BitVec.ofNat 5 (2 ^ k)
      work.life.keylost := s.work.life.keylost &&& ~~~ BitVec.ofNat 5 (2 ^ k) }
  | .template e l =>
    if e = 0 then { s with work.disp.mainEntry := l.take 2 }
    else { s with work.disp.templates := s.work.disp.templates.set (e - 1) l }
  | .curves e l =>
    if e = 0 then { s with work.disp.edges := l } else { s with work.disp.curves := s.work.disp.curves.set (e - 1) l }
  | .notes | .roster => s

/-- The template to be shown is drawn after a write to it, or after a change of MAIN or ENTRY (R504). -/
def templateEffect (e : Nat) (before : List Int) (s : Vol) : Vol :=
  if e = 0 then (if s.work.disp.mainEntry == before then s else logG 0x0705 0xFF (fullDraw s))
  else if e - 1 = templateToShow s ∨ e - 1 = s.ret.disp.shownTemplate then logG 0x0705 (e - 1) (fullDraw s)
  else s

/-- A key write takes effect (R348, R410, R412, R413). -/
def keyEffect (nv : Nv) (k session : Nat) (first : Bool) (s : Vol) : Vol :=
  let code := k + 1
  let s := if k < 4 then endSessionsIf (fun n x => roleCode x.role == k + 1 && n + 1 != session) s else s
  let s := if k = 2 ∨ k = 4 then logM 0x0805 code s else logG 0x0805 code s
  let s := if k = 4 then logM 0x0907 0xFF { s with ret.pre.idhwm := 0, ret.pre.bitmap := 1 } else s
  if first || k == 4 then writeRec nv .state false s else s

/-- What else follows when the values take effect. -/
def valEffects (nv : Nv) (v : ObjVal) (old : Vol) (s : Vol) : Vol :=
  match v with
  | .tariffCal _ => logG 0x0309 0 s
  | .source _ _ _ => logG 0x0309 1 s
  | .prices _ => logG 0x0908 0xFF s
  | .key k _ session => keyEffect nv k session (!old.work.life.keyset.getLsbD k) s
  | .template e _ => templateEffect e old.work.disp.mainEntry s
  | _ => s

/-- Queued pages of a state record that is still to begin carry the values then live (R605). -/
def reform (s : Vol) : Vol :=
  let content := statePayload s
  let fix := fun (q : Req) =>
    match q.job with
    | .record .state _ i =>
      if q.started || q.object then q
      else { q with data := pageForm (pageSeq q.data) 0x03 i 8 (slice content (52 * i) 52) }
    | _ => q
  if (s.work.store.line.any fun q => q.started && (match q.job with | .record .state _ _ => true | _ => false)) then s
  else { s with work.store.line := s.work.store.line.map fix, work.store.held := s.work.store.held.map fix }

def applyVal (nv : Nv) (p : Port) (v : ObjVal) (s : Vol) : Vol :=
  let s' := valEffects nv v s (putVal p v s)
  match v with
  | .pscale _ => reform s'
  | _ => s'

/-! ### The guard (R372, R373) -/

/-- The status with which the guard refuses a write of the engine, none where it allows it. -/
def guardStatus (s : Vol) (r : Role) (legal : Bool) : Option Nat :=
  if !legal then none
  else if r != .metrology then some stDenied
  else if (s.work.life.state == .calibrate || s.work.life.state == .service) && s.bak.sealOpen then none
  else some stState

/-! ### Rights and states (R415, R416, R419, R420) -/

/-- SETs bound to CALIBRATE and SERVICE with SEAL open, and that of PSCALE (R419). -/
def stateForbidsSet (s : Vol) (r : Role) (o : Obj) : Bool :=
  let st := s.work.life.state
  let metro := (st == .calibrate || st == .service) && s.bak.sealOpen
  match o with
  | .calib | .prof | .curve | .control | .key 4 => !metro
  | .key 2 => r == .operator && !metro
  | .profile => !(st == .calibrate && s.bak.sealOpen)
  | _ => false

/-- A wipe, or a change that is pending (R419, R551). -/
def wipeForbids (s : Vol) : Bool := s.work.life.wiping || s.work.life.pending

/-- The status of R415 for a SET before it is executed, none where it may be. DEDUCED: log entry 52. -/
def setStatus (s : Vol) (r : Role) (o : Obj) : Option Nat :=
  let w := (rightsOf o).write
  if inactive s o true then some stUnavailable
  else if retired s then some stState
  else if w.isEmpty then some stReadOnly
  else if !w.contains r then some stDenied
  else if wipeForbids s || stateForbidsSet s r o then some stState
  else none

/-- A role has the right of an action of an object by its number: METROLOGY seals, and OPERATOR retires (R548, R549). -/
def mayAct (r : Role) (o : Obj) (n : Nat) : Bool :=
  (rightsOf o).act.contains r
    && match o, n with
      | .life, 1 => r == .metrology
      | .life, 2 => r == .operator
      | _, _ => true

/-- The same for an ACTION. -/
def actStatus (s : Vol) (r : Role) (o : Obj) (n : Nat) : Option Nat :=
  if inactive s o false then some stUnavailable
  else if retired s then some stState
  else if !mayAct r o n then some stDenied
  else if wipeForbids s then some stState
  else none

/-- The same for a GET. -/
def getStatus (s : Vol) (r : Role) (o : Obj) : Option Nat :=
  if inactive s o false then some stUnavailable else if !mayRead s r o then some stDenied else none

/-! ### The values of a SET (R403, R422) -/

/-- What the engine makes of the DATA of a SET. -/
inductive SetOut where
  | refused
  /-- Nothing to write: every field is read-only. -/
  | nothing
  | write (v : ObjVal) (clamps : List (Nat × Nat)) (clamped : Bool)
deriving DecidableEq, Repr

/-- A whole object of plain fields, clamped field by field. -/
def plainSet (fs : List Fld) (d : Bytes) (g : List Int → ObjVal) : SetOut :=
  if d.length ≠ fldBytes fs then .refused
  else
    let (l, k) := clampFields 0 fs (deserialise fs d)
    .write (g l) k (!k.isEmpty)

/-- The whole of an array object after a SET of one element of n fields each. -/
def spliced (whole : List Int) (n i : Nat) (v : List Int) : List Int := whole.take (n * i) ++ v ++ whole.drop (n * i + n)

def setCalib (s : Vol) (d : Bytes) : SetOut :=
  if d.length ≠ fldBytes calibShape then .refused
  else
    let (c, k) := calibClamp s (calibOf (deserialise calibShape d))
    if calibRefused s c then .refused else .write (.calib c) k (!k.isEmpty)

def setProf (s : Vol) (attr : Nat) (d : Bytes) : SetOut :=
  let fs := if attr = 255 then profFields else profFields.take 2
  if d.length ≠ fldBytes fs then .refused
  else
    let base := if attr = 255 then 0 else 2 * attr
    let (l, k) := clampFields base fs (deserialise fs d)
    let p := profOf (if attr = 255 then l else spliced (profList (profWritten s)) 2 attr l)
    if profAscending p then .write (.prof p) k (!k.isEmpty) else .refused

def setCurve (s : Vol) (attr : Nat) (d : Bytes) : SetOut :=
  let fs := if attr = 255 then curveFields else curveFields.take 1
  if d.length ≠ fldBytes fs then .refused
  else
    let base := if attr = 255 then 0 else attr
    let (l, k) := clampFields base fs (deserialise fs d)
    .write (.curve (curveOf (if attr = 255 then l else spliced (curveList s.bak.curve) 1 attr l))) k (!k.isEmpty)

/-- PHASE is clamped against the INTERVAL of the same write, with KIND 3 (R299). -/
def setPwake (d : Bytes) : SetOut :=
  if d.length ≠ fldBytes (pwakeFields 1) then .refused
  else
    let v := deserialise (pwakeFields 1) d
    let interval := clampInt 1 5529600 (lget v 1)
    let (l, k) := clampFields 0 (pwakeFields interval) v
    .write (.pwake (pwakeOf l)) (k.map fun p => if p.1 = 2 ∧ p.2 = 0 then (2, 3) else p) (!k.isEmpty)

/-- Read-only fields are ignored, and only the writable ones are clamped. -/
def setSource (s : Vol) (d : Bytes) : SetOut :=
  let fs := sourceFields (tariffSource s).2
  if d.length ≠ fldBytes fs then .refused
  else
    let (l, k) := clampFields 0 fs (deserialise fs d)
    let k := k.filter fun p => decide (2 ≤ p.1 ∧ p.1 ≤ 4)
    .write (.source (lget l 2) (lget l 3) (lget l 4)) k (!k.isEmpty)

def setTariffCal (d : Bytes) : SetOut :=
  if d.length ≠ fldBytes tariffCalFields then .refused
  else
    let v := deserialise tariffCalFields d
    let (l, k) := clampFields 0 tariffCalFields v
    let fixed := tariffCalFix (tariffCalOf l)
    let l' := tariffCalList fixed
    let more := (List.range l.length).filterMap fun i =>
      if lget l i = lget l' i ∨ k.any (·.1 == i) then none else some (i, 0)
    .write (.tariffCal fixed) ((k ++ more).mergeSort fun a b => decide (a.1 ≤ b.1)) (!(k ++ more).isEmpty)

def setPscale (d : Bytes) : SetOut :=
  if d.length ≠ fldBytes pscaleFields then .refused
  else
    let (l, k) := clampFields 0 pscaleFields (deserialise pscaleFields d)
    let k := k.filter fun p => p.1 == 2
    .write (.pscale (ofInt 2 (lget l 2))) k (!k.isEmpty)

def setAux (d : Bytes) : SetOut :=
  if d.length ≠ fldBytes auxFields then .refused
  else
    let (l, k) := clampFields 0 auxFields (deserialise auxFields d)
    .write (.aux (auxOf l)) (k.filter fun p => p.1 != 3) (k.any fun p => p.1 != 3)

/-- Element 0 of a settings object with a status element: the status fields are ignored (R403). -/
def setWithStatus (fs : List Fld) (statusBytes attr : Nat) (d : Bytes) (g : List Int → SetOut) : SetOut :=
  let n := fldBytes fs
  if attr = 1 then (if d.length = statusBytes then .nothing else .refused)
  else if d.length ≠ (if attr = 0 then n else n + statusBytes) then .refused
  else g (deserialise fs (d.take n))

def setPorts (attr : Nat) (d : Bytes) : SetOut :=
  setWithStatus portFields 16 attr d fun v =>
    let (l, k) := clampFields 0 portFields v
    .write (.port (lget l 0) (lget l 1) (lget l 2) (lget l 3)) k (!k.isEmpty)

def setLine (attr : Nat) (d : Bytes) : SetOut :=
  setWithStatus lineFields 32 attr d fun v =>
    let (l, k) := clampFields 0 lineFields v
    if lineRefused l then .refused else .write (.line l) k (!k.isEmpty)

/-- A KIND 1 field names an object that neither PUBLIC nor CUSTOMER may read (R504). DEDUCED: log entry 58. -/
def fieldUnreadable (s : Vol) (e : List Int) : Bool :=
  lget e 1 == 1 &&
    match objOf s (ofInt 48 (lget e 9)) with
    | some o => !((rightsOf o).read.contains .pub || (rightsOf o).read.contains .customer)
    | none => true

def setTemplates (s : Vol) (attr : Nat) (d : Bytes) : SetOut :=
  if attr = 0 then
    if d.length ≠ fldBytes mainFields then .refused
    else
      let (l, k) := clampFields 0 (mainFields.take 2) (deserialise mainFields d)
      .write (.template 0 l) k (!k.isEmpty)
  else if attr = 17 then (if d.length = 8 then .nothing else .refused)
  else if 17 < attr ∨ d.length ≠ fldBytes templateShape then .refused
  else match panel s with
    | none => .refused
    | some (w, h, colours) =>
      let (l, k) := templateClamp w h colours (deserialise templateShape d)
      if templateOverlaps l || (List.range 32).any fun i => fieldUnreadable s (entryOf l i) then .refused
      else .write (.template attr l) k (!k.isEmpty)

def setCurves (attr : Nat) (d : Bytes) : SetOut :=
  if attr = 0 then
    if d.length ≠ fldBytes edgeFields then .refused
    else
      let (l, k) := clampFields 0 edgeFields (deserialise edgeFields d)
      if ascending (l.take 7) then .write (.curves 0 l) k (!k.isEmpty) else .refused
  else if 136 < attr ∨ d.length ≠ fldBytes seqFields then .refused
  else
    let (l, k) := seqClamp (deserialise seqFields d)
    .write (.curves attr l) k (!k.isEmpty)

/-- A key is one block enciphered under Ks (R413). -/
def setKey (x : Option Session) (session : Byte) (k : Nat) (d : Bytes) : SetOut :=
  match x with
  | some x =>
    if d.length ≠ 16 then .refused
    else .write (.key k (BitVec.ofNat 128 (beNat (aesDec (keyBytes x.ks) d))) session.toNat) [] false
  | none => .refused

/-! ### Single pages: site notes and roster (R389, R474, R475) -/

/-- Data byte i of site notes is written in the page of OFFSET, wrapping within it. -/
def notesPage (nv : Nv) (s : Vol) (off : Nat) (d : Bytes) : Req :=
  let page := 4864 + off / 64
  let old := viewPage nv s page
  let new := (List.range d.length).foldl (init := old) fun p i => p.set ((off + i) % 64) (d.getD i 0)
  { plainReq page new .notes with object := true }

/-- A roster entry as it is stored: AGE becomes the hour stamp (R475). -/
def rosterStore (s : Vol) (e : Bytes) : Bytes :=
  let age := beNat (slice e 5 2)
  let stamp := if age = 65535 then 65535 else (hourStamp s + 65535 - age % 65535) % 65535
  e.take 5 ++ beBytes 2 stamp ++ e.drop 7

/-- The pages of roster entries from n on. PRESUMED: log entry 49. -/
def rosterReqs (nv : Nv) (s : Vol) (n : Nat) (es : List Bytes) : List Req :=
  let pages := ((List.range es.length).map fun i => rosterPage (n + i)).eraseDups
  pages.map fun p =>
    let body := (List.range 8).flatMap fun k =>
      let e := 8 * (p - 6144) + k
      if n ≤ e ∧ e < n + es.length then rosterStore s (es.getD (e - n) []) else rosterStored nv s e
    { plainReq p body .roster with object := true }

/-- A SET has written an entry that a poll has begun (R476). -/
def touchPolls (n k : Nat) (s : Vol) : Vol :=
  { s with work.line.ctxs := s.work.line.ctxs.map fun c =>
      { c with poll := c.poll.map fun p => if n ≤ p.node ∧ p.node < n + k then { p with touched := true } else p } }

/-! ### Submitting an object write (R369, R371) -/

/-- The requests of a write. -/
def objectReqs (nv : Nv) (s : Vol) (p : Port) (v : ObjVal) : List Req :=
  let rec_ := fun (r : Rec) => recordReqs nv s r (recPayload (putVal p v s) r) true false
  match v with
  | .calib _ | .prof _ | .curve _ => rec_ .metro
  | .pscale _ => rec_ .state
  | .key _ _ _ => rec_ .keys
  | .template e l => plainPages (if e = 0 then mainPages l else templatePages (e - 1) l) .display
  | .curves e l => plainPages (if e = 0 then edgePages l else seqPages (e - 1) l) .display
  | .notes | .roster => []
  | _ => rec_ .settings

/-- The old content of the pages of which a write keeps a part is read (R368, R380). -/
def mergeReads (nv : Nv) (reqs : List Req) (s : Vol) : Vol :=
  (reqs.filter fun r => r.job == .notes || r.job == .roster).foldl (fun s r => noteRead nv r.page s) s

/-- The write enters the line and the engine waits for it, after a write of the same record that is still under way (R371), or it answers
BUSY (R369); a retry waits for a place (R55). -/
def startWrite (nv : Nv) (f : Frame) (v : ObjVal) (reqs : List Req) (clamps : List (BitVec 64)) (clamped : Bool) (s : Vol) : Vol :=
  if !s.work.ex.retrying ∧ (5 ≤ s.work.store.line.length ∨ !s.work.store.held.isEmpty) then answer f stBusy [] s
  else
    let s := match reqs.head?.bind fun r => jobRec r.job with
      | some r => drainRecord r s
      | none => s
    submitAll reqs
      { mergeReads nv reqs s with work.ex.inHand := some { frame := f, clamps, clamped, await := .write v reqs.length false } }

/-- The store is absent until the fabric has woken it (R53, R54): the engine makes its single retry. -/
def retryLater (f : Frame) (s : Vol) : Vol :=
  { s with
    work.fab.absent := satInc s.work.fab.absent
    work.ex.inHand := some { frame := f, clamps := [], clamped := false, await := .retry } }

/-- Legal pages of a write (R365). -/
def writesLegal : ObjVal → Bool
  | .calib _ | .prof _ | .curve _ | .pscale _ => true
  | _ => false

/-- Values of the DISPLAY, which a SET reaches through that block (R54). -/
def onDisplay : ObjVal → Bool
  | .template _ _ | .curves _ _ => true
  | _ => false

/-- The first page of a write (R365). -/
def firstPage : ObjVal → Nat
  | .calib _ | .prof _ | .curve _ => 32
  | .pscale _ => 96
  | .key _ _ _ => 4224
  | .template _ _ | .curves _ _ => 4352
  | .notes => 4864
  | .roster => 6144
  | _ => 4096

/-- A checked SET is carried out. -/
def carryOut (nv : Nv) (f : Frame) (r : Role) (out : SetOut) (s : Vol) : Vol :=
  match out with
  | .refused => answer f stRefused [] s
  | .nothing => answer f stOk [] s
  | .write v k clamped =>
    if !s.work.store.present || (onDisplay v && !s.work.disp.present) then retryLater f s
    else match guardStatus s r (writesLegal v) with
      | some st => guardRefused (firstPage v) (answer f st [] s)
      | none => startWrite nv f v (objectReqs nv s f.port v) (k.map fun p => clampEntry f.ident p.1 0 p.2) clamped s

/-- The write in hand is complete: its values take effect, and the SET is answered (R371, R422, R424). -/
def completeWrite (nv : Nv) (status : Option Nat) (s : Vol) : Vol :=
  match s.work.ex.inHand with
  | some { frame := f, clamps, clamped, await := .write v _ _ } =>
    let s := applyVal nv f.port v { s with work.ex.inHand := none }
    let s := reportClamps clamps s
    match status with
    | some st => answer f st [] s
    | none => if clamped then answer f stClamped (clampPayload clamps) s else answer f stOk [] s
  | _ => s

/-- The write in hand changes nothing and answers UNAVAILABLE (R374, R606). -/
def failWrite (s : Vol) : Vol :=
  match s.work.ex.inHand with
  | some { frame := f, await := .write _ _ _, .. } => answer f stUnavailable [] { s with work.ex.inHand := none }
  | _ => s

end Sys2Proof.Machine
end

