-- ==== Sys2Proof/Machine/Requests.lean ====
section
/-! DEFINITION. The commands that carry Graoc frames (R105, R274, R344, R400 to R422, R452, R485, R514, R548, R549): which
row a frame belongs to, the checks in their order, and the engine's waits. -/

namespace Sys2Proof.Machine

/-! ### Reads (R404, R414) -/

/-- The block whose absence a command can meet (R54). -/
def absentTarget (f : Frame) (o : Obj) : Option Target :=
  match o with
  | .templates | .curves => some .display
  | .lineSettings => if f.cmd = 4 ∨ f.attr = 0 ∨ f.attr = 255 then some .store else none
  | _ =>
    if f.cmd = 4 then some .store
    else match o with
    | .health | .notes | .log _ | .snapshots | .tokenLog | .profile | .roster => some .store
    | _ => none

def blockPresent (s : Vol) : Target → Bool
  | .store => s.work.store.present
  | .display => s.work.disp.present
  | _ => true

/-- The clock record of a group read (R288, R306). -/
def clockBytes (s : Vol) (stale : Bool) : Bytes := beBytes 16 (clockWord s (groupOf s) stale)

/-- A group read that does not reach CENTURY holds a freeze: it starts one, or joins the one that is held (R288, R289). A read
that does reach CENTURY joins and leaves within its command. -/
def startFreeze (f : Frame) (again : Bool) (s : Vol) : Vol :=
  let z := match s.bak.freeze with
    | some z => { z with readers := .exchange :: z.readers.filter (· != .exchange) }
    | none => { shadow := s.bak.cal, since := s.bak.count, readers := [.exchange] }
  { s with
    bak.freeze := some z
    bak.staleReaders := s.bak.staleReaders.filter (· != .exchange)
    work.ex.inHand := some { frame := f, clamps := [], clamped := false, await := .freeze again } }

/-- Copies that a read finds invalid or older are rewritten (R382). -/
def readRepairs (nv : Nv) (o : Obj) (s : Vol) : Vol :=
  match o with
  | .snapshots => (List.range 24).foldl (init := s) fun s i => repairCopy nv (192 + 6 * i) 3 s
  | _ => s

/-- A read is answered. -/
def readObject (nv : Nv) (f : Frame) (o : Obj) (s : Vol) : Vol :=
  let stale := o == .lineSettings && lineAbsent s && f.attr != 0
  let s := if stale then { s with work.fab.absent := satInc s.work.fab.absent } else s
  match getObj nv s o f.attr.toNat f.data with
  | .refused => answer f stRefused [] s
  | .unknown => answer f stUnknown [] s
  | .value b clamped pages =>
    let s := readRepairs nv o (pages.foldl (init := s) fun s p => readNote nv p s)
    answer f (if clamped then stClamped else if stale then stStale else stOk) b s

/-- A read that finds a page write in progress, or the line full, takes a place in the line, where one is free; a retry waits for one (R52,
R55, R369). -/
def readWaits (f : Frame) (s : Vol) : Vol :=
  let n := s.work.store.line.length
  if !s.work.ex.retrying ∧ (5 ≤ n ∨ !s.work.store.held.isEmpty) then answer f stBusy [] s
  else
    { s with
      work.ex.inHand :=
        some { frame := f, clamps := [], clamped := false, await := .read (n + s.work.store.held.length) } }

/-- The read of the engine that waits in the line is served: at its turn, or where nothing is being written (R369, R374). -/
def serveRead (nv : Nv) (idle : Bool) (s : Vol) : Vol :=
  match s.work.ex.inHand with
  | some { frame := f, await := .read ahead, .. } =>
    if ahead = 0 ∨ idle then
      let s := { s with work.ex.inHand := none }
      match objOf s f.ident with
      | some o => readObject nv f o s
      | none => answer f stUnknown [] s
    else s
  | _ => s

def carryGet (nv : Nv) (f : Frame) (o : Obj) (s : Vol) : Vol :=
  if (absentTarget f o).any (!blockPresent s ·) then retryLater f s
  else if o = .clock ∧ f.stalls ∧ f.data.isEmpty then startFreeze f false s
  else if absentTarget f o = some .store ∧ (writeRuns s ∨ 5 ≤ s.work.store.line.length ∨ !s.work.store.held.isEmpty) then
    readWaits f s
  else readObject nv f o s

/-! ### Loop-back requests (R104, R105, R452, R485, R514) -/

/-- The number of a session slot plus one, 0 for none. -/
def slotNo (f : Frame) : Nat := f.session.toNat

/-- The acoustic request clamped: reserved bits to 0, DELAY to TOF_max. DEDUCED: log entry 54. -/
def acousticClamp (s : Vol) (x : Nat) : Nat × List (Nat × Nat) :=
  let d := x % 65536
  let hi := min 65535 (tofMaxUs (th s 3) * 4)
  (x / 2 ^ 20 * 2 ^ 20 + min d hi, if hi < d then [(5, 0)] else [])

def acousticRefused (s : Vol) (x : Nat) : Bool :=
  let kind := x / 2 ^ 28
  decide (4 ≤ kind) || (kind == 3 && (levelsOf (th s 0)).contains (x / 2 ^ 24 % 16 + 1))

/-- An accepted acoustic request; KIND 0 ends the loop-back (R106). DEDUCED: log entry 44. One that comes while a loop-back runs
acts from its next cycle, or begins after its end where that has been called for: DESIGN CHOICE, log entry 105. -/
def acousticAccept (f : Frame) (x : Nat) (s : Vol) : Vol :=
  let s := { s with work.loop.request := BitVec.ofNat 32 x }
  if x / 2 ^ 28 = 0 then loopEnds 0 s
  else { s with work.loop.requested := !s.work.loop.running || s.work.loop.ending.isSome, work.loop.session := slotNo f }

/-- Whether the port of a port loop-back request is there (R452, R576), none for a reserved value; PORT 0 asks for nothing. -/
def loopPort (s : Vol) (x : Nat) : Option Bool :=
  let kind := x / 2 ^ 26 % 4
  if kind = 0 ∨ kind = 3 then none
  else match x / 2 ^ 28 with
    | 0 => some true
    | 1 => some (portInSet s .optical)
    | 2 => some (portInSet s .mbus)
    | 3 => some (portInSet s .rs485)
    | 4 => some (portInSet s .link)
    | 5 => some (isPrimary s || isSecondary s)
    | _ => none

/-- The status that a request of the control object meets, by element. A 1 in the reserved bits of a port or line request is a
reserved value (R452, R485). DEDUCED: log entry 125. -/
def controlStatus (s : Vol) (e x : Nat) : Nat :=
  match e with
  | 0 => if acousticRefused s x then stRefused else stOk
  | 1 =>
    if x % 2 ^ 26 ≠ 0 then stRefused
    else match loopPort s x with
      | none => stRefused
      | some present => if present then stOk else stUnavailable
  | 3 =>
    if 4 ≤ x / 2 ^ 28 ∨ x / 2 ^ 26 % 4 = 3 ∨ x % 2 ^ 26 ≠ 0 then stRefused
    else if x / 2 ^ 28 = 0 then stOk
    else if th s 6 = 15 ∨ (vget s.work.line.ctxs (x / 2 ^ 26 % 4)).idle then stUnavailable
    else stOk
  | 5 =>
    if 2 ≤ x / 2 ^ 28 then stRefused
    else if x / 2 ^ 28 = 0 then stOk
    else if th s 8 = 15 then stUnavailable
    else stOk
  | _ => stOk

/-- A request that passes is taken. One that comes while a loop-back of its kind runs waits for that to end, and PORT 0 drops a port
request that waits. DESIGN CHOICE: log entry 55. -/
def controlAccept (f : Frame) (e x : Nat) (s : Vol) : Vol :=
  match e with
  | 0 => acousticAccept f (acousticClamp s x).1 s
  | 1 =>
    if x / 2 ^ 28 = 0 then { s with work.pt.lbRequest := BitVec.ofNat 32 x, work.pt.lbPending := false }
    else
      { s with
        work.pt.lbRequest := BitVec.ofNat 32 x
        work.pt.lbPending := true
        work.pt.lbNextSession := slotNo f }
  | 3 =>
    let s := { s with work.line.lbRequest := BitVec.ofNat 32 x }
    if x / 2 ^ 28 = 0 then { s with work.line.lbPending := false }
    else if s.work.line.lbResult = 1 then { s with work.line.lbPending := true, work.line.lbNextSession := slotNo f }
    else lineLoopStart (slotNo f) s.work.line.lbRequest s
  | 5 =>
    let s := { s with work.disp.lbRequest := BitVec.ofNat 32 x }
    if x / 2 ^ 28 = 0 then s else { s with work.disp.lbResult := 1 }
  | _ => s

/-- The elements of a SET of the control object: element, bytes. -/
def controlLayout : List (Nat × Nat) := [(0, 4), (1, 4), (2, 8), (3, 4), (4, 8), (5, 4), (6, 8)]

/-- The element values that DATA carries, none where its length is wrong. -/
def controlParts (attr : Nat) (d : Bytes) : Option (List (Nat × Nat)) :=
  if attr = 255 then
    if d.length = 40 then
      some (([(0, 0), (1, 4), (3, 16), (5, 28)] : List (Nat × Nat)).map fun p => (p.1, beNat (slice d p.2 4)))
    else none
  else match controlLayout.find? (·.1 == attr) with
    | some (e, n) => if d.length = n then some [(e, beNat d)] else none
    | none => none

/-- A SET of the test and loop-back control object. -/
def setControl (f : Frame) (s : Vol) : Vol :=
  match controlParts f.attr.toNat f.data with
  | none => answer f stRefused [] s
  | some l =>
    match (l.map fun p => controlStatus s p.1 p.2).find? (· != stOk) with
    | some st => answer f st [] s
    | none =>
      let ac := (l.filter fun p => p.1 == 0).map (·.2)
      let clamps := (ac.flatMap fun x => (acousticClamp s x).2).map fun p => clampEntry f.ident p.1 0 p.2
      let clamped := ac.any fun x => (acousticClamp s x).1 != x
      let s := reportClamps clamps (l.foldl (init := s) fun s p => controlAccept f p.1 p.2 s)
      if clamped then answer f stClamped (clampPayload clamps) s else answer f stOk [] s

/-! ### The clock (R291 to R293) -/

/-- The staged group of a SET of the clock record: CENTURY to SEC; WDAY is replaced by the computed weekday. -/
def stagedCal (d : Bytes) : Cal :=
  let b := fun i => d.getD i 0
  { subsec := 0, century := b 0, year := b 1, month := b 2, day := b 3, wday := b 4, hour := b 5, min := b 6, sec := b 7 }

def setClock (f : Frame) (r : Role) (s : Vol) : Vol :=
  if f.data.length ≠ 16 then answer f stRefused [] s
  else
    let c := stagedCal f.data
    if !c.valid && !f.stalls then answer f stRefused [] s
    else
      let w := toBcd (weekdayOf c.days)
      let clamped := w != c.wday
      let g : Stage :=
        { time := { c with wday := w }, since := s.bak.count, committed := !f.stalls, role := r, clamped }
      { s with
        bak.stage := some g
        work.ex.inHand := some
          { frame := f, clamps := if clamped then [clampEntry f.ident 4 0 2] else [], clamped, await := .clock } }

/-! ### SETs -/

def setNotes (nv : Nv) (f : Frame) (s : Vol) : Vol :=
  let off := beNat (f.data.take 2)
  let d := f.data.drop 2
  if d.isEmpty || decide (4096 ≤ off) || f.attr != 255 then answer f stRefused [] s
  else if !s.work.store.present then retryLater f s
  else startWrite nv f .notes [notesPage nv s off (d.take 64)] [] (decide (64 < d.length)) s

def setRoster (nv : Nv) (f : Frame) (s : Vol) : Vol :=
  let whole := f.attr == 255
  let n := if whole then beNat (f.data.take 2) else f.attr.toNat
  let es := chunks 8 128 (if whole then f.data.drop 2 else f.data)
  let bad := es.isEmpty || es.any (·.length != 8) || (!whole && es.length != 1) || decide (16384 < n + es.length)
  if bad then answer f stRefused [] s
  else if !s.work.store.present then retryLater f s
  else
    let s := startWrite nv f .roster (rosterReqs nv s n es) [] false s
    if s.work.ex.inHand.isSome then touchPolls n es.length s else s

/-- What a SET of a structure object makes of its DATA. -/
def setOut (s : Vol) (f : Frame) : Obj → SetOut
  | .calib => setCalib s f.data
  | .prof => setProf s f.attr.toNat f.data
  | .curve => setCurve s f.attr.toNat f.data
  | .profile => setPscale f.data
  | .tariffCal => setTariffCal f.data
  | .source => setSource s f.data
  | .prices => plainSet priceFields f.data fun l => .prices (priceOf l)
  | .valve => plainSet valveFields f.data fun l => .valve (valveOf l)
  | .sensor n => plainSet (sensorFields n) f.data fun l => .sensor n (sensorOf l)
  | .aux => setAux f.data
  | .pwake => setPwake f.data
  | .alarm b => plainSet alarmFields f.data fun l => .alarm b (alarmOf l)
  | .pwron => plainSet pwronFields f.data fun l => .pwron (pwronOf l)
  | .portSettings => setPorts f.attr.toNat f.data
  | .lineSettings => setLine f.attr.toNat f.data
  | .templates => setTemplates s f.attr.toNat f.data
  | .curves => setCurves f.attr.toNat f.data
  | .key k => setKey (sessionOf s f.session f.port) f.session k f.data
  | _ => .refused

def carrySet (nv : Nv) (f : Frame) (r : Role) (o : Obj) (s : Vol) : Vol :=
  match o with
  | .control => setControl f s
  | .clock => setClock f r s
  | .notes => setNotes nv f s
  | .roster => setRoster nv f s
  | _ => carryOut nv f r (setOut s f o) s

/-! ### ACTIONs (R274, R344, R402, R548, R549) -/

def sealable (s : Vol) : Bool := s.work.life.state == .calibrate || s.work.life.state == .service

/-- A refused seal or retire action is logged (R560). -/
def refuseAction (f : Frame) (which st : Nat) (s : Vol) : Vol := answer f st [] (logG 0x0813 which s)

/-- A change is to be carried out once the reply has left (R551). DEDUCED: log entry 87. -/
def orderChange (p : Port) (t : LState) (op : Nat) (s : Vol) : Vol :=
  { s with
    work.life.change := some
      { target := t, stage := .flush, pins := default, left := 0, mecount := s.work.life.mecount, op,
        clear := op == 2 && s.work.life.seals == 0, next := 4096, begun := false, via := some p, since := s.bak.count } }

/-- The seal action. Where a change is already ordered, it answers STATE, as the retire action does: DESIGN CHOICE, log entry 141. -/
def sealAct (f : Frame) (r : Role) (s : Vol) : Vol :=
  if r != .metrology then answer f stDenied [] s
  else if !sealable s || s.bak.sealOpen || s.work.life.change.isSome then refuseAction f 1 stState s
  else if f.data.length ≠ 1 ∨ (pathCount (th s 0) ≠ 0 ∧ (calibWritten s).area = 0)
      ∨ s.work.life.keyset.getLsbD 2 = false then refuseAction f 1 stRefused s
  else orderChange f.port .sealed 2 (answer f stOk [] s)

/-- The retire action. -/
def retireAct (f : Frame) (r : Role) (s : Vol) : Vol :=
  if r != .operator then answer f stDenied [] s
  else if !sealable s || !s.bak.sealOpen || s.work.life.change.isSome then refuseAction f 2 stState s
  else if f.data.length ≠ 1 then refuseAction f 2 stRefused s
  else orderChange f.port .retired 1 (answer f stOk [] s)

/-- The count clear of FIN n (R274). -/
def countClear (nv : Nv) (f : Frame) (n : Nat) (s : Vol) : Vol :=
  if finMode (th s 9) n ≠ 3 ∨ f.data ≠ [1] then answer f stRefused [] s
  else answer f stOk [] (logG 0x0175 n (writeCounts nv { s with ret.count := vset s.ret.count n 0 }))

/-- The 20 digits of a submitted token. -/
def tokenDigits (d : Bytes) : Option (List Nat) :=
  if d.length = 20 ∧ d.all (fun b => decide (48 ≤ b.toNat ∧ b.toNat ≤ 57)) then some (d.map fun b => b.toNat - 48)
  else none

/-- The token submission (R344): the result code is the reply's payload. -/
def tokenAct (nv : Nv) (f : Frame) (s : Vol) : Vol :=
  match f.data with
  | [] => answer f stRefused [] s
  | a :: d =>
    match if a = 1 then tokenDigits d else none with
    | none => answer f stRefused [] s
    | some ds =>
      let t := templateToShow s
      match submitToken nv true ds s with
      | (s, some r) => answer f stOk [BitVec.ofNat 8 r] (if templateToShow s = t then s else fullDraw s)
      | (s, none) =>
        { s with work.ex.inHand := some { frame := f, clamps := [], clamped := false, await := .token } }

def carryAct (nv : Nv) (f : Frame) (r : Role) (o : Obj) (s : Vol) : Vol :=
  match o with
  | .life => match f.data.head? with
    | some 1 => sealAct f r s
    | some 2 => retireAct f r s
    | _ => answer f stRefused [] s
  | .fin n => countClear nv f n s
  | .credit => tokenAct nv f s
  | _ => answer f stRefused [] s

/-! ### The order of checks (R415) -/

/-- A command of a session or of PUBLIC, from the directory on. -/
def runCommand (nv : Nv) (f : Frame) (r : Role) (s : Vol) : Vol :=
  match objOf s f.ident with
  | none => answer f stUnknown [] s
  | some o =>
    if !attrExists nv s o f.attr.toNat then answer f stUnknown [] s
    else if f.cmd = 3 then
      match getStatus s r o with
      | some st => answer f st [] s
      | none => carryGet nv f o s
    else if f.cmd = 4 then
      match setStatus s r o with
      | some st => answer f st [] s
      | none => carrySet nv f r o s
    else
      match actStatus s r o (f.data.headD 0).toNat with
      | some st =>
        if o = .credit ∧ st = stState ∧ retired s then answer f stOk [9] s
        else if o = .life ∧ st = stState then
          refuseAction f (if f.data.head? = some 2 then 2 else 1) st s
        else answer f st [] s
      | none => carryAct nv f r o s

/-- The look-up of a command that has no right of its own (R415): the status that its object gives, none where it passes. -/
def lookUp (nv : Nv) (f : Frame) (s : Vol) : Option Nat :=
  match objOf s f.ident with
  | none => some stUnknown
  | some o => if !attrExists nv s o f.attr.toNat then some stUnknown else if inactive s o false then some stUnavailable else none

/-- A command by its CMD, in the order of R415. Without a session there is nothing that NEXT continues or CLOSE ends, and an OPEN with a
session opens nothing. DEDUCED: log entry 53. -/
def dispatchCmd (nv : Nv) (f : Frame) (r : Role) (s : Vol) : Vol :=
  match f.cmd.toNat with
  | 3 | 4 | 5 => runCommand nv f r (modSession f.session (fun x => { x with blocks := [], block := 1 }) s)
  | 1 | 2 | 6 =>
    match lookUp nv f s with
    | some st => answer f st [] s
    | none =>
      if f.cmd = 6 then answerNext f s
      else if f.cmd = 2 ∧ f.session ≠ 0 then answerClose (answer f stOk []) f s
      else answer f stRefused [] s
  | _ => answer f stRefused [] s

/-- K of a role (R412): the role's key, or the initial key where it may be used; none where the role cannot open. -/
def roleKey (s : Vol) (r : Role) (p : Port) : Option (BitVec 128 × Bool) :=
  let k := roleCode r - 1
  let l := s.work.life
  if l.keyset.getLsbD k then (if l.keylost.getLsbD k then none else some (vget l.keys k, false))
  else if r == .metrology && p == .optical && l.state == .calibrate && s.bak.sealOpen then some (0, true)
  else none

/-- The lock-out of a role runs (R411). -/
def roleLocked (s : Vol) (r : Role) : Bool := (vget s.ret.ex.lockFrom (roleCode r)).isSome

/-- First 8 bytes of a CMAC over a tag, two challenges and the serial number (R407). -/
def proofOf (key : BitVec 128) (tag : Byte) (a b : BitVec 64) (serial : BitVec 64) : Bytes :=
  (cmac (keyBytes key) (tag :: beBytes 8 a.toNat ++ beBytes 8 b.toNat ++ beBytes 8 serial.toNat)).take 8

def sessionKey (key : BitVec 128) (cc cd serial : BitVec 64) : BitVec 128 :=
  BitVec.ofNat 128
    (beNat (cmac (keyBytes key) (0x4B :: beBytes 8 cc.toNat ++ beBytes 8 cd.toNat ++ beBytes 8 serial.toNat)))

/-- The session that step 1 reserves, with a device challenge that the manual leaves open (R407). -/
def reserveSlot (nv : Nv) (f : Frame) (r : Role) (n : Nat) (key : BitVec 128) (initial : Bool) (s : Vol) : Vol :=
  let cc := BitVec.ofNat 64 (beNat (slice f.data 1 8))
  let (cd, s) := takeFree s
  let x : Session :=
    { role := r, port := f.port, reserved := true, cc, cd, ks := sessionKey key cc cd nv.trim.serial,
      initialKey := initial, seq := 0, lastReply := [], blocks := [], block := 1, macFails := 0, lastTick := s.bak.count,
      closing := false }
  answerPlain f stOk (beBytes 1 (n + 1) ++ beBytes 8 cd.toNat ++ proofOf key 0x44 cc cd nv.trim.serial)
    (putSlot n (some x) s)

/-- OPEN, step 1 (R398, R406, R407, R411, R412). DEDUCED: log entry 50. -/
def openStep1 (nv : Nv) (f : Frame) (s : Vol) : Vol :=
  if f.ident ≠ 0 ∨ f.attr ≠ 0 ∨ f.data.length ≠ 9 then answerPlain f stRefused [] s
  else match roleOf (f.data.headD 0).toNat with
    | none => answerPlain f (if f.port = .line ∧ f.data.headD 0 = 0 then stDenied else stRefused) [] s
    | some r =>
      if f.port = .line then answerPlain f stDenied [] s
      else if roleLocked s r then answerPlain f stAuthFail [] s
      else if !roleOnPort r f.port || !roleAdmitted s.work.life.state r then answerPlain f stDenied [] s
      else match roleKey s r f.port with
        | none => answerPlain f stDenied [] s
        | some (key, initial) =>
          let taken := s.work.ex.sessions.toList.filterMap id
          match [0, 1, 2, 3].find? fun n => (slotAt s n).isNone with
          | none => answerPlain f stBusy [] s
          | some n =>
            if r == .metrology && taken.any (·.role == .metrology) then answerPlain f stBusy [] s
            else reserveSlot nv f r n key initial s

/-- A failed OPEN counts; the fifth locks the role out (R411, R428). DEDUCED: log entry 51. -/
def openFailed (r : Role) (s : Vol) : Vol :=
  let k := roleCode r
  let n := vget s.ret.ex.fails k + 1
  let s := limG 0x0601 k k s
  if 5 ≤ n then
    logG 0x0602 k
      { s with ret.ex.fails := vset s.ret.ex.fails k 0, ret.ex.lockFrom := vset s.ret.ex.lockFrom k (some s.bak.count) }
  else { s with ret.ex.fails := vset s.ret.ex.fails k n }

/-- OPEN, step 2 (R407, R415). -/
def openStep2 (nv : Nv) (f : Frame) (x : Session) (s : Vol) : Vol :=
  let n := f.session.toNat - 1
  if roleLocked s x.role then answerAuthFail f (putSlot n none s)
  else
    let key := match roleKey s x.role x.port with
      | some (k, _) => k
      | none => 0
    let proof := f.data == proofOf key 0x43 x.cd x.cc nv.trim.serial
      && beBytes 4 f.mac.toNat == frameMac x.ks 0x00 (frameBody f)
    if !proof || roleKey s x.role x.port == none then answerAuthFail f (openFailed x.role (putSlot n none s))
    else if f.seq ≠ 0 ∨ f.ident ≠ 0 ∨ f.attr ≠ 0 then answerAuthFail f (putSlot n none s)
    else
      let s := putSlot n (some { x with reserved := false, lastTick := s.bak.count }) s
      let s := { s with ret.ex.fails := vset s.ret.ex.fails (roleCode x.role) 0 }
      let s := if x.role == .metrology then logM 0x0604 (b2n (!x.initialKey)) s else s
      answer f stOk [] s

/-- A request whose MAC fails; the third in a row ends the session (R410). -/
def macFailed (f : Frame) (x : Session) (s : Vol) : Vol :=
  let n := f.session.toNat - 1
  let s :=
    if 3 ≤ x.macFails + 1 then limG 0x0603 (roleCode x.role) (roleCode x.role) (endSession n s)
    else putSlot n (some { x with macFails := x.macFails + 1 }) s
  answerAuthFail f s

/-- A frame of an open session: MAC, SEQ, then the command (R408, R409, R415). -/
def sessionFrame (nv : Nv) (f : Frame) (x : Session) (s : Vol) : Vol :=
  let n := f.session.toNat - 1
  if beBytes 4 f.mac.toNat ≠ frameMac x.ks 0x00 (frameBody f) then macFailed f x s
  else
    let x := { x with macFails := 0, lastTick := s.bak.count }
    if f.seq = x.seq then putReply f x.lastReply (putSlot n (some x) s)
    else if f.seq ≠ x.seq + 1 then answerPlain f stRefused [] (putSlot n (some x) s)
    else dispatchCmd nv f x.role (putSlot n (some { x with seq := f.seq }) s)

/-- One frame is executed (R415). -/
def process (nv : Nv) (f : Frame) (s : Vol) : Vol :=
  if f.session = 0 then
    if f.cmd = 1 then openStep1 nv f s else dispatchCmd nv f .pub s
  else match sessionOf s f.session f.port with
    | none => answerAuthFail f s
    | some x =>
      if x.reserved then
        if f.cmd = 1 then openStep2 nv f x s else answerAuthFail f (putSlot (f.session.toNat - 1) none s)
      else sessionFrame nv f x s

/-- Frames that wait are executed while the engine is free (R405). -/
def pump (nv : Nv) : Nat → Vol → Vol
  | 0, s => s
  | n + 1, s =>
    match s.work.ex.inHand, s.work.ex.queue with
    | none, f :: q => pump nv n (process nv f { s with work.ex.queue := q })
    | _, _ => s

/-- A port whose previous request is not answered yet (R400). -/
def portBusy (s : Vol) (p : Port) : Bool :=
  s.work.ex.inHand.any (·.frame.port == p) || s.work.ex.queue.any (·.port == p)
    || (match p with
      | .link => !s.work.pt.link.graoc.isEmpty
      | _ => (vget s.work.ex.replies (portIx p)).isSome)

/-- A port loop-back runs on the port (R453). -/
def portLooped (s : Vol) (p : Port) : Bool :=
  s.work.pt.lbResult == 1 && s.work.pt.lbRun.toNat / 2 ^ 28 == portIx p + 1

/-- The optical rates (R433). -/
def optRates : List Nat := [300, 600, 1200, 2400, 4800, 9600, 19200]

/-- A bit of length x ns at a rate in Bd, within a share in parts per thousand. -/
def bitFits (pm x rate : Nat) : Bool := withinPm pm (x * rate) 1000000000

/-- The rate that the start bit of an optical SOF gives, none where it fits no rate (R433). -/
def optRateOf (x : Nat) : Option Nat := optRates.find? (bitFits 50 x)

/-- The receiver of the port follows the bits of the frame (R429, R433). On EIA-485 a larger error than R429 accepts gives no byte
that begins a frame: DESIGN CHOICE, log entry 118. -/
def frameHeard (s : Vol) (f : Frame) : Bool :=
  match f.port with
  | .optical => (optRateOf f.bitNs).isSome
  | .rs485 => bitFits 25 f.bitNs (rs485Rate s)
  | _ => true

/-- The optical port takes the rate of the frame (R433). -/
def takeOptRate (f : Frame) (s : Vol) : Vol :=
  if f.port = .optical then { s with work.pt.optRate := (optRateOf f.bitNs).getD s.work.pt.optRate } else s

/-- A port has received bytes on this tick (R526). -/
def noteTraffic (p : Port) (s : Vol) : Vol :=
  { s with work.ex.lastTraffic := vset s.work.ex.lastTraffic (portIx p) (some s.bak.count) }

/-- A frame reaches the engine's port (R398, R400, R433, R440, R453, R526). -/
def receive (nv : Nv) (f : Frame) (s : Vol) : Vol :=
  if !coreRuns s || !portInSet s f.port || !frameHeard s f then s
  else
    let s := noteTraffic f.port s
    if f.port == .rs485 && (f.addr.toNat : Int) != s.work.pt.rsAddr then s
    else if frameBad f || portLooped s f.port || portBusy s f.port then discardFrame s
    else
    let s := takeOptRate f s
    let s := if f.port = .mbus then { s with work.pt.mbus.tunnel := true } else s
    if s.work.ex.inHand.isSome then { s with work.ex.queue := s.work.ex.queue ++ [f] }
    else process nv f s

/-! ### Which row a frame belongs to -/

/-- The rows whose commands are frames. -/
inductive Row where
  | open_ | proof | close | get | next | set | key | calib | prof | curve | pwake | pscale | tariff | price | notes | roster
  | template | driveCurve | line | port | seal | retire | count | token | clock | acInjector | acReference | acCross | acStop
  | portDigital | portPin | lineSymbol | lineAnalog | lineExternal | readback
deriving DecidableEq, Repr

/-- A SET of the control object, by element and KIND. -/
def controlRow (f : Frame) : Row :=
  let x := beNat (f.data.take 4)
  match f.attr.toNat, x / 2 ^ 28, x / 2 ^ 26 % 4 with
  | 0, 0, _ => .acStop
  | 0, 1, _ => .acInjector
  | 0, 2, _ => .acReference
  | 0, 3, _ => .acCross
  | 1, _, 1 => .portDigital
  | 1, _, 2 => .portPin
  | 3, 1, _ => .lineSymbol
  | 3, 2, _ => .lineAnalog
  | 3, 3, _ => .lineExternal
  | 5, 1, _ => .readback
  | _, _, _ => .set

/-- The row of a SET. -/
def setRow (s : Vol) (f : Frame) : Row :=
  match objOf s f.ident with
  | some (.key _) => .key
  | some .calib => .calib
  | some .prof => .prof
  | some .curve => .curve
  | some .pwake => .pwake
  | some .profile => .pscale
  | some .tariffCal | some .source => .tariff
  | some .prices => .price
  | some .notes => .notes
  | some .roster => .roster
  | some .templates => .template
  | some .curves => .driveCurve
  | some .lineSettings => .line
  | some .portSettings => .port
  | some .clock => .clock
  | some .control => controlRow f
  | _ => .set

/-- The row of an ACTION. -/
def actRow (s : Vol) (f : Frame) : Row :=
  match objOf s f.ident with
  | some .life => if f.data.head? = some 2 then .retire else .seal
  | some (.fin _) => .count
  | some .credit => .token
  | _ => .set

/-- A frame of no row of its own, an unknown CMD among them, belongs to SET. DESIGN CHOICE: log entry 60. -/
def rowOf (s : Vol) (f : Frame) : Row :=
  match f.cmd.toNat with
  | 1 => if f.session = 0 then .open_ else .proof
  | 2 => .close
  | 3 => .get
  | 4 => setRow s f
  | 5 => actRow s f
  | 6 => .next
  | _ => .set

/-- A frame row: a frame that is discarded may come under any row, and a frame of another row changes nothing. -/
def frameRow (r : Row) (f : Frame) (s : State) : Host.Outcome State Fault Refusal :=
  if frameBad f || rowOf s.vol f == r then .next (s.up (receive s.nv f s.vol)) else .next s

/-! ### The rows -/

/-- OPEN. -/
def execOpen (f : Frame) (s : State) : Host.Outcome State Fault Refusal := frameRow .open_ f s
/-- OPEN_PROOF. -/
def execOpenProof (f : Frame) (s : State) : Host.Outcome State Fault Refusal := frameRow .proof f s
/-- CLOSE. -/
def execClose (f : Frame) (s : State) : Host.Outcome State Fault Refusal := frameRow .close f s
/-- GET. -/
def execGet (f : Frame) (s : State) : Host.Outcome State Fault Refusal := frameRow .get f s
/-- NEXT. -/
def execNext (f : Frame) (s : State) : Host.Outcome State Fault Refusal := frameRow .next f s
/-- SET of an object without a row of its own. -/
def execSet (f : Frame) (s : State) : Host.Outcome State Fault Refusal := frameRow .set f s
/-- KEY_WRITE (R413). -/
def execKeyWrite (f : Frame) (s : State) : Host.Outcome State Fault Refusal := frameRow .key f s
/-- CALIBRATION_SET_WRITE (R604, R610). -/
def execCalibrationSetWrite (f : Frame) (s : State) : Host.Outcome State Fault Refusal := frameRow .calib f s
/-- PROFILE_TABLE_WRITE (R223). -/
def execProfileTableWrite (f : Frame) (s : State) : Host.Outcome State Fault Refusal := frameRow .prof f s
/-- CURVE_WRITE (R285). -/
def execCurveWrite (f : Frame) (s : State) : Host.Outcome State Fault Refusal := frameRow .curve f s
/-- PERIODIC_WAKE_WRITE (R299). -/
def execPeriodicWakeWrite (f : Frame) (s : State) : Host.Outcome State Fault Refusal := frameRow .pwake f s
/-- PSCALE_WRITE (R321). -/
def execPscaleWrite (f : Frame) (s : State) : Host.Outcome State Fault Refusal := frameRow .pscale f s
/-- TARIFF_CONFIG (R316, R338). -/
def execTariffConfig (f : Frame) (s : State) : Host.Outcome State Fault Refusal := frameRow .tariff f s
/-- PRICE_CHANGED (R361). -/
def execPriceChanged (f : Frame) (s : State) : Host.Outcome State Fault Refusal := frameRow .price f s
/-- SITE_NOTES_WRITE (R389). -/
def execSiteNotesWrite (f : Frame) (s : State) : Host.Outcome State Fault Refusal := frameRow .notes f s
/-- ROSTER_WRITE (R475). -/
def execRosterWrite (f : Frame) (s : State) : Host.Outcome State Fault Refusal := frameRow .roster f s
/-- TEMPLATE_WRITE (R504). -/
def execTemplateWrite (f : Frame) (s : State) : Host.Outcome State Fault Refusal := frameRow .template f s
/-- DRIVE_CURVE_WRITE (R496). -/
def execDriveCurveWrite (f : Frame) (s : State) : Host.Outcome State Fault Refusal := frameRow .driveCurve f s
/-- LINE_SETTINGS_WRITE (R483). -/
def execLineSettingsWrite (f : Frame) (s : State) : Host.Outcome State Fault Refusal := frameRow .line f s
/-- PORT_SETTINGS_WRITE (R451). -/
def execPortSettingsWrite (f : Frame) (s : State) : Host.Outcome State Fault Refusal := frameRow .port f s
/-- SEAL_ACTION (R548). -/
def execSealAction (f : Frame) (s : State) : Host.Outcome State Fault Refusal := frameRow .seal f s
/-- RETIRE_ACTION (R549). -/
def execRetireAction (f : Frame) (s : State) : Host.Outcome State Fault Refusal := frameRow .retire f s
/-- COUNT_CLEAR (R274). -/
def execCountClear (f : Frame) (s : State) : Host.Outcome State Fault Refusal := frameRow .count f s
/-- TOKEN_SUBMIT (R344). -/
def execTokenSubmit (f : Frame) (s : State) : Host.Outcome State Fault Refusal := frameRow .token f s
/-- CLOCK_SET (R291). -/
def execClockSet (f : Frame) (s : State) : Host.Outcome State Fault Refusal := frameRow .clock f s
/-- ACOUSTIC_LOOPBACK_INJECTOR (R105). -/
def execAcousticLoopbackInjector (f : Frame) (s : State) : Host.Outcome State Fault Refusal := frameRow .acInjector f s
/-- ACOUSTIC_LOOPBACK_REFERENCE (R105). -/
def execAcousticLoopbackReference (f : Frame) (s : State) : Host.Outcome State Fault Refusal := frameRow .acReference f s
/-- ACOUSTIC_LOOPBACK_CROSSPOINT (R105). -/
def execAcousticLoopbackCrosspoint (f : Frame) (s : State) : Host.Outcome State Fault Refusal := frameRow .acCross f s
/-- ACOUSTIC_LOOPBACK_STOP (R106). -/
def execAcousticLoopbackStop (f : Frame) (s : State) : Host.Outcome State Fault Refusal := frameRow .acStop f s
/-- PORT_LOOPBACK_DIGITAL (R453). -/
def execPortLoopbackDigital (f : Frame) (s : State) : Host.Outcome State Fault Refusal := frameRow .portDigital f s
/-- PORT_LOOPBACK_PIN (R453). -/
def execPortLoopbackPin (f : Frame) (s : State) : Host.Outcome State Fault Refusal := frameRow .portPin f s
/-- LINE_LOOPBACK_SYMBOL (R486). -/
def execLineLoopbackSymbol (f : Frame) (s : State) : Host.Outcome State Fault Refusal := frameRow .lineSymbol f s
/-- LINE_LOOPBACK_ANALOG (R486). -/
def execLineLoopbackAnalog (f : Frame) (s : State) : Host.Outcome State Fault Refusal := frameRow .lineAnalog f s
/-- LINE_LOOPBACK_EXTERNAL (R486). -/
def execLineLoopbackExternal (f : Frame) (s : State) : Host.Outcome State Fault Refusal := frameRow .lineExternal f s
/-- DISPLAY_READBACK_REQUEST (R514). -/
def execDisplayReadbackRequest (f : Frame) (s : State) : Host.Outcome State Fault Refusal := frameRow .readback f s

/-! ### The engine's waits -/

/-- SESSION_TIMEOUT (R410). -/
def sessionTimeout (n : Nat) (s : Vol) : Vol :=
  match slotAt s n with
  | some x =>
    if !x.reserved && decide (7680 ≤ (s.bak.count - x.lastTick).toNat) then endSession n s else s
  | none => s

def execSessionTimeout (slot : Fin 4) (s : State) : Host.Outcome State Fault Refusal :=
  .next (s.up (sessionTimeout slot.val s.vol))

/-- SLOT_RESERVE_TIMEOUT (R407). -/
def slotReserveTimeout (n : Nat) (s : Vol) : Vol :=
  match slotAt s n with
  | some x => if x.reserved && decide (640 ≤ (s.bak.count - x.lastTick).toNat) then putSlot n none s else s
  | none => s

def execSlotReserveTimeout (slot : Fin 4) (s : State) : Host.Outcome State Fault Refusal :=
  .next (s.up (slotReserveTimeout slot.val s.vol))

/-- AUTH_LOCKOUT_END (R411): 38 400 ticks after the fifth failure. -/
def execAuthLockoutEnd (role : Role) (s : State) : Host.Outcome State Fault Refusal :=
  let k := roleCode role
  match vget s.vol.ret.ex.lockFrom k with
  | some t =>
    if 38400 ≤ (s.vol.bak.count - t).toNat then
      .next { s with vol.ret.ex.lockFrom := vset s.vol.ret.ex.lockFrom k none }
    else .next s
  | none => .next s

/-- The clock SET in hand is answered (R296). -/
def answerClock (refused : Bool) (s : Vol) : Vol :=
  match s.work.ex.inHand with
  | some { frame := f, clamps, clamped, await := .clock } =>
    let s := { s with work.ex.inHand := none }
    if refused then answer f stRefused [] s
    else
      let s := reportClamps clamps s
      if clamped then answer f stClamped (clampPayload clamps) s else answer f stOk [] s
  | _ => s

/-- CLOCK_COMMIT (R293, R296): the next tick boundary after the commit. -/
def clockCommit (nv : Nv) (s : Vol) : Vol :=
  match s.bak.stage with
  | some g =>
    if g.committed && g.since != s.bak.count then
      pump nv 8 (answerClock (commitRefused s g) (applyStage nv g s))
    else s
  | none => s

def execClockCommit (s : State) : Host.Outcome State Fault Refusal := .next (s.up (clockCommit s.nv s.vol))

/-- STAGE_TIMEOUT (R291): nothing changes. DEDUCED: log entry 59. -/
def stageTimeout (nv : Nv) (s : Vol) : Vol :=
  match s.bak.stage with
  | some g =>
    if !g.committed && decide (64 ≤ (s.bak.count - g.since).toNat) then
      pump nv 8 (answerClock true { s with bak.stage := none })
    else s
  | none => s

def execStageTimeout (s : State) : Host.Outcome State Fault Refusal := .next (s.up (stageTimeout s.nv s.vol))

/-- FREEZE_TIMEOUT (R289, R307): a freeze held for 64 ticks releases itself, and its readers' reads carry STALE until they reach
CENTURY. The engine then repeats its read once: the repeat is answered, or stalls before CENTURY as its frame says. A repeat
that meets the same end is answered with the values and STALE. -/
def freezeTimeout (nv : Nv) (s : Vol) : Vol :=
  match s.bak.freeze with
  | none => s
  | some z =>
    if (s.bak.count - z.since).toNat < 64 then s
    else
      let s := limG 0x0209 0xFF 0xFF { s with bak.freeze := none, bak.staleReaders := z.readers }
      match s.work.ex.inHand with
      | some { frame := f, await := .freeze again, .. } =>
        if !again && f.stallsAgain then startFreeze f true s
        else
          let s := { s with work.ex.inHand := none, bak.staleReaders := s.bak.staleReaders.filter (· != .exchange) }
          pump nv 8 (answer f (if again then stStale else stOk) (clockBytes s again) s)
      | _ => s

def execFreezeTimeout (s : State) : Host.Outcome State Fault Refusal := .next (s.up (freezeTimeout s.nv s.vol))

end Sys2Proof.Machine
end

