-- ==== Sys2Proof/Machine/Fabric.lean ====
section
/-! DEFINITION. The fabric (R50 to R55): the order of grants, the engine's single retry, and the blocks that fall idle. -/

namespace Sys2Proof.Machine

/-- The fixed order of R51. -/
def fixedOrder : List Initiator := [.supervisor, .flowEngine, .ledger, .lineSignalling, .display, .exchange]

/-- Requests in the order in which their target grants them: those aged 32 cycles first, each group in the fixed order. -/
def grantOrder (l : List FabReq) : List FabReq :=
  (fixedOrder.flatMap fun i => l.filter fun r => r.aged && r.who == i)
    ++ fixedOrder.flatMap fun i => l.filter fun r => !r.aged && r.who == i

/-- Requests that wait for a target. -/
def waitsFor (t : Target) (r : FabReq) : Bool := r.target == t

/-- The requests of a target are replaced by others, in grant order. -/
def setWaiting (t : Target) (l : List FabReq) (s : Vol) : Vol :=
  { s with work.fab.waiting := s.work.fab.waiting.filter (!waitsFor t ·) ++ grantOrder l }

/-- ARBITRATION_AGE (R51): a request that has waited 32 CORE cycles without a grant moves to the head. DESIGN CHOICE: log
entry 61. -/
def arbitrationAge (t : Target) (who : Initiator) (s : Vol) : Vol :=
  let l := s.work.fab.waiting.filter (waitsFor t)
  setWaiting t ({ target := t, who, aged := true } :: l.filter (·.who != who)) s

def execArbitrationAge (target : Target) (who : Initiator) (s : State) : Host.Outcome State Fault Refusal :=
  if coreRuns s.vol then .next (s.up (arbitrationAge target who s.vol)) else .next s

/-- The target that the command in hand found absent: its block, or the STORE behind that block. -/
def retryTarget (s : Vol) (f : Frame) : Target :=
  match objOf s f.ident with
  | some o => ((absentTarget f o).filter (!blockPresent s ·)).getD .store
  | none => .store

/-- A block is present from now on (R53). -/
def markPresent (t : Target) (s : Vol) : Vol :=
  match t with
  | .store => { s with work.store.present := true }
  | .display => { s with work.disp.present := true }
  | _ => s

/-- The role under which a frame acts. -/
def frameRole (s : Vol) (f : Frame) : Role := ((sessionOf s f.session f.port).map (·.role)).getD .pub

/-- A target grants every request that waits for it, in the order of R51. -/
def grantAll (t : Target) (s : Vol) : Vol :=
  { s with
    work.fab.granted := grantOrder (s.work.fab.waiting.filter (waitsFor t))
    work.fab.waiting := s.work.fab.waiting.filter (!waitsFor t ·) }

/-- FABRIC_RETRY (R54, R55): the block has been woken and tBWAKE has passed; `present` says whether it answers, and
`others` which initiators request it in the same CORE cycle. The target grants them and the engine in order; a retry that finds
the line full waits there. -/
def fabricRetry (nv : Nv) (present : Bool) (others : List Initiator) (s : Vol) : Vol :=
  match s.work.ex.inHand with
  | some { frame := f, await := .retry, .. } =>
    let t := retryTarget s f
    let s := { s with work.ex.inHand := none }
    if present then
      let old := s.work.fab.waiting.filter (waitsFor t)
      let new := (others ++ [Initiator.exchange]).filter fun i => !old.any (·.who == i)
      let s := grantAll t (setWaiting t (old ++ new.map fun i => ({ target := t, who := i, aged := false } : FabReq)) s)
      let s := runCommand nv f (frameRole s f) { markPresent t s with work.ex.retrying := true }
      pump nv 8 { s with work.ex.retrying := false }
    else
      pump nv 8 (answer f stUnavailable [] { s with work.fab.absent := satInc s.work.fab.absent })
  | _ => s

def execFabricRetry (present : Bool) (others : List Initiator) (s : State) : Host.Outcome State Fault Refusal :=
  .next (s.up (fabricRetry s.nv present others s.vol))

/-- BLOCK_IDLE_TIMEOUT (R53): a woken block with no work in progress is absent again. One for which requests wait serves them
instead, and stays present for 1 ms more. -/
def blockIdle (t : Target) (s : Vol) : Vol :=
  if s.work.fab.waiting.any (waitsFor t) then grantAll t s
  else match t with
  | .store =>
    if s.work.store.line.isEmpty && s.work.store.held.isEmpty then { s with work.store.present := false } else s
  | .display =>
    if s.work.disp.running.isEmpty && !s.work.disp.pmic then { s with work.disp.present := false } else s
  | _ => s

def execBlockIdleTimeout (target : Target) (s : State) : Host.Outcome State Fault Refusal :=
  .next (s.up (blockIdle target s.vol))

end Sys2Proof.Machine
end

