-- ==== Sys2Proof/Machine/Fin.lean ====
section
/-! DEFINITION. Frequency and interval inputs (R257 to R281): the AUX slots, the edges of FIN0 to FIN5, their results, and
pulse counting. FIN n is stamped on AUXA (lane 4) where n is even and on AUXB (lane 5) where it is odd (R31). -/

namespace Sys2Proof.Machine

/-! ### Slots (R261, R262, R264) -/

def finLane (n : Nat) : Nat := 4 + n % 2

/-- The next slot of the grouping is an interval slot; none where the grouping has no slots (R261). -/
def nextSlotKind (s : Vol) : Option Bool :=
  match th s 9 with
  | 0 | 1 | 2 | 3 | 4 | 9 => some false
  | 5 | 6 => some true
  | 7 => some s.work.aux.nextInterval
  | _ => none

/-- Start and stop input of an interval slot. -/
def intervalPair (s : Vol) : Nat × Nat := if th s 9 = 5 then (0, 1) else (4, 5)

/-- The inputs that a slot of a kind stamps. -/
def slotInputs (s : Vol) (interval : Bool) : List Nat :=
  if interval then [(intervalPair s).1, (intervalPair s).2]
  else (List.range 6).filter fun n => finMode (th s 9) n = 1

def fin (s : Vol) (n : Nat) : FinWork := vget s.work.aux.fins n
def setFin (n : Nat) (f : FinWork) (s : Vol) : Vol := { s with work.aux.fins := vset s.work.aux.fins n f }

/-- The inputs of the slot that can be stamped: an interval slot needs both lanes (R264). -/
def liveInputs (s : Vol) (interval : Bool) : List Nat :=
  let ns := slotInputs s interval
  if interval && ns.any (fun n => (lane s (finLane n)).out) then []
  else ns.filter fun n => !(lane s (finLane n)).out

/-- The status of a result changes (R267, R271, R281). -/
def finStatus (n : Nat) (status : Nat) (s : Vol) : Vol :=
  let f := fin s n
  let lost := f.status == 0 && (status = 1 ∨ status = 2 ∨ status = 3)
  let found := status = 0 && f.noSignal
  let s := setFin n
    { f with status := BitVec.ofNat 3 status, noSignal := (f.noSignal || lost) && !found } s
  if lost then logG 0x0170 n s else if found then logG 0x0171 n s else s

/-- A slot without a result for the input: the earlier values stand (R267, R271). DEDUCED: log entry 38. AGE counts the slots
that give the input a status: DESIGN CHOICE, log entry 111. -/
def finHeld (n status : Nat) (s : Vol) : Vol :=
  let s := finStatus n status s
  setFin n { fin s n with held := true, age := satInc (fin s n).age } s

/-- A slot falls due now (R262): on each multiple of 64 x REPEAT once, or at REPEAT 0 while no slot is due or open. DEDUCED: log
entry 39. -/
def slotDue (s : Vol) : Bool :=
  let r := s.work.aux.sched.repeat_.toNat
  if r = 0 then !s.work.aux.isOpen && !s.work.aux.due
  else decide (s.bak.count.toNat % (64 * r) = 0) && s.work.aux.dueTick != some s.bak.count

/-- The TIMING ENGINE is powered for a slot. -/
def powerTiming (s : Vol) : Vol :=
  { s with
    bak.power.state := .measure
    work.te.calibrated := s.work.te.calibrated && s.work.te.powered
    work.te.powered := true }

/-- The calibration of a due slot: the run of R147 on both AUX lanes, unless the start-up calibration runs (R148). -/
def slotCal (s : Vol) : Vol := if s.work.te.calibrated then beginCal [4, 5] s else s

/-- AUX_SLOT_DUE. A slot that falls due in its turn takes its kind, also where it is not opened (R261, R264); one that meets an
open slot takes no turn: DEDUCED, log entry 39. -/
def auxSlotDue (s : Vol) : Vol :=
  match nextSlotKind s with
  | none => s
  | some interval =>
    if !coreRuns s || s.bak.power.warning || retired s || !slotDue s then s
    else
      let s := { s with work.aux.dueTick := some s.bak.count }
      if s.work.aux.isOpen || s.work.aux.due then
        limG 0x0173 0xFF 0xFF { s with work.aux.skipped := satInc s.work.aux.skipped }
      else
        let s := { s with
          work.aux.sched := s.work.obj.aux
          work.aux.sensors := s.work.obj.sensors
          work.aux.interval := interval
          work.aux.nextInterval := if th s 9 = 7 then !interval else s.work.aux.nextInterval }
        let live := liveInputs s interval
        let s := ((slotInputs s interval).filter fun n => !live.contains n).foldl (init := s) fun s n => finHeld n 5 s
        if live.isEmpty then s else slotCal (powerTiming { s with work.aux.due := true, work.aux.live := live })

def execAuxSlotDue (s : State) : Host.Outcome State Fault Refusal := .next (s.up (auxSlotDue s.vol))

/-- A lane of a slot at its epoch: every cell has been free equally long (R137, R141). -/
def laneAtOpen (coarse : Nat) (l : Lane) : Lane :=
  { l with
    epoch := coarse
    lastStart := none
    loss := Vector.replicate 16 default
    wraps := 0
    recals := 0
    queue := l.queue.filter fun w => !isData w
    taken := []
    cells := l.cells.map fun c => { c with job := none, freeSince := 0 } }

/-- The epoch of a slot opens on both AUX lanes at `coarse`, once their calibration has ended (R137, R148, R262). An input whose
lane has gone out of service meanwhile is LANE_OUT, and a slot without inputs is not opened (R264). -/
def auxSlotOpen (coarse : Nat) (s : Vol) : Vol :=
  if !s.work.aux.due || !s.work.te.calibrated || calibrates [4, 5] s || !s.bak.power.pll || !s.work.te.powered
      || decide (coarse < s.work.te.coarse) then s
  else
    let now := liveInputs s s.work.aux.interval
    let s := (s.work.aux.live.filter fun n => !now.contains n).foldl (init := s) fun s n => finHeld n 5 s
    let live := s.work.aux.live.filter now.contains
    let s := { s with work.aux.due := false, work.aux.live := live }
    if live.isEmpty then leaveMeasure s
    else
      let s := clockTo coarse (drainAll s)
      let lanes := Vector.ofFn fun (k : Fin 6) => if 4 ≤ k.val then laneAtOpen coarse (lane s k.val) else lane s k.val
      { s with
        work.te.lanes := lanes
        work.aux.isOpen := true
        work.aux.closing := none
        work.aux.degraded := onRc s
        work.aux.slotCount := s.work.aux.slotCount + 1
        work.aux.fins := s.work.aux.fins.map fun f => { f with prescCount := 0 } }

/-- AUX_SLOT_OPEN. -/
def execAuxSlotOpen (coarse : Nat) (s : State) : Host.Outcome State Fault Refusal :=
  .next (s.up (auxSlotOpen coarse s.vol))

/-! ### Edges (R257 to R259, R269) -/

/-- The close of the open slot in T from its epoch: GATE, or IVL_TIMEOUT (R262, R269). -/
def slotCloseT (s : Vol) : Nat :=
  if s.work.aux.interval then s.work.aux.sched.ivlTimeout.toNat * 512 else s.work.aux.sched.gate.toNat * 512000

/-- An edge of the selected polarity reaches input n: the input's state after it, and whether it is presented to the
lane. -/
def finEdge (s : Vol) (n t : Nat) : FinWork × Bool :=
  let f := fin s n
  let x := vget s.work.aux.sensors n
  if n < 4 then
    if s.work.aux.interval then (f, true)
    else
      let m := 2 ^ x.presc.toNat
      ({ f with prescCount := (f.prescCount + 1) % m }, decide ((f.prescCount + 1) % m = 0))
  else if t < f.holdUntil then (f, false)
  else ({ f with holdUntil := t + x.holdoff.toNat * 512 * 65536 }, true)

/-- The edge falls inside the open slot and belongs to one of its inputs (R163, R264). -/
def inSlot (k n t : Nat) (s : Vol) : Bool :=
  let l := lane s k
  s.work.aux.isOpen && s.work.aux.closing.isNone && s.work.aux.live.contains n && decide (l.epoch * 65536 ≤ t)
    && beforeClose t ((l.epoch + slotCloseT s) * 65536)

/-- A rising or falling edge at a FIN pin (R257 to R259): of the selected polarity, it is presented to its lane within an open
slot; outside one it can only begin a hold-off of FIN4 or FIN5, while the TIMING ENGINE has its supply (DEDUCED, log entry 153). -/
def auxEdge (k n : Nat) (source : Fin 16) (falling : Bool) (t : Nat) (s : Vol) : Vol :=
  let x := vget s.work.aux.sensors n
  if !s.work.te.powered || decide (6 ≤ n) || finLane n != k || finMode (th s 9) n == 0 || falling != (x.pol == 1) then s
  else if inSlot k n t s then
    let (f, present) := finEdge s n t
    let s := setFin n f (clockTo (t / 65536) s)
    if present then putLane k (presentEdge k source falling t (lane s k)) false s else s
  else if 4 ≤ n then setFin n (finEdge s n t).1 s
  else s

/-- RISING_CROSSING (R92, R141): an edge is presented to a lane. -/
def execRisingCrossing (lane : Fin 6) (source : Fin 16) (falling : Bool) (t : Nat) (s : State) :
    Host.Outcome State Fault Refusal :=
  if lane.val < 4 then .next (s.up (acousticEdge lane.val source falling t s.vol))
  else .next (s.up (auxEdge lane.val source.val source falling t s.vol))

/-! ### Frequency results (R265 to R267, R272) -/

/-- The smallest spacing among the first 16 stamps. -/
def spacingOf (ts : List Nat) : Nat :=
  let l := ts.take 16
  match (List.zip l l.tail).map fun (a, b) => b - a with
  | [] => 0
  | x :: r => r.foldl min x

/-- Cycle steps between consecutive stamps with the GAP bit of the later one. -/
def stepsOf (p : Nat) (l : List (Bool × Nat)) : List (Bool × Nat) :=
  (List.zip l l.tail).map fun (a, b) =>
    (b.1, if p = 0 then (Config.unstated 265 [a.2, b.2]).toNat else (2 * (b.2 - a.2) + p) / (2 * p))

/-- Cycle indices from the steps. -/
def indicesOf : Nat → List (Bool × Nat) → List Int
  | n, [] => [(n : Int)]
  | n, (_, d) :: r => (n : Int) :: indicesOf (n + d) r

/-- C_k of R272 scaled by 2^64, times x^k. DEDUCED: log entry 40. -/
def valueTerm (x m e : Int) (k : Nat) : Int := m * x ^ k * (2 ^ (e + 64).toNat : Nat)

/-- VALUE before saturation (R272), evaluated exactly. -/
def valueOf (c : Sensor) (freq : Int) : Int :=
  let x := roundAway (freq - c.f0) 1000
  roundAway (sumInt ((List.range 4).map fun k => valueTerm x (lget c.m k) (lget c.e k) k)) (2 ^ 64)

/-- The result of a frequency input with at least 8 stamps. -/
def freqResult (n : Nat) (lost : Bool) (stamps : List (Bool × Nat)) (s : Vol) : Vol :=
  let c := vget s.work.aux.sensors n
  let m : Int := if n < 4 then 2 ^ c.presc.toNat else 1
  let steps := stepsOf (spacingOf (stamps.map (·.2))) stamps
  let irreg := steps.any fun p => !p.1 && p.2 != 1
  let f := fitWith (indicesOf 0 steps) (stamps.map fun p => (p.2 : Int))
  let ok := decide (0 < f.d ∧ 0 < f.bn)
  let period := if ok then fitOr 0 (2 ^ 48 - 1) 266 (roundAway f.bn (f.d * m)) else Config.unstated 266 [f.bn, f.d]
  let freq := if ok then fitOr 0 (2 ^ 48 - 1) 266 (roundAway (m * 2 ^ 25 * 10 ^ 12 * f.d) f.bn)
    else Config.unstated 267 [f.bn, f.d]
  let v := valueOf c freq
  let s := finStatus n 0 s
  let s := setFin n
    { fin s n with
      period := ofInt 48 period
      freq := ofInt 48 freq
      value := ofInt 32 (satSigned 32 v)
      sat := !fitsSigned 32 v
      gap := lost
      irreg
      inverted := false
      degraded := s.work.aux.degraded
      held := false
      stamps := BitVec.ofNat 24 (min stamps.length (2 ^ 24 - 1))
      resid := BitVec.ofNat 16 (min 65535 f.resid)
      age := 0 } s
  if irreg then limG 0x0172 n n s else s

/-- The stamps of input n among the words of its lane. -/
def finStamps (n : Nat) (words : List StampWord) : List (Bool × Nat) :=
  ((stampTimes 0 words).filter fun w => w.1 == n).map fun w => (w.2.1, w.2.2.2)

/-- The lane of an input is out of service. -/
def finLaneOut (s : Vol) (n : Nat) : Bool := (lane s (finLane n)).out

/-- R267 for one input; `unlock` where the slot ended under R139. A lane that has gone out of service within the slot gives LANE_OUT: DEDUCED,
log entry 136. -/
def freqInput (n : Nat) (unlock : Bool) (words : List StampWord) (s : Vol) : Vol :=
  let st := finStamps n words
  if unlock then finHeld n 4 s
  else if finLaneOut s n then finHeld n 5 s
  else if st.length < 8 then finHeld n 1 s
  else freqResult n (decide (0 < (vget (lane s (finLane n)).loss n).count)) st s

/-- An input that was LANE_OUT when its slot fell due is UNLOCK where the slot ends under R139, which ranks first (R267,
R271). -/
def unlockOthers (s : Vol) : Vol :=
  ((slotInputs s s.work.aux.interval).filter fun n => !s.work.aux.live.contains n).foldl (init := s) fun s n => finStatus n 4 s

/-! ### Interval results (R269 to R271) -/

/-- The first start stamp and the accepted stop stamp among the stored words, in TOF units. -/
def intervalStamps (s : Vol) (a b : List StampWord) : Option Nat × Option Nat :=
  let (n0, n1) := intervalPair s
  let start := (finStamps n0 a).head?.map (·.2)
  let stops := (finStamps n1 b).map (·.2)
  let c := s.work.obj.calib
  let stop := match start with
    | some t =>
      if eaveOn s then
        stops.find? fun u => c.eaveOpen * 65536 ≤ (u : Int) - t ∧ (u : Int) - t ≤ c.eaveClose * 65536
      else stops.head?
    | none => stops.head?
  (start, stop)

/-- Every word of the AUX lanes that is stored. -/
def auxWords (s : Vol) (k : Nat) : List StampWord := (lane s k).taken ++ (lane s k).queue

/-- R271. -/
def intervalResult (unlock : Bool) (a b : List StampWord) (s : Vol) : Vol :=
  let (n0, n1) := intervalPair s
  let both := fun (f : Nat → Vol → Vol) => f n1 (f n0 s)
  if unlock then both fun n s => finHeld n 4 s
  else if finLaneOut s n0 || finLaneOut s n1 then both fun n s => finHeld n 5 s
  else
    match intervalStamps s a b with
    | (none, _) => both fun n s => finHeld n 2 s
    | (some _, none) => both fun n s => finHeld n 3 s
    | (some t, some u) =>
      let d : Int := (u : Int) - t
      both fun n s =>
        let s := finStatus n 0 s
        setFin n
          { fin s n with
            period := ofInt 48 d
            freq := 0
            value := 0
            sat := false
            gap := false
            irreg := false
            inverted := decide (d < 0) && !eaveOn s
            degraded := s.work.aux.degraded
            held := false
            stamps := 2
            resid := 0
            age := 0 } s

/-! ### The close of a slot (R139, R156, R160) -/

/-- Raw blocks of an AUX lane: 64 words, or up to a close word (R160). -/
def auxBlocks : Nat → List StampWord → List StampWord → List (List StampWord) × List StampWord
  | _, acc, [] => ([], acc.reverse)
  | n, acc, w :: r =>
    if isClose w || n = 63 then
      let (bs, rest) := auxBlocks 0 [] r
      ((w :: acc).reverse :: bs, rest)
    else auxBlocks (n + 1) (w :: acc) r

/-- The words that the drain has copied form blocks. -/
def streamAux (k : Nat) (s : Vol) : Vol :=
  let (bs, rest) := auxBlocks 0 [] (lane s k).raw
  bs.foldl (init := setLane k { lane s k with raw := rest } s) fun s b =>
    streamBlock k 0xFF s.work.aux.slotCount.toNat b s

/-- The close words of one lane, one for each input of the slot on it; `coarse` counts from the epoch. -/
def closeWords (k : Nat) (copies unlock : Bool) (coarse : Nat) (ns : List Nat) (l : Lane) : Lane :=
  (ns.filter fun n => finLane n == k).foldl (init := l) fun l n =>
    let x := vget l.loss n
    let ovr := b2n (decide (2 ^ 28 ≤ coarse))
    let w := if unlock then stampWord n 1 1 1 ovr coarse 4095 else stampWord n (b2n x.gap) 1 1 ovr coarse x.count
    pushWord k copies w false l

/-- The slot has closed and no cell works on it: close words, results, and the queues taken. -/
def finishSlot (unlock : Bool) (coarse : Nat) (s : Vol) : Vol :=
  let live := s.work.aux.live
  let s := drainAll ([4, 5].foldl (init := s) fun s k =>
    setLane k (closeWords k (streams s 0) unlock coarse live (lane s k)) s)
  let a := (lane s 4).taken
  let b := (lane s 5).taken
  let s := if s.work.aux.interval then intervalResult unlock a b s
    else live.foldl (init := s) fun s n => freqInput n unlock (if finLane n = 4 then a else b) s
  let s := if unlock then unlockOthers s else s
  let s := streamAux 5 (streamAux 4 s)
  let s := [4, 5].foldl (init := s) fun s k => setLane k { lane s k with taken := [] } s
  leaveMeasure (copyLanes { s with work.aux.isOpen := false, work.aux.closing := none })

/-- A cell of an AUX lane still works on an edge of the slot. -/
def auxBusy (s : Vol) : Bool :=
  [4, 5].any fun k => (lane s k).cells.toList.any fun c =>
    match c.job with
    | some j => j.armed
    | none => false

/-- The slot closes at `coarse`; its results wait for the cells at work. -/
def closeSlot (coarse : Nat) (s : Vol) : Vol :=
  if auxBusy s then { s with work.aux.closing := some coarse } else finishSlot false coarse s

/-- GATE_CLOSE (R262, R266). -/
def execGateClose (s : State) : Host.Outcome State Fault Refusal :=
  let v := s.vol
  if v.work.aux.isOpen && !v.work.aux.interval && v.work.aux.closing.isNone then
    .next (s.up (closeSlot (slotCloseT v) v))
  else .next s

/-- INTERVAL_CLOSE (R156, R269): the FINE edge after both stamps are stored. DEDUCED: log entry 128. -/
def intervalClose (s : Vol) : Vol :=
  if !s.work.aux.isOpen || !s.work.aux.interval || s.work.aux.closing.isSome then s
  else
    match intervalStamps s (auxWords s 4) (auxWords s 5) with
    | (some _, some _) =>
      let coarse := s.work.te.coarse + 1
      closeSlot (coarse - (lane s 4).epoch) (clockTo coarse s)
    | _ => s

def execIntervalClose (s : State) : Host.Outcome State Fault Refusal := .next (s.up (intervalClose s.vol))

/-- INTERVAL_TIMEOUT (R269, R270): IVL_TIMEOUT after the epoch, or the eave close after the start stamp, which is rounded down to a whole T:
DESIGN CHOICE, log entry 137. -/
def intervalTimeout (s : Vol) : Vol :=
  if !s.work.aux.isOpen || !s.work.aux.interval || s.work.aux.closing.isSome then s
  else
    let eave := match (intervalStamps s (auxWords s 4) (auxWords s 5)).1 with
      | some t => if eaveOn s then t / 65536 + s.work.obj.calib.eaveClose.toNat else slotCloseT s
      | none => slotCloseT s
    closeSlot (min eave (slotCloseT s)) s

def execIntervalTimeout (s : State) : Host.Outcome State Fault Refusal := .next (s.up (intervalTimeout s.vol))

/-- CELL_CYCLE_END (R140, R142); the last cell of a closing slot lets its results be formed. -/
def cellCycleEnd (nv : Nv) (k i t : Nat) (v : BitVec 12) (cstop : Nat) (s : Vol) : Vol :=
  let s := cellEnd nv k i t v cstop s
  if k < 4 then s
  else
    let s := streamAux k s
    match s.work.aux.closing with
    | some c => if auxBusy s then s else finishSlot false c s
    | none => s

def execCellCycleEnd (lane : Fin 6) (cell : Fin 4) (t : Nat) (v : BitVec 12) (cstop : Nat) (s : State) :
    Host.Outcome State Fault Refusal :=
  .next (s.up (cellCycleEnd s.nv lane.val cell.val t v cstop s.vol))

/-! ### Loss of lock (R59, R139) -/

/-- The count of the counter as FINE stops, at or after the one last seen: a free value, DESIGN CHOICE, log entry 127. -/
def lossCount (s : Vol) : Nat × Vol :=
  let (x, s) := takeFree s
  (s.work.te.coarse + x.toNat, s)

/-- The open slot ends: the AUX lanes stop stamping at once (R139). A slot that has closed already only waits for its cells, and
keeps its close. -/
def slotLosesLock (s : Vol) : Vol :=
  if s.work.aux.closing.isSome then s
  else
    let (coarse, s) := lossCount s
    let lanes := Vector.ofFn fun (k : Fin 6) =>
      let l := lane s k.val
      if 4 ≤ k.val then { l with cells := l.cells.map fun c => { c with job := none } } else l
    finishSlot true (coarse - (lane s 4).epoch) { s with work.te.lanes := lanes }

/-- PLL_UNLOCK. One loss of lock counts once, whether a round, a slot or both
run. DEDUCED: log entry 36. -/
def pllUnlock (s : Vol) : Vol :=
  if !s.bak.power.pll then s
  else
    let round := s.work.fe.round.running
    let slot := s.work.aux.isOpen && s.work.aux.closing.isNone
    let s := { s with
      bak.power.pll := false
      work.fab.pllUnlock := if round || slot then satInc s.work.fab.pllUnlock else s.work.fab.pllUnlock }
    let s := if round then roundLosesLock s else s
    if slot then slotLosesLock s else s

def execPllUnlock (s : State) : Host.Outcome State Fault Refusal := .next (s.up (pllUnlock s.vol))

/-! ### Pulse counting (R273, R274) -/

/-- TH9 gives pulse inputs (R273), which RETIRED does not count (R546, DEDUCED, log entry 41). -/
def pulseCounting (s : Vol) : Bool := (th s 9 == 8 || th s 9 == 9) && !retired s

/-- One sample of a pulse input (R273): the sampler after it, and whether it counts a pulse. `active` is the level of POL. -/
def pulseStep (active : Bool) (p : PulseSampler) : PulseSampler × Bool :=
  if active then ({ p with active := min 3 (p.active + 1) }, decide (p.active = 1 ∧ 2 ≤ p.idle))
  else ({ idle := if p.active = 0 then min 2 (p.idle + 1) else 1, active := 0 }, false)

/-- FIN_PULSE: the sample of every 32 LF periods, at which the pin reads high or low (R273). POL acts from the next sample on
(R278). -/
def finPulse (n : Nat) (high : Bool) (s : Vol) : Vol :=
  if pulseCounting s && [PState.sleep, .doze, .measure].contains s.bak.power.state then
    let pol := (vget s.work.obj.sensors n).pol
    let (p, counts) := pulseStep (high == (pol == 1)) (vget s.bak.pulses n)
    { s with
      bak.pulses := vset s.bak.pulses n p
      ret.count := if counts then vmod s.ret.count n (· + 1) else s.ret.count }
  else s

def execFinPulse (p : PinSample) (s : State) : Host.Outcome State Fault Refusal :=
  .next (s.up (finPulse p.n.val p.high s.vol))

/-- 3 600 s of LF time have passed since the latest scheduled copy, which the write of a clear action does not restart (R274; DEDUCED, log
entry 155). -/
def pulseCopyDue (s : Vol) : Bool := pulseCounting s && decide (230400 ≤ (s.bak.count - s.bak.pulseCopy).toNat)

/-- PULSE_COUNT_COPY. -/
def execPulseCountCopy (s : State) : Host.Outcome State Fault Refusal :=
  let v := s.vol
  if pulseCopyDue v && coreRuns v then .next (s.up (writeCounts s.nv { v with bak.pulseCopy := v.bak.count })) else .next s

end Sys2Proof.Machine
end

