-- ==== Sys2Proof/Machine/Ports.lean ====
section
/-! DEFINITION. The optical port, M-Bus, EIA-485 and the pulse outputs (R429 to R440, R447 to R454): replies that leave, port
loop-backs, the M-Bus link layer and its data records. -/

namespace Sys2Proof.Machine

/-! ### Replies and silence (R430, R451) -/

/-- Port settings whose reply has left take effect (R451). DEDUCED: log entry 65. -/
def takeSettings (p : Port) (s : Vol) : Vol :=
  match s.work.pt.setNew with
  | some (q, l) =>
    if p = q then
      let baud := lget l 1
      { s with
        work.pt.setNew := none
        work.pt.mbAddr := lget l 0
        work.pt.mbBaud := baud
        work.pt.rsAddr := lget l 2
        work.pt.stream := lget l 3
        work.pt.mbus.rate := if baud = s.work.pt.mbBaud then s.work.pt.mbus.rate else ofInt 3 baud }
    else s
  | none => s

/-- The bit rate of a port (R29, R433, R434), 0 where the host or the mains gives the clock. -/
def portRate (s : Vol) : Port → Nat
  | .optical => s.work.pt.optRate
  | .mbus => 300 * 2 ^ s.work.pt.mbus.rate.toNat
  | .rs485 => rs485Rate s
  | _ => 0

/-- A character as its bits in time (R429): the start bit, the data bits from the least significant one, even parity on M-Bus, and
the stop bit. -/
def charBits (p : Port) (b : Byte) : List Bool :=
  let d := (List.range 8).map fun i => b.getLsbD i
  false :: d ++ (if p = .mbus then [d.foldl xor false] else []) ++ [true]

/-- The levels of the transmit pin, one per bit time, while a port sends bytes: OPTX is high for a binary 0 and low at idle
(R432); TXD485 and the M-Bus transmitter follow the bits. -/
def pinLevels (p : Port) (b : Bytes) : List Bool :=
  (b.flatMap (charBits p)).map fun x => if p = .optical then !x else x

/-- Bytes leave a port. -/
def sendBytes (p : Port) (b : Bytes) (s : Vol) : Vol :=
  { s with
    work.pt.sentRate := vset s.work.pt.sentRate (portIx p) (portRate s p)
    work.ex.sent := vset s.work.ex.sent (portIx p) b
    work.ex.lastTraffic := vset s.work.ex.lastTraffic (portIx p) (some s.bak.count) }

/-- A formed reply leaves its port; with the reply to CLOSE its session ends (R402). -/
def replyLeft (p : Port) (b : Bytes) (s : Vol) : Vol :=
  endClosed p (takeSettings p (sendBytes p b { s with work.ex.replies := vset s.work.ex.replies (portIx p) none }))

def replyAt (s : Vol) (p : Port) : Option Bytes := vget s.work.ex.replies (portIx p)

/-- REPLY_TRANSMIT (R430): the optical port and EIA-485 answer of themselves. -/
def replyTransmit (p : Port) (s : Vol) : Vol :=
  if !coreRuns s || !(p == .optical || p == .rs485) then s
  else match replyAt s p with
    | some b => replyLeft p b s
    | none => s

def execReplyTransmit (port : Port) (s : State) : Host.Outcome State Fault Refusal :=
  .next (s.up (replyTransmit port s.vol))

/-- FRAME_SILENCE_TIMEOUT (R430): a frame that a silence ends is discarded and counted; its bytes were traffic (R526). -/
def execFrameSilenceTimeout (port : Port) (s : State) : Host.Outcome State Fault Refusal :=
  if coreRuns s.vol && portInSet s.vol port && [Port.optical, .mbus, .rs485].contains port then
    .next (s.up (noteTraffic port (discardFrame s.vol)))
  else .next s

/-! ### Port loop-backs (R452, R453, R576) -/

/-- The reply to the loop-back's request has been sent. -/
def loopReplySent (s : Vol) : Bool :=
  match slotAt s (s.work.pt.lbNextSession - 1) with
  | some x => replyGone s x.port
  | none => true

/-- PORT_LOOPBACK_START: a request that waits begins, once the loop-back before it has ended. -/
def portLoopStart (s : Vol) : Vol :=
  if !coreRuns s || !s.work.pt.lbPending || !loopReplySent s || s.work.pt.lbResult == 1 then s
  else
    logG 0x0608 (s.work.pt.lbRequest.toNat / 2 ^ 28)
      { s with
        work.pt.lbPending := false
        work.pt.lbRun := s.work.pt.lbRequest
        work.pt.lbSession := s.work.pt.lbNextSession
        work.pt.lbResult := 1
        work.pt.lbBits := 0
        work.pt.lbErrors := 0
        work.pt.lbEcho := none }

def execPortLoopbackStart (s : State) : Host.Outcome State Fault Refusal := .next (s.up (portLoopStart s.vol))

/-- PRBS9, x^9 + x^5 + 1 from all ones (R486): the sequence newest first. DEDUCED: log entry 74. -/
def prbs9 : Nat → List Bool
  | 0 => []
  | n + 1 =>
    let l := prbs9 n
    (if l.length < 9 then true else (l.getD 4 true != l.getD 8 true)) :: l

/-- The loop-back that runs is on LINK, where the host compares. -/
def loopOnLink (s : Vol) : Bool := s.work.pt.lbRun.toNat / 2 ^ 28 == 4

/-- Bits of the sequence that a serial loop-back has sent and that came back wrong, of the first n. A digital loop returns what is sent;
in a pin loop `back` is what the pad read (R453). -/
def loopErrors (s : Vol) (n : Nat) (back : List Bool) : Nat :=
  if s.work.pt.lbRun.toNat / 2 ^ 26 % 4 = 1 then 0
  else
    let sent := (prbs9 511).reverse
    ((List.range n).filter fun i => back[i]? != sent[i]?).length

/-- PORT_LOOPBACK_END: `bits` of the 511 have been sent and compared with what returned (R453, R576); on LINK 64 bytes have been
returned. Before that, only an abort ends it. -/
def portLoopEnd (bits : Nat) (back : List Bool) (aborted : Bool) (s : Vol) : Vol :=
  let n := min bits 511
  let whole := if loopOnLink s then decide (512 ≤ s.work.pt.lbBits.toNat) else n == 511
  if s.work.pt.lbResult ≠ 1 ∨ (!aborted && !whole) then s
  else
    let e := if loopOnLink s then 0 else loopErrors s n back
    let result := if aborted then 4 else if e = 0 then 2 else 3
    logG 0x0609 result
      { s with
        work.pt.lbResult := BitVec.ofNat 3 result
        work.pt.lbBits := if loopOnLink s then s.work.pt.lbBits else BitVec.ofNat 16 n
        work.pt.lbErrors := BitVec.ofNat 16 e
        work.pt.lbSession := 0 }

def execPortLoopbackEnd (bits : Nat) (back : List Bool) (aborted : Bool) (s : State) : Host.Outcome State Fault Refusal :=
  .next (s.up (portLoopEnd bits back aborted s.vol))

/-! ### The M-Bus link layer (R434, R435, R437) -/

/-- The bus is on a port of the device that runs. -/
def mbusUp (s : Vol) : Bool := coreRuns s && portInSet s .mbus

/-- A frame is addressed to the device. -/
def mbusMine (s : Vol) (addr : Byte) : Bool :=
  (addr.toNat : Int) == s.work.pt.mbAddr || addr == 254 || addr == 255 || (addr == 253 && s.work.pt.mbus.selected)

/-- The receiver follows a frame's bits at the rate in force (R429, R434). -/
def mbusHears (s : Vol) (bitNs : Nat) : Bool := bitFits 25 bitNs (portRate s .mbus)

/-- A valid frame arrives, unless a loop-back holds the port (R453); one for another device is traffic only (R526). -/
def mbusTake (dest : MbusTo) (g : Vol → Vol) (s : Vol) : Vol :=
  if !mbusUp s || !mbusHears s dest.bitNs then s
  else
    let s := noteTraffic .mbus s
    if portLooped s .mbus then discardFrame s
    else if mbusMine s dest.addr then g { s with work.pt.mbus.lastValid := s.bak.count }
    else s

/-- The frame count of a SND_UD: whether it repeats the frame before, and the state with the count it leaves; with FCV 0 it counts
nothing (R435). -/
def udCount (c : FrameCount) (s : Vol) : Bool × Vol :=
  if c.fcv then (s.work.pt.mbus.udFcb == some c.fcb, { s with work.pt.mbus.udFcb := some c.fcb }) else (false, s)

/-- The acknowledgement; address 255 gets no reply. -/
def mbusAck (addr : Byte) (s : Vol) : Vol := if addr = 255 then s else sendBytes .mbus [0xE5] s

/-- MBUS_SND_NKE: the link starts afresh, an unfetched reply is discarded, and a selection ends (EN 13757-2). -/
def mbusNke (addr : Byte) (s : Vol) : Vol :=
  mbusAck addr <| endClosed .mbus
    { s with
      work.pt.mbus.fcb := none
      work.pt.mbus.udFcb := none
      work.pt.mbus.tunnel := false
      work.pt.mbus.lastResponse := []
      work.pt.mbus.selected := s.work.pt.mbus.selected && addr != 253
      work.ex.replies := vset s.work.ex.replies 1 none }

def execMbusSndNke (dest : MbusTo) (s : State) : Host.Outcome State Fault Refusal :=
  .next (s.up (mbusTake dest (mbusNke dest.addr) s.vol))

/-- A long frame of FT1.2 with C 0x08. -/
def ft12 (s : Vol) (ci : Byte) (data : Bytes) : Bytes :=
  let body : Bytes := [0x08, ofInt 8 s.work.pt.mbAddr, ci] ++ data
  let n : Byte := BitVec.ofNat 8 body.length
  [0x68, n, n, 0x68] ++ body ++ [body.foldl (· + ·) 0, 0x16]

/-! ### The data records (R436) -/

/-- n in BCD, least significant byte first. -/
def bcdLe : Nat → Nat → Bytes
  | 0, _ => []
  | k + 1, n => toBcd (n % 100) :: bcdLe k (n / 100)

/-- The identification of R435: serial number modulo 10^8, DZK, version, medium. -/
def mbusIdent (nv : Nv) : Bytes := bcdLe 4 (nv.trim.serial.toNat % 10 ^ 8) ++ [0x4B, 0x13, 0xB1, 0x07]

/-- Type F of EN 13757-3: minute with IV, hour with the hundreds of years, day and month with the year. -/
def typeF (c : Cal) (osf : Bool) : Bytes :=
  let y := ofBcd c.year
  [BitVec.ofNat 8 (ofBcd c.min + 128 * b2n osf),
   BitVec.ofNat 8 (ofBcd c.hour + 32 * ((ofBcd c.century - 19) % 4)),
   BitVec.ofNat 8 (ofBcd c.day + 32 * (y % 8)),
   BitVec.ofNat 8 (ofBcd c.month + 16 * (y / 8))]

/-- The error flags record. -/
def errorRecord (s : Vol) : Bytes := [0x01, 0xFD, 0x17, BitVec.ofNat 8 (errorFlags s)]

/-- The flow in mL/h. DESIGN CHOICE: log entry 63. -/
def flowPerHour (s : Vol) : Int :=
  fitOr (-(2 ^ 47)) (2 ^ 47 - 1) 436 (roundAway (18 * s.work.flow.flow.toInt) 5)

def tariffRecord (s : Vol) (t : Nat) : Bytes :=
  (if t = 4 then [0x87, 0x80, 0x10] else [0x87, BitVec.ofNat 8 (16 * t)]) ++ [0x10]
    ++ leBytes 8 (vget s.ret.led.t (t - 1)).toNat

/-- The records, in the order of R436; a secondary sends its error flags only. -/
def mbusRecords (s : Vol) : Bytes :=
  if isSecondary s then errorRecord s
  else
    [0x07, 0x10] ++ leBytes 8 s.ret.led.fwd.toNat ++ [0x07, 0x10, 0x3C] ++ leBytes 8 s.ret.led.rev.toNat
      ++ ((List.range (tariffSource s).2).flatMap fun i => tariffRecord s (i + 1))
      ++ [0x06, 0x38] ++ (beSigned 6 (flowPerHour s)).reverse
      ++ [0x04, 0x6D] ++ typeF (groupOf s) s.bak.osf ++ errorRecord s

/-- The status byte of the long header. -/
def mbusStatus (s : Vol) : Byte :=
  let e := errorFlags s
  BitVec.ofNat 8 ((if e % 32 = 0 then 0 else 16) + (if e / 32 % 2 = 1 ∨ e / 128 % 2 = 1 then 8 else 0))

/-- RSP_UD with CI 0x72. -/
def dataResponse (nv : Nv) (s : Vol) : Bytes :=
  ft12 s 0x72 (mbusIdent nv ++ [s.work.pt.mbus.access, mbusStatus s, 0, 0] ++ mbusRecords s)

/-- A new RSP_UD, with which the access number rises (R436; a repeat of the same one leaves it: DEDUCED, log entry
147): the tunnelled reply, an empty one while it is not ready, or the records (R437). -/
def mbusRespond (nv : Nv) (s : Vol) : Vol :=
  let s := { s with work.pt.mbus.access := s.work.pt.mbus.access + 1 }
  let put := fun (s : Vol) (b : Bytes) => sendBytes .mbus b { s with work.pt.mbus.lastResponse := b }
  if s.work.pt.mbus.tunnel then
    match replyAt s .mbus with
    | some b =>
      let r := ft12 s 0xA5 b
      put (replyLeft .mbus r { s with work.pt.mbus.tunnel := false }) r
    | none => put s (ft12 s 0xA5 [])
  else put s (dataResponse nv s)

/-- MBUS_REQ_UD2 (R435 to R437): a repeated FCB is answered with the same response again. -/
def mbusReq (nv : Nv) (addr : Byte) (c : FrameCount) (s : Vol) : Vol :=
  if addr = 255 then s
  else if c.fcv ∧ s.work.pt.mbus.fcb = some c.fcb ∧ !s.work.pt.mbus.lastResponse.isEmpty then
    sendBytes .mbus s.work.pt.mbus.lastResponse s
  else mbusRespond nv (if c.fcv then { s with work.pt.mbus.fcb := some c.fcb } else s)

def execMbusReqUd2 (dest : MbusTo) (fcb : FrameCount) (s : State) : Host.Outcome State Fault Refusal :=
  .next (s.up (mbusTake dest (mbusReq s.nv dest.addr fcb) s.vol))

/-- A request at address 255 is executed without reply (R435): that of a tunnelled one is not kept either. DEDUCED: log entry 159. -/
def noReply (s : Vol) : Vol :=
  endClosed .mbus { s with work.pt.mbus.tunnel := false, work.ex.replies := vset s.work.ex.replies 1 none }

/-- MBUS_SND_UD (R435, R437): CI 0xA5 carries a Graoc frame; any other CI changes nothing and is not acknowledged. A
repeated FCB is acknowledged and not executed again. No FT1.2 frame holds longer DATA (R438). -/
def mbusUd (nv : Nv) (addr : Byte) (c : FrameCount) (f : Frame) (s : Vol) : Vol :=
  let (again, s) := udCount c s
  let s := mbusAck addr s
  let s' := receive nv { f with port := .mbus } s
  if again then s else if addr = 255 ∧ !portBusy s .mbus then noReply s' else s'

def execMbusSndUd (dest : MbusTo) (fcb : FrameCount) (ci : Byte) (f : Frame) (s : State) : Host.Outcome State Fault Refusal :=
  if ci = 0xA5 ∧ f.data.length ≤ 233 then .next (s.up (mbusTake dest (mbusUd s.nv dest.addr fcb f) s.vol)) else .next s

/-- MBUS_BAUD_SWITCH (R434): a SND_UD with CI 0xB8 to 0xBD, acknowledged at the old rate. -/
def mbusBaud (addr : Byte) (ud : UdHead) (s : Vol) : Vol :=
  let (again, s) := udCount ud.count s
  let s := mbusAck addr s
  if again then s else { s with work.pt.mbus.rate := BitVec.ofNat 3 (ud.ci.toNat - 0xB8) }

def execMbusBaudSwitch (dest : MbusTo) (ud : UdHead) (s : State) : Host.Outcome State Fault Refusal :=
  if 0xB8 ≤ ud.ci.toNat ∧ ud.ci.toNat ≤ 0xBD then .next (s.up (mbusTake dest (mbusBaud dest.addr ud) s.vol)) else .next s

/-- A selection matches the identification: a nibble F of the number and a byte FF of the rest match anything. PRESUMED: log
entry 62. -/
def selectionMatches (nv : Nv) (p : Bytes) : Bool :=
  let i := mbusIdent nv
  let nib := fun (a b : Nat) => a == 15 || a == b
  p.length == 8
    && ((List.range 4).all fun k =>
      let a := (p.getD k 0).toNat
      let b := (i.getD k 0).toNat
      nib (a / 16) (b / 16) && nib (a % 16) (b % 16))
    && (List.range 4).all fun k => p.getD (k + 4) 0 == 0xFF || p.getD (k + 4) 0 == i.getD (k + 4) 0

/-- MBUS_SELECT (R435): selection at address 253 with CI 0x52. A selection of another device deselects this one. -/
def mbusSelect (nv : Nv) (p : Selection) (s : Vol) : Vol :=
  if !mbusUp s || !mbusHears s p.bitNs then s
  else
    let s := noteTraffic .mbus s
    if portLooped s .mbus then discardFrame s
    else if selectionMatches nv p.pattern then
      let (_, s) := udCount p.count s
      mbusAck 253 { s with work.pt.mbus.selected := true, work.pt.mbus.lastValid := s.bak.count }
    else { s with work.pt.mbus.selected := false }

def execMbusSelect (p : Selection) (s : State) : Host.Outcome State Fault Refusal :=
  .next (s.up (mbusSelect s.nv p s.vol))

/-- MBUS_BAUD_TIMEOUT (R434): 600 s without a valid frame addressed to the device, with CORE running or stopped: the bus powers the
port. -/
def mbusBaudTimeout (s : Vol) : Vol :=
  if portInSet s .mbus && decide (38400 ≤ (s.bak.count - s.work.pt.mbus.lastValid).toNat) then
    { s with work.pt.mbus.rate := ofInt 3 s.work.pt.mbBaud }
  else s

def execMbusBaudTimeout (s : State) : Host.Outcome State Fault Refusal := .next (s.up (mbusBaudTimeout s.vol))

/-! ### Pulse outputs (R447, R448) -/

/-- Pulses run in SLEEP, DOZE and MEASURE, with a pulse value in force, and not in RETIRED (R546). -/
def pulsesRun (s : Vol) : Bool :=
  [PState.sleep, .doze, .measure].contains s.bak.power.state && (pulseValue s).isSome && !retired s

/-- PULSE_START: an output with a backlog goes low, after 164 LF periods released, and its backlog falls by one. -/
def pulseStart (o : PulseOut) (released : Nat) (s : Vol) : Vol :=
  if !pulsesRun s ∨ released < 164 then s
  else match o with
    | .a =>
      if !s.work.pt.pulseA.low && s.ret.pulseA.backlog != 0 then
        { s with work.pt.pulseA.low := true, ret.pulseA.backlog := s.ret.pulseA.backlog - 1 }
      else s
    | .b =>
      if !s.work.pt.pulseB.low && s.ret.pulseB.backlog != 0 then
        { s with work.pt.pulseB.low := true, ret.pulseB.backlog := s.ret.pulseB.backlog - 1 }
      else s

def execPulseStart (p : PulseDue) (s : State) : Host.Outcome State Fault Refusal :=
  .next (s.up (pulseStart p.out p.released s.vol))

/-- PULSE_END: after 164 LF periods the output is released. -/
def execPulseEnd (out : PulseOut) (s : State) : Host.Outcome State Fault Refusal :=
  match out with
  | .a => .next { s with vol.work.pt.pulseA.low := false }
  | .b => .next { s with vol.work.pt.pulseB.low := false }

end Sys2Proof.Machine
end

