-- ==== Sys2Proof/Machine/Line.lean ====
section
/-! DEFINITION. Signalling over the power wiring (R60, R64, R455 to R487): half-cycles and soft symbols, frames, node and master
service, the PHY for a host, and the loop-backs of a context. -/

namespace Sys2Proof.Machine

/-! ### Contexts and settings (R455, R483) -/

def lctx (s : Vol) (k : Nat) : LineCtx := vget s.work.line.ctxs k

def setCtx (k : Nat) (c : LineCtx) (s : Vol) : Vol := { s with work.line.ctxs := vset s.work.line.ctxs k c }

def modCtx (k : Nat) (g : LineCtx → LineCtx) (s : Vol) : Vol := setCtx k (g (lctx s k)) s

/-- R of the context's mode (R466). -/
def repeats (s : Vol) (k : Nat) : Nat := [1, 4, 6].getD (lineSet s k (2 + k)) 6

/-- n bit periods in half-cycles. -/
def bitPeriods (s : Vol) (k n : Nat) : Nat := 2 * repeats s k * n

/-- Nothing of a frame is in progress on the context. -/
def ctxFree (c : LineCtx) : Bool :=
  c.rx.isNone && c.frame.isNone && c.queue.isEmpty && c.rest.isEmpty && c.owed.isNone && !c.poll.any (·.waiting)

/-- New settings take effect at a frame boundary. -/
def refresh (k : Nat) (s : Vol) : Vol :=
  if ctxFree (lctx s k) then modCtx k (fun c => { c with inForce := s.work.line.settings }) s else s

/-- A loop-back runs on the context (R486). -/
def ctxLooped (s : Vol) (k : Nat) : Bool :=
  s.work.line.lbResult == 1 && s.work.line.lbRun.toNat / 2 ^ 26 % 4 == k

/-- The KIND of the loop-back that runs. -/
def lineLoopKind (s : Vol) : Nat := s.work.line.lbRun.toNat / 2 ^ 28

/-- The LINE clock runs beside CORE, and the device is in service (R459, R546). -/
def lineRuns (s : Vol) : Bool := coreRuns s && s.work.line.running && !retired s

/-- The LINE side works on a context: for a service, or for a loop-back on it (R455). -/
def lineUp (s : Vol) (k : Nat) : Bool := lineRuns s && (ctxInUse s k || ctxLooped s k)

/-- The device's own service is in force on the context (R471, R473, R481). -/
def serves (s : Vol) (k svc : Nat) : Bool :=
  svcOf s k == svc && (!phyForHost s || (lctx s k).serviceOn) && !ctxLooped s k

/-! ### Frames as bits (R467) -/

/-- x in n bits, most significant first. -/
def natBits (n x : Nat) : List Bool := (List.range n).map fun i => x.testBit (n - 1 - i)

def bitsNat (l : List Bool) : Nat := l.foldl (fun a b => 2 * a + b2n b) 0

/-- Preamble and sync. -/
def lineHead : List Bool := List.replicate 8 true ++ natBits 8 0x2D

/-- DEST to the end of the payload. -/
def lineBody (dest src type : Nat) (payload : Bytes) : List Bool :=
  natBits 14 dest ++ natBits 14 src ++ natBits 4 type ++ natBits 6 payload.length ++ payload.flatMap byteBits

def lineBits (dest src type : Nat) (payload : Bytes) : List Bool :=
  let b := lineBody dest src type payload
  lineHead ++ b ++ natBits 16 (crc16Bits b).toNat

/-- The bytes that bits spell. -/
def bitBytes (l : List Bool) : Bytes := (chunks 8 64 l).map fun b => BitVec.ofNat 8 (bitsNat b)

/-- The symbols of a frame from half-cycle `start` on, each bit R times. -/
def frameSymbols (r : Nat) (start : BitVec 16) (bits : List Bool) : List TxSym :=
  (bits.flatMap fun b => List.replicate r b).mapIdx fun i b =>
    { hc := start + BitVec.ofNat 16 (2 * i), sym := b2n b, passed := false }

/-! ### The transmit queues and the drive FIFO (R65, R463) -/

/-- Symbols of the device's own frame take the places that are free. -/
def refillTx (c : LineCtx) : LineCtx :=
  let n := 256 - c.queue.length
  { c with queue := c.queue ++ c.rest.take n, rest := c.rest.drop n }

/-- The first symbol that has no record yet gives it. -/
def passFirst : List TxSym → Option (List TxSym × TxSym)
  | [] => none
  | q :: r =>
    if q.passed then (passFirst r).map fun p => (q :: p.1, p.2)
    else some ({ q with passed := true } :: r, q)

/-- Where half-cycle h and tick t stand among the LINE ticks. -/
def linePos (h : BitVec 16) (t : Nat) : BitVec 25 := BitVec.ofNat 25 (h.toNat * 512 + t % 512)

/-- The record of a pulse in half-cycle h: ANGLE ticks before the crossing tick of R457, which lies in LINE half-cycle h (R458,
R461). -/
def driveAt (s : Vol) (k : Nat) (h : BitVec 16) : LineDrive :=
  let cross := ((lctx s k).xofs % 8192 + 8) / 16
  let angle := lineSet s k 0
  let (h, t) := if angle ≤ cross then (h, cross - angle) else (h - 1, cross + 512 - angle)
  { ctx := Fin.ofNat 3 k, hc := h, tick := 512 * (h.toNat % 2) + t, live := true, sym := h }

/-- The record of a symbol: 1 fires in its first half-cycle, 0 in its second, a silent symbol gives none (R462). -/
def symDrive (s : Vol) (k : Nat) (q : TxSym) : List LineDrive :=
  let at_ := fun h => { driveAt s k h with sym := q.hc }
  if q.sym = 1 then [at_ q.hc] else if q.sym = 0 then [at_ (q.hc + 1)] else []

/-- One record of context k enters the FIFO, if there is room. -/
def passOne (s : Vol) (k : Nat) : Vol :=
  if 8 ≤ s.work.line.drive.length then s
  else match passFirst (lctx s k).queue with
    | some (l, q) =>
      let d := symDrive s k q
      let s := modCtx k (fun c => { c with queue := l }) s
      { s with work.line.drive := s.work.line.drive ++ d }
    | none => s

/-- CORE keeps the FIFO filled. DEDUCED: log entry 69. -/
def fillDrive (s : Vol) : Vol := ((List.replicate 8 [0, 1, 2]).flatten).foldl passOne s

/-- CORE offers the first record of a context whose queue was empty: the full FIFO refuses it, which is counted, and takes it
later (R65). Every later record is offered only where there is a place (R463). DEDUCED: log entry 69. -/
def offerFirst (k : Nat) (s : Vol) : Vol :=
  let s := fillDrive s
  let c := lctx s k
  if !c.queue.isEmpty && c.queue.all (!·.passed) then { s with work.fab.fifoOvf := satInc s.work.fab.fifoOvf } else s

/-- Bits begin as symbols of R copies. -/
def sendBits (k r : Nat) (start : BitVec 16) (bits : List Bool) (s : Vol) : Vol :=
  offerFirst k (modCtx k (fun c => refillTx { c with rest := frameSymbols r start bits }) s)

/-- A frame of the device begins. -/
def sendFrame (k : Nat) (start : BitVec 16) (bits : List Bool) (s : Vol) : Vol := sendBits k (repeats s k) start bits s

/-- The records of a context fire no more; they stay in the FIFO until the LINE side takes them (R66, R68). -/
def voidDrive (gone : LineDrive → Bool) (s : Vol) : Vol :=
  { s with work.line.drive := s.work.line.drive.map fun d => if gone d then { d with live := false } else d }

/-- A pulse has not ended when half-cycle h has. -/
def pulseLeft (h : BitVec 16) (p : LinePulse) : Bool :=
  let left := (linePos p.hc p.tick + BitVec.ofNat 25 p.ticks - linePos (h + 1) 0).toNat
  decide (0 < left ∧ left < 2 ^ 24)

/-- A pulse lies, in whole or in part, in half-cycle h. -/
def pulseIn (h : BitVec 16) (p : LinePulse) : Bool := p.hc == h || (p.hc + 1 == h && pulseLeft p.hc p)

/-- The PD pin is high at tick t of half-cycle h (R461): from c_h - ANGLE for GATEW ticks. -/
def pdAt (c : LineCtx) (h : BitVec 16) (t : Nat) : Bool :=
  c.pulses.any fun p => decide ((linePos h t - linePos p.hc p.tick).toNat < p.ticks)

/-- The pulses of a context are others. -/
def withPulses (l : List LinePulse) (c : LineCtx) : LineCtx := { c with pulses := l, pdHigh := l.any (pulseIn c.hc) }

/-- What waits on the context is discarded; a symbol that has begun may be kept, with its pulse. -/
def dropTx (k : Nat) (keepBegun : Bool) (s : Vol) : Vol :=
  let c := lctx s k
  let q := if keepBegun && ctxSends c c.hc then c.queue.take 1 else []
  let kept := fun (h : BitVec 16) => q.any (·.hc == h)
  voidDrive (fun d => d.ctx.val == k && !kept d.sym)
    (setCtx k (withPulses (c.pulses.filter fun p => kept p.sym) { c with queue := q, rest := [] }) s)

/-! ### Soft records for the host (R479) -/

/-- A record of TYPE 0x07 with the values formed so far. -/
def softRecord (k : Nat) (s : Vol) : Vol :=
  let c := lctx s k
  if c.softOut.isEmpty then s
  else
    let svc := s.work.line.deviceService
    let head := k + 4 * b2n c.restart + 8 * b2n c.txAbort + 16 * b2n svc
    let body := beBytes 1 head ++ beBytes 2 c.softFrom.toNat ++ beBytes 1 c.softOut.length ++ c.softOut
    let s := setCtx k { c with softOut := [], restart := false, txAbort := false } s
    { s with
      work.pt.link.symbols := s.work.pt.link.symbols ++ [linkRecord 7 body]
      work.line.hostSymbolsOk := s.work.line.hostSymbolsOk || !svc }

def softRecords (s : Vol) : Vol := softRecord 2 (softRecord 1 (softRecord 0 s))

/-- Soft symbols go to the host: in PHY, and in device service once the host is alive again. -/
def softOn (s : Vol) (k : Nat) : Bool :=
  phyForHost s && hostCtx s k && (!s.work.line.deviceService || s.work.pt.link.alive)

def softByte (x : Option Int) : Byte :=
  match x with
  | some v => ofInt 8 v
  | none => 0x80

/-- The record in progress is closed: the values to come do not follow its own (R479). DESIGN CHOICE: log entry 148. -/
def softClose (k : Nat) (s : Vol) : Vol := softRecord k s

/-- The value of half-cycle n joins the record of the context. -/
def softPut (k : Nat) (n : BitVec 16) (x : Option Int) (s : Vol) : Vol :=
  if !softOn s k || ctxLooped s k then softClose k s
  else
    let c := lctx s k
    let c := { c with
      softFrom := if c.softOut.isEmpty then n else c.softFrom
      softOut := c.softOut ++ [softByte x] }
    let s := setCtx k c s
    if 32 ≤ c.softOut.length then softRecord k s else s

/-! ### The vote and the search (R466, R468) -/

/-- The vote of a bit whose last copy is `offset` half-cycles back: its value and margin, none where it is erased. -/
def voteBit (r softmin : Nat) (soft : List (Option Int)) (offset : Nat) : Option (Bool × Nat) :=
  let copies := (List.range r).filterMap fun i => (soft.getD (offset + 2 * i) none).filter fun x => decide (softmin ≤ x.natAbs)
  let sum := sumInt copies
  if sum = 0 then none else some (decide (0 < sum), sum.natAbs)

/-- The last sixteen bits on the start of this half-cycle match preamble and sync. -/
def acquires (r softmin : Nat) (soft : List (Option Int)) : Bool :=
  let bits := (List.range 16).map fun j => (voteBit r softmin soft (2 * r * (15 - j))).map (·.1)
  let bad := ((List.zip bits lineHead).take 8).filter fun p => p.1 != some p.2
  decide (bad.length ≤ 2) && ((List.zip bits lineHead).drop 8).all fun p => p.1 == some p.2

/-! ### Polls (R473 to R477) -/

/-- The range of addresses of a context. -/
def pollRange (s : Vol) (k : Nat) : Nat × Nat :=
  let single := th s 6 == 2 || th s 6 == 3 || (phyForHost s && lineSet s k 18 == 2)
  if single then (1, 16382) else (lineSet s k (12 + 2 * k), lineSet s k (13 + 2 * k))

def entryRetries (nv : Nv) (s : Vol) (n : Nat) : Nat := ((rosterStored nv s n).getD 7 0xFF).toNat

/-- The next enabled address of a context in its range. -/
def nextNode (nv : Nv) (s : Vol) (k : Nat) : Option Nat :=
  let (lo, hi) := pollRange s k
  let from_ := max lo (vget s.ret.line.next k)
  ((List.range (hi + 1 - from_)).map (from_ + ·)).find? fun n => entryRetries nv s n != 0xFF

def setNext (k n : Nat) (s : Vol) : Vol := { s with ret.line.next := vset s.ret.line.next k n }

/-- The page of an entry with a new entry. -/
def rosterWriteReq (nv : Nv) (s : Vol) (n : Nat) (e : Bytes) : Req :=
  let p := rosterPage n
  let body := (List.range 8).flatMap fun i => if i = n % 8 then e else rosterStored nv s (8 * (p - 6144) + i)
  plainReq p body .roster

/-- A poll ends: the entry is written unless a SET has touched it, and the context moves on. -/
def endPoll (nv : Nv) (k : Nat) (p : Poll) (e : Bytes) (s : Vol) : Vol :=
  let s := setNext k (p.node + 1) (modCtx k (fun c => { c with poll := none, quiet := 0 }) s)
  if p.touched then s else submit (rosterWriteReq nv s p.node e) (noteRead nv (rosterPage p.node) s)

/-- A poll whose last attempt failed (R476). -/
def pollFails (nv : Nv) (k : Nat) (p : Poll) (s : Vol) : Vol :=
  let s := storeMet s
  let old := rosterStored nv s p.node
  let n := min 0xFE (entryRetries nv s p.node + 1)
  let s := endPoll nv k p (old.take 7 ++ beBytes 1 n) s
  if n = 3 ∧ !p.touched then limG 0x0616 k k s else s

/-- An attempt fails: the next one may follow, or the poll has failed; a hand-back allows no repeat (R482). -/
def attemptFails (nv : Nv) (k : Nat) (s : Vol) : Vol :=
  match (lctx s k).poll with
  | none => s
  | some p =>
    if s.work.line.handback then modCtx k (fun c => { c with poll := none, quiet := 0 }) s
    else if p.attempt < 1 + lineSet s k 9 then
      modCtx k (fun c => { c with poll := some { p with waiting := false }, quiet := 0 }) s
    else pollFails nv k p s

/-- The attempt that waits has failed with the frame that came. -/
def replyFails (nv : Nv) (k : Nat) (s : Vol) : Vol :=
  if (lctx s k).poll.any (·.waiting) then attemptFails nv k s else s

/-! ### Reception (R468 to R472) -/

/-- A frame is discarded. -/
def rxDiscard (nv : Nv) (k : Nat) (s : Vol) : Vol :=
  replyFails nv k (modCtx k (fun c => { c with rx := none, bad := satInc c.bad, quiet := 0 }) s)

/-- A frame that the context's service acts on. -/
def frameWanted (s : Vol) (k : Nat) (f : LineFrame) : Bool :=
  if svcOf s k = 2 then
    let a := lineSet s k 11
    f.src == 0 && ((a != 0 && f.dest == a && (f.type == 1 || f.type == 3)) || (f.dest == 16383 && f.type == 3))
  else
    match (lctx s k).poll with
    | some p => p.waiting && f.type == 2 && f.src == p.node && f.dest == 0 && f.payload.length == 8
    | none => false

/-- A frame with a good CRC. Types without a meaning here are counted in BAD (R470). -/
def rxKeep (nv : Nv) (k : Nat) (f : LineFrame) (s : Vol) : Vol :=
  if f.type = 1 ∨ f.type = 2 ∨ f.type = 3 then
    let c := lctx s k
    let s := setCtx k { c with rx := none, framesOk := satInc c.framesOk, quiet := 0 } s
    if frameWanted s k f then modCtx k (fun c => { c with frame := some f }) s else replyFails nv k s
  else rxDiscard nv k s

/-- The bits after the sync: too long, complete or to be continued. -/
def rxBits (nv : Nv) (k : Nat) (n : BitVec 16) (bits : List Bool) (margin : Nat) (s : Vol) : Vol :=
  let len := bitsNat ((bits.drop 32).take 6)
  if bits.length < 38 then
    modCtx k (fun c => { c with rx := some (bits, 2 * repeats s k, margin) }) s
  else if 48 < len then rxDiscard nv k s
  else if bits.length < 54 + 8 * len then
    modCtx k (fun c => { c with rx := some (bits, 2 * repeats s k, margin) }) s
  else
    let body := bits.take (38 + 8 * len)
    if bitsNat (bits.drop (38 + 8 * len)) = (crc16Bits body).toNat then
      rxKeep nv k
        { dest := bitsNat (bits.take 14)
          src := bitsNat ((bits.drop 14).take 14)
          type := bitsNat ((bits.drop 28).take 4)
          payload := bitBytes (body.drop 38)
          margin := min 255 margin
          endHc := n } s
    else rxDiscard nv k s

/-- A search may acquire a frame: during the hand-back only that of a reply that is awaited (R482). -/
def maySearch (s : Vol) (k : Nat) : Bool := !s.work.line.handback || (lctx s k).poll.any (·.waiting)

/-- The receiver at the end of half-cycle n. -/
def rxStep (nv : Nv) (k : Nat) (n : BitVec 16) (s : Vol) : Vol :=
  let c := lctx s k
  let r := repeats s k
  let softmin := lineSet s k 6
  match c.rx with
  | some (bits, left, margin) =>
    if 1 < left then setCtx k { c with rx := some (bits, left - 1, margin) } s
    else match voteBit r softmin c.soft 0 with
      | none => rxDiscard nv k s
      | some (b, m) => rxBits nv k n (bits ++ [b]) (min margin m) s
  | none =>
    if maySearch s k && acquires r softmin c.soft then setCtx k { c with rx := some ([], 2 * r, 65535) } s else s

/-! ### Loop-backs of a context (R485, R486) -/

def prbsBit (i : Nat) : Bool := (prbs9 (i + 1)).headD true

/-- The first half-cycle of alignment E after the one in progress. -/
def nextEven (hc : BitVec 16) : BitVec 16 := if hc.getLsbD 0 then hc + 1 else hc + 2

/-- The symbols of a loop-back begin once the context's own have ended; the external kind fires them. -/
def loopBegin (k : Nat) (s : Vol) : Vol :=
  let c := lctx s k
  let from_ := nextEven c.hc
  if s.work.line.lbFrom.isSome || !c.queue.isEmpty || !c.rest.isEmpty then s
  else
    let s := { s with work.line.lbFrom := some from_ }
    if lineLoopKind s = 3 then sendBits k 1 from_ (prbs9 64).reverse s else s

/-- A half-cycle of a loop-back: each symbol on alignment E is decided at its end. -/
def loopStep (k : Nat) (n : BitVec 16) (soft : Option Int) (s : Vol) : Vol :=
  let l := s.work.line
  let odd := n.getLsbD 0
  if 128 ≤ l.lbSent then s
  else if !(l.lbFrom.any fun h => decide ((n - h).toNat < 32768)) then loopBegin k s
  else if !odd then { s with work.line.lbSent := l.lbSent + 1 }
  else
    let s := { s with work.line.lbSent := l.lbSent + 1, work.line.lbSymbols := satInc l.lbSymbols }
    match soft.filter fun x => decide (lineSet s k 6 ≤ x.natAbs) with
    | none => { s with work.line.lbErased := satInc l.lbErased }
    | some x =>
      if decide (0 < x) = prbsBit (l.lbSent / 2) then s else { s with work.line.lbErrors := satInc l.lbErrors }

/-- LINE_LOOPBACK_END. -/
def lineLoopEnd (aborted : Bool) (s : Vol) : Vol :=
  let l := s.work.line
  if l.lbResult ≠ 1 then s
  else if aborted then lineLoopResult 4 s
  else if l.lbSymbols.toNat < 64 then s
  else lineLoopResult (if l.lbErrors = 0 ∧ l.lbErased.toNat ≤ 4 then 2 else 3) s

def execLineLoopbackEnd (aborted : Bool) (s : State) : Host.Outcome State Fault Refusal :=
  .next (s.up (lineLoopEnd aborted s.vol))

/-! ### Half-cycles (R457, R458, R464, R465) -/

/-- The crossing tick of a context within a LINE half-cycle, rounded to a whole tick (R457). -/
def crossTick (c : LineCtx) : Nat := (c.xofs % 8192 + 8) / 16

/-- The crossing tick of half-cycle h ends a rising wave. -/
def risesIn (c : LineCtx) (h : BitVec 16) : Bool := c.xofs / 8192 % 2 == h.toNat % 2

/-- A crossing of the samples: its place in 1/16 tick from tick 0 of the half-cycle, and whether it rises. -/
structure Crossing where
  at_ : Int
  rises : Bool
deriving DecidableEq, Repr

/-- The sign changes of successive samples, linearly interpolated; `t` is the tick of the first sample in the list, `a` the sample before
it (R457). -/
def crossings : Int → Int → List Int → List Crossing
  | _, _, [] => []
  | t, a, b :: r =>
    let here := if decide (a < 0) == decide (b < 0) then []
      else [{ at_ := 16 * (t - 1) + roundAway (16 * a.natAbs) (a.natAbs + b.natAbs), rises := decide (a < 0) }]
    here ++ crossings (t + 1) b r

/-- The crossings of a half-cycle of samples. -/
def crossingsOf (c : LineCtx) (l : List Int) : List Crossing :=
  match c.past.getLast?, l with
  | some a, _ => crossings 0 a l
  | none, a :: r => crossings 1 a r
  | none, [] => []

/-- Where a crossing of half-cycle h stands among the LINE ticks, in 1/16 tick. -/
def crossPos (h : BitVec 16) (x : Crossing) : Nat := (((h.toNat * 8192 : Int) + x.at_) % 2 ^ 29).toNat

/-- A spacing of two crossings within 5 % of the half-period, in 1/16 tick. -/
def goodSpacing (a b : Nat) : Bool := decide (7783 ≤ (b + 2 ^ 29 - a) % 2 ^ 29 ∧ (b + 2 ^ 29 - a) % 2 ^ 29 ≤ 8601)

/-- An idle context counts good spacings, crossing by crossing. -/
def countSpacings (h : BitVec 16) (l : List Crossing) (c : LineCtx) : LineCtx :=
  l.foldl (init := c) fun c x =>
    let p := crossPos h x
    { c with lastCross := some p, good := if c.lastCross.any fun a => goodSpacing a p then c.good + 1 else 0 }

/-- The difference of a crossing of half-cycle h from the one that XOFS expects: XOFS where it rises, 512 ticks later where it falls. -/
def crossDiff (xofs : Nat) (h : BitVec 16) (x : Crossing) : Int :=
  let expected : Int := xofs + (if x.rises then 0 else 8192)
  ((crossPos h x : Int) - expected + 8192) % 16384 - 8192

/-- XOFS moves by 1/64 of the difference of the crossing; of several sign changes the one nearest to the crossing expected is taken
(R457). DEDUCED: log entry 70. -/
def xofsAfter (xofs : Nat) (h : BitVec 16) (l : List Crossing) : Nat :=
  match l.map (crossDiff xofs h) with
  | [] => xofs
  | d :: r =>
    let near := r.foldl (fun a b => if b.natAbs < a.natAbs then b else a) d
    (((xofs : Int) + roundAway near 64) % 16384).toNat

/-- The samples at ticks c_h - 114 to c_h - 1 (R464). -/
def notchSamples (c : LineCtx) (l : List Int) : List Int := ((c.past ++ l).drop (398 + crossTick c)).take 114

/-- The reference window, ticks 128 to 383 after the crossing that begins the half-cycle (R465). -/
def windowSamples (c : LineCtx) (l : List Int) : List Int := ((c.past ++ l).drop (128 + crossTick c)).take 256

def notchSum (l : List Int) : Int := sumInt (l.map fun x => (x.natAbs : Int))

/-- The largest difference against the half-cycle before the last one exceeds ERASE. -/
def windowJumps (erase : Nat) (now : List Int) (windows : List (List Int)) : Bool :=
  match windows[1]? with
  | some old => (List.zipWith (fun (a b : Int) => (a - b).natAbs) now old).any fun d => decide (erase < d)
  | none => false

/-- SOFT_h of two notch sums. -/
def softOf (n1 n0 : Int) : Int := clampInt (-127) 127 (roundAway (n1 - n0) 16)

/-- A unit circle in units of 2^-40, turned by one LINE tick for each step: cosine and sine. -/
def turned : Nat → Int × Int
  | 0 => (2 ^ 40, 0)
  | n + 1 =>
    let (x, y) := turned n
    let c : Int := 1099490929780
    let d : Int := 6746476518
    ((x * c - y * d) / 2 ^ 40, (x * d + y * c) / 2 ^ 40)

/-- The sine of 1 024 codes peak at n ticks from its rising crossing, rounded to a whole code (R486). DESIGN CHOICE: log entry 149. -/
def sineCode (n : Nat) : Int :=
  let q := n % 512
  let v := roundAway ((turned (min q (512 - q))).2) (2 ^ 30)
  if n % 1024 < 512 then v else -v

/-- The device would fire in half-cycle n of the loop-back that runs: a 1 in the first half-cycle of its symbol, a 0 in the second. -/
def loopFires (s : Vol) (n : BitVec 16) : Bool :=
  match s.work.line.lbFrom with
  | some h =>
    let i := (n - h).toNat
    decide (i < 128) && (prbsBit (i / 2) == decide (i % 2 = 0))
  | none => false

/-- The samples that the detector sees in half-cycle n in place of those of the line: for a symbol loop-back the sine, on the crossings
of the context, with the part from the firing tick to the crossing reduced by one eighth where the device would fire (R486). DESIGN
CHOICE: log entry 149. -/
def seenSamples (s : Vol) (k : Nat) (n : BitVec 16) (l : List Int) : List Int :=
  if !ctxLooped s k || lineLoopKind s != 1 then l
  else
    let c := lctx s k
    let x := crossTick c
    let half := if risesIn c n then 512 else 0
    (List.range 512).map fun t =>
      let v := sineCode (half + t + 1024 - x)
      if loopFires s n && decide (x ≤ t + lineSet s k 0 ∧ t < x) then roundAway (7 * v) 8 else v

/-- The LINE side follows the samples of a half-cycle, whatever the context is used for: the count, XOFS and the reference windows (R457,
R458, R465). `still` holds XOFS; the first half-cycle after a restart has no whole window. -/
def followLine (n : BitVec 16) (l : List Int) (still : Bool) (c : LineCtx) : LineCtx :=
  let x := crossingsOf c l
  withPulses (c.pulses.filter (pulseLeft n))
    { c with
      hc := n + 1
      past := l
      xofs := if still then c.xofs else xofsAfter c.xofs n x
      lastCross := (x.getLast?.map (crossPos n)).orElse fun _ => c.lastCross
      windows := if c.past.isEmpty then c.windows else (windowSamples c l :: c.windows).take 2
      warmup := c.warmup - 1 }

/-- A half-cycle is erased (R465). -/
def halfErased (s : Vol) (k : Nat) (l : List Int) (lost : Nat) : Bool :=
  let c := lctx s k
  decide (0 < c.warmup) || decide (0 < lost) || windowJumps (lineSet s k 5) (windowSamples c l) c.windows

/-- A half-cycle of a context that is not in use: it decodes nothing, and its sum stands for the half-cycle after it. -/
def unusedStep (k : Nat) (l : List Int) (lost : Nat) (s : Vol) : Vol :=
  let e := halfErased s k l lost
  modCtx k (fun c => { followLine c.hc l e c with
    prevNotch := notchSum (notchSamples c l), prevErased := e, prevTx := false, soft := [], rx := none }) s

/-- An idle context fires and decodes nothing, and leaves idle after eight good spacings. -/
def idleStep (k : Nat) (l : List Int) (s : Vol) : Vol :=
  let c := lctx s k
  let g := countSpacings c.hc (crossingsOf c l) c
  let c : LineCtx := { followLine c.hc l true c with good := g.good, lastCross := g.lastCross }
  if 8 ≤ c.good then
    setCtx k { c with idle := false, good := 0, warmup := 2, prevErased := true, soft := [], rx := none } s
  else setCtx k c s

/-- A context's half-cycle ends: `l` are its samples and `lost` how many of them were lost. -/
def halfCycle (nv : Nv) (k : Nat) (l : List Int) (lost : Nat) (s : Vol) : Vol :=
  let c := lctx s k
  let n := c.hc
  let loop := ctxLooped s k
  let tx := ctxSends c n
  let erased := halfErased s k l lost
  let sum := notchSum (notchSamples c l)
  let soft := if erased || c.prevErased || ((tx || c.prevTx) && !loop) then none else some (softOf sum c.prevNotch)
  let ended := match c.queue with
    | q :: _ => q.hc + 1 == n
    | [] => false
  let busy := tx || !c.queue.isEmpty || !c.rest.isEmpty
  let c := { followLine n l (erased || tx) c with
    prevNotch := sum
    prevErased := erased
    prevTx := tx
    erased := if erased then satInc c.erased else c.erased
    soft := (soft :: c.soft).take 192
    queue := if ended then c.queue.tail else c.queue
    quiet := if tx then 0 else min 65535 (c.quiet + 1)
    poll := c.poll.map fun p => { p with waited := if busy then 0 else min 65535 (p.waited + 1) } }
  let s := fillDrive (setCtx k (refillTx c) s)
  let s := softPut k n soft s
  if loop then loopStep k n soft s
  else if serves s k 2 || serves s k 3 then rxStep nv k n s else s

/-- The reply of the engine that a context still owes is lost with its frame (R460). -/
def lineReplyLost (k : Nat) (s : Vol) : Vol :=
  if (lctx s k).owed.any (·.fromEngine) then { s with work.ex.replies := vset s.work.ex.replies 4 none } else s

/-- A reply that did not begin at its half-cycle, as in a loop-back, is not sent (R471). -/
def owedPast (k : Nat) (s : Vol) : Vol :=
  let c := lctx s k
  if c.owed.any fun o => decide (32768 ≤ (o.dueAt - c.hc).toNat) then modCtx k (fun c => { c with owed := none }) (lineReplyLost k s)
  else s

/-- LINE_HALF_CYCLE (R464). Samples that the sense FIFO of the phase has lost are counted, whatever the context does (R65). -/
def lineHalf (nv : Nv) (k : Nat) (h : HalfCycle) (s : Vol) : Vol :=
  if !coreRuns s || lineAbsent s then s
  else
    let s := { s with work.fab.fifoOvf := satAdd s.work.fab.fifoOvf h.lost }
    let s := refresh k (if softOn s k && !softOn (refresh k s) k then softClose k s else s)
    let l := seenSamples s k (lctx s k).hc h.samples
    owedPast k
      (if (lctx s k).idle then idleStep k l s
      else if lineUp s k then halfCycle nv k l h.lost s
      else unusedStep k l h.lost s)

def execLineHalfCycle (ctx : Fin 3) (h : HalfCycle) (s : State) : Host.Outcome State Fault Refusal :=
  .next (s.up (lineHalf s.nv ctx.val h s.vol))

/-- PHASE_MISSING (R457): the context fires and decodes nothing more. -/
def phaseMissing (nv : Nv) (k : Nat) (s : Vol) : Vol :=
  if !lineUp s k || (lctx s k).idle then s
  else
    let s := lineReplyLost k (softClose k (dropTx k false s))
    let s := modCtx k (fun c =>
      { c with idle := true, good := 0, lastCross := none, rx := none, frame := none, owed := none }) s
    limG 0x0612 k k (replyFails nv k s)

def execPhaseMissing (ctx : Fin 3) (s : State) : Host.Outcome State Fault Refusal :=
  .next (s.up (phaseMissing s.nv ctx.val s.vol))

/-! ### The LINE clock (R60, R460) -/

/-- A context when the LINE clock stops: an attempt cut off is made again later and does not count. -/
def ctxStops (c : LineCtx) : LineCtx :=
  { c with
    idle := true
    rx := none
    frame := none
    queue := []
    rest := []
    owed := none
    poll := c.poll.map fun p => { p with waiting := false, attempt := if p.waiting then p.attempt - 1 else p.attempt }
    pdHigh := false
    pulses := [] }

/-- LINE_LOST: no crossing on the reference input for 1.5 nominal periods (R60). The words of element 1 are retained (R484), and
drive records stay in their FIFO (R68). DESIGN CHOICE: log entry 129. -/
def lineLost (s : Vol) : Vol :=
  if lineAbsent s then s
  else
    let words := lineWordsLive s
    let s := if phyForHost s then softRecords s else s
    let s := if s.work.line.lbResult = 1 then lineLoopResult 4 { s with work.line.lbPending := false } else s
    limG 0x0610 0xFF 0xFF
      (voidDrive (fun _ => true)
        { s with
          work.line.running := false
          work.ex.replies := vset s.work.ex.replies 4 none
          work.line.kept := some words
          work.line.ctxs := s.work.line.ctxs.map ctxStops })

def execLineLost (s : State) : Host.Outcome State Fault Refusal := .next (s.up (lineLost s.vol))

/-- A context when the LINE clock restarts: HC 0, and two erased half-cycles. Tick 0 lies on the rising crossing of the reference,
whose offset was `ref`; the other phases keep their distance from it. DEDUCED: log entries 71 and 117. -/
def ctxStarts (ref : Nat) (c : LineCtx) : LineCtx :=
  { c with
    idle := false
    past := []
    hc := 0
    xofs := (c.xofs + 16384 - ref % 16384) % 16384
    prevErased := true
    prevTx := false
    windows := []
    warmup := 2
    soft := []
    softOut := []
    restart := true
    good := 0
    lastCross := none
    quiet := 0 }

/-- An input shows valid crossings: the latest eight spacings, in ns, lie within 5 % of the nominal half-period (R60). -/
def crossingsValid (s : Vol) (l : List Nat) : Bool :=
  decide (8 ≤ l.length) && (l.take 8).all fun x => withinPm 50 x (halfPeriodNs s)

/-- LINE_RESTORED: the spacings of the crossings on LSA, LSB and LSC, latest first. The reference is the first input in order that shows
valid crossings (R60). -/
def lineRestored (inputs : List (List Nat)) (s : Vol) : Vol :=
  match [0, 1, 2].find? fun i => crossingsValid s (inputs.getD i []) with
  | none => s
  | some ref =>
    if !coreRuns s || th s 6 == 15 || s.work.line.running then s
    else
      let off := (lctx s ref).xofs
      let s := { s with work.line.running := true, work.line.ref := Fin.ofNat 3 ref, work.line.kept := none }
      let s := [0, 1, 2].foldl (init := s) fun s k => refresh k (modCtx k (ctxStarts off) s)
      logG 0x0611 0xFF s

def execLineRestored (inputs : List (List Nat)) (s : State) : Host.Outcome State Fault Refusal :=
  .next (s.up (lineRestored inputs s.vol))

/-! ### Drive records (R64, R463) -/

/-- A record reaches the LINE domain at half-cycle h and tick t, at least 4 ticks before its target (R64). -/
def inTime (d : LineDrive) (h : BitVec 16) (t : Nat) : Bool :=
  let ahead := (linePos d.hc d.tick - linePos h t).toNat
  decide (4 ≤ ahead ∧ ahead < 2 ^ 24)

/-- A discarded record is counted (R64, R66). -/
def countLate (s : Vol) : Vol := { s with work.fab.late := satInc s.work.fab.late }

/-- DRIVE_RECORD: the oldest record of a context reaches the LINE domain at half-cycle h and tick t. One of a frame that has been
given up fires nothing and is counted as discarded: DESIGN CHOICE, log entry 119. -/
def driveRecord (nv : Nv) (k : Nat) (h : BitVec 16) (t : Nat) (s : Vol) : Vol :=
  match s.work.line.drive.find? (·.ctx.val == k) with
  | none => s
  | some d =>
    if !lineUp s k then s
    else
      let s := { s with work.line.drive := s.work.line.drive.eraseP (·.ctx.val == k) }
      if !d.live then fillDrive (countLate s)
      else if inTime d h t then
        let p : LinePulse := { hc := d.hc, tick := d.tick, ticks := lineSet s k 1, sym := d.sym }
        fillDrive (modCtx k (fun c => withPulses (c.pulses ++ [p]) c) s)
      else
        let s := modCtx k (fun c => { c with txAbort := true }) (dropTx k false (countLate s))
        fillDrive (limG 0x0615 k k (replyFails nv k s))

def execDriveRecord (ctx : Fin 3) (t : LineTime) (s : State) : Host.Outcome State Fault Refusal :=
  .next (s.up (driveRecord s.nv ctx.val t.hc t.tick s.vol))

/-! ### Node service (R471, R472) -/

/-- The half-cycle at which the reply to a frame begins. -/
def replyAtHc (s : Vol) (k : Nat) (f : LineFrame) : BitVec 16 :=
  f.endHc + 1 + BitVec.ofNat 16 (bitPeriods s k (lineSet s k 7))

/-- READING, NSTATUS, MARGIN and NCOUNT. DEDUCED: log entry 72. -/
def readingPayload (s : Vol) (margin : Nat) : Bytes :=
  beBytes 4 (s.ret.led.fwd.toNat / 1000 % 2 ^ 32) ++ beBytes 1 (errorFlags s) ++ beBytes 1 (min 255 margin)
    ++ beBytes 2 s.work.line.ncount.toNat

/-- LINE_POLL: a READING is prepared. -/
def linePoll (k : Nat) (s : Vol) : Vol :=
  match (lctx s k).frame with
  | some f =>
    if !lineUp s k || !serves s k 2 || f.type ≠ 1 then s
    else
      let bits := lineBits 0 (lineSet s k 11) 2 (readingPayload s f.margin)
      modCtx k (fun c => { c with
        frame := none
        owed := some { bits, formed := true, dueAt := replyAtHc s k f, fromEngine := false } }) s
  | none => s

def execLinePoll (ctx : Fin 3) (s : State) : Host.Outcome State Fault Refusal := .next (s.up (linePoll ctx.val s.vol))

/-- A Graoc frame as bytes (R399). Bytes that do not make up a frame do not match their LEN. -/
def parseFrame (p : Port) (addr : Byte) (b : Bytes) : Frame :=
  let len := beNat (slice b 1 2)
  let session := b.getD 3 0
  let mac := if hasMac session then 4 else 0
  let n := b.length
  { port := p
    addr
    len := BitVec.ofNat 16 len
    session
    seq := b.getD 4 0
    cmd := b.getD 5 0
    ident := BitVec.ofNat 48 (beNat (slice b 6 6))
    attr := b.getD 12 0
    data := slice b 13 (n - 15 - mac)
    mac := BitVec.ofNat 32 (beNat (slice b (n - 2 - mac) mac))
    crc := BitVec.ofNat 16 (beNat (slice b (n - 2) 2))
    bytesOk := b.headD 0 == 0xA5 && n == len + 5 && decide (15 + mac ≤ n)
    stalls := false
    stallsAgain := false
    bitNs := 0 }

/-- LINE_OBJECT: the Graoc frame goes to the engine; a broadcast is executed and not answered. DESIGN CHOICE: log entry 77.
-/
def lineObject (nv : Nv) (k : Nat) (s : Vol) : Vol :=
  match (lctx s k).frame with
  | some f =>
    if !lineUp s k || !serves s k 2 || f.type ≠ 3 then s
    else
      let all := f.dest = 16383
      let g := parseFrame .line (if all then 1 else 0) f.payload
      let s' := modCtx k (fun c => { c with
        frame := none
        owed := if all || portBusy s .line then c.owed
          else some { bits := [], formed := false, dueAt := replyAtHc s k f, fromEngine := true } }) s
      receive nv g s'
  | none => s

def execLineObject (ctx : Fin 3) (s : State) : Host.Outcome State Fault Refusal :=
  .next (s.up (lineObject s.nv ctx.val s.vol))

/-- NODE_REPLY: TTURN bit periods after the request the reply begins, or it is not sent at all. -/
def nodeReply (k : Nat) (s : Vol) : Vol :=
  let c := lctx s k
  match c.owed with
  | none => s
  | some o =>
    if !lineUp s k || !serves s k 2 || 1 < (o.dueAt - c.hc).toNat then s
    else
      let s := setCtx k { c with owed := none } s
      if o.fromEngine then
        match replyAt s .line with
        | some b => sendFrame k o.dueAt (lineBits 0 (lineSet s k 11) 3 b) (replyLeft .line b s)
        | none => s
      else sendFrame k o.dueAt o.bits { s with work.line.ncount := s.work.line.ncount + 1 }

def execNodeReply (ctx : Fin 3) (s : State) : Host.Outcome State Fault Refusal := .next (s.up (nodeReply ctx.val s.vol))

/-! ### Master service (R473, R476, R477) -/

/-- LINE_READING: the attempt succeeds and updates the roster. -/
def lineReading (nv : Nv) (k : Nat) (s : Vol) : Vol :=
  match (lctx s k).frame, (lctx s k).poll with
  | some f, some p =>
    if !lineUp s k || f.type ≠ 2 then s
    else
      let e := f.payload.take 5 ++ beBytes 2 (hourStamp s) ++ [0]
      endPoll nv k p e (modCtx k (fun c => { c with frame := none }) s)
  | _, _ => s

def execLineReading (ctx : Fin 3) (s : State) : Host.Outcome State Fault Refusal :=
  .next (s.up (lineReading s.nv ctx.val s.vol))

/-- A POLL leaves for a node. -/
def sendPoll (k : Nat) (p : Poll) (s : Vol) : Vol :=
  let s := modCtx k (fun c => { c with poll := some { p with waiting := true, waited := 0 } }) s
  sendFrame k (nextEven (lctx s k).hc) (lineBits p.node 0 1 []) s

/-- A sweep has passed its range. -/
def sweepEnds (k : Nat) (s : Vol) : Vol :=
  logG 0x0617 k
    { s with
      work.line.sweeps := satInc s.work.line.sweeps
      ret.line.sweeping := vset s.ret.line.sweeping k false
      ret.line.next := vset s.ret.line.next k (pollRange s k).1 }

/-- The entry of the poll before is on its way to the store. -/
def rosterQueued (s : Vol) : Bool := (s.work.store.line ++ s.work.store.held).any (·.job == .roster)

/-- The master may begin an attempt: nothing of a frame is in progress, and GUARD has passed. -/
def masterFree (s : Vol) (k : Nat) : Bool :=
  let c := lctx s k
  lineUp s k && serves s k 3 && !c.idle && ctxFree c && !s.work.line.handback
    && decide (bitPeriods s k (lineSet s k 8) ≤ c.quiet)

/-- POLL_ATTEMPT: the next attempt of the poll, or the poll of the next node of the sweep. -/
def pollAttempt (nv : Nv) (k : Nat) (s : Vol) : Vol :=
  let s := refresh k s
  if !masterFree s k then s
  else match (lctx s k).poll with
    | some p => sendPoll k { p with attempt := p.attempt + 1 } s
    | none =>
      if !(vget s.ret.line.sweeping k) || rosterQueued s then s
      else
        let s := storeMet s
        match nextNode nv s k with
        | none => sweepEnds k s
        | some n => sendPoll k { node := n, attempt := 1, waiting := false, touched := false, waited := 0 } (setNext k n s)

def execPollAttempt (ctx : Fin 3) (s : State) : Host.Outcome State Fault Refusal :=
  .next (s.up (pollAttempt s.nv ctx.val s.vol))

/-- POLL_WAIT_TIMEOUT: no frame has been acquired within TTURN + 20 bit periods. -/
def pollWaitTimeout (nv : Nv) (k : Nat) (s : Vol) : Vol :=
  let c := lctx s k
  match c.poll with
  | some p =>
    if lineUp s k && p.waiting && c.rx.isNone && c.frame.isNone && c.queue.isEmpty && c.rest.isEmpty
        && decide (bitPeriods s k (lineSet s k 7 + 20) ≤ p.waited) then attemptFails nv k s
    else s
  | none => s

def execPollWaitTimeout (ctx : Fin 3) (s : State) : Host.Outcome State Fault Refusal :=
  .next (s.up (pollWaitTimeout s.nv ctx.val s.vol))

/-- SWEEP_START: SWEEP hours after the sweep before began, or at once. -/
def sweepStart (k : Nat) (s : Vol) : Vol :=
  let s := refresh k s
  let hours := lineSet s k 10
  let due := match vget s.ret.line.sweepTick k with
    | none => true
    | some t => decide (hours * 230400 ≤ (s.bak.count - t).toNat)
  if !lineUp s k || !serves s k 3 || (vget s.ret.line.sweeping k) || !due || s.work.line.handback then s
  else
    { s with
      ret.line.sweeping := vset s.ret.line.sweeping k true
      ret.line.sweepTick := vset s.ret.line.sweepTick k (some s.bak.count)
      ret.line.next := vset s.ret.line.next k (pollRange s k).1 }

def execSweepStart (ctx : Fin 3) (s : State) : Host.Outcome State Fault Refusal := .next (s.up (sweepStart ctx.val s.vol))

/-! ### The PHY for a host (R446, R478 to R482) -/

/-- A host record of TYPE 0x07 that is discarded (R480). -/
def symbolsBad (s : Vol) (b : Bytes) : Bool :=
  let k := (b.headD 0).toNat % 4
  let hc := BitVec.ofNat 16 (beNat (slice b 1 2))
  let n := (b.getD 3 0).toNat
  let syms := b.drop 4
  let c := lctx s k
  let ahead := (hc - c.hc).toNat
  let early := match c.queue.getLast? with
    | some q => decide (32768 ≤ (hc - (q.hc + 2)).toNat)
    | none => false
  decide (n = 0 ∨ 64 < n) || syms.length != n || syms.any (fun x => decide (2 < x.toNat))
    || decide (3 ≤ k) || !hostCtx s k || c.idle || !s.work.line.running || !phyForHost s || s.work.line.deviceService
    || !s.work.pt.link.alive || !s.work.line.hostSymbolsOk || decide (ahead < 4 ∨ 32767 < ahead) || early
    || decide (256 < c.queue.length + n) || ctxLooped s k

/-- HOST_SYMBOLS (R480): symbols join the context's queue. -/
def hostSymbols (b : Bytes) (s : Vol) : Vol :=
  if !coreRuns s then s
  else if symbolsBad s b then discardFrame s
  else
    let k := (b.headD 0).toNat % 4
    let hc := BitVec.ofNat 16 (beNat (slice b 1 2))
    let q := (b.drop 4).mapIdx fun i x => ({ hc := hc + BitVec.ofNat 16 (2 * i), sym := x.toNat, passed := false } : TxSym)
    let first := (lctx s k).queue.isEmpty
    let s := modCtx k (fun c => { c with queue := c.queue ++ q }) s
    if first then offerFirst k s else fillDrive s

def execHostSymbols (body : Bytes) (s : State) : Host.Outcome State Fault Refusal := .next (s.up (hostSymbols body s.vol))

/-- An edge on HBEAT reaches CORE (R446): the host is alive, and during device service the hand-back begins (R482). DEDUCED: log
entry 75. -/
def hbeatAlive (s : Vol) : Vol :=
  let l := s.work.pt.link
  let again := !l.alive && (l.everAlive || s.work.line.deviceService)
  let s := { s with
    work.pt.link.alive := true
    work.pt.link.everAlive := true
    work.pt.link.lastEdge := s.bak.count
    work.line.handback := s.work.line.handback || s.work.line.deviceService }
  if again then logG 0x0606 0xFF s else s

/-- HBEAT_EDGE (R67, R446): while CORE is stopped the edge waits in its channel. -/
def hbeatEdge (s : Vol) : Vol :=
  if !phyForHost s then s
  else if coreRuns s then hbeatAlive s
  else
    let (c, refused) := s.work.fab.hbeat.raise
    { s with
      work.fab.hbeat := c
      work.fab.toggleOvf := if refused then satInc s.work.fab.toggleOvf else s.work.fab.toggleOvf }

def execHbeatEdge (s : State) : Host.Outcome State Fault Refusal := .next (s.up (hbeatEdge s.vol))

/-- Edges that waited while CORE was stopped. -/
def hbeatCatchUp (s : Vol) : Vol :=
  if s.work.fab.hbeat.toggled then hbeatAlive { s with work.fab.hbeat := default } else s

/-- The device takes over the line (R481). -/
def takeOver (s : Vol) : Vol :=
  let s := softRecords s
  let s := [0, 1, 2].foldl (init := s) fun s k =>
    modCtx k (fun c => { c with serviceOn := false, quiet := 0, soft := [], rx := none }) (dropTx k true s)
  logG 0x0613 (lineSet s 0 18) { s with work.line.deviceService := true }

/-- HOST_SILENT: 640 ticks without an edge, or from reset without one (R446, R478). -/
def hostSilent (s : Vol) : Vol :=
  let l := s.work.pt.link
  let from_ := if l.everAlive then l.lastEdge else s.work.line.resetTick
  if !coreRuns s || !phyForHost s || (s.bak.count - from_).toNat < 640 || (!l.alive && s.work.line.deviceService) then s
  else
    let s := logG 0x0605 0xFF { softRecords s with work.pt.link.alive := false, work.line.handback := false }
    if s.work.line.deviceService then s else takeOver s

def execHostSilent (s : State) : Host.Outcome State Fault Refusal := .next (s.up (hostSilent s.vol))

/-- FALLBACK_START (R481): GUARD bit periods without a transmission. -/
def fallbackStart (k : Nat) (s : Vol) : Vol :=
  let s := refresh k s
  let c := lctx s k
  if lineUp s k && phyForHost s && s.work.line.deviceService && !s.work.line.handback && !c.serviceOn && !c.idle
      && c.queue.isEmpty && decide (bitPeriods s k (lineSet s k 8) ≤ c.quiet) then
    setCtx k { c with serviceOn := true } s
  else s

def execFallbackStart (ctx : Fin 3) (s : State) : Host.Outcome State Fault Refusal :=
  .next (s.up (fallbackStart ctx.val s.vol))

/-- LINE_HANDBACK (R482): the current frame has ended on every context, and the role returns to PHY. DEDUCED: log entry 73.
-/
def lineHandback (s : Vol) : Vol :=
  if !coreRuns s || !s.work.line.handback || !(s.work.line.ctxs.all ctxFree) then s
  else
    let s := softRecords s
    let s := { s with
      work.line.handback := false
      work.line.deviceService := false
      work.line.hostSymbolsOk := false
      work.line.ctxs := s.work.line.ctxs.map fun c => { c with serviceOn := false, poll := none } }
    logG 0x0614 0xFF s

def execLineHandback (s : State) : Host.Outcome State Fault Refusal := .next (s.up (lineHandback s.vol))

end Sys2Proof.Machine
end

