-- ==== Sys2Proof/Machine/Link.lean ====
section
/-! DEFINITION. The LINK port (R65, R71, R160, R441 to R445): transactions, records in both directions, STATUS. -/

namespace Sys2Proof.Machine

/-! ### STATUS and transactions (R441, R442) -/

/-- The STATUS byte. -/
def linkStatus (s : Vol) : Byte :=
  let l := s.work.pt.link
  BitVec.ofNat 8 (128 * b2n (coreRuns s) + 64 * b2n (lalert s) + 32 * b2n l.rxOverflow + 16 * b2n l.alive)

/-- LCS_N rises: an incomplete record is discarded and counted; a partial byte is not counted; a record cut short is sent again. -/
def linkDeselect (s : Vol) : Vol :=
  let s := if s.work.pt.link.rx.isEmpty then s else discardFrame s
  { s with
    work.pt.link.selected := false
    work.pt.link.op := 0
    work.pt.link.rx := []
    work.pt.link.shift := []
    work.pt.link.shifted := 0 }

/-- A transaction goes on, or a new one begins with its OP: 0x00, then STATUS, which clears RXOVF. A transaction has one OP: a row with
another OP than that of a transaction in progress begins the next one, after a rise of LCS_N. DESIGN CHOICE: log entry 158. -/
def linkBegin (op : Byte) (s : Vol) : Vol :=
  if s.work.pt.link.selected && s.work.pt.link.op == op then { s with work.pt.link.sent := [] }
  else
    let s := if s.work.pt.link.selected then linkDeselect s else s
    { s with
      work.pt.link.selected := true
      work.pt.link.shift := []
      work.pt.link.lsdo := (linkStatus s).getLsbD 0
      work.pt.link.op := op
      work.pt.link.ready := coreRuns s
      work.pt.link.rx := []
      work.pt.link.shifted := 0
      work.pt.link.sent := [0x00, linkStatus s]
      work.pt.link.rxOverflow := false }

/-- A transaction holds LCS_N low (R69); the port takes it on a device whose set includes LINK. -/
def linkPort (g : Vol → Vol) (s : Vol) : Vol :=
  let s := { s with work.pt.link.lcsLow := true }
  if portInSet s .link then g s else s

/-- LINK_NOP. -/
def execLinkNop (s : State) : Host.Outcome State Fault Refusal := .next (s.up (linkPort (linkBegin 0) s.vol))

/-! ### WRITE (R443) -/

/-- One record of the host. DEDUCED: log entry 67. -/
def hostRecord (nv : Nv) (type : Nat) (body : Bytes) (s : Vol) : Vol :=
  match type with
  | 1 => receive nv (parseFrame .link 0 body) s
  | 7 => hostSymbols body s
  | _ => discardFrame s

/-- The whole records of the bytes received; TYPE 0x00 is a single byte. -/
def hostRecords (nv : Nv) : Nat → Bytes → Vol → Vol × Bytes
  | 0, b, s => (s, b)
  | f + 1, b, s =>
    match b with
    | [] => (s, [])
    | t :: r =>
      if t = 0 then hostRecords nv f r (discardFrame s)
      else
        let n := beNat (r.take 2)
        if r.length < 2 ∨ r.length - 2 < n then (s, b)
        else hostRecords nv f (r.drop (2 + n)) (hostRecord nv t.toNat (slice r 2 n) s)

/-- LSDO in a loop-back after the latest clock: the last bit returned, or the bit reached in the byte that follows (R71, R453). -/
def echoLsdo (s : Vol) : Bool :=
  let p := s.work.pt
  if p.link.shift.isEmpty then (p.link.sent.getLast?.map (·.getLsbD 0)).getD p.link.lsdo
  else ((if p.lbBits.toNat < 512 then p.lbEcho else none).getD 0).getMsbD (p.link.shift.length - 1)

/-- A loop-back returns each byte in the one that follows, for 64 bytes; the bits returned are counted (R453). DEDUCED: log entry
64. -/
def linkEcho (b : Bytes) (s : Vol) : Vol :=
  let p := s.work.pt
  let out := (p.lbEcho.toList ++ b).take (if p.lbEcho.isSome then b.length else b.length - 1)
  let given := out.take (64 - p.lbBits.toNat / 8)
  let pad : Bytes := if p.lbEcho.isSome then [] else (b.take 1).map fun _ => 0
  let s := { s with
    work.pt.lbEcho := b.getLast?.orElse fun _ => p.lbEcho
    work.pt.lbBits := satAdd p.lbBits (8 * given.length)
    work.pt.link.sent := p.link.sent ++ pad ++ given ++ List.replicate (out.length - given.length) 0 }
  { s with work.pt.link.lsdo := echoLsdo s }

/-- Bits that LSCK clocks in join those of a byte it left incomplete: the whole bytes, and the bits that then remain (R71). -/
def shiftIn (held : List Bool) (b : Bytes) (tail : List Bool) : Bytes × List Bool :=
  let bits := held ++ b.flatMap byteBits ++ tail
  let n := bits.length / 8
  ((chunks 8 n bits).map fun l => BitVec.ofNat 8 (bitsNat l), bits.drop (8 * n))

/-- LINK_WRITE: whole bytes, and the bits of a byte that LSCK leaves incomplete. While CORE is stopped STATUS shows RDY 0 and the
bytes are discarded; those that a FIFO of 32 bytes cannot take are lost to it and counted there (R65, R442). DEDUCED: log
entry 66. A transaction that began with RDY 0 stays so when CORE starts within it. -/
def linkWrite (nv : Nv) (b : Bytes) (tail : List Bool) (s : Vol) : Vol :=
  let s := linkBegin 1 s
  let (b, rest) := shiftIn s.work.pt.link.shift b tail
  let s := { s with work.pt.link.shift := rest, work.pt.link.lsdo := false }
  if !coreRuns s then
    let fill := s.work.pt.link.fifo + b.length
    let lost := fill - 32
    { s with
      work.pt.link.fifo := min 32 fill
      work.pt.link.rxOverflow := s.work.pt.link.rxOverflow || decide (0 < lost)
      work.fab.fifoOvf := satAdd s.work.fab.fifoOvf lost }
  else if !s.work.pt.link.ready then s
  else if portLooped s .link then linkEcho b s
  else
    let all := s.work.pt.link.rx ++ b
    let (s, rest) := hostRecords nv (all.length + 1) all s
    { s with work.pt.link.rx := rest }

/-- A transaction with an OP of 0x03 to 0xFF: STATUS, and then every bit is ignored until LCS_N rises (R441). -/
def linkIgnore (op : Byte) (b : Bytes) (tail : List Bool) (s : Vol) : Vol :=
  let s := linkBegin op s
  { s with work.pt.link.shift := (shiftIn s.work.pt.link.shift b tail).2, work.pt.link.lsdo := false }

def execLinkWrite (b : LinkBits) (s : State) : Host.Outcome State Fault Refusal :=
  if b.op = 1 then .next (s.up (linkPort (linkWrite s.nv b.bytes b.tail) s.vol))
  else if 3 ≤ b.op.toNat then .next (s.up (linkPort (linkIgnore b.op b.bytes b.tail) s.vol))
  else .next s

/-! ### READ (R160, R444, R445) -/

/-- The queues in their order of priority. -/
def linkQueue (l : Link) (q : Nat) : List Bytes :=
  match q with
  | 0 => l.symbols
  | 1 => l.graoc
  | 2 => l.stream
  | _ => l.raw

/-- The queue whose record is sent next: the one in progress, or the first that is not empty. -/
def linkPick (l : Link) : Option Nat :=
  if 0 < l.shifted then some l.source else [0, 1, 2, 3].find? fun q => !(linkQueue l q).isEmpty

/-- The record at the head of a queue has been sent in full. -/
def linkPop (q : Nat) (r : Bytes) (s : Vol) : Vol :=
  let s := { s with work.pt.link.shifted := 0 }
  match q with
  | 0 => { s with work.pt.link.symbols := s.work.pt.link.symbols.tail }
  | 1 => replyLeft .link (r.drop 3) { s with work.pt.link.graoc := s.work.pt.link.graoc.tail }
  | 2 => { s with work.pt.link.stream := s.work.pt.link.stream.tail }
  | _ => { s with work.pt.link.raw := s.work.pt.link.raw.tail, work.streamWords := s.work.streamWords - (r.length - 7) / 6 }

/-- n bytes are shifted out; with nothing to send each is the idle filler. -/
def linkShift : Nat → Nat → Vol → Vol
  | 0, _, s => s
  | f + 1, n, s =>
    if n = 0 then s
    else match linkPick s.work.pt.link with
      | none => { s with work.pt.link.sent := s.work.pt.link.sent ++ List.replicate n 0x00 }
      | some q =>
        let l := s.work.pt.link
        let r := (linkQueue l q).headD []
        let k := min n (r.length - l.shifted)
        let s := { s with work.pt.link.sent := l.sent ++ slice r l.shifted k }
        if l.shifted + k = r.length then linkShift f (n - k) (linkPop q r s)
        else { s with work.pt.link.shifted := l.shifted + k, work.pt.link.source := q }

/-- The byte that the port shifts out next: of the record in progress or the first that waits, or the idle filler. -/
def linkNext (l : Link) : Byte :=
  match linkPick l with
  | some q => ((linkQueue l q).headD []).getD l.shifted 0
  | none => 0

/-- LSDO after the latest clock: the last bit of the byte sent last, or the bit reached in the byte that is held. -/
def lsdoAfter (l : Link) : Bool :=
  if l.shift.isEmpty then (l.sent.getLast?.map (·.getLsbD 0)).getD l.lsdo
  else (linkNext l).getMsbD (l.shift.length - 1)

/-- LINK_READ: LSCK clocks out whole bytes, and the bits of a byte at which it stops (R71). -/
def linkRead (clocks : Nat) (s : Vol) : Vol :=
  let s := linkBegin 2 s
  let total := s.work.pt.link.shift.length + clocks
  let n := total / 8
  let s := { s with work.pt.link.shift := List.replicate (total % 8) false }
  if !coreRuns s || !s.work.pt.link.ready then s
  else if portLooped s .link then linkEcho (List.replicate n 0) s
  else
    let s := linkShift (n + 1) n s
    { s with work.pt.link.lsdo := lsdoAfter s.work.pt.link }

def execLinkRead (clocks : Nat) (s : State) : Host.Outcome State Fault Refusal :=
  .next (s.up (linkPort (linkRead clocks) s.vol))

/-! ### The end of a transaction (R71, R443, R444) -/

/-- LINK_DESELECT after `tail`, the bits that LSCK clocked last: with the bits held they are a byte that is not complete (R71). -/
def execLinkDeselect (tail : List Bool) (s : State) : Host.Outcome State Fault Refusal :=
  if 8 ≤ s.vol.work.pt.link.shift.length + tail.length then .next s
  else .next (s.up (let s := linkPort linkDeselect s.vol; { s with work.pt.link.lcsLow := false }))

end Sys2Proof.Machine
end

