-- ==== Sys2Proof/Machine/Loads.lean ====
section
/-! DEFINITION. What a start reads from the store (R145, R222, R382, R388, R424, R541, R555), and what a cold start restores
from it (R221, R274, R326, R328, R334, R350, R384 to R387, R542). -/

namespace Sys2Proof.Machine

/-! ### The check of a record (R382, R395) -/

/-- Pages in one copy of the records of a region (R365, R367). -/
def copyPages (region : Nat) : Nat :=
  match region with
  | 0x02 => 32 | 0x03 => 8 | 0x08 => 3 | 0x11 => 64 | 0x12 => 2 | _ => 1

/-- A copy whose pages are each valid but share no SEQ counts once in INVALID (R395). -/
def noteCopy (nv : Nv) (base count : Nat) (s : Vol) : Vol :=
  let split := (List.range count).all (fun i => pageValid nv s (base + i)) && (copySeq nv s base count).isNone
  if split && !s.work.store.countedInvalid.contains (8192 + base) then
    { s with
      work.store.invalid := satInc s.work.store.invalid
      work.store.countedInvalid := (8192 + base) :: s.work.store.countedInvalid }
  else s

/-- RECORD_LOST (R382, R384). -/
def recordLost (region : Nat) (s : Vol) : Vol :=
  logEvent (regionLog region) 0x0404 region { s with work.store.recordLost := true }

/-- Every page of both copies is read, counted and, where one copy is bad, repaired. -/
def checkRecord (nv : Nv) (base count : Nat) (s : Vol) : Vol :=
  let s := (List.range (2 * count)).foldl (init := s) fun s i => readNote nv (base + i) s
  let s := noteCopy nv (base + count) count (noteCopy nv base count s)
  let st := recState nv s base count
  let s := repairCopy nv base count s
  if st == .lost then recordLost (regionOf base) s else s

/-- The content of a record, where a copy is taken. -/
def recContent (nv : Nv) (s : Vol) (r : Rec) : Option Bytes :=
  match recState nv s r.base r.pages with
  | .taken b _ => some (copyContent nv s b r.pages)
  | _ => none

/-! ### State, metrology configuration, settings, keys -/

/-- R555: the state taken where the state records are lost. SEALS holds its BLANK value (R382). DEDUCED: log entry 81. -/
def lostState (s : Vol) : Vol :=
  { s with
    work.life.state := .service
    work.life.stateLost := true
    work.life.mecount := 0xFFFFFFFF
    work.life.seals := 0
    work.life.keyset := 0x1F }

/-- The state records are read, and written again where they are lost (R555). -/
def loadState (nv : Nv) (s : Vol) : Vol :=
  match recState nv s 96 8 with
  | .taken b _ => checkRecord nv 96 8 (stateLoad (copyContent nv s b 8) s)
  | .blank => s
  | .lost => logM 0x0815 0xFF (writeRec nv .state false (checkRecord nv 96 8 (lostState s)))

/-- A clamp entry of the check at a reset (R424). -/
def resetClamp (ident : BitVec 48) (field kind : Nat) (s : Vol) : Vol :=
  match s.ret.ex.clampReport with
  | e :: rest =>
    if e.toNat / 65536 = ident.toNat ∧ e.toNat / 256 % 256 = min field 255 then
      let source := if e.toNat / 64 % 4 = 0 then 2 else e.toNat / 64 % 4
      { s with ret.ex.clampReport := clampEntry ident field source (e.toNat / 16 % 4) :: rest }
    else reportClamps [clampEntry ident field 1 kind] s
  | [] => reportClamps [clampEntry ident field 1 kind] s

/-- LSRC 1 is used as 2 where REF_CH is 0 or names no channel of the plan (R610), with the numbers of its fields. -/
def checkLsrc (s : Vol) (c : Calib) : Calib × List Nat :=
  if (levelsOf (th s 0)).contains c.refCh.toNat then (c, [])
  else ({ c with lsrc := c.lsrc.map fun x => if x == 1 then 2 else x },
    (List.range 16).filterMap fun i => if lget c.lsrc i = 1 then some (169 + i) else none)

/-- The calibration set is checked against the codes taken (R100, R133, R189, R222, R610); a BLANK set leaves no entry. The KIND
of an LSRC entry is 3: DEDUCED, log entry 107. SOSSRC of every level channel is its LSRC until a level is formed (R11, R233). -/
def checkCalib (s : Vol) : Vol :=
  let (c, k) := calibClamp s s.work.obj.calib
  let (c, l) := checkLsrc s c
  let blank := s.work.obj.calibBlank
  let s := { s with
    work.obj.calib := c
    work.levels := s.work.levels.mapIdx fun n x => { x with sosSrc := BitVec.ofNat 2 (lget c.lsrc (n - 1)).toNat } }
  if blank then s
  else
    let all : List (Nat × Nat) := k ++ l.map fun n => (n, 3)
    all.foldl (init := s) fun s p => resetClamp 0x0800600300FF p.1 p.2 s

/-- The part of the metrology configuration that the thatch needs: the sealed thatch record (R33). -/
def loadSealed (nv : Nv) (s : Vol) : Vol :=
  match recContent nv s .metro with
  | some d =>
    let d := d.drop (fldBytes calibShape + fldBytes profFields + fldBytes curveFields)
    { s with
      work.life.sealedCodes := Vector.ofFn fun (i : Fin 12) => BitVec.ofNat 4 (beNat (slice d i.val 1))
      work.life.sealedRole := BitVec.ofNat 2 (beNat (slice d 12 1)) }
  | none => s

/-- Calibration set, profile table and, at a cold start, the curve; BLANK values where the record gives none. What is stored is in force
from the start, without CAL_TAKEN for a write that no cycle start tick had followed (R216): DEDUCED, log entry 138. -/
def loadMetro (nv : Nv) (cold : Bool) (s : Vol) : Vol :=
  match recContent nv s .metro with
  | some d =>
    let d1 := d.drop (fldBytes calibShape)
    { s with
      work.obj.calib := calibOf (deserialise calibShape d)
      work.obj.calibBlank := false
      work.obj.prof := profOf (deserialise profFields d1)
      bak.curve := if cold then curveOf (deserialise curveFields (d1.drop (fldBytes profFields))) else s.bak.curve }
  | none =>
    { s with
      work.obj.calib := calibBlank (th s 0) (th s 1)
      work.obj.calibBlank := true
      bak.curve := curveBlank }

/-- The settings; a warm start keeps the copy of the PWRON schedule in the backup domain (R538), but for a record that is lost (R388). -/
def loadSettings (nv : Nv) (cold : Bool) (s : Vol) : Vol :=
  match recContent nv s .settings with
  | some d => { settingsLoad d s with bak.pwron := if cold then (settingsLoad d s).bak.pwron else s.bak.pwron }
  | none => { s with bak.pwake := pwakeBlank, bak.alarmA := alarmBlank, bak.alarmB := alarmBlank, bak.pwron := pwronBlank }

/-- The keys; KEYLOST of a key that was written and is not held (R388, R412). -/
def loadKeys (nv : Nv) (s : Vol) : Vol :=
  let d := (recContent nv s .keys).getD []
  let has := fun k => beNat (slice d (17 * k) 1) = 1
  { s with
    work.life.keys := Vector.ofFn fun (k : Fin 5) => BitVec.ofNat 128 (beNat (slice d (17 * k.val + 1) 16))
    work.life.keylost := (List.range 5).foldl (init := 0) fun m k =>
      if s.work.life.keyset.getLsbD k && !has k then m ||| BitVec.ofNat 5 (2 ^ k) else m }

/-! ### Display data (R388, R496, R502) -/

/-- The fields that a number packs, the last in its lowest bits. -/
def unpack : List Nat → Nat → List Int
  | [], _ => []
  | w :: ws, x => ((x / 2 ^ ws.sum % 2 ^ w : Nat) : Int) :: unpack ws x

/-- The content of n pages, none where one of them is uncorrectable or was never written. -/
def dataPages (nv : Nv) (s : Vol) (first n : Nat) : Option Bytes :=
  let ps := (List.range n).map (first + ·)
  if ps.any fun p => uncorrectable nv s p || pageErased nv s p then none else some (ps.flatMap (viewPage nv s))

def templateOf (d : Bytes) : List Int :=
  let b := beNat (d.take 1)
  [((b / 4 % 2 : Nat) : Int), ((b % 4 : Nat) : Int)]
    ++ (List.range 32).flatMap fun i => unpack entryWidths (beNat (slice d (1 + 22 * i) 22))

/-- Templates and drive curves; an element whose pages give nothing holds its BLANK value. DEDUCED: log entry 91. -/
def loadDisplay (nv : Nv) (s : Vol) : Vol :=
  if (panel s).isNone then s
  else
    let main := (dataPages nv s 4816 1).map fun d => [((beNat (d.take 1) : Nat) : Int), ((beNat (slice d 1 1) : Nat) : Int)]
    let notes := (List.range 464).foldl (init := s) fun s i => noteRead nv (4352 + i) s
    { noteRead nv 4817 (noteRead nv 4816 notes) with
      work.disp.mainEntry := main.getD [0, 1]
      work.disp.templates := (List.range 16).map fun t => ((dataPages nv s (4352 + 12 * t) 12).map templateOf).getD templateBlank
      work.disp.edges := ((dataPages nv s 4817 1).map (deserialise edgeFields)).getD edgesBlank
      work.disp.curves := (List.range 136).map fun q =>
        ((dataPages nv s (4544 + 2 * q) 2).map (deserialise seqFields)).getD (List.replicate 64 0) }

/-! ### The checks of step 4 (R541) -/

/-- A ring whose newest slot is read: RECORD_LOST where it was written and no slot is valid (R384). -/
def checkRing (nv : Nv) (base count : Nat) (s : Vol) : Vol :=
  let s := (List.range count).foldl (init := s) fun s i => readNote nv (base + i) s
  if (ringNewest nv s base count).isNone && !ringErased nv s base count then recordLost (regionOf base) s else s

/-- TRIM_LOST (R145). -/
def checkTrim (nv : Nv) (s : Vol) : Vol :=
  if nv.trim.validA || nv.trim.validB then s else logM 0x0135 0xFF s

/-- Snapshot copies are completed or repaired (R609). -/
def checkSnapshots (nv : Nv) (s : Vol) : Vol :=
  (List.range 24).foldl (init := s) fun s i => checkRecord nv (192 + 6 * i) 3 s

/-- What every start checks beside the state records. -/
def checkStore (nv : Nv) (s : Vol) : Vol :=
  checkRing nv 120 8 (checkSnapshots nv (checkRecord nv 4224 2 (checkRecord nv 4096 64 (checkRecord nv 32 32 (checkTrim nv s)))))

/-! ### A cold start (R542) -/

/-- F of a PEAK code (R323). -/
def peakFlow (c : Nat) : Nat := if c < 2048 then c else (c % 2048 + 2048) * 2 ^ (c / 2048 - 1)

/-- Ring A: FWD, REV, T1 to T4, and the accumulators from them (R221). -/
def restoreRingA (nv : Nv) (s : Vol) : Vol :=
  match ringNewest nv s 128 32 with
  | none => s
  | some (n, _) =>
    let d := pagePayload (viewPage nv s n)
    let x := fun i => BitVec.ofNat 64 (beNat (slice d (8 * i) 8))
    let acc := fun (v : BitVec 64) => ({ uL := v * 1000, rem := 0 } : Accum)
    { s with
      ret.led.fwd := x 0
      ret.led.rev := x 1
      ret.led.net := x 0 - x 1
      ret.led.t := #v[x 2, x 3, x 4, x 5]
      ret.flow.accF := acc (x 0)
      ret.flow.accR := acc (x 1) }

/-- The open interval as ring B holds it (R334, R383). -/
def intervalOf (d : Bytes) : Interval :=
  let st := beNat (slice d 41 1)
  let bit := fun i => st / 2 ^ i % 2 == 1
  let peak := beNat (slice d 39 2)
  let tariff := beNat (slice d 42 1)
  { (default : Interval) with
    isOpen := tariff != 0
    vol := beNat (slice d 35 4)
    peak := peakFlow peak
    sat := peak == 0xFFFF
    timeUntrusted := bit 7
    repeat_ := bit 6
    gapFilled := bit 5
    powerDown := bit 4
    empty := bit 2
    reverse := bit 1
    clockSet := bit 0
    tariff := BitVec.ofNat 4 tariff
    endTime := beNat (slice d 43 5) }

/-- Ring B: estimated volume, CREDIT, HWM, TOKSEQ, LREM and the open interval. -/
def restoreRingB (nv : Nv) (s : Vol) : Vol :=
  match ringNewest nv s 160 32 with
  | none => s
  | some (n, _) =>
    let d := pagePayload (viewPage nv s n)
    let x := fun i => BitVec.ofNat 64 (beNat (slice d (8 * i) 8))
    let acc := fun (v : BitVec 64) => ({ uL := v * 1000, rem := 0 } : Accum)
    let i := intervalOf d
    { s with
      ret.led.estF := x 0
      ret.led.estR := x 1
      ret.flow.accEF := acc (x 0)
      ret.flow.accER := acc (x 1)
      ret.pre.credit := x 2
      bak.hwm := beNat (slice d 24 5)
      ret.pre.tokSeq := BitVec.ofNat 32 (beNat (slice d 29 4))
      ret.pre.lrem := beNat (slice d 33 2)
      ret.led.interval := { i with pscale := s.ret.led.pscale }
      ret.led.tariff := if i.tariff = 0 then s.ret.led.tariff else i.tariff.setWidth 3 }

/-- FIRST of the newest of a list of profile pages, with the largest COUNT (R386). -/
def newestProfile (nv : Nv) (s : Vol) (pages : List Nat) : Option (Nat × Nat) :=
  pages.foldl (init := none) fun best p =>
    let d := viewPage nv s p
    if uncorrectable nv s p || !profilePageOk d then best
    else
      let f := beNat (d.take 4)
      let c := beNat (slice d 4 1)
      match best with
      | some (f0, c0) => if f0 < f ∨ (f0 = f ∧ c0 < c) then some (f, c) else best
      | none => some (f, c)

/-- The records of the newest tail slot of a page. -/
def tailRecords (nv : Nv) (s : Vol) (first count : Nat) : List (BitVec 64) :=
  match (List.range 8).find? fun i =>
      let d := viewPage nv s (112 + i)
      profilePageOk d && beNat (d.take 4) == first && beNat (slice d 4 1) == count with
  | some i => (List.range count).map fun k => BitVec.ofNat 64 (beNat (slice (viewPage nv s (112 + i)) (12 + 8 * k) 8))
  | none => []

/-- TARIFF of the latest interval record among the last twelve records. -/
def latestTariff (nv : Nv) (s : Vol) : Nat :=
  let n := s.ret.led.nextSeq.toNat
  let l := (List.range (min 12 n)).filterMap fun i => (profileRecord nv s (n - 1 - i)).map fun r => r.toNat / 16 % 16
  (l.find? (· != 0)).getD 0

/-- The open profile page from the tail; a page that had filled is written into the profile area, but not in RETIRED (R554). -/
def restoreProfile (nv : Nv) (s : Vol) : Vol :=
  let area := newestProfile nv s ((List.range 3072).map (1024 + ·))
  let tail := newestProfile nv s ((List.range 8).map (112 + ·))
  let after := match area with
    | some (f, _) => f + 6
    | none => 0
  let put := fun (next : Nat) (page : List (BitVec 64)) (s : Vol) =>
    { s with
      ret.led.nextSeq := BitVec.ofNat 32 next
      ret.led.kept := min 18432 next
      ret.led.page := page }
  let s := match tail with
    | some (f, c) =>
      if after ≤ f then
        let recs := tailRecords nv s f c
        if c = 6 then
          let s := put (f + 6) [] s
          if retired s then s else submitGuarded [plainReq (profilePageNo f) (profilePage f recs) .profile] s
        else put (f + c) recs s
      else put after [] s
    | none => put after [] s
  { s with ret.led.prevTariff := BitVec.ofNat 4 (latestTariff nv s) }

/-- Billing closes since BLANK, from the newest snapshot. -/
def restoreCloses (nv : Nv) (s : Vol) : Vol :=
  { s with ret.led.closes := maxNat ((List.range 24).filterMap fun i => (snapshotOf nv s i).map (·.1)) }

/-- The accepted entries of the token log from a sequence number on, oldest first: sequence, CLASS, ID, AMOUNT. -/
def acceptedTokens (nv : Nv) (s : Vol) (from_ : Nat) : List (Nat × Nat × Nat × Nat) :=
  let l := (List.range (min 256 (s.ret.pre.logSeq.toNat - from_))).filterMap fun i =>
    let q := s.ret.pre.logSeq.toNat - 1 - i
    let p := tokenPage q
    let e := beNat (entryBytes nv s p)
    if pageValid nv s p && pageSeq (viewPage nv s p) == q && e / 2 ^ 89 % 16 == 0 then
      some (q, e / 2 ^ 87 % 4, e / 2 ^ 67 % 2 ^ 20, e / 2 ^ 51 % 65536)
    else none
  l.reverse

/-- The token window from the bitmap and every newer accepted entry; CREDIT by those after TOKSEQ (R387). -/
def restoreTokens (nv : Nv) (s : Vol) : Vol :=
  let next := match ringNewest nv s 336 256 with
    | some (_, q) => q + 1
    | none => 1
  let s := { s with ret.pre.logSeq := BitVec.ofNat 32 next }
  let seen := match recContent nv s .state with
    | some d => beNat (slice d 205 4)
    | none => 0
  let s := (acceptedTokens nv s seen).foldl (init := s) fun s t =>
    let (h, b) := windowWith s.ret.pre.idhwm s.ret.pre.bitmap t.2.2.1
    { s with ret.pre.idhwm := h, ret.pre.bitmap := b }
  (acceptedTokens nv s (s.ret.pre.tokSeq.toNat + 1)).foldl (init := s) fun s t =>
    { s with
      ret.pre.credit := s.ret.pre.credit + ofInt 64 (tokenEffect t.2.1 t.2.2.2)
      ret.pre.tokSeq := BitVec.ofNat 32 t.1 }

/-- Pulse counts and the lock-out from the count ring (R274, R350). -/
def restoreCounts (nv : Nv) (s : Vol) : Vol :=
  match ringNewest nv s 4228 8 with
  | none => s
  | some (n, _) =>
    let d := pagePayload (viewPage nv s n)
    let x := fun i => BitVec.ofNat 48 (beNat (slice d (6 * i) 6))
    let locks := beNat (slice d 25 1)
    let running := beNat (slice d 26 1) = 1
    let s := { s with
      ret.count := #v[x 0, x 1, x 2, x 3, 0, 0]
      ret.pre.wrong := beNat (slice d 24 1)
      ret.pre.locks := BitVec.ofNat 8 locks
      ret.pre.lockFrom := if running then some s.bak.count else none
      ret.pre.lockTicks := if running then 3840 * lockMinutes locks else 0 }
    [0, 1, 2, 3].foldl (init := s) fun s n => if finMode (th s 9) n = 3 then logG 0x0174 n s else s

/-- The next sequence numbers of both logs (R425, R426). -/
def restoreLogs (nv : Nv) (s : Vol) : Vol :=
  let next := fun base => match ringNewest nv s base 256 with
    | some (_, q) => BitVec.ofNat 32 (q + 1)
    | none => 0
  { s with ret.logs.nextM := next 592, ret.logs.nextG := next 4928 }

/-- The reads of n pages from `base` on, at a cold start (R380). -/
def noteScan (nv : Nv) (base n : Nat) (s : Vol) : Vol :=
  let s := (nv.ecc.filter fun p => decide (base ≤ p.1 ∧ p.1 < base + n)).foldl (init := s) fun s p => noteRead nv p.1 s
  if formatted base then (List.range n).foldl (init := s) fun s i => noteInvalid nv (base + i) s else s

/-- What a cold start reads besides the records and the rings: both event logs, the token log, the profile and its tail. -/
def noteLogs (nv : Nv) (s : Vol) : Vol :=
  noteScan nv 1024 3072 (noteScan nv 112 8 (noteScan nv 336 256 (noteScan nv 4928 256 (noteScan nv 592 256 s))))

/-- All that a cold start restores, after the checks of the rings. -/
def restoreAll (nv : Nv) (s : Vol) : Vol :=
  let s := noteLogs nv s
  let s := checkRing nv 4228 8 (checkRing nv 160 32 (checkRing nv 128 32 s))
  let s := match recContent nv s .state with
    | some d => stateRestore d s
    | none => s
  restoreCounts nv (restoreTokens nv (restoreCloses nv (restoreProfile nv (restoreRingB nv (restoreRingA nv s)))))

end Sys2Proof.Machine
end

