-- ==== Sys2Proof/Machine/Change.lean ====
section
/-! DEFINITION. A life-cycle change as the supervisor carries it out (R393, R547, R550 to R554): its stages in the order of
R551, each of them a few pages in the STORE's line, up to the reset that ends it. -/

namespace Sys2Proof.Machine

/-! ### Pages of a change -/

/-- Pages of the change that are on their way, in the line, with the supervisor or in the pending list. -/
def changeBusy (s : Vol) : Bool :=
  (s.work.store.line ++ s.work.store.held).any (·.change) || s.ret.store.pending.any (·.change)

def ofChange (r : Req) : Req := { r with change := true }

def setLeft (n : Nat) (c : Change) : Change := { c with left := n }

def setStage (x : ChangeStage) (c : Change) : Change := { c with stage := x }

def modChange (g : Change → Change) (s : Vol) : Vol := { s with work.life.change := s.work.life.change.map g }

/-- Pages are submitted for the stage in progress. -/
def stagePages (l : List Req) (s : Vol) : Vol :=
  let l := l.map ofChange
  submitAll l (modChange (setLeft l.length) s)

/-- The latest page that was submitted belongs to the change. -/
def markLast (s : Vol) : Vol :=
  let mark := fun (l : List Req) => l.dropLast ++ l.getLast?.toList.map ofChange
  let s := modChange (fun c => setLeft (c.left + 1) c) s
  if s.work.store.held.isEmpty then { s with work.store.line := mark s.work.store.line }
  else { s with work.store.held := mark s.work.store.held }

/-- An entry of the metrology log that the change waits for. DEDUCED: log entry 84. -/
def changeLog (code data : Nat) (s : Vol) : Vol := markLast (logM code data s)

/-! ### What a change writes -/

/-- The keys that a change wipes: METROLOGY at a seal, all at a retire (R547). -/
def wipeMask (c : Change) : Nat := if c.op = 2 then 4 else if c.op = 1 then 31 else 0

/-- A journal slot of the change (R393, R551). NEXT of a key wipe is the first page of the key record. -/
def changeJournal (c : Change) (done : Bool) : Wipe where
  op := c.op
  next := if c.op = 2 then 4224 else c.next
  done
  target := stateCode c.target
  keyMask := wipeMask c
  clear := c.clear

/-- R553: the registers, accumulators, LREM and pulse remainders at the first seal. -/
def clearRegisters (s : Vol) : Vol :=
  { s with
    ret.led.fwd := 0
    ret.led.rev := 0
    ret.led.net := 0
    ret.led.t := Vector.replicate 4 0
    ret.led.estF := 0
    ret.led.estR := 0
    ret.led.md := Vector.replicate 4 default
    ret.flow.accF := default
    ret.flow.accR := default
    ret.flow.accEF := default
    ret.flow.accER := default
    ret.pre.lrem := 0
    ret.pulseA := default
    ret.pulseB := default }

/-- The state word as the change leaves it (R544, R550): MECOUNT, SEALS and KEYSET. DEDUCED: log entry 86. -/
def newState (c : Change) (s : Vol) : Vol :=
  if s.work.life.state == c.target then s
  else
    { s with
      work.life.state := c.target
      work.life.mecount := c.mecount
      work.life.seals := if c.target == .sealed then satInc s.work.life.seals else s.work.life.seals
      work.life.keyset := s.work.life.keyset &&& ~~~ BitVec.ofNat 5 (wipeMask c)
      work.life.keylost := s.work.life.keylost &&& ~~~ BitVec.ofNat 5 (wipeMask c) }

/-- The taken codes and role enter the sealed thatch record (R33). -/
def takeSealed (s : Vol) : Vol :=
  { s with
    work.life.sealedCodes := s.work.th.entries.map (·.taken)
    work.life.sealedRole := s.work.th.roleTaken }

/-- The page of a general wipe after page n: the site notes are passed over (R393). -/
def wipeAfter (n : Nat) : Nat := if n = 4863 then 4928 else n + 1

/-- The number of pages of a general wipe below page n. -/
def wipeCount (n : Nat) : Nat := if n < 4928 then n - 4096 else n - 4160

/-- The keys that the wipe leaves (R393). -/
def wipedKeys (c : Change) (s : Vol) : Vol :=
  { s with work.life.keys := s.work.life.keys.mapIdx fun k x => if (wipeMask c).testBit k then 0 else x }

/-- The wipe as store health shows it (R396). -/
def showWipe (c : Change) (running : Bool) (s : Vol) : Vol :=
  { s with
    work.life.wiping := running
    work.life.wipeOp := if running then BitVec.ofNat 2 c.op else 0
    work.life.wipeNext := if running then c.next else 0 }

/-! ### Stages -/

/-- Whether a change has the stage. -/
def hasStage (c : Change) : ChangeStage → Bool
  | .sealedRec => c.target == .sealed
  | .journal | .wipe | .finalJournal => c.op != 0
  | .rings => c.clear
  | _ => true

def stageOrder : List ChangeStage := [.flush, .sealedRec, .journal, .rings, .stateRecs, .wipe, .finalJournal, .reset]

/-- The stage after x. -/
def stageAfter (c : Change) (x : ChangeStage) : ChangeStage :=
  (((stageOrder.dropWhile (· != x)).drop 1).find? (hasStage c)).getD .reset

/-- A stage begins: its pages are formed and submitted. -/
def beginStage (nv : Nv) (s : Vol) : Vol :=
  match s.work.life.change with
  | none => s
  | some c =>
    match c.stage with
    | .flush => stagePages [ringAReq nv s, ringBReq nv s] s
    | .sealedRec =>
      let s := takeSealed s
      stagePages (recordReqs nv s .metro (recPayload s .metro) false true) s
    | .journal => stagePages [journalReq nv s (changeJournal c false)] s
    | .rings =>
      let s := clearRegisters s
      changeLog 0x0816 0xFF (stagePages [ringAReq nv s, ringBReq nv s] s)
    | .stateRecs =>
      let s := newState c (if c.clear then clearRegisters s else s)
      stagePages (recordReqs nv s .state (recPayload s .state) false true) s
    | .wipe =>
      let s := showWipe c true s
      if c.op = 2 then
        let s := wipedKeys c s
        stagePages (recordReqs nv s .keys (recPayload s .keys) false true) s
      else stagePages [plainReq c.next erasedPage .erase] s
    | .finalJournal => stagePages [journalReq nv s (changeJournal c true)] s
    | .reset => s

/-- A general wipe whose last page has been erased is ended by its final slot (R393). -/
def wipeEnds (x : ChangeStage) (c : Change) : ChangeStage :=
  if x == .wipe && c.op == 1 && decide (8192 ≤ c.next) then .finalJournal else x

/-- The change goes on to a stage, or repeats one. -/
def toStage (nv : Nv) (x : ChangeStage) (s : Vol) : Vol :=
  beginStage nv (modChange (fun c => setStage (wipeEnds x c) c) s)

/-- An erased page of a general wipe is complete: a journal slot after every 64 pages, then the next page (R393). DEDUCED:
log entry 88. -/
def wipeStep (nv : Nv) (c : Change) (page : Nat) (s : Vol) : Vol :=
  let next := wipeAfter page
  let c := { c with next }
  let s := showWipe c true { s with work.life.change := some c }
  if wipeCount next % 64 = 0 then stagePages [journalReq nv s (changeJournal c false)] s else s

/-- The change is journalled: PENDING and TARGET (R544). -/
def markPending (c : Change) (s : Vol) : Vol := { s with work.life.pending := true, work.life.target := c.target }

/-- What the completion of a stage still logs: WIPE_START with the first slot, from which on the change is pending, WIPE_DONE with the
last (R393, R544). -/
def stageLog (c : Change) (s : Vol) : Vol :=
  match c.stage with
  | .journal => changeLog 0x040A c.op (markPending c s)
  | .finalJournal => changeLog 0x040C c.op (showWipe c false s)
  | _ => s

/-- A stage whose pages are complete is followed by the next; the reset itself is left to the caller. -/
def stageDone (nv : Nv) (c : Change) (s : Vol) : Vol :=
  if c.stage == .wipe && c.op == 1 && decide (c.next < 8192) then toStage nv .wipe s
  else
    let logged := (c.stage == .journal || c.stage == .finalJournal)
    let s := if logged then stageLog c s else s
    toStage nv (stageAfter c c.stage) s

/-- The change moves on where nothing of it is on its way: to the next stage, or to its stage again where pages of it
were given up (R374, R377). -/
def moveChange (nv : Nv) (s : Vol) : Vol :=
  match s.work.life.change with
  | some c =>
    if !c.begun || changeBusy s || c.stage == .reset then s
    else if c.left = 0 then stageDone nv c s
    else if reserveOk s then toStage nv c.stage s
    else s
  | none => s

/-- The change has come to its reset (R551). -/
def changeEnds (s : Vol) : Bool :=
  s.work.life.change.any fun c => c.begun && c.stage == .reset && !changeBusy s

/-- The supervisor begins a change (R547, R551): a booking is made for the flush. -/
def startChange (nv : Nv) (c : Change) (s : Vol) : Vol :=
  let s := bookEvent s.bak.count s
  toStage nv .flush { s with work.life.change := some { c with stage := .flush, begun := true } }

/-- A change without a wipe, on the opening of SEAL (R547). MECOUNT rises on the way to SERVICE. -/
def sealChange (s : Vol) (target : LState) (pins : StartIn) : Change :=
  { target, stage := .flush, pins, left := 0,
    mecount := if target == .service then satInc s.work.life.mecount else s.work.life.mecount,
    op := 0, clear := false, next := 4096, begun := true, via := none, since := s.bak.count }

/-- SEAL stands open in BLANK or SEALED, and no change is under way: the state changes (R547). -/
def sealOpens (nv : Nv) (pins : StartIn) (s : Vol) : Vol :=
  if !s.bak.sealOpen || s.work.life.change.isSome || !coreRuns s then s
  else match s.work.life.state with
    | .blank => startChange nv (sealChange s .calibrate pins) s
    | .sealed => startChange nv (sealChange s .service pins) s
    | _ => s

/-- A start finds a journal slot whose DONE is 0 (R393, R551): its change is under way before anything else of the start, so that a
change to RETIRED has no more service. The state records and, where CLEAR is set, the registers come first if they do not hold
TARGET yet; then the wipe goes on from NEXT. -/
def adoptChange (nv : Nv) (pins : StartIn) (s : Vol) : Vol :=
  match journalNewest nv s with
  | some w =>
    if w.done then s
    else
      let target : LState := if w.target = 2 then .sealed else .retired
      let held := s.work.life.state == target
      let c : Change :=
        { target, stage := if held then .wipe else if w.clear then .rings else .stateRecs, pins, left := 0,
          mecount := s.work.life.mecount, op := w.op, clear := w.clear, next := w.next, begun := true, via := none,
          since := s.bak.count }
      markPending c { s with work.life.change := some c }
  | none => s

/-- The adopted change resumes. -/
def resumeChange (nv : Nv) (s : Vol) : Vol :=
  match s.work.life.change with
  | some c => toStage nv c.stage (logM 0x0814 (stateCode c.target) (logM 0x040B c.op (showWipe c true s)))
  | none => s

end Sys2Proof.Machine
end

