-- ==== Sys2Proof/Machine/Thatch.lean ====
section
/-! DEFINITION. The thatch: resistor codes, the checks at a reset, the report and the hourly re-read (R16 to R47). -/

namespace Sys2Proof.Machine

/-! ### The resistor code (R21, R22, R24) -/

/-- RATIO of R24 from sixteen conversions in units of 2^-24 (DESIGN CHOICE, log entry 8). -/
def ratioOf (conv : List Nat) : Nat := min 65535 ((conv.sum + 2048) / 4096)

/-- The nominal values of R21 in units of 0.1 Ohm, from 100 Ohm to 1 MOhm. -/
def nominals : List Nat :=
  [1000, 10000, 15000, 21500, 31600, 46400, 68100, 100000, 147000, 215000, 316000, 464000, 681000, 1000000, 1470000,
   10000000]

/-- The squares of the fifteen band limits: products of neighbouring nominal values (R9, R21). -/
def limitSquares : List Nat := List.zipWith (· * ·) nominals nominals.tail

/-- Whether R is at least `c` hundredths of a limit whose square is q. -/
def atLeast (rtref ratio q c : Nat) : Bool :=
  decide (c * c * q * (65536 - ratio) ^ 2 ≤ 10000 * (rtref * ratio) ^ 2)

/-- The code whose band contains R (R21). -/
def codeOf (rtref ratio : Nat) : Nat := (limitSquares.filter fun q => atLeast rtref ratio q 100).length

/-- R lies between 0.94 and 1.06 times a band limit (R22). -/
def marginal (rtref ratio : Nat) : Bool :=
  limitSquares.any fun q =>
    atLeast rtref ratio q 94 && decide (10000 * (rtref * ratio) ^ 2 ≤ 106 * 106 * q * (65536 - ratio) ^ 2)

/-- Reserved codes of each field (R27 to R31). -/
def reservedCode (f code : Nat) : Bool :=
  match f with
  | 0 => code == 13 || code == 14
  | 1 => code == 14
  | 4 => decide (11 ≤ code ∧ code ≤ 14)
  | 5 | 6 | 10 => decide (8 ≤ code ∧ code ≤ 14)
  | 9 => decide (10 ≤ code ∧ code ≤ 14)
  | 11 => decide (11 ≤ code ∧ code ≤ 14)
  | _ => false

/-- The reason of a reading: 0 NONE, 1 RESERVED, 2 MARGINAL (R32, R44). -/
def readReason (rtref ratio f : Nat) : Nat :=
  if marginal rtref ratio then 2 else if reservedCode f (codeOf rtref ratio) then 1 else 0

/-- The bound fields of R33. -/
def boundField (f : Nat) : Bool := [0, 1, 2, 3, 4, 5, 10, 11].contains f

/-- RTREF in units of 0.1 Ohm: the trimmed value, or 10.0 kOhm where the trim record is lost (R20, R145). -/
def rtrefOf (nv : Nv) : Nat := if nv.trim.validA || nv.trim.validB then nv.trim.rtref else 100000

/-! ### The checks (R34 to R39) -/

/-- A thatch under the checks: taken codes and reasons of the twelve fields, role and its reason. -/
structure Taking where
  code : List Nat
  reason : List Nat
  role : Nat
  roleReason : Nat
deriving DecidableEq, Repr

def Taking.at (t : Taking) (f : Nat) : Nat := t.code.getD f 15

/-- A code is taken with a reason only where it changes (R44). -/
def Taking.take (t : Taking) (f code reason : Nat) : Taking :=
  if t.at f = code then t else { t with code := t.code.set f code, reason := t.reason.set f reason }

/-- R35: 3 standalone, 2 primary, 1 secondary. -/
def checkRole (t : Taking) : Taking :=
  let c := t.at 10
  match t.role with
  | 2 => if c = 15 then t.take 10 4 3 else if c % 4 ≠ 0 then t.take 10 (c / 4 * 4) 3 else t
  | 1 => if c = 15 ∨ c % 4 = 0 then { t.take 10 15 3 with role := 3, roleReason := 3 } else t
  | _ => t.take 10 15 3

/-- R36. -/
def checkLink (t : Taking) : Taking :=
  if (t.at 6 = 6 ∨ t.at 6 = 7) ∧ ([1, 2, 7, 8, 9, 10, 13, 14].contains (t.at 7)) = false then t.take 6 15 3 else t

/-- The check of R37 for a burst code and a TOF_max code. -/
def windowOk (t0 t1 t2 t3 : Nat) : Bool :=
  let tof := tofMaxUs t3 * 512
  let k := longestRound t0
  decide (2 * (burstT t1 t2 + 512) ≤ tof) &&
    (List.range k).all fun j => decide (windowOpen t1 t2 1 k j + 32 * halfPeriod t1 ≤ tof)

/-- R37. -/
def checkWindow (t : Taking) : Taking :=
  if windowOk (t.at 0) (t.at 1) (t.at 2) (t.at 3) then t
  else
    let amp := t.at 2 / 4 * 4
    match [3, 2, 1, 0].find? fun b => windowOk (t.at 0) (t.at 1) (amp + b) (t.at 3) with
    | some b => t.take 2 (amp + b) 7
    | none =>
      let c3 := ((List.range 15).find? fun c => windowOk (t.at 0) (t.at 1) amp c).getD 14
      (t.take 2 amp 7).take 3 c3 7

/-- A rate code fits the plan (R128): N_r rounds within the period; a tick is 8 000 000 T. -/
def rateFits (t0 t1 t2 t3 rate : Nat) : Bool :=
  decide ((roundsOf t0).length * roundMaxT8 t0 t1 t2 t3 ≤ periodOf rate * 64000000)

/-- R38. -/
def checkRate (t : Taking) : Taking :=
  let fits := rateFits (t.at 0) (t.at 1) (t.at 2) (t.at 3)
  if fits (rateRange (t.at 4)).2 then t
  else t.take 4 (([8, 7, 6, 5, 4, 3, 2, 1, 0].find? fits).getD 0) 4

/-- R39. -/
def markSecondary (t : Taking) : Taking :=
  if t.role = 1 then
    [5, 6, 8].foldl (fun t f => { t with code := t.code.set f 15, reason := t.reason.set f 6 }) t
  else t

/-- The whole of R34 from the readings: codes read, their reasons, the straps, and the sealed record in SEALED. -/
def checkThatch (read reasons : List Nat) (straps : Nat) (held : Option (List Nat × Nat)) : Taking :=
  let taken := List.zipWith (fun c r => if r = 0 then c else 15) read reasons
  let t : Taking :=
    { code := taken
      reason := reasons
      role := if straps = 0 then 3 else straps
      roleReason := if straps = 0 then 1 else 0 }
  let t := match held with
    | none => t
    | some (codes, role) =>
      let t := (List.range 12).foldl (init := t) fun t f =>
        if boundField f then
          { t with
            reason := if read.getD f 15 ≠ codes.getD f 15 ∧ t.reason.getD f 0 = 0 then t.reason.set f 5 else t.reason
            code := t.code.set f (codes.getD f 15) }
        else t
      { t with
        roleReason := if t.role ≠ role ∧ t.roleReason = 0 then 5 else t.roleReason
        role := role }
  markSecondary (checkRate (checkWindow (checkLink (checkRole t))))

/-- The thatch as a start reads it (R23, R34), with the data fields of THATCH_SEALED_DIFF and whether THATCH_CLAMPED is
logged (R47). -/
def readThatch (rtref : Nat) (i : StartIn) (held : Option (List Nat × Nat)) (tick : BitVec 32) :
    Thatch × List Nat × Bool :=
  let ratios := i.conv.toList.map ratioOf
  let read := ratios.map (codeOf rtref)
  let reasons := (List.range 12).map fun f => readReason rtref (ratios.getD f 0) f
  let straps := i.role.toNat
  let t := checkThatch read reasons straps held
  let entry := fun (f : Nat) =>
    { ratio := BitVec.ofNat 16 (ratios.getD f 0)
      read := BitVec.ofNat 4 (read.getD f 15)
      taken := BitVec.ofNat 4 (t.at f)
      latest := BitVec.ofNat 4 (read.getD f 15)
      pending := false
      reason := BitVec.ofNat 8 (t.reason.getD f 0)
      lreason := BitVec.ofNat 8 (reasons.getD f 0)
      changes := 0 : ThEntry }
  let diffs := match held with
    | none => []
    | some (codes, role) =>
      (List.range 12).filter (fun f => boundField f && (read.getD f 15 != codes.getD f 15 || reasons.getD f 0 != 0))
        ++ (if straps = role then [] else [12])
  let clamp := (t.roleReason :: t.reason).any fun r => [1, 2, 3, 4, 7].contains r
  ({ entries := Vector.ofFn fun f => entry f.val
     roleRead := i.role
     roleAtReset := i.role
     roleTaken := BitVec.ofNat 2 t.role
     rolePending := false
     roleReason := BitVec.ofNat 8 t.roleReason
     lastRead := tick
     omitCycle := false }, diffs, clamp)

/-! ### The hourly re-read (R45, R46) -/

/-- The event of a re-read of one field (R47): changed, once for each change of LATEST, or reverted. -/
def rereadEvent (data : Nat) (atReset before now : Nat) (s : Vol) : Vol :=
  if now = before then s
  else if now = atReset then logG 0x0804 data s else logG 0x0803 data s

/-- R46 on one field. -/
def rereadEntry (rtref : Nat) (f ratio : Nat) (e : ThEntry) : ThEntry :=
  let c := codeOf rtref ratio
  { e with
    ratio := BitVec.ofNat 16 ratio
    latest := BitVec.ofNat 4 c
    lreason := BitVec.ofNat 8 (readReason rtref ratio f)
    pending := c != e.read.toNat
    changes := if c = e.read.toNat then e.changes else satInc e.changes }

/-- A DOZE period that began within 60 s of the moment 3 600 s after the previous read is in progress (R45). -/
def rereadDoze (s : Vol) : Bool :=
  let began := (s.bak.power.dozeFrom - s.work.th.lastRead).toNat
  s.bak.power.state == .doze && decide (230400 ≤ began ∧ began ≤ 234240)
    && decide ((s.bak.count - s.bak.power.dozeFrom).toNat ≤ (s.bak.count - s.work.th.lastRead).toNat)

/-- A re-read is due (R45): in that DOZE period, or, where no such period has begun within the 60 s, in place of a cycle. -/
def rereadDue (s : Vol) (inDoze : Bool) : Bool :=
  if inDoze then rereadDoze s && !s.work.cyc.running
  else
    decide (234240 ≤ (s.bak.count - s.work.th.lastRead).toNat) && !rereadDoze s && coreRuns s && !s.work.cyc.running

def reread (nv : Nv) (i : StartIn) (inDoze : Bool) (s : Vol) : Vol :=
  if !rereadDue s inDoze then s
  else
    let old := s.work.th
    let ratio := fun f => ratioOf (vget i.conv f)
    let entries := Vector.ofFn fun (f : Fin 12) => rereadEntry (rtrefOf nv) f.val (ratio f.val) (vget old.entries f.val)
    let s := { s with
      work.th.entries := entries
      work.th.roleRead := i.role
      work.th.rolePending := i.role != old.roleAtReset
      work.th.lastRead := s.bak.count
      work.th.omitCycle := !inDoze }
    let s := (List.range 12).foldl (init := s) fun s f =>
      let e := vget old.entries f
      rereadEvent f e.read.toNat e.latest.toNat (codeOf (rtrefOf nv) (ratio f)) s
    rereadEvent 12 old.roleAtReset.toNat old.roleRead.toNat i.role.toNat s

/-- THATCH_REREAD (R45). -/
def execThatchReread (i : StartIn) (inDoze : Bool) (s : State) : Host.Outcome State Fault Refusal :=
  .next (s.up (reread s.nv i inDoze s.vol))

end Sys2Proof.Machine
end

