-- ==== Sys2Proof/Machine/Starts.lean ====
section
/-! DEFINITION. Resets and starts (R33, R34, R47, R78, R206, R236, R303, R334, R379, R509, R537 to R545, R555, R609): what a
reset ends, how it is held or deferred, and the steps of a warm and of a cold start. -/

namespace Sys2Proof.Machine

/-! ### What a reset ends (R538) -/

/-- The STORE's own sequencer goes on with a write whose erase has begun and with the flush (R540); what waits otherwise
is lost with working RAM. -/
def storeRest (s : Vol) : StoreWork :=
  let l := s.work.store.line.filter fun r => r.started || r.flush
  if l.isEmpty then workClear.store
  else
    { workClear.store with
      line := l
      flushing := s.work.store.flushing
      flushed := s.work.store.flushed
      vres := s.work.store.vres }

/-- A token waits for this page of the token log (R347); a refused token has its result without it. -/
def tokenAwaits (s : Vol) (r : Req) : Bool :=
  r.job == .tokenLog && s.ret.pre.tokens.any fun t => t.seq.toNat == pageSeq r.data && !t.written

/-- A waiting write that outlives working RAM as a pending-list entry (DEDUCED, log entry 17): a LEGAL page or a log page. Pages of
an object write or of a change, those that a token waits for and the STORE's own scrubs and repairs are not among them. -/
def outlives (s : Vol) (r : Req) : Bool :=
  !r.object && !r.change &&
    match r.job with
    | .log _ _ => true
    | .tokenLog => !tokenAwaits s r
    | .scrub | .repair | .erase => false
    | _ => legalPage r.page

/-- The writes that wait when working RAM is lost. -/
def keepWaiting (s : Vol) : Vol :=
  let gone := (s.work.store.line ++ s.work.store.held).filter fun r => !r.started && !r.flush
  (gone.filter (outlives s)).foldl (fun s r => addPending (pendOf gone r) s) s

/-- A reset ends an acoustic loop-back with reason 4 (R106, R108), and its ticks up to the reset are excluded (R251). It aborts the
loop-backs of a port and of the line (R453, R486). -/
def endLoop (s : Vol) : Vol :=
  let s := if s.work.loop.running then logM 0x0114 4 (if retired s then s else bookLoop s.bak.count s) else s
  let s := if s.work.pt.lbResult = 1 then logG 0x0609 4 s else s
  if s.work.line.lbResult = 1 then logG 0x0619 4 s else s

/-- Every reset: working RAM is cleared but for the thatch and the state word, which the account of availability follows
until the start reads them again; CORE stops; a pour ends, and the restart opens a gap. -/
def endWork (s : Vol) : Vol :=
  let s := keepWaiting (endLoop { s with bak.power.core := false })
  { s with
    work := { workClear with
      th := s.work.th
      life := { s.work.life with change := none }
      store := storeRest s }
    ret.pre.pourCut := s.ret.pre.pourCut || s.work.pre.pour
    ret.pre.tokens := s.ret.pre.tokens.filter (·.written)
    ret.flow.restartGap := true
    bak.power.core := false
    bak.power.full := false
    bak.power.src := .rc
    bak.power.hfxo := false
    bak.power.hfxoFailed := false
    bak.power.pll := false
    bak.power.checks := Vector.replicate 7 none
    bak.power.lastCheck := none
    bak.power.entering := false
    bak.power.lingerFrom := none }

/-! ### Steps of a start (R541) -/

/-- Step 2: the regulator in full mode, CORE on the internal RC, working RAM cleared. -/
def startCore (s : Vol) : Vol :=
  let s := endWork s
  { s with
    work.life := lifeClear
    work.th := thatchClear
    bak.power.state := .doze
    bak.power.dozeFrom := s.bak.count
    bak.power.core := true
    bak.power.full := true
    bak.power.onVres := false
    bak.power.brownOut := false
    bak.power.iovddLow := false
    bak.power.attempts := 0
    bak.power.wakeFrom := none
    bak.power.sealNews := false
    bak.power.testenHold := none
    bak.power.deferred := none }

/-- Step 3: the thatch is read and checked against the sealed record in SEALED (R23, R33, R34, R47). -/
def startThatch (nv : Nv) (i : StartIn) (s : Vol) : Vol :=
  let held := if s.work.life.state == .sealed then
      some (s.work.life.sealedCodes.toList.map (·.toNat), s.work.life.sealedRole.toNat)
    else none
  let (t, diffs, clamp) := readThatch (rtrefOf nv) i held s.bak.count
  let s := diffs.foldl (init := { s with work.th := t }) fun s f => logM 0x0802 f s
  if clamp then logG 0x0801 0xFF s else s

/-- The plan differs from that of the previous reset: offsets, drops and anchors restart (R206, R236). -/
def startPlan (s : Vol) : Vol :=
  let c := BitVec.ofNat 4 (th s 0)
  let rate := BitVec.ofNat 4 (rateRange (th s 4)).1
  let s := { s with work.cyc.rate := rate, work.cyc.nextRate := rate }
  if s.ret.flow.keptTh0 = c then s
  else { s with ret.flow.keptTh0 := c, ret.flow.paths := Vector.replicate 33 default }

/-- Values in force from the settings as loaded (R278, R434, R446, R483). -/
def startSettings (s : Vol) : Vol :=
  { s with
    work.aux.sched := s.work.obj.aux
    work.aux.sensors := s.work.obj.sensors
    work.pt.mbus.rate := BitVec.ofNat 3 s.work.pt.mbBaud.toNat
    work.line.resetTick := s.bak.count
    work.line.ctxs := s.work.line.ctxs.map fun c => { c with inForce := s.work.line.settings } }

def causeCode : Cause → Nat
  | .por => 1 | .bor => 2 | .vcore => 3 | .pin => 4 | .wdog => 5 | .limp => 6 | .lifecycle => 7

/-- The reset record and the count of warm resets (R545, R558). DEDUCED: log entry 82. -/
def startRecord (h : HeldReset) (s : Vol) : Vol :=
  let cold := h.cause == .por
  { s with
    ret.reset :=
      { cause := BitVec.ofNat 5 (causeCode h.cause)
        cold
        time := BitVec.ofNat 34 (nowSeconds s)
        subsec := s.bak.cal.subsec
        defer := BitVec.ofNat 8 (min h.defer 255)
        wdBlock := if h.cause == .wdog then BitVec.ofNat 8 h.wdBlock else s.ret.reset.wdBlock }
    ret.avail.wresets := if cold then s.ret.avail.wresets else satInc s.ret.avail.wresets }

/-- Entries held in retained RAM are written (R532). -/
def writeLimp (s : Vol) : Vol :=
  let l := s.ret.logs.limp
  l.foldl (init := { s with ret.logs.limp := [] }) fun s p => writeEntry p.1 p.2.toNat s

/-- Flush pages that were not made are reported (R609). -/
def flushShort (s : Vol) : Vol :=
  if s.ret.store.flushShort = 0 then s
  else logG 0x0407 s.ret.store.flushShort { s with ret.store.flushShort := 0 }

/-- What the logs say of a start (R297, R559, R560). DEDUCED: log entry 85. -/
def startLogs (h : HeldReset) (deferred : Bool) (s : Vol) : Vol :=
  let s := writeLimp s
  let s := if deferred then logG 0x0523 (min h.defer 255) s else s
  let s := if h.cause == .wdog then limM 0x0522 h.wdBlock h.wdBlock s else s
  let s := if h.cause == .por then logM 0x0201 s.bak.osfCause.toNat (logM 0x0520 1 s)
    else logG 0x0521 (causeCode h.cause) s
  if h.cause == .lifecycle then logM 0x0810 (stateCode s.work.life.state) s else s

/-- SEAL_OPENED and SEAL_CLOSED as SEAL is accepted (R560); opening it in SEALED raises MECOUNT (R547). -/
def logSeal (isOpen : Bool) (s : Vol) : Vol :=
  let l := s.work.life
  if isOpen then logM 0x0811 ((if l.state == .sealed then satInc l.mecount else l.mecount).toNat % 256) s
  else logM 0x0812 (stateCode l.state) s

/-- SEAL as every start finds it (R43): the level read is the accepted one, and another than the one accepted before is logged. The
loss of VBK leaves it accepted as linked. DEDUCED: log entry 83. -/
def startSeal (i : StartIn) (s : Vol) : Vol :=
  let s' := { s with bak.sealOpen := i.sealOpen, bak.sealCand := i.sealOpen, bak.sealRun := 0 }
  if i.sealOpen == s.bak.sealOpen then s' else logSeal i.sealOpen s'

/-- At a warm start the price in force is that of the interval still open; a written one waits for the next (R361). -/
def keepPrice (cold : Bool) (s : Vol) : Vol :=
  let p := s.work.obj.prices
  if cold || !s.ret.led.interval.isOpen || s.ret.pre.prices == p.price then s
  else { s with work.obj.prices.price := s.ret.pre.prices, work.obj.pricesNew := some p }

/-- The last-wake record is rewritten (R303). -/
def wakeRecord (source : Nat) (collision : Bool) (s : Vol) : Vol :=
  { s with
    bak.lastWake :=
      { source := BitVec.ofNat 6 source
        collision
        untrusted := s.bak.osf
        subsec := s.bak.cal.subsec
        time := BitVec.ofNat 34 (nowSeconds s)
        count := s.bak.lastWake.count + 1 } }

/-- A start from KEEP rewrites the last-wake record by the plan that it has taken (R529). -/
def keepRecord (h : HeldReset) (s : Vol) : Vol :=
  if h.cause == .bor then wakeRecord (if planMeasures s then 0x0D else 0x01) false s else s

/-- Steps 3 and 4, and what follows them: the LEDGER's first tick, the panel, the pending list, a change to resume or to
begin. PWRON is evaluated where its schedule has been reloaded (R302), and is low on a secondary (R575). DEDUCED: log entry 97. -/
def startUp (nv : Nv) (h : HeldReset) (deferred : Bool) (s : Vol) : Vol :=
  let cold := h.cause == .por
  let i := h.pins
  let s := startCore s
  let s := if cold then restoreLogs nv s else s
  let s := startThatch nv i (loadSealed nv (loadState nv s))
  let s := keepRecord h (startPlan s)
  let s := adoptChange nv i (checkStore nv s)
  let s := checkCalib (loadMetro nv cold s)
  let s := loadDisplay nv (loadKeys nv (loadSettings nv cold s))
  let s := keepPrice cold (if cold then restoreAll nv s else s)
  let s := startRecord h (showPaths (startSettings s))
  let s := flushShort (startLogs h deferred s)
  let s := startSeal i s
  let s := outageTick nv cold (processHeld nv s)
  let s := displayRecover nv cold (if cold || isSecondary s then setPwron s else s)
  sealOpens nv i (resumeChange nv (drainPending nv s))

/-! ### Held and deferred resets (R538 to R540) -/

/-- The STORE is at work on something that no reset interrupts. DEDUCED: log entry 98. -/
def storeRuns (s : Vol) : Bool := writeRuns s || s.work.store.flushing

/-- A command that has been executed when a life-cycle change takes effect still sends its reply (R410): the formed replies outlive its
reset, but for that of a line frame (R538). -/
def keepReplies (old s : Vol) : Vol :=
  { s with
    work.ex.replies := vset old.work.ex.replies 4 none
    work.pt.mbus.tunnel := old.work.pt.mbus.tunnel
    work.pt.link.graoc := old.work.pt.link.graoc
    work.pt.optRate := old.work.pt.optRate }

/-- A reset is taken: RST_N low or TESTEN high holds it (R538, R539), otherwise the device starts. DEDUCED: log entry 89. -/
def takeReset (nv : Nv) (h : HeldReset) (deferred : Bool) (s : Vol) : Vol :=
  let low := s.bak.power.rstLow || h.pins.rstLow
  if low || h.pins.testen then
    let s := endWork s
    { s with
      bak.power.state := .held
      bak.power.rstLow := low
      bak.power.testenHold := if h.pins.testen then some h.cause else none
      bak.power.deferred := some { h with late := h.late || deferred } }
  else if h.cause == .lifecycle then keepReplies s (startUp nv h deferred s)
  else startUp nv h deferred s

/-- A reset is requested: it waits for a page write or the flush (R540). -/
def requestReset (nv : Nv) (h : HeldReset) (s : Vol) : Vol :=
  if storeRuns s then { s with bak.power.deferred := some (s.bak.power.deferred.getD { h with late := true }) }
  else takeReset nv h false s

def resetOf (cause : Cause) (pins : StartIn) : HeldReset := { cause, pins, defer := 0, late := false, wdBlock := 0 }

/-- A state from which a reset can come: the backup domain runs, and the device is not in KEEP. -/
def resettable (s : Vol) : Bool := s.bak.power.state != .off && s.bak.power.state != .keep

/-- VCORE_BROWNOUT (R519). -/
def execVcoreBrownout (i : StartIn) (s : State) : Host.Outcome State Fault Refusal :=
  if resettable s.vol && s.vol.bak.power.state != .held then .next (s.up (requestReset s.nv (resetOf .vcore i) s.vol))
  else .next s

/-- PIN_RESET (R537, R538): RST_N has been low for 10 us, with VSUP at or above 2.45 V, which a warning that has not cleared does not
exclude and a brown-out does. -/
def execPinReset (s : State) : Host.Outcome State Fault Refusal :=
  let v := s.vol
  if !resettable v || v.bak.power.brownOut then .next s
  else
    let v := { v with bak.power.rstLow := true }
    if v.bak.power.state == .held then .next (s.up v)
    else .next (s.up (requestReset s.nv (resetOf .pin default) v))

/-- RST_N_RELEASE (R538): the start that RST_N held proceeds, with the pins as they now read, once no write holds it up (R540). -/
def execRstNRelease (i : StartIn) (s : State) : Host.Outcome State Fault Refusal :=
  let v := s.vol
  if !v.bak.power.rstLow then .next s
  else
    let v := { v with bak.power.rstLow := false }
    match v.bak.power.deferred with
    | none => .next (s.up v)
    | some h =>
      let h := { h with pins := { i with rstLow := false } }
      if v.bak.power.state == .held && !storeRuns v then .next (s.up (takeReset s.nv h h.late v))
      else .next (s.up { v with bak.power.deferred := some h })

/-- TESTEN_RELEASE (R539): TESTEN reads low. -/
def execTestenRelease (i : StartIn) (s : State) : Host.Outcome State Fault Refusal :=
  let v := s.vol
  match v.bak.power.testenHold, v.bak.power.deferred with
  | some _, some h =>
    let h := { h with pins := { i with testen := false } }
    .next (s.up (takeReset s.nv h h.late { v with bak.power.testenHold := none }))
  | _, _ => .next s

/-- BROWNOUT_RELEASE (R519, R525): the start from KEEP. -/
def execBrownoutRelease (i : StartIn) (s : State) : Host.Outcome State Fault Refusal :=
  if s.vol.bak.power.state == .keep then .next (s.up (takeReset s.nv (resetOf .bor i) false s.vol)) else .next s

/-! ### The loss and the return of VBK (R297, R379, R519, R542) -/

/-- VBK_LOSS: retained RAM and the backup domain are lost; a write or the flush goes on while VRES carries it. -/
def vbkLost (s : Vol) : Vol :=
  if s.bak.power.state == .off then s
  else
    let s := endWork s
    { s with
      work.th := thatchClear
      work.life := lifeClear
      ret := retClear
      bak := { bakClear with osfCause := 3 } }

def execVbkLoss (s : State) : Host.Outcome State Fault Refusal := .next (s.up (vbkLost s.vol))

/-- A byte of a torn page (R379): old, erased, or new with some of its 0 bits still 1. -/
def tornByte (old new : Byte) (r : BitVec 64) : Byte :=
  match r.toNat % 3 with
  | 0 => old
  | 1 => 0xFF
  | _ => new ||| (r >>> 8).setWidth 8

/-- The bytes of a torn page. -/
def tornBytes : Bytes → Bytes → Vol → Bytes × Vol
  | o :: old, n :: new, s =>
    let (r, s) := takeFree s
    let (l, s) := tornBytes old new s
    (tornByte o n r :: l, s)
  | _, _, s => ([], s)

/-- The condition in which a page reads (R380). -/
def setEcc (n : Nat) (c : Option PageCond) (ecc : List (Nat × PageCond)) : List (Nat × PageCond) :=
  ecc.filter (·.1 != n) ++ c.toList.map fun c => (n, c)

/-- What ECC reports of a torn page. -/
def tornEcc (r : BitVec 64) : Option PageCond :=
  match r.toNat % 3 with
  | 0 => none
  | 1 => some .corrected
  | _ => some .uncorrectable

/-- A write that the energy no longer carries is torn (R379, R540). -/
def tearHead (s : State) : State :=
  match s.vol.work.store.line with
  | r :: _ =>
    if r.started && decide (r.page < 8192) then
      let (d, v) := tornBytes (memPage s.nv.mem r.page) (padTo 64 0xFF r.data) s.vol
      let (f, v) := takeFree v
      { s with
        vol := v
        nv := { s.nv with mem := memWritePage s.nv.mem r.page d, ecc := setEcc r.page (tornEcc f) s.nv.ecc } }
    else s
  | [] => s

/-- The backup domain starts on the LF stand-in (R611). -/
def backupStarts (s : Vol) : Vol :=
  { s with bak.osf := true, bak.power.lfStandin := true, bak.power.coldStandin := true }

/-- VBK_RELEASE: the backup domain starts, and a cold start follows. A write that has not completed has been torn, or is still carried and
holds the start up (R540): which of them is open. DESIGN CHOICE: log entry 90. -/
def execVbkRelease (i : StartIn) (s : State) : Host.Outcome State Fault Refusal :=
  if s.vol.bak.power.state != .off then .next s
  else
    let (carried, v) := if writeRuns s.vol then freeBit s.vol else (false, s.vol)
    let s := { s with vol := v }
    if carried then
      .next (s.up { backupStarts v with
        bak.power.state := .held
        bak.power.rstLow := i.rstLow
        bak.power.deferred := some { resetOf .por i with late := true } })
    else
      let s := tearHead s
      .next (s.up (takeReset s.nv (resetOf .por i) false (backupStarts { s.vol with work := workClear })))

end Sys2Proof.Machine
end

