-- ==== Sys2Proof/Machine/PageDone.lean ====
section
/-! DEFINITION. The STORE's line as it runs (R368 to R378, R390, R391, R395, R605, R606): the completion of a page write with
all that waits for it, the reserve checks, an abandoned write, the scrub; and the windows of the limited log codes
(R426). -/

namespace Sys2Proof.Machine

/-! ### What a completed page sets off -/

/-- A page just written may count in INVALID again, and so may the copy that holds it (R395). -/
def forgetInvalid (page : Nat) (s : Vol) : Vol :=
  let stale := fun x => x == page
    || (decide (8192 ≤ x ∧ x - 8192 ≤ page) && decide (page < x - 8192 + copyPages (regionOf page)))
  { s with work.store.countedInvalid := s.work.store.countedInvalid.filter fun x => !stale x }

/-- Pages of an object write that are still to be written. -/
def objectBusy (s : Vol) : Bool :=
  (s.work.store.line ++ s.work.store.held).any (·.object) || s.ret.store.pending.any (·.object)

/-- An object write of a record is committed: no page of its copy A remains (R605). -/
def objectCommits (r : Rec) (s : Vol) : Bool :=
  !(s.work.store.line ++ s.work.store.held).any fun q => q.object && isCopyA r q

/-- A page of the object write in hand is complete (R371, R605). -/
def objectPage (nv : Nv) (r : Req) (s : Vol) : Vol :=
  match s.work.ex.inHand with
  | some h =>
    match h.await with
    | .write v left committed =>
      if left ≤ 1 then completeWrite nv none s
      else
        let committed := committed || (jobRec r.job).any fun k => objectCommits k s
        { s with work.ex.inHand := some { h with await := .write v (left - 1) committed } }
    | _ => s
  | none => s

/-- The SET of a committed write is answered when copy B is complete (R606). -/
def answerCopyB (s : Vol) : Vol :=
  match s.work.ex.inHand with
  | some { frame := f, clamps, clamped, await := .copyB } =>
    if objectBusy s then s
    else
      let s := { s with work.ex.inHand := none }
      if clamped then answer f stClamped (clampPayload clamps) s else answer f stOk [] s
  | _ => s

/-- The action of the credit object is answered with its result (R344). -/
def answerToken (result : Nat) (s : Vol) : Vol :=
  match s.work.ex.inHand with
  | some { frame := f, await := .token, .. } =>
    answer f stOk [BitVec.ofNat 8 result] { s with work.ex.inHand := none }
  | _ => s

/-- The page of token log entry `seq` decides a token that awaits it (R347, R349). -/
def tokenPageDone (nv : Nv) (ok : Bool) (seq : BitVec 32) (s : Vol) : Vol :=
  match s.ret.pre.tokens.find? fun t => t.seq == seq && !t.written with
  | none => s
  | some t =>
    let s := if ok then tokenWritten nv seq s else tokenFailed seq s
    if t.byAction then answerToken (if ok then 0 else 10) s else s

/-- Pages of a snapshot that are still to be written (R330). -/
def snapshotBusy (s : Vol) : Bool :=
  let isSnap := fun (j : Job) => match j with
    | .snapshot _ _ _ => true
    | _ => false
  (s.work.store.line ++ s.work.store.held).any (isSnap ·.job) || s.ret.store.pending.any (isSnap ·.job)

/-- A page of the change in progress is complete (R393, R551). -/
def changePage (nv : Nv) (r : Req) (s : Vol) : Vol :=
  match s.work.life.change with
  | some c =>
    let c := setLeft (c.left - 1) c
    let s := { s with work.life.change := some c }
    if r.job == .erase then wipeStep nv c r.page s else s
  | none => s

/-- The completion of a page for its initiator; `ok` says that the verify has passed. A page that has failed twice counts as
complete for its initiator, but for a token's entry (DEDUCED, log entry 93). -/
def jobDone (nv : Nv) (r : Req) (ok : Bool) (s : Vol) : Vol :=
  let s := forgetInvalid r.page s
  let s := if r.flush then { s with work.store.flushed := s.work.store.flushed + 1 } else s
  let s := if r.object then objectPage nv r s else s
  let s := if r.change then changePage nv r s else s
  match r.job with
  | .tokenLog => tokenPageDone nv ok (BitVec.ofNat 32 (pageSeq r.data)) s
  | .snapshot _ _ _ => if snapshotBusy s then s else { s with ret.led.snapshotHeld := false }
  | .scrub =>
    let region := regionOf r.page
    logEvent (regionLog region) 0x0408 region { s with work.store.rewrites := satInc s.work.store.rewrites }
  | _ => s

/-- The flush ends with its last page (R377). -/
def flushDone (s : Vol) : Vol :=
  if s.work.store.flushing && !s.work.store.line.any (·.flush) then
    logG 0x0406 s.work.store.flushed { s with work.store.flushing := false }
  else s

/-! ### The line goes on -/

/-- A read behind the head of the line moves up. -/
def moveUp (h : InHand) : InHand :=
  match h.await with
  | .read n => { h with await := .read (n - 1) }
  | _ => h

/-- The head of the line leaves it. -/
def dropHead (s : Vol) : Vol :=
  { s with
    work.store.line := s.work.store.line.drop 1
    work.ex.inHand := s.work.ex.inHand.map moveUp }

/-- The engine's read at its turn, then the next page; a page that does not begin lets the read pass (R369, R374). -/
def serveLine (nv : Nv) (s : Vol) : Vol :=
  let s := startHead (serveRead nv false s)
  serveRead nv (!writeRuns s) s

/-- Milliseconds that a deferred reset has waited (R545). -/
def addDefer (ms : Nat) (h : HeldReset) : HeldReset := { h with defer := h.defer + ms }

/-- The next request is served, the pending list drains, a change goes on, frames that waited are executed. -/
def lineGoesOn (nv : Nv) (s : Vol) : Vol :=
  let s := moveChange nv (answerCopyB (drainPending nv (serveLine nv s)))
  match s.work.life.change with
  | some c =>
    if changeEnds s then requestReset nv (resetOf .lifecycle c.pins) s else pump nv 8 s
  | none => pump nv 8 s

/-- In OFF, retained RAM and the backup domain are gone: the STORE's sequencer goes on with the flush alone (R540). -/
def afterPageOff (s : Vol) : Vol :=
  match s.work.store.line with
  | r :: rest =>
    if flushOk s then { s with work.store.line := { r with started := true } :: rest }
    else { s with work.store := workClear.store }
  | [] => { s with work.store := workClear.store }

/-- Only the STORE's sequencer is left of the block: OFF, or the cold start that waits for it (R540). -/
def storeAlone (s : Vol) : Bool := s.bak.power.state == .off || s.bak.power.deferred.any (·.cause == .por)

/-- After a page: a deferred reset is taken as soon as no operation holds it up (R540), but for RST_N and TESTEN. -/
def afterPage (nv : Nv) (ms : Nat) (s : Vol) : Vol :=
  if s.bak.power.state == .off then afterPageOff s
  else
    let s := refill s
    match s.bak.power.deferred with
    | some h =>
      let h := addDefer ms h
      let s := { s with bak.power.deferred := some h }
      let s := if !storeRuns s then s else if storeAlone s then afterPageOff s else startHead s
      if storeRuns s then s else takeReset nv h true s
    | none => lineGoesOn nv s

/-! ### PAGE_WRITE_DONE (R368) -/

/-- Bytes that no rule gives: those of a page left as programmed after two failed verifies. -/
def freeBytes : Nat → Vol → Bytes × Vol
  | 0, s => ([], s)
  | n + 1, s =>
    let (r, s) := takeFree s
    let (l, s) := freeBytes n s
    (r.setWidth 8 :: l, s)


/-- The array with page n rewritten; there are 8 192 pages (R365). -/
def putPage (n : Nat) (d : Bytes) (c : Option PageCond) (nv : Nv) : Nv :=
  if n < 8192 then { nv with mem := memWritePage nv.mem n d, ecc := setEcc n c nv.ecc } else nv

/-- The head leaves the line, its page holds d with outcome c, and its initiator goes on. -/
def pageDone (r : Req) (ok : Bool) (d : Bytes) (c : Option PageCond) (ms : Nat) (s : State) : State :=
  let nv := putPage r.page d c s.nv
  let v := dropHead s.vol
  { s with vol := afterPage nv ms (if storeAlone v then v else flushDone (jobDone nv r ok v)), nv }

/-- A second failed verify leaves the page as programmed and counts in UNREADABLE (R368, R397). DEDUCED: log entry 93. -/
def pageFails (r : Req) (ms : Nat) (s : State) : State :=
  let (d, v) := freeBytes 64 s.vol
  let (f, v) := takeFree v
  let region := regionOf r.page
  let v :=
    if storeAlone v then v
    else
      logEvent (regionLog region) 0x0402 region
        { v with work.store.unreadable := satInc v.work.store.unreadable }
  pageDone r false d (tornEcc f) ms { s with vol := v }

def execPageWriteDone (verifyOk : Bool) (vres : BitVec 8) (ms : Nat) (s : State) : Host.Outcome State Fault Refusal :=
  match s.vol.work.store.line with
  | r :: rest =>
    if !r.started then .next s
    else
      let s : State := { s with vol.work.store.vres := vres }
      if verifyOk then .next (pageDone r true (padTo 64 0xFF r.data) none ms s)
      else if r.retried then .next (pageFails r ms s)
      else .next { s with vol.work.store.line := { r with retried := true } :: rest }
  | [] => .next s

/-! ### The reserve (R374) -/

/-- The head of the line is an ordinary write that has not begun. -/
def headWaits (s : Vol) : Bool :=
  match s.work.store.line with
  | r :: _ => !r.started && !r.flush
  | [] => false

/-- RESERVE_CHECK: the checks of R374, for a write held at the head of the line or for the pending list. -/
def reserveCheck (nv : Nv) (vsupOk : Bool) (vres : BitVec 8) (s : Vol) : Vol :=
  if !coreRuns s then s
  else
    let s := { s with work.store.vres := vres, bak.power.vsupOk := vsupOk }
    if reserveOk s then lineGoesOn nv s
    else if headWaits s then { s with work.store.failed := s.work.store.failed + 1 }
    else s

def execReserveCheck (vsupOk : Bool) (vres : BitVec 8) (s : State) : Host.Outcome State Fault Refusal :=
  .next (s.up (reserveCheck s.nv vsupOk vres s.vol))

/-- Requests leave the line and the initiators. -/
def removeReqs (gone : Req → Bool) (s : Vol) : Vol :=
  { s with
    work.store.line := s.work.store.line.filter fun r => !gone r
    work.store.held := s.work.store.held.filter fun r => !gone r }

/-- The values of a committed write whose copy B goes to the pending list take effect (R606). DEDUCED: log entry 94. -/
def commitEarly (nv : Nv) (s : Vol) : Vol :=
  match s.work.ex.inHand with
  | some h =>
    match h.await with
    | .write v _ _ =>
      reportClamps h.clamps
        (applyVal nv h.frame.port v { s with work.ex.inHand := some { h with await := .copyB } })
    | _ => s
  | none => s

/-- The object write in hand is committed (R605). -/
def inHandCommitted (s : Vol) : Bool :=
  match s.work.ex.inHand with
  | some { await := .write _ _ c, .. } => c
  | _ => false

/-- An abandoned object write answers UNAVAILABLE (R374). One that is committed has taken effect, and its copy B waits in
the pending list. -/
def abandonObject (nv : Nv) (s : Vol) : Vol :=
  let pages := (s.work.store.line ++ s.work.store.held).filter (·.object)
  let committed := inHandCommitted s
  let s := removeReqs (·.object) s
  if committed then
    let s := pages.foldl (fun s r => addPending { r.toPending with object := false } s) s
    completeWrite nv (some stUnavailable) s
  else failWrite s

/-- The pages of record k that leave the line with an abandoned page of it: the write stands as a whole (R605). -/
def sameRecord (k : Rec) (q : Req) : Bool := !q.object && !q.started && !q.flush && jobRec q.job == some k

/-- The head of the line is abandoned. A SET that waits for the copy B of its record is abandoned with it (R371). -/
def abandonHead (nv : Nv) (r : Req) (s : Vol) : Vol :=
  if r.object then abandonObject nv s
  else match r.job with
    | .tokenLog =>
      if tokenAwaits s r then tokenPageDone nv false (BitVec.ofNat 32 (pageSeq r.data)) (dropHead s)
      else addPending r.toPending (dropHead s)
    | .record k _ _ =>
      let gone := (s.work.store.line ++ s.work.store.held).filter (sameRecord k)
      let s := gone.foldl (fun s q => addPending (pendOf gone q) s) (removeReqs (sameRecord k) s)
      if gone.any (isCopyA k) || !(s.work.store.line ++ s.work.store.held).any (fun q => q.object && jobRec q.job == some k) then s
      else abandonObject nv s
    | _ => addPending r.toPending (dropHead s)

/-- RESERVE_LOW: 1 s of checks, one every ms, that have all failed (R374). -/
def reserveLow (nv : Nv) (s : Vol) : Vol :=
  match s.work.store.line with
  | r :: _ =>
    if r.started || r.flush || s.work.store.failed < 1000 then s
    else
      let s := abandonHead nv r s
      let s := limG 0x0405 0xFF 0xFF
        { s with work.store.abandoned := satInc s.work.store.abandoned, work.store.failed := 0 }
      lineGoesOn nv (refill s)
  | [] => s

def execReserveLow (s : State) : Host.Outcome State Fault Refusal := .next (s.up (reserveLow s.nv s.vol))

/-! ### The scrub (R390, R391) -/

/-- A page of a record whose write is under way (R371). -/
def lockedPage (s : Vol) (n : Nat) : Bool := (recordRange n).any fun p => pagesLocked s p.1 p.2

/-- The rewrite of a scrub. -/
def scrubRewrite (nv : Nv) (n : Nat) (s : Vol) : Vol :=
  if queued s n || lockedPage s n || pageCond nv n == some .uncorrectable then s
  else submitGuarded [plainReq n (memPage nv.mem n) .scrub] s

/-- SCRUB: the page at SCRUBPTR, with the outcome of its read, once for each multiple of 20 224 ticks. While the line is busy it
waits. -/
def scrub (nv : Nv) (read : ScrubRead) (s : Vol) : Vol :=
  if !coreRuns s || !s.work.store.scrubDue || lineFill s != 0 then s
  else
    let n := s.ret.store.scrubPtr.toNat
    let region := regionOf n
    let s := { s with
      work.store.scrubDue := false
      ret.store.scrubPtr := s.ret.store.scrubPtr + 1
      work.store.sweeps := if n = 8191 then satInc s.work.store.sweeps else s.work.store.sweeps
      work.store.present := true }
    match read with
    | .clean => s
    | .marginal => scrubRewrite nv n s
    | .corrected =>
      scrubRewrite nv n (logLimited (regionLog region) 0x0401 region region
        { s with work.store.corrected := satInc s.work.store.corrected })
    | .uncorrectable =>
      logEvent (regionLog region) 0x0402 region
        { s with work.store.unreadable := satInc s.work.store.unreadable }

def execScrub (read : ScrubRead) (s : State) : Host.Outcome State Fault Refusal := .next (s.up (scrub s.nv read s.vol))

/-! ### The windows of the limited codes (R426) -/

/-- The page of an entry with its final REPEAT, which stands in bytes 21 and 22 of the page (R381, R425). -/
def withRepeat (d : Bytes) (n : Nat) : Bytes :=
  let p := pagePayload d
  pageForm (pageSeq d) (beNat (slice d 4 1)) (beNat (slice d 5 1)) (beNat (slice d 6 1))
    (p.take 13 ++ beBytes 2 n ++ p.drop 15)

/-- The entry of a window is still among the latest 256 of its log. -/
def entryKept (s : Vol) (w : LogWindow) : Bool :=
  decide (w.seq.toNat < (logNext s w.log).toNat ∧ (logNext s w.log).toNat ≤ w.seq.toNat + 256)

/-- LOG_WINDOW_END. -/
def logWindowEnd (nv : Nv) (l : LogId) (code : BitVec 16) (key : Byte) (s : Vol) : Vol :=
  let here := fun (w : LogWindow) => w.log == l && w.code == code && w.key == key
  match s.ret.logs.windows.find? here with
  | none => s
  | some w =>
    if !coreRuns s || decide ((s.bak.count - w.since).toNat < 230400) then s
    else
      let s := { s with ret.logs.windows := s.ret.logs.windows.filter fun x => !(here x && logWindowOver s x) }
      let page := logPage l w.seq.toNat
      let d := viewPage nv s page
      if w.count = 0 || !entryKept s w || !pageValid nv s page || pageSeq d != w.seq.toNat then s
      else submit (plainReq page (withRepeat d w.count.toNat) (.log l w.seq.toNat)) s

def execLogWindowEnd (log : LogId) (code : BitVec 16) (key : Byte) (s : State) : Host.Outcome State Fault Refusal :=
  .next (s.up (logWindowEnd s.nv log code key s.vol))

/-! ### The life cycle and availability (R551, R558) -/

/-- The reply to the action that ordered a change has left its port, or 100 ms, in 7 ticks, have passed since (R551). -/
def changeMayBegin (c : Change) (s : Vol) : Bool :=
  decide (7 ≤ (s.bak.count - c.since).toNat) || c.via.all fun p => replyGone s p

/-- LIFECYCLE_CHANGE (R551); the reset that ends the change reads the pins as given. -/
def lifecycleChange (nv : Nv) (i : StartIn) (s : Vol) : Vol :=
  match s.work.life.change with
  | some c => if c.begun || !coreRuns s || !changeMayBegin c s then s else startChange nv { c with pins := i } s
  | none => s

def execLifecycleChange (i : StartIn) (s : State) : Host.Outcome State Fault Refusal :=
  .next (s.up (lifecycleChange s.nv i s.vol))

/-- AVAIL_WINDOW: the window of 365 days is complete. -/
def availWindow (s : Vol) : Vol :=
  let a := s.ret.avail
  if a.elapsed.toNat < 2018304000 then s
  else
    logM 0x0817 (min (a.lost.toNat / 128) 255)
      { s with ret.avail := { elapsed := 0, lost := 0, lastLost := a.lost, windows := satInc a.windows, wresets := 0 } }

def execAvailWindow (s : State) : Host.Outcome State Fault Refusal := .next (s.up (availWindow s.vol))

end Sys2Proof.Machine
end

