-- ==== Sys2Proof/Machine/Waking.lean ====
section
/-! DEFINITION. Sleep and waking (R45, R68 to R70, R299 to R304, R335, R521 to R533, R543): the holds, the entry, the wake
sequence and its failures, LIMP, the wakes ahead of scheduled work, the watchdog; and the sampling of SEAL (R25, R547). -/

namespace Sys2Proof.Machine

/-! ### A wake (R530) -/

/-- SEAL stands open in BLANK or SEALED: the change is ordered (R547), and LIFECYCLE_CHANGE carries it out. DEDUCED: log
entry 95. -/
def orderIfOpen (s : Vol) : Vol :=
  let order := fun (target : LState) =>
    { s with work.life.change := some { sealChange s target default with begun := false } }
  if !s.bak.sealOpen || s.work.life.change.isSome || !coreRuns s then s
  else match s.work.life.state with
    | .blank => order .calibrate
    | .sealed => order .service
    | _ => s

/-- What waited while CORE was stopped goes on at a wake: the held ticks, the missed heartbeats, the STORE, the pending list, the
interrupted rectangles, a change. -/
def wakeTail (nv : Nv) (s : Vol) : Vol :=
  let s := drainPending nv (startHead (hbeatCatchUp (processHeld nv s)))
  moveChange nv (orderIfOpen (if s.bak.power.warning then s else displayResume s))

/-- Steps 1 to 3: CORE runs on the internal RC and takes the LF tick count (R70); what waited while it was stopped goes
on. -/
def wakeUp (nv : Nv) (s : Vol) : Vol :=
  wakeTail nv { s with
    bak.power.state := .doze
    bak.power.dozeFrom := s.bak.count
    bak.power.core := true
    bak.power.full := true
    bak.power.src := .rc
    bak.power.hfxo := false
    bak.power.hfxoFailed := false
    bak.power.attempts := 0
    bak.power.retrying := none
    bak.power.entering := false
    bak.power.sealNews := false
    bak.power.wakeFrom := some (if s.bak.power.retrying.isSome then s.bak.power.failTick else s.bak.count)
    work.pt.link.fifo := 0
    work.fab.tick := default }

/-- The codes of R304. -/
def wakeCode : WakeSource → Nat
  | .periodic => 0x01 | .alarmA => 0x02 | .alarmB => 0x03 | .wakeN => 0x04 | .keypad => 0x05 | .tariff => 0x06
  | .optical => 0x07 | .mbus => 0x08 | .rs485 => 0x09 | .link => 0x0A | .lineActivity => 0x0B | .chainSync => 0x0C
  | .cycle => 0x0D | .auxSlot => 0x0E | .thatch => 0x0F | .scrub => 0x10 | .pulseCopy => 0x11 | .supervisor => 0x00

/-- The periodic wake matches at a tick (R299). -/
def periodicMatch (s : Vol) : Bool :=
  let p := s.bak.pwake
  p.enable == 1 && decide ((s.bak.count.toNat : Int) % max 1 p.interval = p.phase)

/-- The duties of the periodic wake. -/
def periodicDuties (nv : Nv) (s : Vol) : Vol :=
  let d := s.bak.pwake.duty.toNat
  let s := if d % 2 = 1 then fieldCheck nv s else s
  if d / 2 % 2 = 1 then { s with bak.power.lingerFrom := some s.bak.count } else s

/-- A wake is served: the last-wake record is rewritten for a wake source, not for the supervisor's own wakes (R529). A periodic
wake has its duties (R299). -/
def wakeFor (nv : Nv) (source : WakeSource) (collision : Bool) (s : Vol) : Vol :=
  let s := wakeUp nv (if source == .supervisor then s else wakeRecord (wakeCode source) collision s)
  if source == .periodic then periodicDuties nv s else s

/-- An enabled alarm equals the calendar in every compared field (R300). -/
def alarmMatches (a : Alarm) (c : Cal) : Bool :=
  let masked := fun (k : Nat) => a.mask.toNat / 2 ^ k % 2 == 1
  let eq := fun (x : Int) (y : Byte) (k : Nat) => masked k || x == (y.toNat : Int)
  a.enable == 1 && eq a.sec c.sec 5 && eq a.min c.min 4 && eq a.hour c.hour 3 && eq a.day c.day 2 && eq a.wday c.wday 1
    && eq a.month c.month 0

/-- An alarm matches on a tick on which SEC advances, or at a step commit (R300). -/
def alarmNow (b : Bool) (s : Vol) : Bool :=
  s.bak.secTick && alarmMatches (if b then s.bak.alarmB else s.bak.alarmA) s.bak.cal

/-- A match is honoured (R301). -/
def alarmHonoured (s : Vol) : Bool :=
  s.bak.power.state == .limp || [LState.blank, .calibrate, .service].contains s.work.life.state

/-- The next tick is the due tick of an AUX slot (R262). -/
def slotNext (s : Vol) : Bool :=
  let r := s.work.aux.sched.repeat_.toNat
  (nextSlotKind s).isSome && !retired s && (r == 0 || decide ((s.bak.count.toNat + 1) % (64 * r) = 0))

/-- 3 600 s have passed since the latest read of the thatch (R45). -/
def thatchHour (s : Vol) : Bool := decide (230400 ≤ (s.bak.count - s.work.th.lastRead).toNat)

/-- While the power-fail warning stands, the supervisor wakes the device for the flush, which POWER_FAIL_WARNING does, and for a write
that R374 allows (R520). -/
def warningAllows (s : Vol) (w : WakeSource) : Bool :=
  !s.bak.power.warning || (w == .supervisor && reserveOk s && !s.ret.store.pending.isEmpty)

/-- A wake source is active in SLEEP (R529). A scheduled source is raised by its own tick or wake lead (R533), and the tariff inputs by a
change accepted on the tick. -/
def sourceActive (s : Vol) (w : WakeSource) : Bool :=
  let active := match w with
    | .periodic => periodicMatch s
    | .alarmA => alarmHonoured s && alarmNow false s
    | .alarmB => alarmHonoured s && alarmNow true s
    | .wakeN | .optical | .supervisor => true
    | .thatch => thatchHour s
    | .scrub => scrubTick s.bak.count
    | .keypad => prepaid s
    | .tariff => [1, 2, 5, 6].contains (th s 5) && s.bak.tariffAt == some s.bak.count
    | .mbus => portInSet s .mbus
    | .rs485 => portInSet s .rs485
    | .link => portInSet s .link
    | .lineActivity => th s 6 != 15
    | .chainSync => isSecondary s
    | .cycle => cycleNext s
    | .auxSlot => slotNext s
    | .pulseCopy => pulseCopyDue s
  active && warningAllows s w

/-- The supervisor can begin a wake sequence: SLEEP, with no retry under way. DEDUCED: log entry 43. -/
def canWake (s : Vol) : Bool := s.bak.power.state == .sleep && s.bak.power.retrying.isNone

/-- The sources that are raised on the LF period of a tick. -/
def tickSources : List WakeSource := [.periodic, .alarmA, .alarmB, .thatch, .scrub, .pulseCopy]

/-- The active sources raised on one LF period: those named, and where one of them belongs to a tick, every other of that tick. -/
def raisedWith (s : Vol) (l : List WakeSource) : List WakeSource :=
  let l := l.filter (sourceActive s)
  if l.any tickSources.contains then l ++ tickSources.filter (sourceActive s) else l

/-- Sources in the order of their codes; the supervisor's own wakes, which have no code, come last (R304, R529). -/
def wakeRank (w : WakeSource) : Nat := (wakeCode w + 63) % 64

/-- The source of the lowest code (R304). -/
def lowestSource : List WakeSource → Option WakeSource
  | [] => none
  | w :: l =>
    match lowestSource l with
    | none => some w
    | some v => some (if wakeRank v < wakeRank w then v else w)

/-- A wake of active sources from SLEEP; anything else leaves no trace. Only a source that is raised on the tick of the entry can have
met it (R528). -/
def tryWake (nv : Nv) (r : Raised) (collision : Bool) (s : Vol) : Vol :=
  if canWake s && sourceActive s r.source then
    match lowestSource (raisedWith s (r.source :: r.also)) with
    | some v => wakeFor nv v (collision && s.bak.power.entering) s
    | none => s
  else s

/-- A source that the device raises itself; on the tick of a sleep entry it is open whether it met the entry (R528, DESIGN CHOICE, log
entry 142). -/
def raiseWake (nv : Nv) (w : WakeSource) (also : List WakeSource) (s : Vol) : Vol :=
  if canWake s && sourceActive s w then
    let (met, s) := if s.bak.power.entering then freeBit s else (false, s)
    tryWake nv ⟨w, also, false⟩ met s
  else s

/-- The pins as a wake shows them, awake or not: WAKE_N is low where it is named, and then as the operand says (R526); LCS_N is low where
LINK is named (R69). DESIGN CHOICE: log entry 80. -/
def seePins (r : Raised) (s : Vol) : Vol :=
  let named := fun w => (r.source :: r.also).contains w
  let p := s.bak.power
  { s with
    bak.power.wakeNIsLow := r.nLow
    bak.power.wakeNLow := if named .wakeN || p.wakeNIsLow || r.nLow then some s.bak.count else p.wakeNLow
    work.pt.link.lcsLow := s.work.pt.link.lcsLow || named .link }

/-- WAKE (R530), with the sources that are raised on the same LF period. -/
def execWake (r : Raised) (collision : Bool) (s : State) : Host.Outcome State Fault Refusal :=
  .next (s.up (tryWake s.nv r collision (seePins r s.vol)))

/-- CYCLE_WAKE_LEAD (R533): on a primary, SYNC_LEAD takes its place (R564), and a secondary follows SYNC (R124). -/
def execCycleWakeLead (s : State) : Host.Outcome State Fault Refusal :=
  if isPrimary s.vol then .next s else .next (s.up (raiseWake s.nv .cycle [] s.vol))

/-- AUX_SLOT_WAKE_LEAD (R533). A cycle that starts on the same tick has its lead on the same LF period or before it, and a lower code
(R304). -/
def execAuxSlotWakeLead (s : State) : Host.Outcome State Fault Refusal :=
  .next (s.up (raiseWake s.nv .auxSlot [.cycle] s.vol))

/-! ### Periodic wake and alarms (R299 to R301) -/

/-- PERIODIC_WAKE: the wake of a sleeping device, or the duties on one that is awake. -/
def periodicWake (nv : Nv) (s : Vol) : Vol :=
  if !periodicMatch s then s
  else if coreRuns s then periodicDuties nv s
  else raiseWake nv .periodic [] s

def execPeriodicWake (s : State) : Host.Outcome State Fault Refusal := .next (s.up (periodicWake s.nv s.vol))

/-- ALARM_MATCH: an honoured match wakes a sleeping device. In LIMP it starts an attempt (LIMP_ATTEMPT). -/
def execAlarmMatch (b : Bool) (s : State) : Host.Outcome State Fault Refusal :=
  .next (s.up (raiseWake s.nv (if b then .alarmB else .alarmA) [] s.vol))

/-! ### Held event ticks (R335) -/

/-- Four held ticks wake the device. Under the power-fail warning they do not, and further ticks are held, up to its clearing (R520,
DESIGN CHOICE, log entry 140). -/
def heldWake (nv : Nv) (s : Vol) : Vol :=
  if 4 ≤ s.bak.heldTicks.length then raiseWake nv .supervisor [] s else s

/-- EVENT_TICK_HELD: the timekeeper holds an event tick while CORE is stopped, and the fourth wakes the device. -/
def eventTickHeld (nv : Nv) (s : Vol) : Vol :=
  if s.bak.power.state != .sleep || noLedger s || !isEventTick s then s else heldWake nv (holdTick s)

def execEventTickHeld (s : State) : Host.Outcome State Fault Refusal := .next (s.up (eventTickHeld s.nv s.vol))

/-- The tick that an idle step makes, with the wake that a tick held by it may call for. An accepted change of the tariff inputs has
woken the device by the end of its tick. -/
def idleTick (nv : Nv) (s : Vol) : Vol := heldWake nv (tickAdvance (raiseWake nv .tariff [] s))

/-- SLEW_TICK (R294): the tick that changes SUBSEC under a slew. -/
def execSlewTick (s : State) : Host.Outcome State Fault Refusal :=
  if s.vol.bak.slewLeft = 0 then .next s else .next (s.up (idleTick s.nv s.vol))

/-- CALENDAR_WRAP (R287, R297): the tick that passes 2399-12-31 23:59:59. -/
def execCalendarWrap (s : State) : Host.Outcome State Fault Refusal :=
  if atWrap s.vol.bak.cal then .next (s.up (idleTick s.nv s.vol)) else .next s

/-- LF_STANDIN (R57): in SLEEP the change of OSF is a held tick like any other (R335). -/
def execLfStandin (s : State) : Host.Outcome State Fault Refusal := .next (s.up (heldWake s.nv (lfStandin s.vol)))

/-! ### SLEEP (R525 to R527) -/

/-- A byte on the optical port, M-Bus or EIA-485 within the last 2 s. -/
def trafficHolds (s : Vol) : Bool :=
  [Port.optical, .mbus, .rs485].any fun p =>
    match vget s.work.ex.lastTraffic (portIx p) with
    | some t => decide ((s.bak.count - t).toNat < 128)
    | none => false

/-- The LINGER time of a periodic wake runs. -/
def lingers (s : Vol) : Bool :=
  match s.bak.power.lingerFrom with
  | some t => decide (((s.bak.count - t).toNat * 1000 : Int) < 64 * s.bak.pwake.linger)
  | none => false

/-- WAKE_N is low, or has risen less than 1 s ago. -/
def wakeNHolds (s : Vol) : Bool :=
  s.bak.power.wakeNIsLow || s.bak.power.wakeNLow.any fun t => decide ((s.bak.count - t).toNat < 64)

/-- A hold of R526 stands, the crossings into CORE of R69 among them. -/
def sleepHeld (s : Vol) : Bool :=
  let w := s.work
  w.cyc.running || w.aux.due || w.aux.isOpen || w.loop.running || w.fe.powered
    || w.pt.lbResult == 1 || w.line.lbResult == 1
    || (w.line.running && th s 6 != 15)
    || displayHolds s
    || w.pre.pour
    || s.bak.freeze.isSome
    || !w.store.line.isEmpty || !w.store.held.isEmpty || w.store.flushing
    || (!s.ret.store.pending.isEmpty && reserveOk s)
    || w.life.change.isSome || w.life.wiping
    || w.pt.link.selected || (w.pt.link.lcsLow && portInSet s .link) || lalert s
    || trafficHolds s
    || w.pre.keyDown || !w.pre.entry.isEmpty || w.pre.result.isSome
    || wakeNHolds s || lingers s
    || w.fab.hbeat.toggled || w.fab.tick.toggled || drainableWords w.te != 0 || w.pt.link.fifo != 0

/-- The calendar of the next tick matches an honoured alarm. -/
def alarmNext (s : Vol) : Bool :=
  let c := (slewTick s.bak.cal s.bak.slewLeft s.bak.slewHeld).1
  alarmHonoured s && c.sec != s.bak.cal.sec && (alarmMatches s.bak.alarmA c || alarmMatches s.bak.alarmB c)

/-- A scheduled wake belongs to the next tick: work that starts on it, or a source that the tick itself raises (R533). -/
def wakeNext (s : Vol) : Bool :=
  let t := { s with bak.count := s.bak.count + 1 }
  (!s.bak.power.warning && (cycleNext s || slotNext s)) || periodicMatch t || pulseCopyDue t || thatchHour t
    || scrubTick t.bak.count || alarmNext s

/-- The next tick, as far as the scheduled wakes read it. -/
def tickOn (s : Vol) : Vol :=
  let (c, left, held, _) := slewTick s.bak.cal s.bak.slewLeft s.bak.slewHeld
  { s with bak.count := s.bak.count + 1, bak.cal := c, bak.slewLeft := left, bak.slewHeld := held }

/-- The sleep window reaches 20 ms: never where a scheduled wake belongs to the next tick, and so never at 64 cycles/s (R525). A wake that
belongs to the tick after it is up to 31 ms away, as the place of the entry in its tick decides, which the model leaves open. DESIGN
CHOICE: log entry 80. -/
def windowLongEnough (s : Vol) : Bool × Vol :=
  if wakeNext s then (false, s) else if wakeNext (tickOn s) then freeBit s else (true, s)

/-- CORE and HFXO stop, the blocks lose their supply, and the regulator goes to low-power mode (R527). -/
def enterSleep (s : Vol) : Vol :=
  { s with
    bak.power.state := .sleep
    bak.power.core := false
    bak.power.full := false
    bak.power.src := .rc
    bak.power.hfxo := false
    bak.power.entering := true
    bak.power.checks := Vector.replicate 7 none
    bak.power.lastCheck := none
    bak.power.lingerFrom := none
    work.store.present := false
    work.disp.present := false }

/-- SLEEP_ENTRY: no hold stands, and the window is long enough. -/
def sleepEntry (s : Vol) : Vol :=
  if s.bak.power.state != .doze || sleepHeld s || s.bak.power.deferred.isSome then s
  else
    let (long, s) := windowLongEnough s
    if long then enterSleep s else s

def execSleepEntry (s : State) : Host.Outcome State Fault Refusal := .next (s.up (sleepEntry s.vol))

/-! ### The crystal (R58, R530, R531, R563) -/

/-- What step 4 changes CORE to. -/
def crystalOf (s : Vol) : CoreSrc := if isSecondary s then .clko else .crystal

/-- HFXO_READY: CORE leaves the RC within step 4. -/
def hfxoReady (s : Vol) : Vol :=
  if !coreRuns s || !onRc s || s.bak.power.hfxoFailed then s
  else { s with bak.power.src := crystalOf s, bak.power.hfxo := true, bak.power.wakeEnd := s.bak.count }

def execHfxoReady (s : State) : Host.Outcome State Fault Refusal := .next (s.up (hfxoReady s.vol))

/-- Work in progress has run on the RC: a slot, a cycle, or the bloom of the cycle to come (R246). -/
def ranOnRc (s : Vol) : Vol :=
  let s := { s with
    work.aux.degraded := s.work.aux.degraded || s.work.aux.isOpen
    work.cyc.bloomRc := s.work.cyc.bloomRc || (s.work.fe.powered && !s.work.cyc.running) }
  if !s.work.cyc.running || s.work.cyc.kind == .loopback then s
  else if s.work.cyc.pairsDone then degradeLate s
  else { s with work.cyc.degraded := true }

/-- HFXO_FAIL: step 4 reaches its maximum, and CORE stays on the RC. -/
def hfxoFail (s : Vol) : Vol :=
  if !coreRuns s || s.bak.power.hfxoFailed then s
  else limM 0x0504 0xFF 0xFF (ranOnRc { s with bak.power.src := .rc, bak.power.hfxo := false, bak.power.hfxoFailed := true, bak.power.wakeEnd := s.bak.count })

def execHfxoFail (s : State) : Host.Outcome State Fault Refusal := .next (s.up (hfxoFail s.vol))

/-- HFXO_RESTORED: the crystal has run 16 384 good periods; the change waits for the end of a round. -/
def hfxoRestored (s : Vol) : Vol :=
  if !coreRuns s || !s.bak.power.hfxoFailed || s.work.fe.round.running then s
  else
    logM 0x0505 0xFF
      { s with bak.power.src := crystalOf s, bak.power.hfxo := true, bak.power.hfxoFailed := false }

def execHfxoRestored (s : State) : Host.Outcome State Fault Refusal := .next (s.up (hfxoRestored s.vol))

/-! ### Failed wakes and LIMP (R532) -/

/-- VCORE_FAIL: step 2 of the wake for `r` fails. -/
def vcoreFail (r : Raised) (collision : Bool) (s : Vol) : Vol :=
  if canWake s && sourceActive s r.source then
    logG 0x0501 1
      { s with
        bak.power.attempts := 1
        bak.power.failTick := s.bak.count
        bak.power.retrying :=
          (lowestSource (raisedWith s (r.source :: r.also))).map fun w => (w, collision && s.bak.power.entering) }
  else s

def execVcoreFail (r : Raised) (collision : Bool) (s : State) : Host.Outcome State Fault Refusal :=
  .next (s.up (vcoreFail r collision (seePins r s.vol)))

/-- The device enters LIMP after the fourth failure. -/
def enterLimp (s : Vol) : Vol :=
  logM 0x0502 0xFF
    { s with
      bak.power.state := .limp
      bak.power.attempts := 0
      bak.power.retrying := none
      bak.power.sealNews := false
      bak.power.limpLast := s.bak.count }

/-- WAKE_RETRY: 1, 2 and 3 s after the failure; the power-fail warning puts it off (R520). -/
def wakeRetry (nv : Nv) (ok : Bool) (s : Vol) : Vol :=
  match s.bak.power.retrying with
  | none => s
  | some (source, collision) =>
    let n := s.bak.power.attempts
    if s.bak.power.state != .sleep || !warningAllows s source
        || decide ((s.bak.count - s.bak.power.failTick).toNat < 64 * n) then s
    else if ok then wakeFor nv source collision s
    else
      let s := logG 0x0501 (n + 1) { s with bak.power.attempts := n + 1 }
      if n + 1 = 4 then enterLimp s else s

def execWakeRetry (ok : Bool) (s : State) : Host.Outcome State Fault Refusal := .next (s.up (wakeRetry s.nv ok s.vol))

/-- What may start an attempt in LIMP, at the present tick. -/
def limpDue (t : LimpTrigger) (s : Vol) : Bool :=
  match t with
  | .hourly =>
    decide (230400 ≤ (s.bak.count - s.bak.power.limpLast).toNat) && (s.bak.pwake.enable != 1 || periodicMatch s)
  | .alarmA => alarmNow false s
  | .alarmB => alarmNow true s
  | .wakeN => true
  | .sealChange => s.bak.power.sealNews

def limpCode : LimpTrigger → Nat
  | .hourly | .sealChange => 0x01
  | .alarmA => 0x02
  | .alarmB => 0x03
  | .wakeN => 0x04

/-- The code of an attempt: the lowest of those that are due on its tick (R304). -/
def limpCodeAt (t : LimpTrigger) (s : Vol) : Nat :=
  ([LimpTrigger.hourly, .alarmA, .alarmB].filter fun u => limpDue u s).foldl (fun a u => min a (limpCode u)) (limpCode t)

/-- WAKE_N has fallen in LIMP, and stays low until a wake says otherwise (R526, DESIGN CHOICE, log entry 80). -/
def limpPins (t : LimpTrigger) (s : Vol) : Vol :=
  if t == .wakeN then { s with bak.power.wakeNIsLow := true, bak.power.wakeNLow := some s.bak.count } else s

/-- LIMP_ATTEMPT: a successful one ends LIMP with a start. Under the power-fail warning none is made (R520). -/
def limpAttempt (nv : Nv) (t : LimpTrigger) (ok : Bool) (i : StartIn) (s : Vol) : Vol :=
  if s.bak.power.state != .limp || s.bak.power.warning || !limpDue t s then s
  else
    let code := limpCodeAt t s
    let s := limpPins t { s with
      bak.power.limpLast := s.bak.count
      bak.power.sealNews := s.bak.power.sealNews && t != .sealChange }
    if ok then
      takeReset nv (resetOf .limp i) false (wakeRecord code false (logM 0x0503 code s))
    else logG 0x0501 0 s

def execLimpAttempt (trigger : LimpTrigger) (ok : Bool) (i : StartIn) (s : State) : Host.Outcome State Fault Refusal :=
  .next (s.up (limpAttempt s.nv trigger ok i s.vol))

/-! ### The watchdog (R543) -/

/-- The watched blocks by their numbers in WDBLOCK. -/
def watched (s : Vol) (b : Nat) : Bool :=
  match b with
  | 1 | 2 | 3 => true
  | 4 => th s 6 != 15
  | 5 => th s 8 != 15
  | 6 => s.bak.power.state == .measure
  | _ => false

def putCheck (b : Nat) (t : Option (BitVec 32)) (s : Vol) : Vol :=
  { s with bak.power.checks := vset s.bak.power.checks b t }

/-- A check of one block. Whether the block has acknowledged the check before is open; a check that it has not keeps its tick. DESIGN
CHOICE: log entry 96. -/
def checkBlock (b : Nat) (s : Vol) : Vol :=
  if !watched s b then putCheck b none s
  else match vget s.bak.power.checks b with
    | none => putCheck b (some s.bak.count) s
    | some t =>
      let (answered, s) := freeBit s
      putCheck b (some (if answered then s.bak.count else t)) s

/-- 64 ticks have passed since the latest check (R543). -/
def checkDue (s : Vol) : Bool := s.bak.power.lastCheck.all fun t => decide (64 ≤ (s.bak.count - t).toNat)

/-- WATCHDOG_CHECK: every 64 ticks, a check to each watched block. -/
def watchdogCheck (s : Vol) : Vol :=
  if !coreRuns s || !checkDue s then s
  else
    let s := (List.range 7).foldl (init := s) fun s b => checkBlock b s
    { s with bak.power.lastCheck := some s.bak.count }

def execWatchdogCheck (s : State) : Host.Outcome State Fault Refusal := .next (s.up (watchdogCheck s.vol))

/-- WATCHDOG: the block has not acknowledged within 128 ticks of a check. -/
def watchdogResets (nv : Nv) (b : Nat) (i : StartIn) (s : Vol) : Vol :=
  match vget s.bak.power.checks b with
  | some t =>
    if coreRuns s && watched s b && decide (128 ≤ (s.bak.count - t).toNat) then
      requestReset nv { resetOf .wdog i with wdBlock := b } s
    else s
  | none => s

def execWatchdog (block : Fin 7) (i : StartIn) (s : State) : Host.Outcome State Fault Refusal :=
  .next (s.up (watchdogResets s.nv block.val i s.vol))

/-! ### SEAL (R25, R547) -/

/-- A change of SEAL that was accepted in SLEEP wakes the device for what follows it, when the power-fail warning allows (R520, R547). -/
def serveSeal (nv : Nv) (s : Vol) : Vol :=
  if s.bak.power.state == .sleep && s.bak.power.sealNews && !s.bak.power.warning then raiseWake nv .supervisor [] s else s

/-- SEAL is accepted at another level: as open, BLANK or SEALED is left; as linked, loop-backs end, and so does a METROLOGY session on
the initial key. In LIMP the change makes an attempt and follows the LIMP-exit start. -/
def acceptSeal (nv : Nv) (isOpen : Bool) (s : Vol) : Vol :=
  let s := logSeal isOpen { s with bak.sealOpen := isOpen }
  let s := if isOpen then orderIfOpen s
    else endSessionsIf (fun _ x => x.role == .metrology && x.initialKey) (loopEnds 3 s)
  if coreRuns s then s else serveSeal nv { s with bak.power.sealNews := true }

/-- One second has passed since the latest sample of SEAL (R25). -/
def sealSampleDue (s : Vol) : Bool :=
  match s.bak.sealTick with
  | some t => decide (64 ≤ (s.bak.count - t).toNat)
  | none => true

/-- SEAL_SAMPLE: a change of level is accepted after 3 consecutive equal samples. -/
def sealSample (nv : Nv) (isOpen : Bool) (s : Vol) : Vol :=
  if s.bak.power.state == .off || s.bak.power.state == .keep || !sealSampleDue s then s
  else
    let s := { s with bak.sealTick := some s.bak.count }
    if isOpen == s.bak.sealOpen then { s with bak.sealCand := isOpen, bak.sealRun := 0 }
    else
      let run := if s.bak.sealCand == isOpen then s.bak.sealRun + 1 else 1
      if run < 3 then { s with bak.sealCand := isOpen, bak.sealRun := run }
      else
        acceptSeal nv isOpen { s with bak.sealCand := isOpen, bak.sealRun := 0 }

def execSealSample (isOpen : Bool) (s : State) : Host.Outcome State Fault Refusal :=
  .next (s.up (sealSample s.nv isOpen s.vol))

end Sys2Proof.Machine
end

