-- ==== Sys2Proof/Machine/Power.lean ====
section
/-! DEFINITION. The falling supply (R129, R336, R377, R510, R519, R520, R606, R609): the warning and the flush, the
switch-over, the brown-out, KEEP and IOVDD; and SYNC and CLKO of a chain (R563 to R566). -/

namespace Sys2Proof.Machine

/-! ### The warning trims the line (R377, R606) -/

/-- The waiting pages that the flush keeps: the 2 oldest LEGAL page writes in the line. -/
def keptPages (s : Vol) : List Req :=
  ((s.work.store.line.filter fun r => !r.started && legalPage r.page).take 2).map fun r => { r with flush := true }

/-- The waiting pages that are removed, those of the initiators included, oldest first. -/
def removedPages (s : Vol) : List Req :=
  let waiting := s.work.store.line.filter fun r => !r.started
  let kept := (waiting.filter fun r => legalPage r.page).take 2
  (waiting.filter fun r => !kept.contains r) ++ s.work.store.held

/-- A removed page that enters the pending list: a LEGAL page or one of the STORE's own. The entry that a token waits for does not: the
token ends in STORE (R349, DEDUCED, log entry 18). -/
def entersPending (s : Vol) (r : Req) : Bool :=
  !r.object &&
    match r.job with
    | .tokenLog => !tokenAwaits s r
    | .scrub | .repair => true
    | _ => legalPage r.page

/-- The removed pages of the object write in hand (R606). -/
def trimObject (nv : Nv) (gone : List Req) (s : Vol) : Vol :=
  let mine := gone.filter (·.object)
  if mine.isEmpty then s
  else
    let pend := fun (s : Vol) => mine.foldl (fun s r => addPending r.toPending s) s
    match s.work.ex.inHand with
    | some { await := .copyB, .. } => pend s
    | _ => if inHandCommitted s then commitEarly nv (pend s) else failWrite s

/-- What becomes of the removed pages. -/
def trimLine (nv : Nv) (s : Vol) : Vol :=
  let gone := removedPages s
  let kept := keptPages s
  let s := { s with
    work.store.line := s.work.store.line.filter (·.started) ++ kept
    work.store.held := []
    work.store.failed := 0 }
  let s := (gone.filter (entersPending s)).foldl (fun s r => addPending (pendOf gone r) s) s
  let s := (gone.filter (·.job == .tokenLog)).foldl (init := s) fun s r =>
    tokenPageDone nv false (BitVec.ofNat 32 (pageSeq r.data)) s
  trimObject nv gone s

/-- The flush: the kept pages, then a slot of ring A, then one of ring B, as step 4 of the tick's order, after its booking and steps
1 to 3 (R336, R377). -/
def requestFlush (nv : Nv) (s : Vol) : Vol :=
  let s := trimLine nv (if noLedger s then bookEvent s.bak.count s else billingTick nv s)
  let add := fun (r : Req) (s : Vol) =>
    { s with work.store.line := s.work.store.line ++ [{ r with flush := true }] }
  let s := if noLedger s then s else add (ringAReq nv s) s
  let s := if noLedger s then s else add (ringBReq nv s) s
  startHead
    { s with
      work.store.present := true
      work.store.flushing := s.work.store.line.any (·.flush)
      work.store.flushed := 0 }

/-- The warning with CORE running. A commit that stands on the tick comes before its events (R295). -/
def warned (nv : Nv) (s : Vol) : Vol :=
  let s := displayInterrupt (requestFlush nv (clockCommit nv s))
  { s with work.cyc.abandon := s.work.cyc.abandon || s.work.cyc.running }

/-- POWER_FAIL_WARNING, with VRES as the flush finds it. A sleeping device is woken for the flush. -/
def powerFailWarning (nv : Nv) (vres : BitVec 8) (s : Vol) : Vol :=
  let st := s.bak.power.state
  if st == .off || st == .keep || s.bak.power.warning then s
  else
    let s := { s with
      bak.power.warning := true
      bak.power.browned := false
      bak.power.vsupOk := false
      work.store.vres := vres }
    let s := if st == .sleep then wakeFor nv .supervisor false s else s
    if coreRuns s then logG 0x0507 0xFF (warned nv s) else logG 0x0507 0xFF s

def execPowerFailWarning (vres : BitVec 8) (s : State) : Host.Outcome State Fault Refusal :=
  .next (s.up (powerFailWarning s.nv vres s.vol))

/-- WARNING_CLEAR: VSUP has risen above 2.50 V. A wake that the warning has held up is made (R335, R547). -/
def warningClear (nv : Nv) (s : Vol) : Vol :=
  if !s.bak.power.warning then s
  else
    let browned := s.bak.power.browned
    let s := { s with bak.power.warning := false, bak.power.browned := false, bak.power.vsupOk := true }
    let s := if browned then s else logG 0x0508 0xFF s
    let s := flushShort s
    if coreRuns s then lineGoesOn nv (displayResume s) else serveSeal nv (heldWake nv s)

def execWarningClear (s : State) : Host.Outcome State Fault Refusal := .next (s.up (warningClear s.nv s.vol))

/-! ### Switch-over, brown-out, KEEP (R377, R519) -/

/-- The front end and the TIMING ENGINE stop: the round in progress gives pairs marked GAP, the cycle ends, and an open
slot ends as with a loss of FINE lock (R139, R377). -/
def measureStops (s : Vol) : Vol :=
  let ix := s.work.fe.round.index
  let s :=
    if !s.work.cyc.running then s
    else if s.work.fe.round.waiting.isSome then endAbandoned ix s
    else endAbandoned (ix + 1) (gapSets [0, 1, 2, 3] s)
  let s := if s.work.aux.isOpen then slotLosesLock s else s
  leaveMeasure { s with work.fe.powered := false, work.cyc.feHeld := false, work.aux.due := false }

/-- SWITCH_OVER: the regulator takes its supply from VRES. -/
def switchOver (s : Vol) : Vol :=
  let st := s.bak.power.state
  if st == .off || st == .keep || !s.bak.power.warning || s.bak.power.onVres then s
  else measureStops { s with bak.power.onVres := true }

def execSwitchOver (s : State) : Host.Outcome State Fault Refusal := .next (s.up (switchOver s.vol))

/-- BROWN_OUT: a reset is requested for the end of the flush (R377), and every freeze is released (R289). -/
def brownOut (s : Vol) : Vol :=
  let st := s.bak.power.state
  if st == .off || st == .keep || !s.bak.power.warning then s
  else { s with bak.power.brownOut := true, bak.power.browned := true, bak.freeze := none, bak.staleReaders := [] }

def execBrownOut (s : State) : Host.Outcome State Fault Refusal := .next (s.up (brownOut s.vol))

/-- The energy of a write or of the flush fails: the write in progress is torn, and the flush ends as at a page that finds VRES low
(R379, R540, R609). -/
def energyFails (s : State) : State :=
  let s := tearHead s
  let v := flushEnds s.vol
  { s with vol.work.store := { v.work.store with line := v.work.store.line.filter (!·.started) }, vol.ret := v.ret }

/-- KEEP_ENTRY: the flush and the write before it have ended, or their energy has failed (R540, DESIGN CHOICE, log entry 90); no hold of
SLEEP entry counts (R69). -/
def keepEntry (s : State) : State :=
  if !s.vol.bak.power.brownOut then s
  else
    let s := if storeRuns s.vol then energyFails s else s
    s.up { endWork s.vol with
      bak.power.state := .keep
      bak.power.brownOut := false
      bak.power.onVres := false
      bak.power.retrying := none
      bak.power.attempts := 0
      bak.power.deferred := none
      bak.power.testenHold := none }

def execKeepEntry (s : State) : Host.Outcome State Fault Refusal := .next (keepEntry s)

/-- IOVDD_LOW: the outputs are driven low. -/
def iovddLow (s : Vol) : Vol :=
  if !coreRuns s then s else limG 0x0509 0xFF 0xFF { s with bak.power.iovddLow := true }

def execIovddLow (s : State) : Host.Outcome State Fault Refusal := .next (s.up (iovddLow s.vol))

/-! ### SYNC and CLKO (R563 to R566) -/

/-- SYNC_LEAD: the primary pulls SYNC low, and a sleeping one wakes for its cycle. -/
def syncLead (nv : Nv) (s : Vol) : Vol :=
  if !isPrimary s || !sourceActive s .cycle || !(coreRuns s || canWake s) then s
  else
    let s := raiseWake nv .cycle [] s
    { s with work.chain.syncLow := true, work.chain.syncHeld := true }

def execSyncLead (s : State) : Host.Outcome State Fault Refusal := .next (s.up (syncLead s.nv s.vol))

/-- SYNC_FALL: a secondary wakes and holds SYNC, unless it still runs its previous cycle, which it counts (R127). -/
def syncFall (nv : Nv) (s : Vol) : Vol :=
  if !isSecondary s then s
  else
    let s := raiseWake nv .chainSync [] s
    if !coreRuns s then s
    else
      let busy := s.work.cyc.running
      let takes := !busy && !s.bak.power.warning
      let s := { s with work.chain.syncLow := true, work.chain.syncHeld := takes, work.chain.takesPart := takes }
      if busy then overrun s else s

def execSyncFall (s : State) : Host.Outcome State Fault Refusal := .next (s.up (syncFall s.nv s.vol))

/-- SYNC_RELEASE: the device lets SYNC go: its bloom has ended, or on a secondary 10 ms have passed. -/
def execSyncRelease (s : State) : Host.Outcome State Fault Refusal :=
  .next { s with vol.work.chain.syncHeld := false }

/-- SYNC_RISE: every device has released SYNC; those that take part begin their first round. -/
def syncRise (vdrv : Nat) (s : Vol) : Vol :=
  if !s.work.chain.syncLow || s.work.chain.syncHeld then s
  else
    let s := { s with work.chain.syncLow := false }
    if isPrimary s then cycleStart vdrv { s with work.chain.takesPart := true }
    else if s.work.chain.takesPart then cycleStart vdrv s
    else s

def execSyncRise (vdrv : Nat) (s : State) : Host.Outcome State Fault Refusal := .next (s.up (syncRise vdrv s.vol))

/-- CHAIN_SYNC_STUCK: the primary starts its cycle alone, where one may start, and every secondary path of it is DISCARDED with cause GAP. -/
def chainSyncStuck (vdrv : Nat) (s : Vol) : Vol :=
  if !isPrimary s || !s.work.chain.syncLow || !coreRuns s then s
  else
    let s := { s with work.chain.syncLow := false, work.chain.syncHeld := false, work.chain.takesPart := false }
    let t := cycleStart vdrv s
    if t.work.cyc.running && !s.work.cyc.running then logM 0x0183 0xFF t else t

def execChainSyncStuck (vdrv : Nat) (s : State) : Host.Outcome State Fault Refusal :=
  .next (s.up (chainSyncStuck vdrv s.vol))

/-- CLKO_STOP: a running secondary changes to its RC. -/
def clkoStop (s : Vol) : Vol :=
  if coreRuns s && s.bak.power.src == .clko then
    ranOnRc { s with bak.power.src := .rc, bak.power.hfxo := false }
  else s

def execClkoStop (s : State) : Host.Outcome State Fault Refusal := .next (s.up (clkoStop s.vol))

end Sys2Proof.Machine
end

