-- ==== Sys2Proof/Machine/Dispatch.lean ====
section
/-! DEFINITION. The effect of a command: one arm per constructor, each one call of its meaning. -/

namespace Sys2Proof.Machine

/-- The effect of a command on everything but the queue. -/
def exec (i : Instr) (s : State) : Host.Outcome State Fault Refusal :=
  match i with
  -- supplies, resets and power states (R519, R377, R537, R539)
  | .vbkRelease pins => Sys2Proof.Machine.execVbkRelease pins s
  | .vbkLoss => Sys2Proof.Machine.execVbkLoss s
  | .brownoutRelease pins => Sys2Proof.Machine.execBrownoutRelease pins s
  | .vcoreBrownout pins => Sys2Proof.Machine.execVcoreBrownout pins s
  | .pinReset => Sys2Proof.Machine.execPinReset s
  | .testenRelease pins => Sys2Proof.Machine.execTestenRelease pins s
  | .powerFailWarning vres => Sys2Proof.Machine.execPowerFailWarning vres s
  | .warningClear => Sys2Proof.Machine.execWarningClear s
  | .switchOver => Sys2Proof.Machine.execSwitchOver s
  | .brownOut => Sys2Proof.Machine.execBrownOut s
  | .keepEntry => Sys2Proof.Machine.execKeepEntry s
  | .iovddLow => Sys2Proof.Machine.execIovddLow s
  -- the thatch (R25, R45)
  | .thatchReread pins inDoze => Sys2Proof.Machine.execThatchReread pins inDoze s
  | .sealSample isOpen => Sys2Proof.Machine.execSealSample isOpen s
  -- clock domains and crossings (R51 to R60)
  | .lfStandin => Sys2Proof.Machine.execLfStandin s
  | .lfRestored measured => Sys2Proof.Machine.execLfRestored measured s
  | .pllUnlock => Sys2Proof.Machine.execPllUnlock s
  | .relockTimeout => Sys2Proof.Machine.execRelockTimeout s
  | .lineLost => Sys2Proof.Machine.execLineLost s
  | .lineRestored inputs => Sys2Proof.Machine.execLineRestored inputs s
  | .arbitrationAge target who => Sys2Proof.Machine.execArbitrationAge target who s
  | .fabricRetry present others => Sys2Proof.Machine.execFabricRetry present others s
  | .blockIdleTimeout target => Sys2Proof.Machine.execBlockIdleTimeout target s
  -- cycles, rounds and shots (R99, R110, R123, R533)
  | .cycleWakeLead => Sys2Proof.Machine.execCycleWakeLead s
  | .measureEntry => Sys2Proof.Machine.execMeasureEntry s
  | .cycleStart vdrv => Sys2Proof.Machine.execCycleStart vdrv s
  | .shot coarse quiet => Sys2Proof.Machine.execShot coarse quiet s
  | .slotShot slot => Sys2Proof.Machine.execSlotShot slot s
  | .burstEnd slot vdrv => Sys2Proof.Machine.execBurstEnd slot vdrv s
  | .driverLimit port => Sys2Proof.Machine.execDriverLimit port s
  | .blankingEnd slot => Sys2Proof.Machine.execBlankingEnd slot s
  | .comparatorGateEnd slot => Sys2Proof.Machine.execComparatorGateEnd slot s
  | .comparatorArmed set t code => Sys2Proof.Machine.execComparatorArmed set t code s
  | .armingConfirmed set t code => Sys2Proof.Machine.execArmingConfirmed set t code s
  | .armingWithdrawn set t => Sys2Proof.Machine.execArmingWithdrawn set t s
  | .risingCrossing lane source falling t => Sys2Proof.Machine.execRisingCrossing lane source falling t s
  | .cellCycleEnd lane cell t v cstop => Sys2Proof.Machine.execCellCycleEnd lane cell t v cstop s
  | .epochMarker lane => Sys2Proof.Machine.execEpochMarker lane s
  | .searchWindowClose slot => Sys2Proof.Machine.execSearchWindowClose slot s
  | .calRunDone lane cell t m => Sys2Proof.Machine.execCalRunDone lane cell t m s
  | .startupCalibration m => Sys2Proof.Machine.execStartupCalibration m s
  | .auxCellRecal lane cell t => Sys2Proof.Machine.execAuxCellRecal lane cell t s
  | .settleEnd vdrv => Sys2Proof.Machine.execSettleEnd vdrv s
  | .receptionClose lane t0 env => Sys2Proof.Machine.execReceptionClose lane t0 env s
  | .flowStale => Sys2Proof.Machine.execFlowStale s
  -- acoustic loop-backs (R104 to R107, R169)
  | .acousticLoopbackInjector f => Sys2Proof.Machine.execAcousticLoopbackInjector f s
  | .acousticLoopbackReference f => Sys2Proof.Machine.execAcousticLoopbackReference f s
  | .acousticLoopbackCrosspoint f => Sys2Proof.Machine.execAcousticLoopbackCrosspoint f s
  | .acousticLoopbackStop f => Sys2Proof.Machine.execAcousticLoopbackStop f s
  | .loopbackStart => Sys2Proof.Machine.execLoopbackStart s
  | .loopbackTimeout => Sys2Proof.Machine.execLoopbackTimeout s
  | .loopbackEnd => Sys2Proof.Machine.execLoopbackEnd s
  -- port, line and display loop-backs (R453, R486, R514)
  | .portLoopbackDigital f => Sys2Proof.Machine.execPortLoopbackDigital f s
  | .portLoopbackPin f => Sys2Proof.Machine.execPortLoopbackPin f s
  | .portLoopbackStart => Sys2Proof.Machine.execPortLoopbackStart s
  | .portLoopbackEnd bits back aborted => Sys2Proof.Machine.execPortLoopbackEnd bits back aborted s
  | .lineLoopbackSymbol f => Sys2Proof.Machine.execLineLoopbackSymbol f s
  | .lineLoopbackAnalog f => Sys2Proof.Machine.execLineLoopbackAnalog f s
  | .lineLoopbackExternal f => Sys2Proof.Machine.execLineLoopbackExternal f s
  | .lineLoopbackEnd aborted => Sys2Proof.Machine.execLineLoopbackEnd aborted s
  | .displayReadbackRequest f => Sys2Proof.Machine.execDisplayReadbackRequest f s
  | .displayLoopbackStart failing => Sys2Proof.Machine.execDisplayLoopbackStart failing s
  -- frequency and interval inputs (R262, R266, R269, R273, R274)
  | .auxSlotDue => Sys2Proof.Machine.execAuxSlotDue s
  | .auxSlotOpen coarse => Sys2Proof.Machine.execAuxSlotOpen coarse s
  | .gateClose => Sys2Proof.Machine.execGateClose s
  | .intervalClose => Sys2Proof.Machine.execIntervalClose s
  | .intervalTimeout => Sys2Proof.Machine.execIntervalTimeout s
  | .finPulse p => Sys2Proof.Machine.execFinPulse p s
  | .pulseCountCopy => Sys2Proof.Machine.execPulseCountCopy s
  | .countClear f => Sys2Proof.Machine.execCountClear f s
  -- the timekeeper (R283 to R302)
  | .tempRead reading => Sys2Proof.Machine.execTempRead reading s
  | .tcorrWindow => Sys2Proof.Machine.execTcorrWindow s
  | .periodicWake => Sys2Proof.Machine.execPeriodicWake s
  | .alarmMatch b => Sys2Proof.Machine.execAlarmMatch b s
  | .pwronEvaluate => Sys2Proof.Machine.execPwronEvaluate s
  | .calendarWrap => Sys2Proof.Machine.execCalendarWrap s
  | .clockSet f => Sys2Proof.Machine.execClockSet f s
  | .clockCommit => Sys2Proof.Machine.execClockCommit s
  | .slewTick => Sys2Proof.Machine.execSlewTick s
  | .stageTimeout => Sys2Proof.Machine.execStageTimeout s
  | .freezeTimeout => Sys2Proof.Machine.execFreezeTimeout s
  -- billing (R313 to R335)
  | .intervalEnd => Sys2Proof.Machine.execIntervalEnd s
  | .billingBoundary => Sys2Proof.Machine.execBillingBoundary s
  | .hwmRegained => Sys2Proof.Machine.execHwmRegained s
  | .eventTickHeld => Sys2Proof.Machine.execEventTickHeld s
  | .tariffAccepted low0 low1 => Sys2Proof.Machine.execTariffAccepted low0 low1 s
  | .tariffInputFault input => Sys2Proof.Machine.execTariffInputFault input s
  -- prepayment (R342 to R359)
  | .keyDigit d => Sys2Proof.Machine.execKeyDigit d s
  | .keyClear => Sys2Proof.Machine.execKeyClear s
  | .keyEnter => Sys2Proof.Machine.execKeyEnter s
  | .keyStart => Sys2Proof.Machine.execKeyStart s
  | .keyStop => Sys2Proof.Machine.execKeyStop s
  | .keyEmerg => Sys2Proof.Machine.execKeyEmerg s
  | .keyInfo => Sys2Proof.Machine.execKeyInfo s
  | .keyRelease => Sys2Proof.Machine.execKeyRelease s
  | .entryTimeout => Sys2Proof.Machine.execEntryTimeout s
  | .tokenSubmit f => Sys2Proof.Machine.execTokenSubmit f s
  | .lockoutEnd => Sys2Proof.Machine.execLockoutEnd s
  | .tokenApply => Sys2Proof.Machine.execTokenApply s
  | .pourEnd => Sys2Proof.Machine.execPourEnd s
  -- the store (R368, R374, R390, R426)
  | .pageWriteDone verifyOk vres ms => Sys2Proof.Machine.execPageWriteDone verifyOk vres ms s
  | .reserveCheck vsupOk vres => Sys2Proof.Machine.execReserveCheck vsupOk vres s
  | .reserveLow => Sys2Proof.Machine.execReserveLow s
  | .scrub read => Sys2Proof.Machine.execScrub read s
  | .logWindowEnd log code key => Sys2Proof.Machine.execLogWindowEnd log code key s
  -- object exchange (R402 to R422)
  | .open_ f => Sys2Proof.Machine.execOpen f s
  | .openProof f => Sys2Proof.Machine.execOpenProof f s
  | .authLockoutEnd role => Sys2Proof.Machine.execAuthLockoutEnd role s
  | .close f => Sys2Proof.Machine.execClose f s
  | .get f => Sys2Proof.Machine.execGet f s
  | .next f => Sys2Proof.Machine.execNext f s
  | .set f => Sys2Proof.Machine.execSet f s
  | .keyWrite f => Sys2Proof.Machine.execKeyWrite f s
  | .calibrationSetWrite f => Sys2Proof.Machine.execCalibrationSetWrite f s
  | .profileTableWrite f => Sys2Proof.Machine.execProfileTableWrite f s
  | .curveWrite f => Sys2Proof.Machine.execCurveWrite f s
  | .periodicWakeWrite f => Sys2Proof.Machine.execPeriodicWakeWrite f s
  | .pscaleWrite f => Sys2Proof.Machine.execPscaleWrite f s
  | .tariffConfig f => Sys2Proof.Machine.execTariffConfig f s
  | .priceChanged f => Sys2Proof.Machine.execPriceChanged f s
  | .siteNotesWrite f => Sys2Proof.Machine.execSiteNotesWrite f s
  | .rosterWrite f => Sys2Proof.Machine.execRosterWrite f s
  | .templateWrite f => Sys2Proof.Machine.execTemplateWrite f s
  | .driveCurveWrite f => Sys2Proof.Machine.execDriveCurveWrite f s
  | .lineSettingsWrite f => Sys2Proof.Machine.execLineSettingsWrite f s
  | .portSettingsWrite f => Sys2Proof.Machine.execPortSettingsWrite f s
  | .sealAction f => Sys2Proof.Machine.execSealAction f s
  | .retireAction f => Sys2Proof.Machine.execRetireAction f s
  | .sessionTimeout slot => Sys2Proof.Machine.execSessionTimeout slot s
  | .slotReserveTimeout slot => Sys2Proof.Machine.execSlotReserveTimeout slot s
  -- wired and optical ports (R430 to R448)
  | .frameSilenceTimeout port => Sys2Proof.Machine.execFrameSilenceTimeout port s
  | .replyTransmit port => Sys2Proof.Machine.execReplyTransmit port s
  | .mbusSndNke addr => Sys2Proof.Machine.execMbusSndNke addr s
  | .mbusReqUd2 addr fcb => Sys2Proof.Machine.execMbusReqUd2 addr fcb s
  | .mbusSndUd addr fcb ci f => Sys2Proof.Machine.execMbusSndUd addr fcb ci f s
  | .mbusBaudSwitch addr ud => Sys2Proof.Machine.execMbusBaudSwitch addr ud s
  | .mbusSelect p => Sys2Proof.Machine.execMbusSelect p s
  | .mbusBaudTimeout => Sys2Proof.Machine.execMbusBaudTimeout s
  | .linkNop => Sys2Proof.Machine.execLinkNop s
  | .linkWrite b => Sys2Proof.Machine.execLinkWrite b s
  | .linkRead clocks => Sys2Proof.Machine.execLinkRead clocks s
  | .linkDeselect tail => Sys2Proof.Machine.execLinkDeselect tail s
  | .hostSymbols body => Sys2Proof.Machine.execHostSymbols body s
  | .hbeatEdge => Sys2Proof.Machine.execHbeatEdge s
  | .hostSilent => Sys2Proof.Machine.execHostSilent s
  | .fallbackStart ctx => Sys2Proof.Machine.execFallbackStart ctx s
  | .lineHandback => Sys2Proof.Machine.execLineHandback s
  | .pulseStart p => Sys2Proof.Machine.execPulseStart p s
  | .pulseEnd out => Sys2Proof.Machine.execPulseEnd out s
  -- signalling over the power wiring (R457 to R477)
  | .lineHalfCycle ctx h => Sys2Proof.Machine.execLineHalfCycle ctx h s
  | .phaseMissing ctx => Sys2Proof.Machine.execPhaseMissing ctx s
  | .driveRecord ctx t => Sys2Proof.Machine.execDriveRecord ctx t s
  | .linePoll ctx => Sys2Proof.Machine.execLinePoll ctx s
  | .lineObject ctx => Sys2Proof.Machine.execLineObject ctx s
  | .lineReading ctx => Sys2Proof.Machine.execLineReading ctx s
  | .nodeReply ctx => Sys2Proof.Machine.execNodeReply ctx s
  | .pollAttempt ctx => Sys2Proof.Machine.execPollAttempt ctx s
  | .pollWaitTimeout ctx => Sys2Proof.Machine.execPollWaitTimeout ctx s
  | .sweepStart ctx => Sys2Proof.Machine.execSweepStart ctx s
  -- the display (R498 to R506)
  | .displayFrameStart => Sys2Proof.Machine.execDisplayFrameStart s
  | .rectangleEnd ix => Sys2Proof.Machine.execRectangleEnd ix s
  | .infoTimeout => Sys2Proof.Machine.execInfoTimeout s
  | .tokenResultTimeout => Sys2Proof.Machine.execTokenResultTimeout s
  -- power states and waking (R527 to R533)
  | .sleepEntry => Sys2Proof.Machine.execSleepEntry s
  | .wake r collision => Sys2Proof.Machine.execWake r collision s
  | .hfxoReady => Sys2Proof.Machine.execHfxoReady s
  | .hfxoFail => Sys2Proof.Machine.execHfxoFail s
  | .hfxoRestored => Sys2Proof.Machine.execHfxoRestored s
  | .pllLock => Sys2Proof.Machine.execPllLock s
  | .pllLockFail => Sys2Proof.Machine.execPllLockFail s
  | .vcoreFail r collision => Sys2Proof.Machine.execVcoreFail r collision s
  | .wakeRetry ok => Sys2Proof.Machine.execWakeRetry ok s
  | .limpAttempt trigger ok pins => Sys2Proof.Machine.execLimpAttempt trigger ok pins s
  | .watchdogCheck => Sys2Proof.Machine.execWatchdogCheck s
  | .watchdog block pins => Sys2Proof.Machine.execWatchdog block pins s
  -- the life cycle and availability (R551, R558)
  | .lifecycleChange pins => Sys2Proof.Machine.execLifecycleChange pins s
  | .availWindow => Sys2Proof.Machine.execAvailWindow s
  -- several devices on one board (R563 to R571)
  | .syncLead => Sys2Proof.Machine.execSyncLead s
  | .syncFall => Sys2Proof.Machine.execSyncFall s
  | .syncRelease => Sys2Proof.Machine.execSyncRelease s
  | .syncRise vdrv => Sys2Proof.Machine.execSyncRise vdrv s
  | .chainSyncStuck vdrv => Sys2Proof.Machine.execChainSyncStuck vdrv s
  | .chainToken r => Sys2Proof.Machine.execChainToken r s
  | .chainPath r => Sys2Proof.Machine.execChainPath r s
  | .chainEnd r => Sys2Proof.Machine.execChainEnd r s
  | .chainDecideTimeout => Sys2Proof.Machine.execChainDecideTimeout s
  | .clkoStop => Sys2Proof.Machine.execClkoStop s
  | .rstNRelease pins => Sys2Proof.Machine.execRstNRelease pins s
  | .auxSlotWakeLead => Sys2Proof.Machine.execAuxSlotWakeLead s
  | .tokenReturned r => Sys2Proof.Machine.execTokenReturned r s

end Sys2Proof.Machine
end

