-- ==== Sys2Proof/Machine/Pins.lean ====
section
/-! DEFINITION. The output pins (R342, R355, R432, R439, R441, R445, R448, R449, R461, R489, R519, R562 to R564, R595): what each pin
shows, as a function of the state. -/

namespace Sys2Proof.Machine

/-- The level of a digital pin: driven low, driven high, or at high impedance. -/
inductive PinOut where
  | low | high | highZ
deriving DecidableEq, Repr, Inhabited

def PinOut.of (b : Bool) : PinOut := if b then .high else .low

/-- A pin referred to IOVDD (R519, R595): high impedance in KEEP and OFF, its reset state while a reset is held, low once IOVDD has been
found low, and otherwise what its block drives. The manual does not say when outputs driven low are released: they stay so until the
next start. DESIGN CHOICE: log entry 150. -/
def ioPin (s : Vol) (inReset level : PinOut) : PinOut :=
  match s.bak.power.state with
  | .off | .keep => .highZ
  | .held => inReset
  | _ => if s.bak.power.iovddLow then .low else level

/-- A push-pull output that is low in reset. -/
def lowPin (s : Vol) (level : Bool) : PinOut := ioPin s .low (.of level)

/-! ### Serial ports -/

/-- The bit that a port sends in bit time i of its latest reply, from its first start bit; none while it sends nothing. -/
def bitSent (s : Vol) (p : Port) (i : Option Int) : Option Bool :=
  i.bind fun i => if i < 0 then none else (pinLevels p (vget s.work.ex.sent (portIx p)))[i.toNat]?

/-- OPTX: high for a binary 0, and low whenever the port sends nothing (R432). -/
def optxPin (s : Vol) (i : Option Int) : PinOut := lowPin s ((bitSent s .optical i).getD false)

/-- TXD485 idles high (R439, R595). -/
def txd485Pin (s : Vol) (i : Option Int) : PinOut := ioPin s .high (.of ((bitSent s .rs485 i).getD true))

/-- DE485 is high from one bit time before the first start bit of a reply to one bit time after its last stop bit (R439). -/
def de485Pin (s : Vol) (i : Option Int) : PinOut :=
  let n : Int := (pinLevels .rs485 (vget s.work.ex.sent 2)).length
  lowPin s (i.any fun i => decide (0 < n ∧ -1 ≤ i ∧ i ≤ n))

/-- A byte on the chain link (R567): start bit, eight bits from the most significant one, stop bit. -/
def chainBits (b : Byte) : List Bool := false :: byteBits b ++ [true]

/-- CHOUT in bit time i of the records that the device sends; the line idles at 1 (R562, R567). -/
def choutPin (s : Vol) (i : Option Nat) : PinOut :=
  ioPin s .high (.of ((i.bind fun i => (s.work.chain.chout.flatten.flatMap chainBits)[i]?).getD true))

/-! ### LINK, the chain and the clock output -/

/-- LSDO drives while LCS_N is low (R595). -/
def lsdoPin (s : Vol) : PinOut :=
  ioPin s .highZ (if s.work.pt.link.lcsLow then .of s.work.pt.link.lsdo else .highZ)

/-- LALERT (R445). -/
def lalertPin (s : Vol) : PinOut := lowPin s (portInSet s .link && lalert s)

/-- SYNC is pulled low or released (R564, R565). -/
def syncPin (s : Vol) : PinOut := ioPin s .highZ (if s.work.chain.syncHeld then .low else .highZ)

/-- CLKO copies the crystal of a primary from step 4 of its wake until CORE stops, and never the RC (R563). -/
def clkoRuns (s : Vol) : Bool := isPrimary s && coreRuns s && s.bak.power.src == .crystal

/-- CLKO, where the crystal stands at a level. -/
def clkoPin (s : Vol) (crystal : Bool) : PinOut := lowPin s (clkoRuns s && crystal)

/-! ### Pulses, valve, mains and panel -/

/-- A pulse output holds its open drain low for a pulse, and is released otherwise (R448, R595). -/
def pulsePin (s : Vol) (o : PulseOut) : PinOut :=
  let low := match o with
    | .a => s.work.pt.pulseA.low
    | .b => s.work.pt.pulseB.low
  if low && pulsesRun s then .low else .highZ

/-- FLOWDIR stays low without a pulse value (R449). -/
def flowdirPin (s : Vol) : PinOut := lowPin s ((pulseValue s).isSome && s.work.pt.flowDir)

/-- VALVE (R355). -/
def valvePin (s : Vol) : PinOut := lowPin s s.work.pre.valve

/-- PDA, PDB and PDC at tick t of half-cycle h; the pin of a context not in use is inactive (R455, R461). -/
def pdPin (s : Vol) (k : Nat) (h : BitVec 16) (t : Nat) : PinOut :=
  lowPin s (lineUp s k && pdAt (lctx s k) h t)

/-- PMIC_EN (R489, R494). -/
def pmicPin (s : Vol) : PinOut := lowPin s ((panel s).isSome && s.work.disp.pmic)

/-- The panel bus in clock k of the line period for row n: SDSP, GDCLK, GDSP, SDLE, SDOE, GDOE and SD0 to SD7 (R489, R492). -/
def panelBus (s : Vol) (n k : Nat) : List PinOut :=
  let p := panelPins s n k
  ([p.sdsp, p.gdclk, p.gdsp, p.sdle, p.sdoe, p.gdoe] ++ (List.range 8).map p.sd.getLsbD).map (lowPin s)

/-- ROW0 to ROW3, where a scan drives the row given (R342); without prepayment they stay low, as in reset. -/
def rowPin (s : Vol) (scanned : Option (Fin 4)) (r : Fin 4) : PinOut :=
  ioPin s .low (match (rowPins s scanned).map (vget · r.val) with
    | some .highZ => .highZ
    | _ => .low)

/-- PWRON is referred to VBK: it follows its schedule in every state but OFF (R302, R595). -/
def pwronPin (s : Vol) : PinOut := if s.bak.power.state == .off then .highZ else .of s.bak.pwronLevel

/-- A TP pin: GND through 1 kΩ whenever the front end is powered down, and otherwise what the plan and the round make of it (R74, R85,
R523, R595). -/
def tpPin (s : Vol) (p : Fin 16) : PinHold := if s.bak.power.state == .measure then pinHold s p else .gnd

end Sys2Proof.Machine
end

