-- ==== Sys2Proof/Safety.lean ====
section
/-! DEFINITION. The terms in which claims speak of the block as a whole: the invariant of the store array, and what a step may
do to it. -/

namespace Sys2Proof.Machine

/-- Every address of the array is one of the 8 192 pages of 64 bytes (R365). -/
def memBounded (m : List Host.Cell) : Bool := m.all fun c => decide (c.1 < 524288)

/-- The store as plain data: the bytes in canonical form and inside the array, and one condition at most for each of its
pages. -/
def storeInv (nv : Nv) : Bool :=
  Memory.wf nv.mem && memBounded nv.mem && nv.ecc.all (fun p => decide (p.1 < 8192))
    && decide (nv.ecc.map (·.1)).Nodup

/-- The invariant of every state of the block. -/
def State.Inv (s : State) : Prop := storeInv s.nv = true

/-- A byte of the store array. -/
def State.storeByte (s : State) (a : Nat) : Byte := memRead s.nv.mem a

/-! ### Frames (R398 to R415) -/

/-- The command that carries a frame of a row. -/
def Row.instr : Row → Frame → Instr
  | .open_ => .open_ | .proof => .openProof | .close => .close | .get => .get | .next => .next | .set => .set
  | .key => .keyWrite | .calib => .calibrationSetWrite | .prof => .profileTableWrite | .curve => .curveWrite
  | .pwake => .periodicWakeWrite | .pscale => .pscaleWrite | .tariff => .tariffConfig | .price => .priceChanged
  | .notes => .siteNotesWrite | .roster => .rosterWrite | .template => .templateWrite | .driveCurve => .driveCurveWrite
  | .line => .lineSettingsWrite | .port => .portSettingsWrite | .seal => .sealAction | .retire => .retireAction
  | .count => .countClear | .token => .tokenSubmit | .clock => .clockSet | .acInjector => .acousticLoopbackInjector
  | .acReference => .acousticLoopbackReference | .acCross => .acousticLoopbackCrosspoint | .acStop => .acousticLoopbackStop
  | .portDigital => .portLoopbackDigital | .portPin => .portLoopbackPin | .lineSymbol => .lineLoopbackSymbol
  | .lineAnalog => .lineLoopbackAnalog | .lineExternal => .lineLoopbackExternal | .readback => .displayReadbackRequest

/-- The engine takes the frame at once: its port is live and follows its bits, the frame is valid, and nothing is in hand (R400,
R405, R433). -/
def frameTaken (s : Vol) (f : Frame) : Bool :=
  coreRuns s && portInSet s f.port && (f.port != .rs485 || (f.addr.toNat : Int) == s.work.pt.rsAddr) && !frameBad f
    && frameHeard s f && !portLooped s f.port && !portBusy s f.port && s.work.ex.inHand.isNone

/-- The port has heard the frame. -/
def heard (f : Frame) (s : Vol) : Vol :=
  let s := takeOptRate f s
  let s := { s with work.ex.lastTraffic := vset s.work.ex.lastTraffic (portIx f.port) (some s.bak.count) }
  if f.port = .mbus then { s with work.pt.mbus.tunnel := true } else s

/-- The frame is the next one of the open session x, with its MAC (R408, R409). -/
def sessionTaken (s : Vol) (f : Frame) (x : Session) : Bool :=
  hasMac f.session && slotAt s (f.session.toNat - 1) == some x && x.port == f.port && !x.reserved
    && beBytes 4 f.mac.toNat == frameMac x.ks 0x00 (frameBody f) && f.seq == x.seq + 1

/-- The state in which a GET, SET or ACTION of the session runs: SEQ is taken, and earlier blocks are dropped (R404, R409). -/
def inSession (f : Frame) (x : Session) (s : Vol) : Vol :=
  putSlot (f.session.toNat - 1)
    (some { x with seq := f.seq, macFails := 0, lastTick := s.bak.count, blocks := [], block := 1 }) (heard f s)

/-- A step that answers a next state. -/
def Runs (s t : State) : Prop := step s = .next t

end Sys2Proof.Machine
end

