-- ==== Sys2Proof/Certificates/Slice0/Obligations.lean ====
section
/-! DEFINITION. The statements for the provers. Where a command's completion is given as an equation, every part of the state
that the equation does not name is unchanged: that is the command's frame. What several commands share (a page in the STORE's
line, an entry in a log, a start, a booking) has statements of its own. -/

open Sys2Proof Sys2Proof.Machine

/-! ### The block as a whole -/

/-- Log entry 1: the queue is the model's own. -/
def Obligations.StepRunsTheFrontCommand : Prop :=
  ∀ (c : Instr) (rest : List Instr) (s : State),
    step { s with pending := c :: rest } = exec c { s with pending := rest }

/-- R282. That an empty queue is a tick is the model's choice (log entry 1). -/
def Obligations.EmptyQueueAdvancesOneTick : Prop :=
  ∀ s : State, s.pending = [] →
    (s.vol.bak.power.state ≠ .off →
      ∃ t, step s = .next t ∧ t.vol.bak.count = s.vol.bak.count + 1 ∧ t.nv = s.nv ∧ t.pending = []) ∧
    (s.vol.bak.power.state = .off → step s = .next s)

/-- The store array as plain data, over every step from every state. -/
def Obligations.EveryStepKeepsTheStoreInvariant : Prop :=
  ∀ s t : State, s.Inv → Runs s t → t.Inv

/-- The state from which a run starts: OFF, with nothing stored and nothing waiting (R366, R523). -/
def Obligations.ResetMeetsTheStoreInvariant : Prop :=
  State.reset.Inv ∧ State.reset.nv.mem = [] ∧ State.reset.pending = [] ∧ State.reset.vol.bak.power.state = .off

/-- No command stops the block: each answers a next state in every state. -/
def Obligations.EveryCommandAnswersANextState : Prop :=
  ∀ (c : Instr) (s : State), ∃ t, exec c s = .next t

/-- R365, R368, R379, R540: the array changes by the completion of a page write, by a tear at the return of VBK and by one at the entry to
KEEP, and by nothing else; nothing is torn while no write is in progress; the wafer trim record never changes, and no command touches
the queue. -/
def Obligations.OnlyPageWritesChangeTheArray : Prop :=
  ∀ (c : Instr) (s t : State), exec c s = .next t →
    t.nv.trim = s.nv.trim ∧ t.pending = s.pending ∧
      ((∀ ok vres ms, c ≠ .pageWriteDone ok vres ms) → (∀ i, c ≠ .vbkRelease i) ∧ c ≠ .keepEntry ∨ writeRuns s.vol = false →
        t.nv = s.nv)

/-! ### The store (R365 to R397, R605 to R609) -/

/-- R368: a write that passes its verify leaves its data in its page with clean ECC; no other byte and no other page's condition
changes. -/
def Obligations.PageWriteStoresItsPage : Prop :=
  ∀ (s : State) (r : Req) (rest : List Req) (vres : BitVec 8) (ms : Nat),
    s.Inv → s.vol.work.store.line = r :: rest → r.started = true → r.page < 8192 →
    ∃ t, exec (.pageWriteDone true vres ms) s = .next t ∧
      memPage t.nv.mem r.page = padTo 64 0xFF r.data ∧ pageCond t.nv r.page = none ∧
      (∀ a, a < 64 * r.page ∨ 64 * r.page + 64 ≤ a → t.storeByte a = s.storeByte a) ∧
      ∀ n, n ≠ r.page → pageCond t.nv n = pageCond s.nv n

/-- R368, R374, R378: the first failed verify repeats the write once; a second ends it, and the bytes of the page are then open
(log entry 3), while no byte outside it changes. An ordinary write starts only under both checks; a failed check leaves it
at the head of the line, and after 1 s of failed checks, one every ms, a ring slot leaves the line for the pending list. -/
def Obligations.PageWritesFailAndWaitForTheReserve : Prop :=
  (∀ (s : State) (r : Req) (rest : List Req) (vres : BitVec 8) (ms : Nat),
     s.Inv → s.vol.work.store.line = r :: rest → r.started = true → r.page < 8192 →
     (r.retried = false →
       exec (.pageWriteDone false vres ms) s =
         .next { s with
           vol.work.store.vres := vres
           vol.work.store.line := { r with retried := true } :: rest }) ∧
     (r.retried = true →
       ∃ t, exec (.pageWriteDone false vres ms) s = .next t ∧
         ∀ a, a < 64 * r.page ∨ 64 * r.page + 64 ≤ a → t.storeByte a = s.storeByte a)) ∧
  (∀ (s : State) (r : Req) (rest : List Req) (vres : BitVec 8),
     s.vol.work.store.line = r :: rest → r.started = false → r.flush = false →
     (coreRuns s.vol = true → s.vol.bak.power.warning = false → s.vol.bak.power.deferred = none → 192 ≤ vres.toNat →
       s.vol.ret.store.pending = [] → s.vol.work.life.change = none → s.vol.work.ex.inHand = none →
       s.vol.work.ex.queue = [] →
       exec (.reserveCheck true vres) s =
         .next { s with
           vol.work.store.vres := vres
           vol.work.store.line := { r with started := true } :: rest
           vol.work.store.failed := 0
           vol.bak.power.vsupOk := true }) ∧
     (∀ ok : Bool, coreRuns s.vol = true → ok = false ∨ vres.toNat < 192 ∨ s.vol.bak.power.warning = true →
       exec (.reserveCheck ok vres) s =
         .next { s with
           vol.work.store.vres := vres
           vol.work.store.failed := s.vol.work.store.failed + 1
           vol.bak.power.vsupOk := ok }) ∧
     (rest = [] → s.vol.work.store.held = [] → r.object = false → r.job = .ringA ∨ r.job = .ringB →
       1000 ≤ s.vol.work.store.failed → reserveOk s.vol = false → s.vol.work.life.change = none →
       s.vol.work.ex.inHand = none → s.vol.work.ex.queue = [] →
       ∃ t, exec .reserveLow s = .next t ∧
         t.vol.ret.store.pending =
           (s.vol.ret.store.pending ++ [r.toPending]).drop (s.vol.ret.store.pending.length + 1 - 32) ∧
         t.vol.work.store.abandoned = satInc s.vol.work.store.abandoned ∧ t.vol.work.store.failed = 0 ∧ t.nv = s.nv))

/-- R390, R391, R426: the scrub that is due advances SCRUBPTR modulo 8 192 and leaves a clean page alone, and waits while the
line is busy; a log window without further occurrences ends and writes nothing, and one with some has its entry's page
rewritten once with the final count. -/
def Obligations.ScrubAndLogWindows : Prop :=
  ∀ s : State, coreRuns s.vol = true →
    (∀ read, s.vol.work.store.scrubDue = true →
      (lineFill s.vol = 0 →
        ∃ t, exec (.scrub read) s = .next t ∧ t.vol.ret.store.scrubPtr = s.vol.ret.store.scrubPtr + 1 ∧ t.nv = s.nv ∧
          t.vol.work.store.scrubDue = false ∧
          (read = .clean → t.vol.work.store.line = s.vol.work.store.line ∧ t.vol.work.store.held = s.vol.work.store.held) ∧
          (read = .uncorrectable → t.vol.work.store.unreadable = satInc s.vol.work.store.unreadable)) ∧
      (lineFill s.vol ≠ 0 → exec (.scrub read) s = .next s)) ∧
    ∀ w : LogWindow,
      s.vol.ret.logs.windows.find? (fun x => x.log == w.log && x.code == w.code && x.key == w.key) = some w →
      230400 ≤ (s.vol.bak.count - w.since).toNat →
      let closed : Vol := { s.vol with
        ret.logs.windows := s.vol.ret.logs.windows.filter fun x =>
          !(x.log == w.log && x.code == w.code && x.key == w.key && logWindowOver s.vol x) }
      let page := logPage w.log w.seq.toNat
      (w.count = 0 → exec (.logWindowEnd w.log w.code w.key) s = .next (s.up closed)) ∧
      (w.count ≠ 0 → entryKept closed w = true → pageValid s.nv closed page = true →
        pageSeq (viewPage s.nv closed page) = w.seq.toNat →
        exec (.logWindowEnd w.log w.code w.key) s =
          .next (s.up (submit (plainReq page (withRepeat (viewPage s.nv closed page) w.count.toNat)
            (.log w.log w.seq.toNat)) closed)))

/-- R378, R425, R426, R532: an entry takes the next sequence number of its log, and its page, number SEQ modulo 256 of the
region, is submitted in the format of R381; an event of LIMP is held in retained RAM. The pending list never holds more than
32 entries: a full list discards its oldest. -/
def Obligations.EntriesAreNumberedAndPended : Prop :=
  (∀ (s : Vol) (code data : Nat),
     (logsWait s = false →
       let n := s.ret.logs.nextM.toNat
       let e := logEntry s 0 code data 0
       logM code data s =
         submit (plainReq (592 + n % 256) (pageForm n 0x0A 0 1 (beBytes 16 (n * 2 ^ 96 + e))) (.log .metrology n))
           { s with ret.logs.nextM := s.ret.logs.nextM + 1 }) ∧
     ∀ l : LogId, s.bak.power.state = .limp →
       logEvent l code data s =
         { s with ret.logs.limp := s.ret.logs.limp ++ [(l, BitVec.ofNat 128 (logEntry s 0 code data 0))] }) ∧
  (∀ (p : Pending) (s : Vol), s.ret.store.pending.length ≤ 32 →
     (addPending p s).ret.store.pending.length ≤ 32 ∧
       (addPending p s).ret.store.pending.getLast? = some p ∧
       (s.ret.store.pending.length = 32 → (addPending p s).ret.store.pending = s.ret.store.pending.tail ++ [p]))

/-! ### Supplies, resets and power states (R25, R45, R377, R519 to R545) -/

/-- R519, R537 to R539, R541, R542, R611: what ends in a start, with the cause that the reset record takes. The backup domain of a
cold start begins on the LF stand-in with OSF set; RST_N and TESTEN give the start that they held, the replies outliving a
life-cycle change; where a pin holds it no start follows yet. -/
def Obligations.ResetsAndReturnsOfSupplyStartTheDevice : Prop :=
  ∀ (s : State) (i : StartIn),
    (i.testen = false → i.rstLow = false → s.vol.bak.power.rstLow = false →
      (s.vol.bak.power.state = .off → writeRuns s.vol = false →
        exec (.vbkRelease i) s = .next (s.up (startUp s.nv (resetOf .por i) false
          { s.vol with
            work := workClear
            bak.osf := true
            bak.power.lfStandin := true
            bak.power.coldStandin := true }))) ∧
      (s.vol.bak.power.state = .keep →
        exec (.brownoutRelease i) s = .next (s.up (startUp s.nv (resetOf .bor i) false s.vol))) ∧
      (resettable s.vol = true → s.vol.bak.power.state ≠ .held → storeRuns s.vol = false →
        exec (.vcoreBrownout i) s = .next (s.up (startUp s.nv (resetOf .vcore i) false s.vol))) ∧
      ∀ (b : Fin 7) t, vget s.vol.bak.power.checks b.val = some t → coreRuns s.vol = true → watched s.vol b.val = true →
        128 ≤ (s.vol.bak.count - t).toNat → storeRuns s.vol = false →
        exec (.watchdog b i) s =
          .next (s.up (startUp s.nv { cause := .wdog, pins := i, defer := 0, late := false, wdBlock := b.val } false s.vol))) ∧
    (∀ h, i.testen = false → s.vol.bak.power.rstLow = true → s.vol.bak.power.state = .held →
      s.vol.bak.power.deferred = some h → storeRuns s.vol = false →
      let v : Vol := { s.vol with bak.power.rstLow := false }
      let t := startUp s.nv { h with pins := { i with rstLow := false } } h.late v
      exec (.rstNRelease i) s = .next (s.up (if h.cause = .lifecycle then keepReplies v t else t))) ∧
    (∀ h c, i.rstLow = false → s.vol.bak.power.testenHold = some c → s.vol.bak.power.deferred = some h →
      s.vol.bak.power.rstLow = false →
      let v : Vol := { s.vol with bak.power.testenHold := none }
      let t := startUp s.nv { h with pins := { i with testen := false } } h.late v
      exec (.testenRelease i) s = .next (s.up (if h.cause = .lifecycle then keepReplies v t else t))) ∧
    (s.vol.bak.power.state = .keep → i.testen = true ∨ i.rstLow = true ∨ s.vol.bak.power.rstLow = true →
      ∃ t, exec (.brownoutRelease i) s = .next t ∧ t.vol.bak.power.state = .held ∧
        t.vol.bak.power.rstLow = (s.vol.bak.power.rstLow || i.rstLow) ∧
        t.vol.bak.power.testenHold = (if i.testen then some .bor else none) ∧
        t.vol.bak.power.deferred = some (resetOf .bor i) ∧ t.vol.bak.power.core = false ∧ t.nv = s.nv)

/-- R529, R541, R545: a start leaves DOZE with CORE on the internal RC and the reset record naming its cause; from KEEP it rewrites
the last-wake record, by the plan that it has taken. -/
def Obligations.AStartLeavesDozeAndNamesItsCause : Prop :=
  ∀ (nv : Nv) (h : HeldReset) (deferred : Bool) (s : Vol),
    let t := startUp nv h deferred s
    t.bak.power.state = .doze ∧ t.bak.power.core = true ∧ t.bak.power.full = true ∧ t.bak.power.src = .rc ∧
      t.bak.power.hfxo = false ∧ t.bak.power.pll = false ∧ t.bak.power.deferred = none ∧
      t.ret.reset.cause = BitVec.ofNat 5 (causeCode h.cause) ∧ t.ret.reset.cold = (h.cause == .por) ∧
      t.ret.reset.defer = BitVec.ofNat 8 (min h.defer 255) ∧ t.ret.flow.restartGap = true ∧
      (h.cause ≠ .bor → t.bak.lastWake = s.bak.lastWake) ∧
      (h.cause = .bor → t.bak.lastWake.source = (if planMeasures t then 0x0D else 0x01) ∧
        t.bak.lastWake.count = s.bak.lastWake.count + 1)

/-- R537, R538, R540: RST_N low stops CORE and clears working RAM, while retained RAM and the backup domain keep what no rule
ends; a reset waits for a page write or the flush and changes nothing else meanwhile. -/
def Obligations.AResetHoldsTheDeviceOrWaitsForTheStore : Prop :=
  ∀ s : State, resettable s.vol = true → s.vol.bak.power.state ≠ .held →
    (s.vol.bak.power.brownOut = false → storeRuns s.vol = false →
      ∃ t, exec .pinReset s = .next t ∧ t.vol.bak.power.state = .held ∧ t.vol.bak.power.core = false ∧
        t.vol.bak.power.rstLow = true ∧ t.vol.bak.power.deferred = some (resetOf .pin default) ∧
        t.vol.work.ex = workClear.ex ∧ t.vol.work.cyc = workClear.cyc ∧ t.vol.work.obj = workClear.obj ∧
        t.vol.ret.led = { s.vol.ret.led with interval := t.vol.ret.led.interval, span := t.vol.ret.led.span } ∧
        (s.vol.work.loop.running = false → t.vol.ret.led = s.vol.ret.led) ∧
        t.vol.ret.reset = s.vol.ret.reset ∧ t.vol.bak.cal = s.vol.bak.cal ∧
        t.vol.bak.count = s.vol.bak.count ∧ t.nv = s.nv) ∧
    (s.vol.bak.power.brownOut = true → exec .pinReset s = .next s) ∧
    (storeRuns s.vol = true → s.vol.bak.power.deferred = none →
      (∀ i, exec (.vcoreBrownout i) s =
        .next { s with vol.bak.power.deferred := some { resetOf .vcore i with late := true } }) ∧
      (s.vol.bak.power.brownOut = false →
        exec .pinReset s =
          .next { s with
            vol.bak.power.rstLow := true
            vol.bak.power.deferred := some { resetOf .pin default with late := true } }))

/-- R377, R379, R519, R520, R542, R554, R609: the warning with CORE running requests the flush, with a slot of each ring where the
LEDGER gives service; the warning clears; the switch-over to VRES, the brown-out, KEEP, which tears no other page than the one in
progress, the loss of VBK, which leaves only the store, and IOVDD, which drives the outputs low. -/
def Obligations.TheSupplyFallsFromWarningToOff : Prop :=
  ∀ s : State,
    (∀ vres : BitVec 8, coreRuns s.vol = true → s.vol.bak.power.state = .doze → s.vol.bak.power.warning = false →
      120 ≤ vres.toNat →
      (commitStands s.vol = true →
        exec (.powerFailWarning vres) s =
          .next (s.up (logG 0x0507 0xFF (warned s.nv
            { s.vol with
              bak.power.warning := true
              bak.power.browned := false
              bak.power.vsupOk := false
              work.store.vres := vres })))) ∧
      (commitStands s.vol = false →
      ∃ t, exec (.powerFailWarning vres) s = .next t ∧ t.vol.bak.power.warning = true ∧ t.vol.bak.power.vsupOk = false ∧
        t.vol.work.store.vres = vres ∧
        (noLedger s.vol = false → t.vol.work.store.flushing = true ∧
          (t.vol.work.store.line.any fun r => r.flush && r.job == .ringA) = true ∧
          (t.vol.work.store.line.any fun r => r.flush && r.job == .ringB) = true) ∧
        t.nv = s.nv)) ∧
    (s.vol.bak.power.warning = true → s.vol.bak.power.state ≠ .off → s.vol.bak.power.state ≠ .keep →
      exec .brownOut s =
        .next { s with
          vol.bak.power.brownOut := true
          vol.bak.power.browned := true
          vol.bak.freeze := none
          vol.bak.staleReaders := [] }) ∧
    (s.vol.bak.power.warning = true → s.vol.bak.power.onVres = false → s.vol.bak.power.state ≠ .off →
      s.vol.bak.power.state ≠ .keep →
      (s.vol.bak.power.state = .doze → s.vol.work.cyc.running = false → s.vol.work.aux.isOpen = false →
        exec .switchOver s =
          .next { s with
            vol.bak.power.onVres := true
            vol.work.fe.powered := false
            vol.work.cyc.feHeld := false
            vol.work.aux.due := false }) ∧
      ∃ t, exec .switchOver s = .next t ∧ t.vol.bak.power.onVres = true ∧ t.vol.work.fe.powered = false ∧
        t.vol.work.cyc.running = false ∧ t.nv = s.nv) ∧
    (s.vol.bak.power.brownOut = true → storeRuns s.vol = false →
      ∃ t, exec .keepEntry s = .next t ∧ t.vol.bak.power.state = .keep ∧ t.vol.bak.power.core = false ∧
        t.vol.bak.power.full = false ∧ t.vol.work.ex = workClear.ex ∧
        t.vol.ret.led = { s.vol.ret.led with interval := t.vol.ret.led.interval, span := t.vol.ret.led.span } ∧
        (s.vol.work.loop.running = false → t.vol.ret.led = s.vol.ret.led) ∧ t.vol.bak.cal = s.vol.bak.cal ∧ t.nv = s.nv) ∧
    (∀ r rest, s.vol.bak.power.brownOut = true → s.vol.work.store.line = r :: rest → r.started = true → s.Inv →
      ∃ t, exec .keepEntry s = .next t ∧ t.vol.bak.power.state = .keep ∧ t.vol.bak.power.core = false ∧
        ∀ a, a < 64 * r.page ∨ 64 * r.page + 64 ≤ a → t.storeByte a = s.storeByte a) ∧
    (s.vol.bak.power.state ≠ .off →
      ∃ t, exec .vbkLoss s = .next t ∧ t.vol.ret = retClear ∧ t.vol.bak = { bakClear with osfCause := 3 } ∧
        t.vol.work.ex = workClear.ex ∧ t.vol.work.th = thatchClear ∧ t.vol.work.life = lifeClear ∧ t.nv = s.nv) ∧
    (s.vol.bak.power.warning = true → s.vol.work.life.change = none → s.vol.work.ex.inHand = none →
      s.vol.work.ex.queue = [] →
      ∃ t, exec .warningClear s = .next t ∧ t.vol.bak.power.warning = false ∧ t.vol.bak.power.browned = false ∧
        t.vol.bak.power.vsupOk = true ∧ t.nv = s.nv) ∧
    (coreRuns s.vol = true →
      exec .iovddLow s = .next (s.up (limG 0x0509 0xFF 0xFF { s.vol with bak.power.iovddLow := true })) ∧
      (s.vol.bak.power.state = .doze ∨ s.vol.bak.power.state = .measure →
        ∃ t, exec .iovddLow s = .next t ∧
          ∀ (i : Option Int) (j : Option Nat) (b : Bool) (k tick : Nat) (h : BitVec 16),
            optxPin t.vol i = .low ∧ txd485Pin t.vol i = .low ∧ de485Pin t.vol i = .low ∧ choutPin t.vol j = .low ∧
              lalertPin t.vol = .low ∧ clkoPin t.vol b = .low ∧ flowdirPin t.vol = .low ∧ valvePin t.vol = .low ∧
              pdPin t.vol k h tick = .low ∧ pmicPin t.vol = .low))

/-- R303, R304, R528 to R530: a wake of an active source runs CORE on the internal RC in DOZE and rewrites the last-wake record
with the lowest code among the sources raised on the same LF period; COLLISION is set only at the tick of a sleep entry, and there
as the command says. For a source that the device raises itself on that tick it is open (log entry 142). -/
def Obligations.AWakeRunsCoreAndRecordsItsSource : Prop :=
  ∀ (s : State) (c : Instr) (w : WakeSource) (also : List WakeSource),
    canWake s.vol = true → sourceActive s.vol w = true → w ≠ .supervisor →
    (∃ low collision, c = .wake ⟨w, also, low⟩ collision) ∨
      ((c = .cycleWakeLead ∧ w = .cycle ∧ also = [] ∧ isPrimary s.vol = false) ∨
        (c = .auxSlotWakeLead ∧ w = .auxSlot ∧ also = [.cycle]) ∨
        (c = .alarmMatch false ∧ w = .alarmA ∧ also = []) ∨ (c = .alarmMatch true ∧ w = .alarmB ∧ also = [])) →
    ∃ t u, exec c s = .next t ∧ t.vol.bak.power.state = .doze ∧ t.vol.bak.power.core = true ∧ t.vol.bak.power.full = true ∧
      t.vol.bak.power.src = .rc ∧ t.vol.bak.power.attempts = 0 ∧
      u ∈ raisedWith s.vol (w :: also) ∧ u ≠ .supervisor ∧
      (∀ v ∈ raisedWith s.vol (w :: also), v ≠ .supervisor → wakeCode u ≤ wakeCode v) ∧
      t.vol.bak.lastWake.source = BitVec.ofNat 6 (wakeCode u) ∧
      (s.vol.bak.power.entering = false → t.vol.bak.lastWake.collision = false) ∧
      (∀ low collision, c = .wake ⟨w, also, low⟩ collision → s.vol.bak.power.entering = true →
        t.vol.bak.lastWake.collision = collision) ∧
      t.vol.bak.lastWake.untrusted = s.vol.bak.osf ∧ t.vol.bak.lastWake.subsec = s.vol.bak.cal.subsec ∧
      t.vol.bak.lastWake.count = s.vol.bak.lastWake.count + 1 ∧ t.vol.bak.count = s.vol.bak.count ∧ t.nv = s.nv

/-- R69, R299, R523, R525, R526: with no hold and a window that reaches 20 ms, CORE and HFXO stop, the STORE and the DISPLAY lose their
supply and the device sleeps; a hold keeps it awake, and so do a scheduled wake on the next tick, WAKE_N low and the 1 s after it was
seen low. A match of the periodic wake wakes it with source 0x01 and starts LINGER where DUTY asks for it. Whether the window reaches
20 ms where a scheduled wake belongs to the tick after the next, and the WAKE operand for the level of WAKE_N, are the model's choice
(log entry 80). -/
def Obligations.SleepEndsWithThePeriodicWake : Prop :=
  ∀ s : State,
    (s.vol.bak.power.state = .doze → sleepHeld s.vol = false → s.vol.bak.power.deferred = none →
      let asleep := fun (v : Vol) => { s with
        vol := { v with
          bak.power.state := .sleep
          bak.power.core := false
          bak.power.full := false
          bak.power.src := .rc
          bak.power.hfxo := false
          bak.power.entering := true
          bak.power.checks := Vector.replicate 7 none
          bak.power.lastCheck := none
          bak.power.lingerFrom := none
          work.store.present := false
          work.disp.present := false } }
      (wakeNext s.vol = true → exec .sleepEntry s = .next s) ∧
      (wakeNext s.vol = false → wakeNext (tickOn s.vol) = false → exec .sleepEntry s = .next (asleep s.vol)) ∧
      (wakeNext s.vol = false → wakeNext (tickOn s.vol) = true →
        exec .sleepEntry s = .next { s with vol.free := s.vol.free + 1 } ∨
          exec .sleepEntry s = .next (asleep { s.vol with free := s.vol.free + 1 }))) ∧
    (sleepHeld s.vol = true → exec .sleepEntry s = .next s) ∧
    (∀ t, s.vol.bak.power.wakeNLow = some t → (s.vol.bak.count - t).toNat < 64 → exec .sleepEntry s = .next s) ∧
    (s.vol.bak.power.wakeNIsLow = true → exec .sleepEntry s = .next s) ∧
    (∀ also low c, canWake s.vol = false →
      exec (.wake ⟨.wakeN, also, low⟩ c) s =
        .next { s with
          vol.bak.power.wakeNIsLow := low
          vol.bak.power.wakeNLow := some s.vol.bak.count
          vol.work.pt.link.lcsLow := s.vol.work.pt.link.lcsLow || also.contains .link }) ∧
    (periodicMatch s.vol = true → canWake s.vol = true → s.vol.bak.power.warning = false →
      ∃ t, exec .periodicWake s = .next t ∧ t.vol.bak.power.core = true ∧ t.vol.bak.lastWake.source = 1 ∧
        (s.vol.bak.pwake.duty.toNat / 2 % 2 = 1 → t.vol.bak.power.lingerFrom = some s.vol.bak.count)) ∧
    (periodicMatch s.vol = true → coreRuns s.vol = true → s.vol.bak.pwake.duty.toNat % 4 = 2 →
      exec .periodicWake s = .next { s with vol.bak.power.lingerFrom := some s.vol.bak.count })

/-- R520, R532: a failed wake is retried after 1, 2 and 3 s; the fourth failure enters LIMP; an attempt that succeeds ends LIMP with a
start of cause 6. Under the power-fail warning neither is made. -/
def Obligations.FailedWakesLeadToLimpAndOutOfIt : Prop :=
  ∀ s : State,
    (∀ w also low c, canWake s.vol = true → sourceActive s.vol w = true →
      ∃ u ∈ raisedWith s.vol (w :: also),
        (u ≠ .supervisor → ∀ v ∈ raisedWith s.vol (w :: also), v ≠ .supervisor → wakeCode u ≤ wakeCode v) ∧
        exec (.vcoreFail ⟨w, also, low⟩ c) s =
          .next (s.up (logG 0x0501 1
            { seePins ⟨w, also, low⟩ s.vol with
              bak.power.attempts := 1
              bak.power.failTick := s.vol.bak.count
              bak.power.retrying := some (u, c && s.vol.bak.power.entering) }))) ∧
    (∀ w c, s.vol.bak.power.retrying = some (w, c) → s.vol.bak.power.state = .sleep →
      64 * s.vol.bak.power.attempts ≤ (s.vol.bak.count - s.vol.bak.power.failTick).toNat →
      (warningAllows s.vol w = false → ∀ ok, exec (.wakeRetry ok) s = .next s) ∧
      (warningAllows s.vol w = true →
        (∃ t, exec (.wakeRetry true) s = .next t ∧ t.vol.bak.power.state = .doze ∧ t.vol.bak.power.core = true ∧
          t.vol.bak.power.retrying = none ∧ t.vol.bak.power.attempts = 0) ∧
        (s.vol.bak.power.attempts < 3 →
          exec (.wakeRetry false) s =
            .next (s.up (logG 0x0501 (s.vol.bak.power.attempts + 1)
              { s.vol with bak.power.attempts := s.vol.bak.power.attempts + 1 }))) ∧
        (s.vol.bak.power.attempts = 3 →
          ∃ t, exec (.wakeRetry false) s = .next t ∧ t.vol.bak.power.state = .limp ∧ t.vol.bak.power.attempts = 0 ∧
            t.vol.bak.power.retrying = none ∧ t.vol.bak.power.limpLast = s.vol.bak.count))) ∧
    (∀ trigger i, s.vol.bak.power.state = .limp → limpDue trigger s.vol = true →
      (s.vol.bak.power.warning = true → ∀ ok, exec (.limpAttempt trigger ok i) s = .next s) ∧
      (s.vol.bak.power.warning = false →
        let tried := limpPins trigger
          { s.vol with
            bak.power.limpLast := s.vol.bak.count
            bak.power.sealNews := s.vol.bak.power.sealNews && trigger != .sealChange }
        (i.testen = false → i.rstLow = false → s.vol.bak.power.rstLow = false →
          exec (.limpAttempt trigger true i) s =
            .next (s.up (startUp s.nv (resetOf .limp i) false
              (wakeRecord (limpCodeAt trigger s.vol) false (logM 0x0503 (limpCodeAt trigger s.vol) tried))))) ∧
        exec (.limpAttempt trigger false i) s = .next (s.up (logG 0x0501 0 tried))))

/-- R25, R45, R46, R543: every 64 ticks a check goes to each watched block, which keeps the tick of a check that it has not acknowledged;
whether it has acknowledged it is open (log entry 96). SEAL is sampled once per second, and a change of it is accepted at the third
equal sample, and not before; a re-read of the thatch renews LATEST and PENDING and takes no code. -/
def Obligations.BlocksAreCheckedAndSealAndThatchRead : Prop :=
  (∀ s : State, coreRuns s.vol = true →
     (checkDue s.vol = false → exec .watchdogCheck s = .next s) ∧
     (checkDue s.vol = true →
       ∃ t, exec .watchdogCheck s = .next t ∧ t.nv = s.nv ∧ t.vol.work = s.vol.work ∧ t.vol.ret = s.vol.ret ∧
         t.vol.bak.power.core = true ∧ t.vol.bak.power.lastCheck = some s.vol.bak.count ∧
         ∀ b : Nat, b < 7 →
           (watched s.vol b = true → vget s.vol.bak.power.checks b = none →
             vget t.vol.bak.power.checks b = some s.vol.bak.count) ∧
           (watched s.vol b = true → ∀ c, vget s.vol.bak.power.checks b = some c →
             vget t.vol.bak.power.checks b = some c ∨ vget t.vol.bak.power.checks b = some s.vol.bak.count) ∧
           (watched s.vol b = false → vget t.vol.bak.power.checks b = none))) ∧
  (∀ (s : State) (isOpen : Bool), s.vol.bak.power.state ≠ .off → s.vol.bak.power.state ≠ .keep →
     (sealSampleDue s.vol = true →
       (isOpen = s.vol.bak.sealOpen →
         exec (.sealSample isOpen) s =
           .next { s with
             vol.bak.sealTick := some s.vol.bak.count
             vol.bak.sealCand := isOpen
             vol.bak.sealRun := 0 }) ∧
       (isOpen ≠ s.vol.bak.sealOpen → s.vol.bak.sealCand = isOpen → s.vol.bak.sealRun < 2 →
         exec (.sealSample isOpen) s =
           .next { s with
             vol.bak.sealTick := some s.vol.bak.count
             vol.bak.sealCand := isOpen
             vol.bak.sealRun := s.vol.bak.sealRun + 1 }) ∧
       (isOpen ≠ s.vol.bak.sealOpen → s.vol.bak.sealCand = isOpen → s.vol.bak.sealRun = 2 →
         ∃ t, exec (.sealSample isOpen) s = .next t ∧ t.vol.bak.sealOpen = isOpen ∧ t.vol.bak.sealRun = 0 ∧ t.nv = s.nv)) ∧
     (∀ u, s.vol.bak.sealTick = some u → (s.vol.bak.count - u).toNat < 64 → exec (.sealSample isOpen) s = .next s) ∧
     ∀ (i : StartIn) (inDoze : Bool), rereadDue s.vol inDoze = true →
       ∃ t, exec (.thatchReread i inDoze) s = .next t ∧ t.nv = s.nv ∧ t.vol.work.th.lastRead = s.vol.bak.count ∧
         t.vol.work.th.roleTaken = s.vol.work.th.roleTaken ∧ t.vol.work.th.roleRead = i.role ∧
         ∀ f : Nat, f < 12 →
           let old := vget s.vol.work.th.entries f
           let new := vget t.vol.work.th.entries f
           let c := codeOf (rtrefOf s.nv) (ratioOf (vget i.conv f))
           new.taken = old.taken ∧ new.read = old.read ∧ new.reason = old.reason ∧ new.latest = BitVec.ofNat 4 c ∧
             new.pending = (c != old.read.toNat))

/-! ### Clock domains and the fabric (R48 to R60, R116, R531) -/

/-- R57, R58, R60, R68, R246, R297, R530, R531, R611: the crystal of a wake, its failure and its return; the LF stand-in sets
OSF and says so; a plausible crystal takes over again; the LINE clock stops after 1.5 silent periods, its drive records
staying in their FIFO, and starts with its contexts on the first input that shows valid crossings. -/
def Obligations.ClockSourcesAreLostAndRestored : Prop :=
  (∀ s : State,
     (s.vol.bak.power.lfStandin = false → s.vol.bak.power.state ≠ .off →
       ∃ t, exec .lfStandin s = .next t ∧ t.vol.bak.power.lfStandin = true ∧ t.vol.bak.osf = true ∧
         t.vol.bak.osfCause = 2 ∧ t.vol.bak.cal = s.vol.bak.cal ∧ t.vol.bak.count = s.vol.bak.count ∧ t.nv = s.nv) ∧
     (∀ m, s.vol.bak.power.lfStandin = true → lfPlausible s.vol m = true →
       (s.vol.bak.power.coldStandin = true →
         exec (.lfRestored m) s =
           .next { s with vol.bak.power.lfStandin := false, vol.bak.power.coldStandin := false }) ∧
       (s.vol.bak.power.coldStandin = false →
         exec (.lfRestored m) s =
           .next (s.up (logG 0x0206 0xFF
             { s.vol with bak.power.lfStandin := false, bak.power.coldStandin := false })))) ∧
     (lineAbsent s.vol = false →
       ∃ t, exec .lineLost s = .next t ∧ t.vol.work.line.running = false ∧
         t.vol.work.line.kept = some (lineWordsLive s.vol) ∧
         t.vol.work.line.drive.length = s.vol.work.line.drive.length ∧
         (t.vol.work.line.drive.any (·.live)) = false ∧
         ∀ k : Nat, k < 3 → (vget t.vol.work.line.ctxs k).idle = true ∧ (vget t.vol.work.line.ctxs k).queue = []) ∧
     ∀ (l : List (List Nat)) (ref : Fin 3), coreRuns s.vol = true → th s.vol 6 ≠ 15 →
       s.vol.work.line.running = false → crossingsValid s.vol (l.getD ref.val []) = true →
       (∀ i : Nat, i < ref.val → crossingsValid s.vol (l.getD i []) = false) →
       ∃ t, exec (.lineRestored l) s = .next t ∧ t.vol.work.line.running = true ∧ t.vol.work.line.ref = ref ∧
         (vget t.vol.work.line.ctxs ref.val).xofs = 0 ∧
         ∀ k : Nat, k < 3 → (vget t.vol.work.line.ctxs k).hc = 0 ∧ (vget t.vol.work.line.ctxs k).warmup = 2) ∧
  (∀ s : State, coreRuns s.vol = true →
     (onRc s.vol = true → s.vol.bak.power.hfxoFailed = false →
       exec .hfxoReady s =
         .next { s with
           vol.bak.power.src := if isSecondary s.vol then .clko else .crystal
           vol.bak.power.hfxo := true
           vol.bak.power.wakeEnd := s.vol.bak.count }) ∧
     (s.vol.bak.power.hfxoFailed = false → s.vol.work.cyc.kind = .normal → s.vol.work.cyc.pairsDone = false →
       exec .hfxoFail s =
         .next (s.up (limM 0x0504 0xFF 0xFF
           { s.vol with
             work.cyc.degraded := s.vol.work.cyc.degraded || s.vol.work.cyc.running
             work.cyc.bloomRc := s.vol.work.cyc.bloomRc || (s.vol.work.fe.powered && !s.vol.work.cyc.running)
             work.aux.degraded := s.vol.work.aux.degraded || s.vol.work.aux.isOpen
             bak.power.src := .rc
             bak.power.hfxo := false
             bak.power.hfxoFailed := true
             bak.power.wakeEnd := s.vol.bak.count }))) ∧
     (s.vol.bak.power.hfxoFailed = false →
       ∃ t, exec .hfxoFail s = .next t ∧ t.vol.bak.power.src = .rc ∧ t.vol.bak.power.hfxo = false ∧
         t.vol.bak.power.hfxoFailed = true ∧
         (s.vol.work.cyc.running = true → s.vol.work.cyc.kind = .normal → t.vol.work.cyc.degraded = true) ∧
         (s.vol.work.aux.isOpen = true → t.vol.work.aux.degraded = true) ∧ t.nv = s.nv) ∧
     (s.vol.bak.power.hfxoFailed = true → s.vol.work.fe.round.running = false →
       exec .hfxoRestored s =
         .next (s.up (logM 0x0505 0xFF
           { s.vol with
             bak.power.src := if isSecondary s.vol then .clko else .crystal
             bak.power.hfxo := true
             bak.power.hfxoFailed := false }))))

/-- R59, R116, R530, R531: FINE locks, and a round that waited begins; a loss of lock during a round counts once and marks the
round GAP; a wait for lock that fails ends the cycle. -/
def Obligations.FineLockIsTakenAndLost : Prop :=
  ∀ s : State,
    (s.vol.bak.power.state = .measure → s.vol.work.fe.round.waiting = none →
      exec .pllLock s =
        .next { s with vol.bak.power.pll := true, vol.work.cyc.relockFailed := false }) ∧
    (∀ v, s.vol.bak.power.state = .measure → s.vol.work.fe.round.waiting = some v → s.vol.work.cyc.running = true →
      exec .pllLock s =
        .next (s.up (nextRound s.vol.work.fe.round.index v
          { s.vol with bak.power.pll := true, work.cyc.relockFailed := false }))) ∧
    (s.vol.bak.power.pll = true → s.vol.work.fe.round.running = true → s.vol.work.aux.isOpen = false →
      ∃ t, exec .pllUnlock s = .next t ∧ t.vol.bak.power.pll = false ∧
        t.vol.work.fab.pllUnlock = satInc s.vol.work.fab.pllUnlock ∧ t.vol.work.fe.round.gap = true ∧
        t.vol.work.fe.round.lostLock = true ∧ t.vol.work.cyc = s.vol.work.cyc ∧ t.vol.ret = s.vol.ret ∧ t.nv = s.nv) ∧
    (s.vol.work.cyc.running = true → s.vol.bak.power.pll = false →
      (s.vol.work.fe.round.waiting = none →
        exec .relockTimeout s = .next { s with vol.work.cyc.relockFailed := true }) ∧
      (s.vol.work.fe.round.waiting ≠ none →
        ∃ t, exec .relockTimeout s = .next t ∧ t.vol.work.cyc.running = false ∧ t.vol.work.fe.round = default)) ∧
    (s.vol.bak.power.state = .measure → s.vol.bak.power.pll = false → s.vol.work.cyc.running = false →
      ∃ t, exec .pllLockFail s = .next t ∧ t.vol.work.cyc.relockFailed = true ∧ t.vol.work.aux.due = false ∧ t.nv = s.nv)

/-- R51, R53, R54: a request that has waited 32 CORE cycles goes before those that have not; the engine retries an absent block
once, and the woken block grants what waits for it; a block with no work in progress and no request falls absent. -/
def Obligations.TheFabricAgesRetriesAndIdles : Prop :=
  ∀ s : State,
    (∀ target who, coreRuns s.vol = true →
      (∀ r ∈ s.vol.work.fab.waiting, r.target = target → r.aged = false) →
      ∃ t, exec (.arbitrationAge target who) s = .next t ∧ t.nv = s.nv ∧
        (t.vol.work.fab.waiting.filter fun r => r.target == target).head? = some { target, who, aged := true } ∧
        (t.vol.work.fab.waiting.filter fun r => !(r.target == target)) =
          s.vol.work.fab.waiting.filter fun r => !(r.target == target)) ∧
    (∀ f others, s.vol.work.ex.inHand = some { frame := f, clamps := [], clamped := false, await := .retry } →
      s.vol.work.ex.queue = [] →
      ∃ t, exec (.fabricRetry false others) s = .next t ∧ t.vol.work.ex.inHand = none ∧
        t.vol.work.fab.absent = satInc s.vol.work.fab.absent ∧ t.nv = s.nv) ∧
    (∀ f others, s.vol.work.ex.inHand = some { frame := f, clamps := [], clamped := false, await := .retry } →
      s.vol.work.ex.queue = [] → f.cmd = 3 → f.session = 0 → f.stalls = false → writeRuns s.vol = false →
      s.vol.work.store.line.length < 5 → s.vol.work.store.held = [] →
      ∃ t, exec (.fabricRetry true others) s = .next t ∧ t.vol.work.ex.inHand = none ∧
        (t.vol.work.fab.waiting.any fun r => r.target == retryTarget s.vol f) = false ∧
        (retryTarget s.vol f = .store → t.vol.work.store.present = true) ∧
        (retryTarget s.vol f = .display → t.vol.work.disp.present = true) ∧ t.nv = s.nv) ∧
    ((s.vol.work.fab.waiting.any fun r => r.target == .store) = false → s.vol.work.store.line = [] →
      s.vol.work.store.held = [] →
      ∃ t, exec (.blockIdleTimeout .store) s = .next t ∧ t.vol.work.store = { s.vol.work.store with present := false } ∧
        t.vol.ret = s.vol.ret ∧ t.nv = s.nv) ∧
    ((s.vol.work.fab.waiting.any fun r => r.target == .display) = false → s.vol.work.disp.running = [] →
      s.vol.work.disp.pmic = false →
      ∃ t, exec (.blockIdleTimeout .display) s = .next t ∧
        t.vol.work.disp = { s.vol.work.disp with present := false } ∧ t.nv = s.nv) ∧
    ∀ target, (s.vol.work.fab.waiting.any fun r => r.target == target) = true →
      ∃ t, exec (.blockIdleTimeout target) s = .next t ∧ t.vol.work.store = s.vol.work.store ∧
        t.vol.work.disp = s.vol.work.disp ∧ (t.vol.work.fab.waiting.any fun r => r.target == target) = false

/-! ### Cycles, rounds and shots (R78 to R131, R216) -/

/-- R123, R127, R216, R246, R533: MEASURE powers the front end for a cycle that is due, and nothing is powered where none is; a start
tick of a standalone device begins a cycle with its first round, counted, in the orientation that is due, DEGRADED where CORE runs on
the RC; a start tick during a cycle is an overrun; the boundary at which a loop-back has ended starts none (R106). -/
def Obligations.AStartTickBeginsACycle : Prop :=
  ∀ s : State,
    (cyclesRun s.vol = true → measureDue s.vol = true →
      s.vol.bak.power.state = .doze ∨ s.vol.bak.power.state = .measure ∧ s.vol.work.fe.powered = false →
      exec .measureEntry s =
        .next { s with
          vol.bak.power.state := .measure
          vol.work.cyc.bloomRc := onRc s.vol
          vol.work.cyc.relockFailed := false
          vol.work.fe.powered := true
          vol.work.te.calibrated := s.vol.work.te.calibrated && s.vol.work.te.powered
          vol.work.te.powered := true }) ∧
    (cyclesRun s.vol = false ∨ measureDue s.vol = false → exec .measureEntry s = .next s) ∧
    (∀ vdrv, s.vol.work.loop.endTick = some s.vol.bak.count → exec (.cycleStart vdrv) s = .next s) ∧
    ∀ vdrv, s.vol.work.loop.endTick ≠ some s.vol.bak.count → isPrimary s.vol = false → isSecondary s.vol = false → cyclesRun s.vol = true →
      s.vol.work.cyc.nextRate = s.vol.work.cyc.rate → s.vol.work.cyc.seen ≠ some (startTickOf s.vol) →
      mayStart (startTickOf s.vol) s.vol = true → s.vol.work.th.omitCycle = false →
      (s.vol.work.cyc.running = false → s.vol.work.loop.running = false → s.vol.bak.power.pll = true →
        s.vol.work.cyc.abandon = false → roundsOf (th s.vol 0) ≠ [] →
        ∃ t, exec (.cycleStart vdrv) s = .next t ∧ t.vol.work.cyc.running = true ∧ t.vol.work.cyc.kind = .normal ∧
          t.vol.work.cyc.count = s.vol.work.cyc.count + 1 ∧ t.vol.work.cyc.startTick = startTickOf s.vol ∧
          t.vol.work.cyc.seen = some (startTickOf s.vol) ∧ t.vol.work.cyc.swapped = s.vol.work.cyc.nextSwapped ∧
          t.vol.work.cyc.executed = true ∧ t.vol.work.fe.powered = true ∧ t.vol.work.fe.round.running = true ∧
          t.vol.work.fe.round.index = 0 ∧ t.vol.work.fe.round.slots = (roundsOf (th s.vol 0)).headD [] ∧
          t.vol.work.fe.round.unfired = decide (vdrv < 2800) ∧ t.vol.work.obj.calibNew = none ∧
          (onRc s.vol = true → t.vol.work.cyc.degraded = true) ∧ t.nv = s.nv) ∧
      (s.vol.work.cyc.running = true → s.vol.work.cyc.kind = .normal →
        exec (.cycleStart vdrv) s =
          .next (s.up (limM 0x0120 0xFF 0xFF
            { s.vol with
              work.cyc.seen := some (startTickOf s.vol)
              work.cyc.overruns := satInc s.vol.work.cyc.overruns })))

/-- R85 to R94, R99, R110, R113, R137: the first shot opens the epoch on the acoustic lanes and keeps the noise floors; a later
shot gates the sets of the slots before it and fires its own, and the gate ends; a driver damps its port after its burst and
releases it as the receive switches close; VDRV and a driver's limit are reported. -/
def Obligations.ShotsOpenTheEpochAndGateEarlierSlots : Prop :=
  ∀ s : State, s.vol.work.fe.round.running = true →
    (∀ coarse quiet, s.vol.work.fe.round.shots = 0 → s.vol.work.fe.round.settling = false →
      s.vol.work.te.calibrated = true → s.vol.work.te.coarse ≤ coarse →
      ∃ t, exec (.shot coarse quiet) s = .next t ∧ t.vol.work.fe.round.shots = 1 ∧ t.vol.ret = s.vol.ret ∧ t.nv = s.nv ∧
        t.vol.work.te.coarse = coarse ∧
        (∀ k : Nat, k < 4 → (lane t.vol k).epoch = coarse ∧ (lane t.vol k).tentative = 0 ∧
          (lane t.vol k).queue = (lane s.vol k).queue ∧
          ((eset s.vol k).port ≠ none →
            (eset t.vol k).floor = floorOf (vget quiet k) ∧ (eset t.vol k).listening = false)) ∧
        ∀ k : Nat, 4 ≤ k → k < 6 → lane t.vol k = lane s.vol k) ∧
    (s.vol.work.fe.round.unfired = false →
      (∀ j : Fin 4, s.vol.work.fe.round.shots = j.val → j.val ≠ 0 → j.val < s.vol.work.fe.round.slots.length →
        ∃ t, exec (.slotShot j) s = .next t ∧ t.vol.work.fe.round.shots = j.val + 1 ∧ t.vol.work.te = s.vol.work.te ∧
          ∀ k : Nat, k < 4 → eset t.vol k =
            if (eset s.vol k).port.isSome && decide ((eset s.vol k).slot < j.val) then
              { eset s.vol k with gated := true }
            else if (eset s.vol k).port.isSome && (eset s.vol k).slot == j.val && (eset s.vol k).fires then
              { eset s.vol k with drive := .burst }
            else eset s.vol k) ∧
      (∀ j : Fin 4, s.vol.work.fe.round.settling = false → j.val < s.vol.work.fe.round.shots →
        ∃ t, exec (.blankingEnd j) s = .next t ∧ t.vol.work.fe.round = s.vol.work.fe.round ∧
          ∀ k : Nat, k < 4 → eset t.vol k =
            if (eset s.vol k).port.isSome && (eset s.vol k).slot == j.val then
              { eset s.vol k with
                listening := true
                drive := if (eset s.vol k).fires then .released else (eset s.vol k).drive }
            else eset s.vol k) ∧
      (∀ (j : Fin 4) vdrv, s.vol.work.fe.round.shots = j.val + 1 → j.val + 1 = s.vol.work.fe.round.slots.length →
        vdrv < 2800 →
        ∃ t, exec (.burstEnd j vdrv) s = .next t ∧ t.vol.work.fe.round = { s.vol.work.fe.round with gap := true } ∧
          t.vol.work.te = s.vol.work.te ∧ t.nv = s.nv ∧
          ∀ k : Nat, k < 4 → eset t.vol k =
            if (eset s.vol k).port.isSome && (eset s.vol k).slot == j.val && (eset s.vol k).drive == .burst then
              { eset s.vol k with drive := .damping }
            else eset s.vol k) ∧
      (∀ port, s.vol.work.fe.sets.toList.any (fun e => e.port == some port && e.drive == .burst) = true →
        exec (.driverLimit port) s = .next (s.up (limM 0x0111 port.val port.val s.vol)))) ∧
    (∀ j : Fin 4, s.vol.work.fe.round.shots = j.val + 1 →
      ∃ t, exec (.comparatorGateEnd j) s = .next t ∧ t.vol.work.fe.round = s.vol.work.fe.round ∧
        ∀ k : Nat, k < 4 → eset t.vol k =
          if (eset s.vol k).port.isSome && decide ((eset s.vol k).slot < j.val) then
            { eset s.vol k with gated := false } else eset s.vol k)

/-- R92, R158, R173, R176: the comparator arms above three times the floor inside the search window, is confirmed at six times within
sixteen band periods and before the window of its own reception has ended, and is otherwise withdrawn: its stamps leave the queue and the losses since the arming are cancelled.
-/
def Obligations.ArmingIsConfirmedOrWithdrawn : Prop :=
  ∀ (s : State) (k : Fin 4) (t : Nat) (code : BitVec 10),
    let e := eset s.vol k.val
    let l := lane s.vol k.val
    (∀ p, e.port = some p → roundFires s.vol = true → e.listening = true → e.slot < s.vol.work.fe.round.shots →
      e.closed = false → e.armedAt = none → e.endedAt = none → ((searchWindow s.vol p e.slot).1 : Int) ≤ slotTime s.vol e.slot t → t ≤ windowEnd s.vol e →
      3 * max 4 e.floor < code.toNat →
      exec (.comparatorArmed k t code) s =
        .next { s with
          vol.work.fe.sets := vset s.vol.work.fe.sets k.val { e with armedAt := some t, crossings := 0 }
          vol.work.te.lanes := vset s.vol.work.te.lanes k.val
            { l with lossAtArm := vget l.loss p.val, gutterAtArm := l.gutter, tentative := 0 } }) ∧
    (∀ a, e.armedAt = some a → e.confirmed = false → e.closed = false →
      (windowEnd s.vol e < t → exec (.armingConfirmed k t code) s = .next s) ∧
      (a ≤ t → t ≤ windowEnd s.vol e → t ≤ a + 32 * halfPeriod (th s.vol 1) → 6 * max 4 e.floor ≤ code.toNat →
        exec (.armingConfirmed k t code) s =
          .next { s with
            vol.work.fe.sets := vset s.vol.work.fe.sets k.val { e with confirmed := true }
            vol.work.te.lanes := vset s.vol.work.te.lanes k.val { l with tentative := 0 } }) ∧
      (∀ p, e.port = some p → a + 32 * halfPeriod (th s.vol 1) ≤ t →
        ∃ u, exec (.armingWithdrawn k t) s = .next u ∧ (eset u.vol k.val).armedAt = none ∧
          (lane u.vol k.val).queue = l.queue.take (l.queue.length - l.tentative) ∧ (lane u.vol k.val).tentative = 0 ∧
          (lane u.vol k.val).gutter = l.gutterAtArm ∧ u.vol.ret = s.vol.ret ∧ u.nv = s.nv))

/-- R115, R117, R126, R156, R186: the last window of a round closes every set of its slot and the settle begins; the settle is
followed by the next round, or the cycle ends; a reception with its close word is evaluated and kept with its path; a flow
in force beyond its age is stale. -/
def Obligations.RoundsCloseAndFollowOneAnother : Prop :=
  ∀ s : State,
    (∀ j : Fin 4, s.vol.work.fe.round.running = true → s.vol.work.fe.round.settling = false →
      s.vol.work.fe.round.unfired = false → j.val < s.vol.work.fe.round.shots →
      s.vol.work.fe.round.slots.length ≤ s.vol.work.fe.round.windows + 1 →
      (∃ k : Nat, k < 4 ∧ (eset s.vol k).port ≠ none ∧ (eset s.vol k).slot = j.val ∧ (eset s.vol k).closed = false) →
      ∃ t, exec (.searchWindowClose j) s = .next t ∧ t.vol.work.fe.round.settling = true ∧
        t.vol.work.fe.round.windows = s.vol.work.fe.round.windows + 1 ∧ t.nv = s.nv ∧
        ∀ k : Nat, k < 4 → (eset s.vol k).port ≠ none → (eset s.vol k).slot = j.val → (eset t.vol k).closed = true) ∧
    (∀ vdrv, s.vol.work.fe.round.running = true → s.vol.work.fe.round.settling = true → referenceLoop s.vol = false →
      s.vol.work.cyc.abandon = false →
      (s.vol.work.fe.round.index + 1 < (roundsOf (th s.vol 0)).length → s.vol.bak.power.pll = true →
        ∃ t, exec (.settleEnd vdrv) s = .next t ∧ t.vol.work.fe.round.running = true ∧
          t.vol.work.fe.round.index = s.vol.work.fe.round.index + 1 ∧ t.vol.work.fe.round.shots = 0 ∧
          t.vol.work.fe.round.settling = false ∧ t.nv = s.nv) ∧
      ((roundsOf (th s.vol 0)).length ≤ s.vol.work.fe.round.index + 1 →
        ∃ t, exec (.settleEnd vdrv) s = .next t ∧ t.vol.work.cyc.running = false ∧ t.vol.work.fe.round = default ∧
          (inLoop s.vol = false → t.vol.work.cyc.nextSwapped = !s.vol.work.cyc.swapped) ∧ t.nv = s.nv)) ∧
    (∀ (k : Fin 4) t0 env port p words close rest, (eset s.vol k.val).port = some port →
      splitClose port.val [] (lane (drainAll s.vol) k.val).taken = some (words, close, rest) →
      inLoop s.vol = false → setUse s.vol k.val = some (.path p) → p < 33 → port = upPort p →
      (pathW s.vol p).up = none → (eset s.vol k.val).done = false →
      ∃ t, exec (.receptionClose k t0 env) s = .next t ∧ (pathW t.vol p).up ≠ none ∧
        (lane t.vol k.val).taken = rest ∧ t.nv = s.nv) ∧
    (∀ f, s.vol.ret.flow.inForce = some f → ageLimit s.vol < (s.vol.bak.count - f.startTick).toNat →
      exec .flowStale s = .next { s with vol.work.flow.stale := true })

/-! ### Edges, stamps and calibration (R136 to R170) -/

/-- R140, R141, R161: an edge starts the free cell that has been free longest, with C_stop at the second rising FINE edge
after it and the GAP that is due; without a free cell its stamp is lost. -/
def Obligations.TheLongestFreeCellTakesTheEdge : Prop :=
  ∀ (k : Nat) (source : Fin 16) (falling : Bool) (t : Nat) (l : Lane), k < 4 →
    (∀ u, l.lastStart = some u → ¬ (t - u) * 1953125 < 40000000 * 65536) →
    (∀ i : Nat, i < 4 → cellFree t (vget l.cells i) = true →
      (∀ j : Nat, j < 4 → cellFree t (vget l.cells j) = true →
        (vget l.cells i).freeSince < (vget l.cells j).freeSince ∨
          ((vget l.cells i).freeSince = (vget l.cells j).freeSince ∧ i ≤ j)) →
      presentEdge k source falling t l =
        { l with
          cells := vset l.cells i
            { vget l.cells i with
              job := some
                { source, falling, t, cstop := t / 65536 + 2, armed := true, gap := (vget l.loss source.val).gap } }
          loss := vset l.loss source.val { vget l.loss source.val with gap := false }
          lastStart := some t }) ∧
    ((∀ i : Nat, i < 4 → cellFree t (vget l.cells i) = false) →
      presentEdge k source falling t l = loseStamp source.val t l)

/-- R92, R140 to R142, R151 to R153, R157, R257: a crossing of an armed chain and an edge of an open slot go to their lane;
the end of a cell's cycle frees the cell and puts its stamp in the queue; the marker of a wrap carries the count of wraps. -/
def Obligations.CrossingsBecomeStamps : Prop :=
  ∀ s : State,
    (∀ (k : Fin 6) source t, k.val < 4 → roundFires s.vol = true → s.vol.work.te.powered = true →
      s.vol.work.fe.round.lostLock = false →
      (eset s.vol k.val).port = some source → (eset s.vol k.val).armedAt ≠ none → (eset s.vol k.val).gated = false →
      (eset s.vol k.val).closed = false → (eset s.vol k.val).crossings < 63 →
      t + 3356 ≤ ((lane s.vol k.val).epoch + windowEnd s.vol (eset s.vol k.val)) * 65536 →
      exec (.risingCrossing k source false t) s =
        .next (s.up (putLane k.val (presentEdge k.val source false t (lane s.vol k.val)) false
          { s.vol with
            work.te.coarse := max s.vol.work.te.coarse (t / 65536)
            work.fe.sets := vset s.vol.work.fe.sets k.val
              { eset s.vol k.val with crossings := (eset s.vol k.val).crossings + 1, endedAt := none } }))) ∧
    (∀ (k : Fin 6) (n : Fin 16) t, 4 ≤ k.val → s.vol.work.aux.isOpen = true → s.vol.work.aux.closing = none →
      s.vol.work.te.powered = true → finLane n.val = k.val → s.vol.work.aux.interval = false → n.val < 4 →
      finMode (th s.vol 9) n.val ≠ 0 → s.vol.work.aux.live.contains n.val = true → (vget s.vol.work.aux.sensors n.val).pol = 0 →
      (vget s.vol.work.aux.sensors n.val).presc = 0 →
      (lane s.vol k.val).epoch * 65536 ≤ t → t + 3356 ≤ ((lane s.vol k.val).epoch + slotCloseT s.vol) * 65536 →
      ∃ u, exec (.risingCrossing k n false t) s = .next u ∧ u.nv = s.nv ∧
        lane u.vol k.val = presentEdge k.val n false t (lane s.vol k.val)) ∧
    (∀ (k : Fin 6) (i : Fin 4) t v j tau, k.val < 4 → (vget (lane s.vol k.val).cells i.val).job = some j →
      j.armed = true → s.vol.work.fe.round.lostLock = false → cycleEnds (lane s.vol k.val) j t = true →
      chargeTime (linTable s.nv k.val i.val) (16 * v.toNat) (vget (lane s.vol k.val).cells i.val) = some tau →
      (lane s.vol k.val).queue.length < 512 →
      ∃ u, exec (.cellCycleEnd k i t v j.cstop) s = .next u ∧ u.nv = s.nv ∧
        (vget (lane u.vol k.val).cells i.val).job = none ∧ (vget (lane u.vol k.val).cells i.val).freeSince = t ∧
        let x := stampUnits (((j.cstop : Int) - (lane s.vol k.val).epoch) * 65536 - tau)
        stampWord j.source.val (b2n j.gap) 0 (b2n j.falling) (b2n (decide (2 ^ 40 ≤ x))) (x / 4096) x ∈
          (lane u.vol k.val).queue) ∧
    (∀ k : Fin 6, 4 ≤ k.val → s.vol.work.aux.isOpen = true →
      (∀ i : Nat, i < 4 → ∀ j, (vget (lane s.vol k.val).cells i).job = some j → j.armed = true →
        ((lane s.vol k.val).epoch + ((lane s.vol k.val).wraps + 1) * 2 ^ 28) * 65536 ≤ j.t) →
      ∃ u, exec (.epochMarker k) s = .next u ∧ (lane u.vol k.val).wraps = (lane s.vol k.val).wraps + 1 ∧
        (lane u.vol k.val).queue.getLast? = some (stampWord 0 0 1 0 1 ((lane s.vol k.val).wraps + 1) 0) ∧
        u.vol.ret = s.vol.ret ∧ u.nv = s.nv)

/-- R146 to R150: an accepted settle run, the mean of eight measurements, moves the coefficients a quarter of the way to what it
measured and a rejected one leaves them and counts; the start-up calibration gives a cell the mean of its sixteen; on an AUX
lane the rotation begins the run of the next cell. -/
def Obligations.CalibrationRunsMoveTheCoefficients : Prop :=
  ∀ s : State,
    (∀ (k : Fin 6) (i : Fin 4) t (mT m2T : List (BitVec 12)), s.vol.work.te.powered = true →
      mT.length = 8 → m2T.length = 8 → (vget (lane s.vol k.val).cells i.val).out = false →
      (vget (lane s.vol k.val).cells i.val).calibrating = true → referenceLoop s.vol = false ∨ 4 ≤ k.val →
      (runRejected (vget (lane s.vol k.val).cells i.val) false (meanCode mT) (meanCode m2T) = false →
        ∃ u, exec (.calRunDone k i t ⟨mT, m2T⟩) s = .next u ∧ u.nv = s.nv ∧
          let c := vget (lane s.vol k.val).cells i.val
          let d := vget (lane u.vol k.val).cells i.val
          d.vT = ofInt 16 ((c.vT.toNat : Int) + roundUp ((meanCode mT : Int) - c.vT.toNat) 4) ∧
            d.v2T = ofInt 16 ((c.v2T.toNat : Int) + roundUp ((meanCode m2T : Int) - c.v2T.toNat) 4) ∧
            d.rejects = 0 ∧ d.calibrating = false ∧ d.freeSince = t * 65536 ∧
            (lane u.vol k.val).calFail = (lane s.vol k.val).calFail) ∧
      (runRejected (vget (lane s.vol k.val).cells i.val) false (meanCode mT) (meanCode m2T) = true →
        ∃ u, exec (.calRunDone k i t ⟨mT, m2T⟩) s = .next u ∧ u.nv = s.nv ∧
          let c := vget (lane s.vol k.val).cells i.val
          let d := vget (lane u.vol k.val).cells i.val
          d.vT = c.vT ∧ d.v2T = c.v2T ∧ d.rejects = c.rejects + 1 ∧ d.calibrating = false ∧
            (lane u.vol k.val).calFail = satInc (lane s.vol k.val).calFail)) ∧
    (∀ m : Vector (Vector CalCodes 4) 6, s.vol.work.te.powered = true → s.vol.work.te.calibrated = false →
      (∀ k i : Nat, k < 6 → i < 4 → (vget (vget m k) i).ofT.length = 16 ∧ (vget (vget m k) i).of2T.length = 16) →
      ∃ u, exec (.startupCalibration m) s = .next u ∧ u.nv = s.nv ∧ u.vol.work.te.calibrated = true ∧
        ∀ k i : Nat, k < 6 → i < 4 →
          let mT := meanCode (vget (vget m k) i).ofT
          let m2T := meanCode (vget (vget m k) i).of2T
          runRejected (vget (lane s.vol k).cells i) true mT m2T = false →
          (vget (lane u.vol k).cells i).vT = BitVec.ofNat 16 mT ∧ (vget (lane u.vol k).cells i).v2T = BitVec.ofNat 16 m2T ∧
            (vget (lane u.vol k).cells i).out = false) ∧
    ∀ (k : Fin 6) (i : Fin 4) t, 4 ≤ k.val → i.val = (lane s.vol k.val).recals % 4 → s.vol.work.aux.isOpen = true →
      s.vol.work.aux.closing = none →
      (lane s.vol k.val).epoch + ((lane s.vol k.val).recals + 1) * 2 ^ 25 ≤ t →
      (vget (lane s.vol k.val).cells i.val).out = false →
      exec (.auxCellRecal k i t) s =
        .next { s with
          vol.work.te.coarse := max s.vol.work.te.coarse t
          vol.work.te.lanes := vset s.vol.work.te.lanes k.val
            { lane s.vol k.val with
              recals := (lane s.vol k.val).recals + 1
              cells := vset (lane s.vol k.val).cells i.val
                { vget (lane s.vol k.val).cells i.val with calibrating := true } } }

/-! ### Acoustic loop-backs (R104 to R107) -/

/-- R106, R107, R207, R485, R486, R514: an acoustic loop-back begins at a cycle boundary, with no offset sample to be formed across it,
ends 600 s later at the latest, and gives the front end back at the boundary after its end condition; one of a line context ends with
PASS only where no symbol is wrong and at most 4 are erased, and a request that waited for it begins; a read-back of the panel shows
its failing pins. -/
def Obligations.LoopbacksBeginAndEnd : Prop :=
  (∀ s : State,
     (s.vol.work.loop.requested = true → s.vol.work.loop.running = false → atBoundary s.vol = true →
       ∃ t, exec .loopbackStart s = .next t ∧ t.vol.work.loop.running = true ∧ t.vol.work.loop.requested = false ∧
         t.vol.work.loop.ending = none ∧ t.vol.work.loop.startTick = s.vol.bak.count ∧
         t.vol.work.loop.request = s.vol.work.loop.request ∧ t.vol.work.loop.inForce = s.vol.work.loop.request ∧
         t.vol.work.loop.nextSwapped = s.vol.work.cyc.nextSwapped ∧
         (∀ p ∈ t.vol.work.paths.toList, p.prev = none) ∧ t.nv = s.nv) ∧
     (s.vol.work.loop.running = true → 38400 ≤ (s.vol.bak.count - s.vol.work.loop.startTick).toNat →
       exec .loopbackTimeout s =
         .next { s with vol.work.loop.ending := some (s.vol.work.loop.ending.getD 1) }) ∧
     (∀ r, s.vol.work.loop.ending = some r → s.vol.work.loop.running = true → atBoundary s.vol = true →
       ∃ t, exec .loopbackEnd s = .next t ∧ t.vol.work.loop.running = false ∧ t.vol.work.loop.ending = none ∧
         t.vol.work.loop.endTick = some s.vol.bak.count ∧
         t.vol.work.fe.powered = false ∧ t.vol.work.cyc.kind = .normal ∧ t.vol.work.cyc.feHeld = false ∧ t.nv = s.nv)) ∧
  (∀ s : State,
     (∀ aborted : Bool, s.vol.work.line.lbResult = 1 → aborted = true ∨ 64 ≤ s.vol.work.line.lbSymbols.toNat →
       ∃ t, exec (.lineLoopbackEnd aborted) s = .next t ∧ t.nv = s.nv ∧ t.vol.bak = s.vol.bak ∧
         t.vol.ret.led = s.vol.ret.led ∧
         (s.vol.work.line.lbPending = false →
           t.vol.work.line.lbSession = 0 ∧ t.vol.work.line.lbRun = s.vol.work.line.lbRun ∧
           t.vol.work.line.lbResult =
             if aborted then 4
             else if s.vol.work.line.lbErrors = 0 ∧ s.vol.work.line.lbErased.toNat ≤ 4 then 2 else 3) ∧
         (s.vol.work.line.lbPending = true →
           t.vol.work.line.lbSession = s.vol.work.line.lbNextSession ∧
           t.vol.work.line.lbRun = s.vol.work.line.lbRequest ∧ t.vol.work.line.lbPending = false ∧
           t.vol.work.line.lbResult = 1 ∧ t.vol.work.line.lbSymbols = 0)) ∧
     (∀ failing : BitVec 15, s.vol.work.disp.lbResult = 1 → s.vol.work.disp.running = [] → (panel s.vol).isSome = true →
       coreRuns s.vol = true →
       ∃ t, exec (.displayLoopbackStart failing) s = .next t ∧ t.nv = s.nv ∧ t.vol.bak = s.vol.bak ∧
         t.vol.ret.led = s.vol.ret.led ∧ t.vol.work.disp.lbMask = failing ∧ t.vol.work.disp.running = [] ∧
         t.vol.work.disp.lbResult = if failing = 0 then 2 else 3))

/-! ### Frequency and interval inputs (R257 to R281) -/

/-- R261, R262, R264: a slot that falls due takes the values then written and its kind, and powers the TIMING ENGINE; while
another is due or open it is skipped and counted; its epoch opens on both AUX lanes once they are calibrated, and a slot all
of whose lanes have gone out of service is not opened. -/
def Obligations.SlotsFallDueAndOpen : Prop :=
  ∀ s : State,
    (∀ interval, nextSlotKind s.vol = some interval → coreRuns s.vol = true → s.vol.bak.power.warning = false →
      retired s.vol = false → slotDue s.vol = true →
      (s.vol.work.aux.isOpen = false → s.vol.work.aux.due = false → liveInputs s.vol interval ≠ [] →
        ∃ t, exec .auxSlotDue s = .next t ∧ t.vol.work.aux.due = true ∧ t.vol.work.aux.sched = s.vol.work.obj.aux ∧
          t.vol.work.aux.sensors = s.vol.work.obj.sensors ∧ t.vol.work.aux.interval = interval ∧
          t.vol.work.aux.live = liveInputs s.vol interval ∧ (th s.vol 9 = 7 → t.vol.work.aux.nextInterval = !interval) ∧
          t.vol.bak.power.state = .measure ∧ t.vol.work.te.powered = true ∧ t.nv = s.nv) ∧
      (s.vol.work.aux.isOpen = true ∨ s.vol.work.aux.due = true →
        exec .auxSlotDue s =
          .next (s.up (limG 0x0173 0xFF 0xFF
            { s.vol with
              work.aux.dueTick := some s.vol.bak.count
              work.aux.skipped := satInc s.vol.work.aux.skipped })))) ∧
    ∀ coarse, s.vol.work.aux.due = true → s.vol.work.te.calibrated = true → calibrates [4, 5] s.vol = false →
      s.vol.bak.power.pll = true → s.vol.work.te.powered = true → s.vol.work.te.coarse ≤ coarse →
      (s.vol.work.aux.live ≠ [] →
        (∀ n ∈ s.vol.work.aux.live, (liveInputs s.vol s.vol.work.aux.interval).contains n = true) →
        ∃ t, exec (.auxSlotOpen coarse) s = .next t ∧ t.vol.work.aux.due = false ∧ t.vol.work.aux.isOpen = true ∧
          t.vol.work.aux.interval = s.vol.work.aux.interval ∧ t.vol.work.aux.live = s.vol.work.aux.live ∧
          t.vol.work.aux.slotCount = s.vol.work.aux.slotCount + 1 ∧ t.vol.work.aux.closing = none ∧
          t.vol.ret = s.vol.ret ∧ t.vol.bak = s.vol.bak ∧ t.nv = s.nv ∧
          (∀ k : Nat, 4 ≤ k → k < 6 → (lane t.vol k).epoch = coarse ∧ (lane t.vol k).wraps = 0) ∧
          ∀ k : Nat, k < 4 → (lane t.vol k).epoch = (lane s.vol k).epoch ∧ (lane t.vol k).cells = (lane s.vol k).cells) ∧
      ((∀ n ∈ s.vol.work.aux.live, (liveInputs s.vol s.vol.work.aux.interval).contains n = false) →
        ∃ t, exec (.auxSlotOpen coarse) s = .next t ∧ t.vol.work.aux.due = false ∧
          t.vol.work.aux.isOpen = s.vol.work.aux.isOpen ∧ t.vol.work.aux.slotCount = s.vol.work.aux.slotCount ∧
          ∀ n ∈ s.vol.work.aux.live, n < 6 → (fin t.vol n).status = 5 ∧ (fin t.vol n).held = true)

/-- R266 to R274: a gate closes on its results, and without enough stamps the earlier values stand; an interval slot closes on a
start and a stop stamp or times out; a pulse counts at its second active sample after two inactive ones, modulo 2^48, and the
counts are copied into the count ring after 3 600 s. -/
def Obligations.SlotsCloseOnTheirResults : Prop :=
  ∀ s : State,
    (s.vol.work.aux.isOpen = true → s.vol.work.aux.interval = false → s.vol.work.aux.closing = none →
      (auxBusy s.vol = true → exec .gateClose s = .next { s with vol.work.aux.closing := some (slotCloseT s.vol) }) ∧
      (auxBusy s.vol = false →
        ∃ t, exec .gateClose s = .next t ∧ t.vol.work.aux.isOpen = false ∧ t.vol.work.aux.closing = none ∧ t.nv = s.nv ∧
          ∀ n : Nat, n < 6 → s.vol.work.aux.live.contains n = true → finLaneOut s.vol n = false →
            (finStamps n (auxWords s.vol (finLane n))).length < 8 →
            (fin t.vol n).held = true ∧ (fin t.vol n).status = 1 ∧ (fin t.vol n).freq = (fin s.vol n).freq)) ∧
    (s.vol.work.aux.isOpen = true → s.vol.work.aux.interval = true → s.vol.work.aux.closing = none →
      (∀ a b, intervalStamps s.vol (auxWords s.vol 4) (auxWords s.vol 5) = (some a, some b) →
        (auxBusy s.vol = false →
          ∃ t, exec .intervalClose s = .next t ∧ t.vol.work.aux.isOpen = false ∧ t.vol.work.aux.closing = none ∧
            t.nv = s.nv) ∧
        (auxBusy s.vol = true →
          exec .intervalClose s =
            .next { s with
              vol.work.te.coarse := s.vol.work.te.coarse + 1
              vol.work.aux.closing := some (s.vol.work.te.coarse + 1 - (lane s.vol 4).epoch) })) ∧
      (auxBusy s.vol = false →
        ∃ t, exec .intervalTimeout s = .next t ∧ t.vol.work.aux.isOpen = false ∧ t.vol.work.aux.closing = none ∧
          t.nv = s.nv)) ∧
    (∀ (n : Fin 4) (high : Bool), pulseCounting s.vol = true →
      s.vol.bak.power.state = .sleep ∨ s.vol.bak.power.state = .doze ∨ s.vol.bak.power.state = .measure →
      let p := vget s.vol.bak.pulses n.val
      let active := high == ((vget s.vol.work.obj.sensors n.val).pol == 1)
      (active = true →
        exec (.finPulse ⟨n, high⟩) s =
          .next { s with
            vol.bak.pulses := vset s.vol.bak.pulses n.val { p with active := min 3 (p.active + 1) }
            vol.ret.count :=
              if p.active = 1 ∧ 2 ≤ p.idle then vset s.vol.ret.count n.val (vget s.vol.ret.count n.val + 1)
              else s.vol.ret.count }) ∧
      (active = false →
        exec (.finPulse ⟨n, high⟩) s =
          .next { s with
            vol.bak.pulses := vset s.vol.bak.pulses n.val
              { idle := if p.active = 0 then min 2 (p.idle + 1) else 1, active := 0 } })) ∧
    (pulseCounting s.vol = true → coreRuns s.vol = true →
      (230400 ≤ (s.vol.bak.count - s.vol.bak.pulseCopy).toNat →
        let v : Vol := { s.vol with bak.pulseCopy := s.vol.bak.count }
        exec .pulseCountCopy s = .next (s.up (submit (ringReq s.nv v 4228 8 (countPayload v) .countRing) v))) ∧
      ((s.vol.bak.count - s.vol.bak.pulseCopy).toNat < 230400 → exec .pulseCountCopy s = .next s))

/-! ### The timekeeper (R282 to R305) -/

/-- R282, R286, R287: one tick of a valid calendar is one tick later and leaves it valid; the tick that passes 2399-12-31
23:59:59 begins again at 2000-01-01 00:00:00. -/
def Obligations.ATickMovesAValidCalendarByOneTick : Prop :=
  ∀ c : Cal, c.valid = true → c.subsec.toNat < 64 →
    c.nextTick.1.valid = true ∧ c.nextTick.1.subsec.toNat < 64 ∧
      (c.nextTick.2 = false → c.nextTick.1.ticks = c.ticks + 1) ∧
      (c.nextTick.2 = true → c.nextTick.1.ticks = 0)

/-- R283, R284: a reading that is due and accepted becomes TEMP_DIE and ends TFAULT, a discarded one leaves what stood, and
none is taken before its time; the window of 4 194 304 LF periods, once over, is followed by one with the correction of the
latest reading, which TFAULT holds, and no correction exceeds 2 047. -/
def Obligations.ReadingsAndWindowsCorrectTheTick : Prop :=
  ∀ s : State,
    (∀ r : Int, readingDue s.vol.bak = false → exec (.tempRead r) s = .next s) ∧
    (∀ r : Int, s.vol.bak.power.state ≠ .off → readingDue s.vol.bak = true →
      (-5500 ≤ r → r ≤ 13000 →
        ∃ t, exec (.tempRead r) s = .next t ∧ t.vol.bak.tempDie = ofInt 12 (quarterDegree r) ∧
          t.vol.bak.lastReading = some r ∧ t.vol.bak.tempTick = some s.vol.bak.count ∧ t.vol.bak.tDiscards = 0 ∧ t.vol.bak.tfault = false ∧
          t.vol.bak.tcorr = s.vol.bak.tcorr ∧ t.vol.ret.led = s.vol.ret.led ∧ t.nv = s.nv) ∧
      (r < -5500 ∨ 13000 < r →
        ∃ t, exec (.tempRead r) s = .next t ∧ t.vol.bak.tempDie = s.vol.bak.tempDie ∧
          t.vol.bak.lastReading = s.vol.bak.lastReading ∧ t.vol.bak.tDiscards = s.vol.bak.tDiscards + 1 ∧
          t.vol.bak.tfault = (s.vol.bak.tfault || decide (3 ≤ s.vol.bak.tDiscards)) ∧ t.vol.ret.led = s.vol.ret.led ∧
          t.nv = s.nv)) ∧
    ((s.vol.bak.lfPeriods : Int) + s.vol.bak.tcAdded < 4194304 → exec .tcorrWindow s = .next s) ∧
    (∀ r, s.vol.bak.lastReading = some r → 4194304 ≤ (s.vol.bak.lfPeriods : Int) + s.vol.bak.tcAdded →
      exec .tcorrWindow s =
        .next { s with
          vol.bak.tcorr := if s.vol.bak.tfault then s.vol.bak.tcorr else tcorrOf s.vol.bak.curve r
          vol.bak.tcAcc := 0
          vol.bak.lfPeriods := 0
          vol.bak.tcAdded := 0 } ∧
        -2047 ≤ tcorrOf s.vol.bak.curve r ∧ tcorrOf s.vol.bak.curve r ≤ 2047)

/-- R287, R294, R297, R302, R335: the wrap of the calendar sets OSF with cause 4; a slew shortens or lengthens a second by one
tick a second; PWRON takes the level of its schedule, low in OFF and on a secondary, on a tick that calls for it and on no other; a tick with a LEDGER event in SLEEP is
held once with its time, count, OSF and tariff inputs, and the fourth wakes the device, which processes them, and that wake is
no wake source's. -/
def Obligations.TheCalendarWrapsSlewsAndHoldsTicks : Prop :=
  (∀ s : State,
     (s.vol.bak.power.state ≠ .off → s.vol.bak.slewLeft = 0 → atWrap s.vol.bak.cal = true →
       ∃ t, exec .calendarWrap s = .next t ∧ t.vol.bak.cal = s.vol.bak.cal.nextTick.1 ∧ t.vol.bak.osf = true ∧
         t.vol.bak.osfCause = 4 ∧ t.vol.bak.count = s.vol.bak.count + 1 ∧ t.nv = s.nv) ∧
     (s.vol.bak.power.state ≠ .off → 0 < s.vol.bak.slewLeft → s.vol.bak.cal.subsec = 31 →
       ∃ t, exec .slewTick s = .next t ∧ t.vol.bak.cal = { s.vol.bak.cal with subsec := 33 } ∧
         t.vol.bak.slewLeft = s.vol.bak.slewLeft - 1 ∧ t.vol.bak.count = s.vol.bak.count + 1 ∧
         t.vol.bak.osf = s.vol.bak.osf ∧ t.nv = s.nv ∧
         (s.vol.bak.power.state ≠ .sleep → t.vol.ret.led = { s.vol.ret.led with seen := t.vol.ret.led.seen })) ∧
     (s.vol.bak.power.state ≠ .off → s.vol.bak.slewLeft < 0 → s.vol.bak.cal.subsec = 32 → s.vol.bak.slewHeld = false →
       ∃ t, exec .slewTick s = .next t ∧ t.vol.bak.cal = s.vol.bak.cal ∧ t.vol.bak.slewHeld = true ∧
         t.vol.bak.slewLeft = s.vol.bak.slewLeft + 1 ∧ t.vol.bak.count = s.vol.bak.count + 1 ∧ t.nv = s.nv) ∧
     (s.vol.bak.pwronTick = true →
       exec .pwronEvaluate s =
         .next { s with
           vol.bak.pwronLevel := pwronEval s.vol.bak && s.vol.bak.power.state != .off && !isSecondary s.vol }) ∧
     (s.vol.bak.pwronTick = false → exec .pwronEvaluate s = .next s)) ∧
  (∀ s : State, s.vol.bak.power.state = .sleep → noLedger s.vol = false → isEventTick s.vol = true →
     (∀ h ∈ s.vol.bak.heldTicks, h.count ≠ s.vol.bak.count) →
     (s.vol.bak.heldTicks.length < 3 →
       exec .eventTickHeld s =
         .next { s with
           vol.bak.heldTicks := s.vol.bak.heldTicks ++
             [{ ticks := s.vol.bak.cal.ticks, count := s.vol.bak.count, osf := s.vol.bak.osf,
                accepted := s.vol.bak.accepted, inFault := s.vol.bak.inFault }] }) ∧
     (s.vol.bak.heldTicks.length = 3 → s.vol.bak.power.retrying = none → s.vol.bak.power.warning = false →
       ∃ t, exec .eventTickHeld s = .next t ∧ t.vol.bak.power.core = true ∧ t.vol.bak.heldTicks = [] ∧
         t.vol.bak.lastWake = s.vol.bak.lastWake ∧ t.nv = s.nv))

/-- R289, R291, R293 to R297, R305: at the boundary after the commit a small difference becomes a slew and a larger one a step,
which clears OSF where the OPERATOR commits; a stage without its commit and a freeze without its reads end after 1 s; the
engine then repeats its read once. -/
def Obligations.StagesAreCommittedOrEnd : Prop :=
  ∀ s : State,
    (∀ g, s.vol.bak.stage = some g → g.committed = true → g.since ≠ s.vol.bak.count → s.vol.work.ex.inHand = none →
      s.vol.work.ex.queue = [] → commitRefused s.vol g = false →
      (s.vol.bak.osf = false → (commitDiff s.vol g).natAbs ≤ 512 →
        ∃ t, exec .clockCommit s = .next t ∧ t.vol.bak.slewLeft = commitDiff s.vol g ∧ t.vol.bak.slewHeld = false ∧
          t.vol.bak.cal = s.vol.bak.cal ∧ t.vol.bak.stage = none ∧ t.vol.ret.led = s.vol.ret.led ∧ t.nv = s.nv) ∧
      (s.vol.bak.osf = true ∨ 512 < (commitDiff s.vol g).natAbs →
        ∃ t, exec .clockCommit s = .next t ∧ t.vol.bak.cal = { g.time with subsec := 0 } ∧ t.vol.bak.slewLeft = 0 ∧
          t.vol.bak.stage = none ∧ t.vol.bak.osf = (s.vol.bak.osf && g.role != .operator) ∧ t.nv = s.nv)) ∧
    (∀ g, s.vol.bak.stage = some g → g.committed = false → 64 ≤ (s.vol.bak.count - g.since).toNat →
      s.vol.work.ex.inHand = none → s.vol.work.ex.queue = [] →
      exec .stageTimeout s = .next { s with vol.bak.stage := none }) ∧
    (∀ z, s.vol.bak.freeze = some z → 64 ≤ (s.vol.bak.count - z.since).toNat →
      (s.vol.work.ex.inHand = none →
        exec .freezeTimeout s =
          .next (s.up (limG 0x0209 0xFF 0xFF
            { s.vol with bak.freeze := none, bak.staleReaders := z.readers }))) ∧
      (∀ f, s.vol.work.ex.inHand = some { frame := f, clamps := [], clamped := false, await := .freeze false } →
        f.stallsAgain = true →
        ∃ t, exec .freezeTimeout s = .next t ∧ t.nv = s.nv ∧
          t.vol.bak.freeze = some { shadow := s.vol.bak.cal, since := s.vol.bak.count, readers := [.exchange] } ∧
          t.vol.work.ex.inHand = some { frame := f, clamps := [], clamped := false, await := .freeze true }))

/-! ### Registers, intervals and billing (R309 to R336) -/

/-- R218, R309, R311: whatever flow a booking books, NET stays the legal forward less the legal reverse volume, the registers rise by
what they are given, and the booking's tick is the latest; a tick that an earlier booking has reached or passed is not booked again. -/
def Obligations.ABookingKeepsNetAsForwardLessReverse : Prop :=
  ∀ (count : BitVec 32) (s : Vol), s.ret.led.net = s.ret.led.fwd - s.ret.led.rev →
    let t := bookTo count s
    t.ret.led.net = t.ret.led.fwd - t.ret.led.rev ∧
      ((count - s.ret.flow.lastBooking).toNat < 2 ^ 31 → t.ret.flow.lastBooking = count) ∧
      (count = s.ret.flow.lastBooking ∨ 2 ^ 31 ≤ (count - s.ret.flow.lastBooking).toNat → t = s) ∧
      (s.ret.flow.inForce = none → s.ret.flow.gaps = [] → t.ret.led.fwd = s.ret.led.fwd ∧ t.ret.led.rev = s.ret.led.rev) ∧
      t.bak.hwm = s.bak.hwm ∧ t.bak.cal = s.bak.cal

/-- INTERVAL_END, BILLING_BOUNDARY, HWM_REGAINED, TARIFF_ACCEPTED and TARIFF_INPUT_FAULT complete (R313, R314, R318, R319, R326,
R329, R330, R332, R554, R570). On a quarter-hour tick the open interval closes with its record and its demand and the next one
opens under the requested tariff; a boundary above HWM at a trusted tick closes the billing period once, with the demand
registers at 0 and HWM at the tick; HWM regained ends CLOCK_SET_BACK; 128 equal valid samples of the tariff inputs in use are
accepted and end a fault, and 128 invalid ones of an input in use are its fault. Otherwise each changes nothing, and so do the first
three on a tick that a committed step of the clock is to change first (R295). -/
def Obligations.IntervalsBillingAndTariffInputs : Prop :=
  (∀ s : State, coreRuns s.vol = true → retired s.vol = false → isSecondary s.vol = false → commitStands s.vol = false →
     (s.vol.bak.cal.quarter = true → s.vol.ret.led.interval.isOpen = true →
       s.vol.ret.led.interval.openedAt ≠ s.vol.bak.count →
       ∃ t, exec .intervalEnd s = .next t ∧ t.vol.ret.led.interval.isOpen = true ∧ t.vol.ret.led.interval.vol = 0 ∧
         t.vol.ret.led.interval.endTime = nextQuarter (s.vol.bak.cal.ticks / 64) ∧
         t.vol.ret.led.interval.openedAt = s.vol.bak.count ∧ t.vol.ret.led.interval.timeUntrusted = s.vol.bak.osf ∧
         t.vol.ret.led.prevTariff = s.vol.ret.led.interval.tariff ∧
         t.vol.ret.led.tariff = BitVec.ofNat 3 (requestedTariff s.vol s.vol.bak.cal.ticks) ∧
         t.vol.ret.led.nextSeq = s.vol.ret.led.nextSeq + (if s.vol.bak.cal.ticks / 64 % 86400 = 0 then 2 else 1) ∧
         t.vol.ret.led.closes = s.vol.ret.led.closes ∧ t.vol.bak.cal = s.vol.bak.cal ∧ t.nv = s.nv ∧
         (s.vol.ret.pre.tokens = [] →
           let b := closeGaps (closeSpan s.vol.bak.cal.ticks (bookEvent s.vol.bak.count s.vol))
           t.vol.ret.led.md = evalDemand b.ret.led.interval s.vol.ret.led.md ∧
             (s.vol.ret.led.page = [] → s.vol.bak.cal.ticks / 64 % 86400 ≠ 0 →
               t.vol.ret.led.page = [BitVec.ofNat 64 (intervalRecord b.ret.led.interval (prevTariffOf b))]))) ∧
     (s.vol.bak.cal.quarter = false ∨ s.vol.ret.led.interval.isOpen = false → exec .intervalEnd s = .next s) ∧
     (s.vol.bak.osf = false → s.vol.bak.hwm < s.vol.bak.cal.ticks → (boundsDue s.vol s.vol.bak.cal.ticks).1 ≠ 0 →
       ∃ t, exec .billingBoundary s = .next t ∧ t.vol.ret.led.closes = s.vol.ret.led.closes + 1 ∧
         t.vol.ret.led.md = Vector.replicate 4 default ∧ t.vol.ret.led.snapshotHeld = true ∧
         t.vol.bak.hwm = s.vol.bak.cal.ticks ∧ t.vol.ret.led.setBack = false ∧
         t.vol.ret.led.seen = s.vol.bak.cal.ticks ∧ t.vol.bak.cal = s.vol.bak.cal ∧ t.nv = s.nv) ∧
     (s.vol.bak.osf = true → exec .billingBoundary s = .next s ∧ exec .hwmRegained s = .next s) ∧
     (s.vol.bak.osf = false → s.vol.ret.led.setBack = true → s.vol.bak.hwm < s.vol.bak.cal.ticks →
       (boundsDue s.vol s.vol.bak.cal.ticks).1 = 0 →
       exec .hwmRegained s =
         .next (s.up (logM 0x0304 0xFF
           { s.vol with bak.hwm := s.vol.bak.cal.ticks, ret.led.setBack := false })))) ∧
  (∀ s : State, commitStands s.vol = true →
     exec .intervalEnd s = .next s ∧ exec .billingBoundary s = .next s ∧ exec .hwmRegained s = .next s) ∧
  (∀ s : State, s.vol.bak.power.state = .sleep ∨ s.vol.bak.power.state = .doze ∨ s.vol.bak.power.state = .measure →
     (th s.vol 5 = 1 ∨ th s.vol 5 = 2 ∨ th s.vol 5 = 5 ∨ th s.vol 5 = 6 →
       (∀ low0 low1 : Bool,
         ∃ t, exec (.tariffAccepted low0 low1) s = .next t ∧ t.nv = s.nv ∧ t.vol.ret.led = s.vol.ret.led ∧
           let levels := some (low0, if th s.vol 5 = 2 ∨ th s.vol 5 = 6 then low1 else false)
           t.vol.bak =
             { s.vol.bak with
               accepted := levels
               inFault := 0
               tariffAt := if s.vol.bak.accepted = levels then s.vol.bak.tariffAt else some s.vol.bak.count } ∧
           (s.vol.bak.inFault = 0 → t.vol.ret.logs = s.vol.ret.logs)) ∧
       (∀ input : Fin 2, input = 0 ∨ th s.vol 5 = 2 ∨ th s.vol 5 = 6 →
         (s.vol.bak.inFault.getLsbD input.val = false →
           exec (.tariffInputFault input) s =
             .next (s.up (limG 0x0306 0xFF input.val
               { s.vol with bak.inFault := s.vol.bak.inFault ||| BitVec.ofNat 2 (2 ^ input.val) }))) ∧
         (s.vol.bak.inFault.getLsbD input.val = true → exec (.tariffInputFault input) s = .next s))) ∧
     (th s.vol 5 ≠ 1 → th s.vol 5 ≠ 2 → th s.vol 5 ≠ 5 → th s.vol 5 ≠ 6 →
       (∀ low0 low1 : Bool, exec (.tariffAccepted low0 low1) s = .next s) ∧
         ∀ input : Fin 2, exec (.tariffInputFault input) s = .next s))

/-- R312: the taken TH5 code selects the tariff source and the number of tariffs. The source is 0 Fixed, 1 inputs, 2 Calendar;
an input that is not used is no input of the tariff. -/
def Obligations.TheThatchSelectsTheTariffSource : Prop :=
  ∀ (s : Vol) (ticks : Nat),
    (th s 5 = 0 ∨ th s 5 = 4 ∨ th s 5 = 15 → tariffSource s = (0, 1) ∧ requestedTariff s ticks = 1) ∧
    (th s 5 = 1 ∨ th s 5 = 5 → tariffSource s = (1, 2) ∧
      ∀ low0 low1, tariffSampled s = true → requestedTariff (acceptTariff low0 low1 s) ticks = 1 + b2n low0) ∧
    (th s 5 = 2 ∨ th s 5 = 6 → tariffSource s = (1, 4) ∧
      ∀ low0 low1, tariffSampled s = true →
        requestedTariff (acceptTariff low0 low1 s) ticks = 1 + 2 * b2n low1 + b2n low0) ∧
    (th s 5 = 3 ∨ th s 5 = 7 → tariffSource s = (2, 4) ∧
      ∀ t, s.bak.osf = false → calendarTariff s.work.obj.tariffCal (calOfSeconds (ticks / 64)) = some t →
        requestedTariff s ticks = t)

/-! ### Prepayment (R340 to R364) -/

/-- R358: START opens a pour, with VALVE high, if none is open and CREDIT is above the floor, and otherwise does nothing. -/
def Obligations.StartOpensAPourAboveTheFloor : Prop :=
  ∀ s : State, keypadOn s.vol = true → s.vol.work.pre.keyDown = false → retired s.vol = false →
    ∃ t, exec .keyStart s = .next t ∧ t.nv = s.nv ∧ t.vol.ret.pre = s.vol.ret.pre ∧ t.vol.bak = s.vol.bak ∧
      (s.vol.work.pre.pour = false → creditFloor s.vol < s.vol.ret.pre.credit.toInt →
        t.vol.work.pre.pour = true ∧ t.vol.work.pre.valve = true) ∧
      (s.vol.work.pre.pour = true ∨ s.vol.ret.pre.credit.toInt ≤ creditFloor s.vol →
        startPour s.vol = s.vol ∧ t.vol.work.pre.pour = s.vol.work.pre.pour ∧
          t.vol.work.pre.valve = s.vol.work.pre.valve)

/-- R342, R343, R357, R359, R506: what each other key does; the key is then down until every key is released. -/
def Obligations.KeysEditTheEntryAndAct : Prop :=
  ∀ s : State, keypadOn s.vol = true → s.vol.work.pre.keyDown = false →
    (∀ d : Fin 10, ∃ t, exec (.keyDigit d) s = .next t ∧ t.nv = s.nv ∧ t.vol.ret.pre = s.vol.ret.pre ∧
      t.vol.work.pre.keyDown = true ∧ t.vol.work.pre.lastKey = s.vol.bak.count ∧ t.vol.work.pre.result = none ∧
      t.vol.work.pre.entry =
        if s.vol.work.pre.entry.length < 20 then s.vol.work.pre.entry ++ [d] else s.vol.work.pre.entry) ∧
    (∃ t, exec .keyClear s = .next t ∧ t.nv = s.nv ∧ t.vol.ret.pre = s.vol.ret.pre ∧ t.vol.work.pre.keyDown = true ∧
      t.vol.work.pre.entry = s.vol.work.pre.entry.dropLast) ∧
    (∃ t, exec .keyStop s = .next t ∧ t.nv = s.nv ∧ t.vol.ret.pre = s.vol.ret.pre ∧ t.vol.work.pre.keyDown = true ∧
      t.vol.work.pre.stopPressed = (s.vol.work.pre.pour || s.vol.ret.pre.pourCut) ∧ t.vol.work.pre.entry = s.vol.work.pre.entry) ∧
    (∃ t, exec .keyEmerg s = .next t ∧ t.nv = s.nv ∧ t.vol.work.pre.keyDown = true ∧
      t.vol.ret.pre.credit = s.vol.ret.pre.credit ∧ t.vol.work.pre.entry = s.vol.work.pre.entry ∧
      t.vol.ret.pre.emerg = (s.vol.ret.pre.emerg ||
        decide (retired s.vol = false ∧ s.vol.ret.pre.credit.toInt < s.vol.work.obj.valve.emergThreshold ∧
          0 < s.vol.work.obj.valve.emergLimit))) ∧
    (∃ t, exec .keyInfo s = .next t ∧ t.nv = s.nv ∧ t.vol.ret.pre = s.vol.ret.pre ∧ t.vol.work.pre.keyDown = true ∧
      t.vol.work.disp.infoAt = some s.vol.bak.count ∧ t.vol.work.pre.entry = s.vol.work.pre.entry)

/-- R342, R343, R350, R351, R354, R357, R359: the release of all keys, an entry left for 60 s, the end of a lock-out and the end
of a pour, for the first reason that holds; an accepted token acts on CREDIT at the first tick after its log write, after the
tick's booking, and one that brings CREDIT to 0 or above disarms emergency credit; in RETIRED none acts (R554). -/
def Obligations.WaitsEndAndWrittenTokensAct : Prop :=
  (∀ s : State,
     (keypadOn s.vol = true → exec .keyRelease s = .next { s with vol.work.pre.keyDown := false }) ∧
     (s.vol.work.pre.entry ≠ [] → 3840 ≤ (s.vol.bak.count - s.vol.work.pre.lastKey).toNat →
       ∃ t, exec .entryTimeout s = .next t ∧ t.nv = s.nv ∧ t.vol.work.pre.entry = [] ∧ t.vol.ret.pre = s.vol.ret.pre ∧
         t.vol.bak = s.vol.bak) ∧
     (lockedOut s.vol = true → lockTicksLeft s.vol = 0 →
       ∃ t, exec .lockoutEnd s = .next t ∧ t.nv = s.nv ∧ t.vol.bak = s.vol.bak ∧
         t.vol.ret.pre = { s.vol.ret.pre with lockFrom := none, lockTicks := 0 }) ∧
     (∀ r, s.vol.ret.pre.pourCut = true ∨ s.vol.work.pre.pour = true →
       (r = 1 ∧ s.vol.ret.pre.credit.toInt ≤ creditFloor s.vol) ∨
         (creditFloor s.vol < s.vol.ret.pre.credit.toInt ∧
           ((r = 2 ∧ s.vol.work.pre.stopPressed = true) ∨
             (s.vol.work.pre.stopPressed = false ∧
               ((r = 3 ∧ noFlowLong s.vol = true) ∨
                 (r = 4 ∧ noFlowLong s.vol = false ∧ s.vol.ret.pre.pourCut = true))))) →
       ∃ t, exec .pourEnd s = .next t ∧ t.nv = s.nv ∧ t.vol.bak = s.vol.bak ∧ t.vol.work.pre.pour = false ∧
         t.vol.work.pre.valve = false ∧
         t.vol.ret.pre = { s.vol.ret.pre with pourCut := false, lastEnd := BitVec.ofNat 4 r })) ∧
  (∀ (s : State) (k : Token), coreRuns s.vol = true → s.vol.ret.pre.tokens = [k] → k.written = true →
     k.since ≠ s.vol.bak.count →
     (retired s.vol = true → exec .tokenApply s = .next s) ∧
     (retired s.vol = false →
     let b := bookEvent s.vol.bak.count s.vol
     ∃ t, exec .tokenApply s = .next t ∧ t.nv = s.nv ∧ t.vol.bak = s.vol.bak ∧ t.vol.ret.led = b.ret.led ∧
       t.vol.ret.pre.tokens = [] ∧ t.vol.ret.pre.tokSeq = k.seq ∧
       (∀ a, a = (k.amount.toNat % 8192 * 10 ^ (k.amount.toNat / 8192) * 10000 : Nat) →
         (k.cls = 0 → t.vol.ret.pre.credit = b.ret.pre.credit + ofInt 64 a) ∧
         (k.cls = 1 → t.vol.ret.pre.credit = b.ret.pre.credit + ofInt 64 (-(a : Int))) ∧
         (k.cls = 2 → t.vol.ret.pre.credit = b.ret.pre.credit)) ∧
       t.vol.ret.pre.emerg = (s.vol.ret.pre.emerg &&
         !(decide (b.ret.pre.credit.toInt < 0) && decide (0 ≤ t.vol.ret.pre.credit.toInt)))))

/-- R343, R347, R350: ENTER submits 20 digits and drops fewer; a refused token changes neither CREDIT nor the window, and only
FORMAT and MAC count as wrong; an acceptance waits for its log write. -/
def Obligations.EnterEvaluatesAToken : Prop :=
  ∀ s : State, keypadOn s.vol = true → s.vol.work.pre.keyDown = false →
    ∃ t, exec .keyEnter s = .next t ∧ t.nv = s.nv ∧ t.vol.work.pre.entry = [] ∧ t.vol.bak = s.vol.bak ∧
      t.vol.ret.pre.credit = s.vol.ret.pre.credit ∧ t.vol.ret.pre.idhwm = s.vol.ret.pre.idhwm ∧
      t.vol.ret.pre.bitmap = s.vol.ret.pre.bitmap ∧
      let n := tokenNumber (s.vol.work.pre.entry.map (·.val))
      let r := tokenResult s.nv s.vol n
      (s.vol.work.pre.entry.length < 20 → t.vol.ret.pre = s.vol.ret.pre ∧ t.vol.work.pre.result = none) ∧
      (s.vol.work.pre.entry.length = 20 → r ≠ 0 →
        t.vol.work.pre.result = some r ∧ t.vol.ret.pre.tokens = s.vol.ret.pre.tokens ∧
          (r ≠ 1 → r ≠ 2 → t.vol.ret.pre.wrong = s.vol.ret.pre.wrong) ∧
          (r = 1 ∨ r = 2 → s.vol.ret.pre.wrong < 4 → t.vol.ret.pre.wrong = s.vol.ret.pre.wrong + 1) ∧
          (r = 1 ∨ r = 2 → s.vol.ret.pre.wrong = 4 → t.vol.ret.pre.wrong = 0 ∧
            t.vol.ret.pre.locks = satInc s.vol.ret.pre.locks ∧ t.vol.ret.pre.lockFrom = some s.vol.bak.count ∧
            t.vol.ret.pre.lockTicks = 3840 * min (10 * 2 ^ ((satInc s.vol.ret.pre.locks).toNat - 1)) 1440)) ∧
      (s.vol.work.pre.entry.length = 20 → r = 0 →
        t.vol.ret.pre.tokens.length = s.vol.ret.pre.tokens.length + 1 ∧ t.vol.work.pre.result = none)

/-- R348: the window after an accepted ID holds the bits that it held and the bit of the ID, and no other. -/
def Obligations.AnAcceptedIdEntersTheWindow : Prop :=
  ∀ (h : BitVec 20) (b : BitVec 1024) (id n : Nat), id < 2 ^ 20 → h.toNat ≤ id + 1023 →
    (windowWith h b id).1.toNat = max h.toNat id ∧
      (n ≤ (windowWith h b id).1.toNat → (windowWith h b id).1.toNat < n + 1024 →
        (windowWith h b id).2.getLsbD ((windowWith h b id).1.toNat - n) =
          (n == id || (decide (n ≤ h.toNat) && b.getLsbD (h.toNat - n))))

/-! ### Object exchange (R398 to R424) -/

/-- R402, R406 to R412, R415: an OPEN reserves a slot under the role's key, its proof opens the session, and CLOSE, where the look-up of
its IDENT and ATTR passes, frees it once its reply has left; where the look-up fails, the session stays. An OPEN for a role that is locked
out is answered AUTH-FAIL, whatever else would refuse it, and reserves nothing. -/
def Obligations.SessionsOpenAndClose : Prop :=
  ∀ (s : State) (f : Frame), frameTaken s.vol f = true →
    (∀ r key initial n, f.cmd = 1 → f.session = 0 → f.ident = 0 → f.attr = 0 → f.data.length = 9 →
      roleOf (f.data.headD 0).toNat = some r → roleOnPort r f.port = true → roleAdmitted s.vol.work.life.state r = true →
      roleLocked s.vol r = false → roleKey s.vol r f.port = some (key, initial) →
      [0, 1, 2, 3].find? (fun n => (slotAt s.vol n).isNone) = some n →
      (r ≠ .metrology ∨ (s.vol.work.ex.sessions.toList.filterMap id).all (·.role != .metrology) = true) →
      ∃ t cd, exec (.open_ f) s = .next t ∧ t.nv = s.nv ∧ t.vol.free = s.vol.free + 1 ∧ t.vol.bak = s.vol.bak ∧
        t.vol.ret = s.vol.ret ∧
        slotAt t.vol n = some
          { role := r, port := f.port, reserved := true, cc := BitVec.ofNat 64 (beNat (slice f.data 1 8)), cd,
            ks := sessionKey key (BitVec.ofNat 64 (beNat (slice f.data 1 8))) cd s.nv.trim.serial, initialKey := initial,
            seq := 0, lastReply := [], blocks := [], block := 1, macFails := 0, lastTick := s.vol.bak.count, closing := false }) ∧
    (∀ x key initial, f.cmd = 1 → hasMac f.session = true → slotAt s.vol (f.session.toNat - 1) = some x →
      x.port = f.port → x.reserved = true → roleLocked s.vol x.role = false →
      roleKey s.vol x.role x.port = some (key, initial) →
      f.data = proofOf key 0x43 x.cd x.cc s.nv.trim.serial → beBytes 4 f.mac.toNat = frameMac x.ks 0x00 (frameBody f) →
      f.seq = 0 → f.ident = 0 → f.attr = 0 →
      ∃ t y, exec (.openProof f) s = .next t ∧ t.nv = s.nv ∧ slotAt t.vol (f.session.toNat - 1) = some y ∧
        y.reserved = false ∧ y.role = x.role ∧ y.ks = x.ks ∧ y.seq = x.seq ∧ y.lastTick = s.vol.bak.count ∧
        vget t.vol.ret.ex.fails (roleCode x.role) = 0 ∧ t.vol.bak = s.vol.bak) ∧
    (∀ r, f.cmd = 1 → f.session = 0 → f.ident = 0 → f.attr = 0 → f.data.length = 9 → f.port = .optical →
      roleOf (f.data.headD 0).toNat = some r → roleLocked s.vol r = true →
      ∃ t, exec (.open_ f) s = .next t ∧ t.nv = s.nv ∧ t.vol.ret = s.vol.ret ∧
        t.vol.work.ex.sessions = s.vol.work.ex.sessions ∧
        vget t.vol.work.ex.replies 0 = some (replyFrame f none stAuthFail 0 [])) ∧
    (∀ x, f.cmd = 2 → sessionTaken s.vol f x = true →
      (lookUp s.nv f (inSession f x s.vol) = none →
        ∃ t, exec (.close f) s = .next t ∧ t.nv = s.nv ∧ t.vol.bak = s.vol.bak ∧ t.vol.ret.led = s.vol.ret.led ∧
          (replyGone t.vol f.port = true → slotAt t.vol (f.session.toNat - 1) = none) ∧
          (replyGone t.vol f.port = false →
            ∃ y, slotAt t.vol (f.session.toNat - 1) = some y ∧ y.closing = true ∧ y.role = x.role ∧ y.seq = f.seq) ∧
          ∀ n : Nat, n < 4 → n ≠ f.session.toNat - 1 → (∀ z, slotAt s.vol n = some z → z.closing = false) →
            slotAt t.vol n = slotAt s.vol n) ∧
      (∀ st, lookUp s.nv f (inSession f x s.vol) = some st →
        ∃ t y, exec (.close f) s = .next t ∧ t.nv = s.nv ∧ slotAt t.vol (f.session.toNat - 1) = some y ∧
          y.closing = x.closing ∧ y.seq = f.seq ∧ y.role = x.role ∧
          ∀ n : Nat, n < 4 → n ≠ f.session.toNat - 1 → slotAt t.vol n = slotAt s.vol n))

/-- R404, R409: a reply of one payload: its first block leaves with the MAC of the session, and the others wait for NEXT. -/
def Obligations.RepliesLeaveInBlocks : Prop :=
  ∀ (s : State) (f : Frame) (x : Session), frameTaken s.vol f = true → sessionTaken s.vol f x = true → f.port = .optical →
    (∀ o b pages, f.cmd = 3 → objOf (inSession f x s.vol) f.ident = some o →
      attrExists s.nv (inSession f x s.vol) o f.attr.toNat = true → getStatus (inSession f x s.vol) x.role o = none →
      absentTarget f o = none → o ≠ .lineSettings → (o ≠ .clock ∨ f.stalls = false) →
      getObj s.nv (inSession f x s.vol) o f.attr.toNat f.data = .value b false pages →
      ∃ t y, exec (.get f) s = .next t ∧ t.nv = s.nv ∧ t.vol.bak = s.vol.bak ∧ t.vol.work.obj = s.vol.work.obj ∧
        slotAt t.vol (f.session.toNat - 1) = some y ∧ y.seq = f.seq ∧ y.blocks = (chunks 1022 4096 b).tail ∧
        vget t.vol.work.ex.replies 0 =
          some (replyFrame f (some x.ks) 0 (if 1 < (chunks 1022 4096 b).length then 128 else 0)
            ((chunks 1022 4096 b).headD []))) ∧
    (f.cmd = 6 → lookUp s.nv f (inSession f x s.vol) = none →
      ∃ t y, exec (.next f) s = .next t ∧ t.nv = s.nv ∧ t.vol.bak = s.vol.bak ∧ t.vol.ret = s.vol.ret ∧
        slotAt t.vol (f.session.toNat - 1) = some y ∧ y.seq = f.seq ∧ y.blocks = x.blocks.tail ∧
        (∀ p rest, x.blocks = p :: rest →
          vget t.vol.work.ex.replies 0 =
            some (replyFrame f (some x.ks) 0 (x.block % 128 + (if rest.isEmpty then 0 else 128)) p)) ∧
        (x.blocks = [] → vget t.vol.work.ex.replies 0 = some (replyFrame f (some x.ks) 5 0 [])))

/-- R369, R371, R415, R422, R424: a SET that passes every check enters the store and waits for its pages; nothing it writes has
changed yet. Site notes and roster entries are written the same way. When the last page is written, the values take effect
together, and the engine is free again. The commands are the frame's own row: SET, KEY_WRITE, CALIBRATION_SET_WRITE,
PROFILE_TABLE_WRITE, CURVE_WRITE, PERIODIC_WAKE_WRITE, PSCALE_WRITE, TARIFF_CONFIG, PRICE_CHANGED, TEMPLATE_WRITE,
DRIVE_CURVE_WRITE, LINE_SETTINGS_WRITE, PORT_SETTINGS_WRITE, SITE_NOTES_WRITE, ROSTER_WRITE. -/
def Obligations.ObjectWritesWaitAndTakeEffect : Prop :=
  (∀ (s : State) (f : Frame) (x : Session) (o : Obj), frameTaken s.vol f = true → sessionTaken s.vol f x = true →
     f.cmd = 4 → objOf (inSession f x s.vol) f.ident = some o →
     attrExists s.nv (inSession f x s.vol) o f.attr.toNat = true → setStatus (inSession f x s.vol) x.role o = none →
     s.vol.work.store.present = true → s.vol.work.disp.present = true → s.vol.work.store.line.length < 5 →
     s.vol.work.store.held = [] →
     (∀ v k clamped, o ≠ .control → o ≠ .clock → o ≠ .notes → o ≠ .roster →
       setOut (inSession f x s.vol) f o = .write v k clamped →
       guardStatus (inSession f x s.vol) x.role (writesLegal v) = none →
       ∃ t n, exec ((rowOf s.vol f).instr f) s = .next t ∧ t.nv = s.nv ∧ t.vol.bak = s.vol.bak ∧
         t.vol.work.obj = s.vol.work.obj ∧ t.vol.ret.led = s.vol.ret.led ∧ t.vol.work.life = s.vol.work.life ∧
         t.vol.work.ex.inHand =
           some
             { frame := f, clamps := k.map (fun p => clampEntry f.ident p.1 0 p.2), clamped, await := .write v n false }) ∧
     (o = .notes → f.attr = 255 → f.data.drop 2 ≠ [] → beNat (f.data.take 2) < 4096 →
       ∃ t, exec (.siteNotesWrite f) s = .next t ∧ t.nv = s.nv ∧ t.vol.bak = s.vol.bak ∧
         t.vol.work.ex.inHand =
           some
             { frame := f, clamps := [], clamped := decide (64 < (f.data.drop 2).length), await := .write .notes 1 false }) ∧
     (o = .roster → f.attr ≠ 255 → f.data.length = 8 →
       ∃ t, exec (.rosterWrite f) s = .next t ∧ t.nv = s.nv ∧ t.vol.bak = s.vol.bak ∧
         t.vol.work.ex.inHand = some { frame := f, clamps := [], clamped := false, await := .write .roster 1 false })) ∧
  (∀ (nv : Nv) (status : Option Nat) (s : Vol) (f : Frame) (k : List (BitVec 64)) (clamped : Bool) (v : ObjVal) (n : Nat)
     (b : Bool), s.work.ex.inHand = some { frame := f, clamps := k, clamped, await := .write v n b } →
     let t := completeWrite nv status s
     t.work.ex.inHand = none ∧ t.work.obj = (putVal f.port v s).work.obj ∧ t.ret.led = (putVal f.port v s).ret.led ∧
       t.work.life = (putVal f.port v s).work.life ∧ t.work.line.settings = (putVal f.port v s).work.line.settings ∧
       t.bak = (putVal f.port v s).bak ∧
       t.ret.ex.clampReport = (k.reverse ++ s.ret.ex.clampReport).take 32)

/-- R104, R105, R291, R452, R485, R514: a SET of the control object takes a request that its element admits, and one that comes while a
port or line loop-back runs leaves that one as it is and waits for its end; a SET of the
clock stages the time with the weekday of its date. The commands are the frame's own row: ACOUSTIC_LOOPBACK_INJECTOR,
ACOUSTIC_LOOPBACK_REFERENCE, ACOUSTIC_LOOPBACK_CROSSPOINT, ACOUSTIC_LOOPBACK_STOP, PORT_LOOPBACK_DIGITAL, PORT_LOOPBACK_PIN,
LINE_LOOPBACK_SYMBOL, LINE_LOOPBACK_ANALOG, LINE_LOOPBACK_EXTERNAL, DISPLAY_READBACK_REQUEST, CLOCK_SET. -/
def Obligations.RequestsOfTheControlObjectAreTaken : Prop :=
  ∀ (s : State) (f : Frame) (x : Session) (o : Obj) (n : Nat), frameTaken s.vol f = true → sessionTaken s.vol f x = true →
    f.cmd = 4 → objOf (inSession f x s.vol) f.ident = some o →
    attrExists s.nv (inSession f x s.vol) o f.attr.toNat = true → setStatus (inSession f x s.vol) x.role o = none →
    (o = .control → f.data.length = 4 → n = beNat f.data →
      controlStatus (inSession f x s.vol) f.attr.toNat n = stOk →
      ∃ t, exec ((rowOf s.vol f).instr f) s = .next t ∧ t.nv = s.nv ∧ t.vol.bak = s.vol.bak ∧
        (f.attr = 0 → t.vol.work.loop.request = BitVec.ofNat 32 (acousticClamp s.vol n).1) ∧
        (f.attr = 0 → n / 2 ^ 28 = 0 → t.vol.work.loop.requested = false ∧
          (s.vol.work.loop.running = true → t.vol.work.loop.ending = some (s.vol.work.loop.ending.getD 0))) ∧
        (f.attr = 0 → n / 2 ^ 28 ≠ 0 → 
          t.vol.work.loop.requested = (!s.vol.work.loop.running || s.vol.work.loop.ending.isSome) ∧
          t.vol.work.loop.session = f.session.toNat) ∧
        (f.attr = 1 → t.vol.work.pt.lbRequest = BitVec.ofNat 32 n ∧ t.vol.work.pt.lbRun = s.vol.work.pt.lbRun ∧
          t.vol.work.pt.lbResult = s.vol.work.pt.lbResult ∧ t.vol.work.pt.lbPending = decide (n / 2 ^ 28 ≠ 0) ∧
          (n / 2 ^ 28 ≠ 0 → t.vol.work.pt.lbNextSession = f.session.toNat)) ∧
        (f.attr = 3 → t.vol.work.line.lbRequest = BitVec.ofNat 32 n ∧
          (n / 2 ^ 28 ≠ 0 → s.vol.work.line.lbResult ≠ 1 → t.vol.work.line.lbResult = 1 ∧ t.vol.work.line.lbErrors = 0 ∧
            t.vol.work.line.lbRun = BitVec.ofNat 32 n ∧ t.vol.work.line.lbSession = f.session.toNat) ∧
          (n / 2 ^ 28 = 0 ∨ s.vol.work.line.lbResult = 1 → t.vol.work.line.lbRun = s.vol.work.line.lbRun ∧
            t.vol.work.line.lbResult = s.vol.work.line.lbResult ∧ t.vol.work.line.lbSession = s.vol.work.line.lbSession ∧
            t.vol.work.line.lbPending = decide (n / 2 ^ 28 ≠ 0))) ∧
        (f.attr = 5 → n / 2 ^ 28 ≠ 0 → t.vol.work.disp.lbResult = 1 ∧ t.vol.work.disp.lbRequest = BitVec.ofNat 32 n)) ∧
    (o = .clock → f.data.length = 16 → (stagedCal f.data).valid = true → f.stalls = false →
      ∃ t, exec (.clockSet f) s = .next t ∧ t.nv = s.nv ∧ t.vol.bak.cal = s.vol.bak.cal ∧
        t.vol.bak.stage = some
          { time := { stagedCal f.data with wday := toBcd (weekdayOf (stagedCal f.data).days) }, since := s.vol.bak.count,
            committed := true, role := x.role,
            clamped := toBcd (weekdayOf (stagedCal f.data).days) != (stagedCal f.data).wday } ∧
        t.vol.work.ex.inHand.any (fun h => h.frame == f && h.await == .clock) = true)

/-- R274, R344, R548, R549: the actions: seal and retire order their change, which waits for the reply; the count clear; a
submitted token is evaluated, and an acceptance waits for its log write. -/
def Obligations.ActionsAreCarriedOut : Prop :=
  ∀ (s : State) (f : Frame) (x : Session) (o : Obj), frameTaken s.vol f = true → sessionTaken s.vol f x = true →
    f.cmd = 5 → objOf (inSession f x s.vol) f.ident = some o →
    attrExists s.nv (inSession f x s.vol) o f.attr.toNat = true → actStatus (inSession f x s.vol) x.role o (f.data.headD 0).toNat = none →
    (∀ n, n = 1 ∨ n = 2 → o = .life → f.data = [n] → sealable s.vol = true → (s.vol.bak.sealOpen = (n == 2)) →
      x.role = (if n = 1 then .metrology else .operator) → s.vol.work.life.change = none →
      (n = 1 → (pathCount (th s.vol 0) = 0 ∨ (calibWritten s.vol).area ≠ 0) ∧ s.vol.work.life.keyset.getLsbD 2 = true) →
      ∃ t, exec (if n = 1 then .sealAction f else .retireAction f) s = .next t ∧ t.nv = s.nv ∧ t.vol.bak = s.vol.bak ∧
        t.vol.work.life.state = s.vol.work.life.state ∧ t.vol.work.life.pending = s.vol.work.life.pending ∧
        t.vol.work.life.change.any (fun c => !c.begun && c.op == (if n = 1 then 2 else 1) &&
          c.target == (if n = 1 then .sealed else .retired) && c.via == some f.port && c.since == s.vol.bak.count) = true) ∧
    (∀ n : Fin 4, o = .fin n.val → finMode (th s.vol 9) n.val = 3 → f.data = [1] →
      ∃ t, exec (.countClear f) s = .next t ∧ t.nv = s.nv ∧ t.vol.bak = s.vol.bak ∧
        t.vol.ret.count = vset s.vol.ret.count n.val 0) ∧
    (∀ ds, o = .credit → f.data.head? = some 1 → tokenDigits f.data.tail = some ds →
      ∃ t, exec (.tokenSubmit f) s = .next t ∧ t.nv = s.nv ∧ t.vol.bak = s.vol.bak ∧
        t.vol.ret.pre.credit = s.vol.ret.pre.credit ∧ t.vol.ret.pre.idhwm = s.vol.ret.pre.idhwm ∧
        (tokenResult s.nv s.vol (tokenNumber ds) = 0 →
          t.vol.work.ex.inHand = some { frame := f, clamps := [], clamped := false, await := .token } ∧
            t.vol.ret.pre.tokens.length = s.vol.ret.pre.tokens.length + 1) ∧
        (tokenResult s.nv s.vol (tokenNumber ds) ≠ 0 →
          t.vol.work.ex.inHand = none ∧ t.vol.ret.pre.tokens = s.vol.ret.pre.tokens ∧
            t.vol.work.pre.result = some (tokenResult s.nv s.vol (tokenNumber ds))))

/-- R407, R410, R411, R544, R551, R557, R558: the waits of the engine end their session, slot or lock-out; an ordered change begins
once the reply to its action has left or 100 ms have passed, and is not pending before it is journalled;
and an availability window of 365 days closes. -/
def Obligations.SessionsLockoutsChangesAndWindowsEnd : Prop :=
  ∀ s : State,
    (∀ (n : Fin 4) x, slotAt s.vol n.val = some x → x.reserved = false → 7680 ≤ (s.vol.bak.count - x.lastTick).toNat →
      ∃ t, exec (.sessionTimeout n) s = .next t ∧ t.nv = s.nv ∧ slotAt t.vol n.val = none ∧ t.vol.bak = s.vol.bak ∧
        ∀ m : Nat, m < 4 → m ≠ n.val → slotAt t.vol m = slotAt s.vol m) ∧
    (∀ (n : Fin 4) x, slotAt s.vol n.val = some x → x.reserved = true → 640 ≤ (s.vol.bak.count - x.lastTick).toNat →
      exec (.slotReserveTimeout n) s =
        .next { s with vol.work.ex.sessions := vset s.vol.work.ex.sessions n.val none }) ∧
    (∀ (r : Role) t, vget s.vol.ret.ex.lockFrom (roleCode r) = some t → 38400 ≤ (s.vol.bak.count - t).toNat →
      exec (.authLockoutEnd r) s =
        .next { s with vol.ret.ex.lockFrom := vset s.vol.ret.ex.lockFrom (roleCode r) none }) ∧
    (∀ (i : StartIn) c, s.vol.work.life.change = some c → c.begun = false → coreRuns s.vol = true →
      (changeMayBegin c s.vol = true →
        ∃ t, exec (.lifecycleChange i) s = .next t ∧ t.nv = s.nv ∧ t.vol.work.life.pending = s.vol.work.life.pending ∧
          t.vol.work.life.target = s.vol.work.life.target ∧ t.vol.work.life.state = s.vol.work.life.state ∧
          t.vol.work.life.change.any (fun d => d.begun && d.stage == .flush && d.target == c.target && d.pins == i) = true) ∧
      (c.via = some .optical → (vget s.vol.work.ex.replies 0).isSome = true → (s.vol.bak.count - c.since).toNat < 7 →
        exec (.lifecycleChange i) s = .next s)) ∧
    (2018304000 ≤ s.vol.ret.avail.elapsed.toNat →
      ∃ t, exec .availWindow s = .next t ∧ t.nv = s.nv ∧ t.vol.ret.avail =
        { elapsed := 0, lost := 0, lastLost := s.vol.ret.avail.lost, windows := satInc s.vol.ret.avail.windows,
          wresets := 0 })

/-! ### Ports (R429 to R454) -/

/-- R402, R430, R432, R433, R439, R447, R448, R451 to R453: a formed reply leaves its port, at the rate of the request on the optical
port, and the settings that it answered take effect; with the reply to CLOSE its session ends; the optical transmitter is low and the
EIA-485 driver off while nothing is sent, and DE485 is high from a bit time before the reply to one after it; a silence discards the
frame before it; a port loop-back runs from the reply to its request over the 511 bits of PRBS9, and its end reports the bits and
errors, none in a digital loop; an output with pulses waiting and 164 LF periods released goes low with one
fewer waiting, and after 164 LF periods it is released. -/
def Obligations.PortsReplyLoopBackAndPulse : Prop :=
  (∀ s : State,
     (∀ p b, p = .optical ∨ p = .rs485 → coreRuns s.vol = true → replyAt s.vol p = some b →
       ∃ t, exec (.replyTransmit p) s = .next t ∧ t.nv = s.nv ∧ t.vol.bak = s.vol.bak ∧ t.vol.ret.led = s.vol.ret.led ∧
         vget t.vol.work.ex.sent (portIx p) = b ∧ replyAt t.vol p = none ∧
         (∀ n : Nat, n < 4 → ∀ x, slotAt s.vol n = some x →
           slotAt t.vol n = if x.closing = true ∧ x.port = p then none else some x) ∧
         (∀ l, s.vol.work.pt.setNew = some (p, l) → t.vol.work.pt.setNew = none ∧ t.vol.work.pt.mbAddr = lget l 0 ∧
           t.vol.work.pt.mbBaud = lget l 1 ∧ t.vol.work.pt.rsAddr = lget l 2 ∧ t.vol.work.pt.stream = lget l 3) ∧
         vget t.vol.work.pt.sentRate (portIx p) = (if p = .optical then s.vol.work.pt.optRate else rs485Rate s.vol) ∧
         ((∀ n : Nat, n < 4 → ∀ x, slotAt s.vol n = some x → x.closing = false) →
           t.vol.ret = s.vol.ret ∧
             ((∀ l, s.vol.work.pt.setNew ≠ some (p, l)) →
               t.vol.work.pt = { s.vol.work.pt with sentRate := t.vol.work.pt.sentRate }))) ∧
     (∀ i : Option Int, s.vol.bak.power.state = .doze → s.vol.bak.power.iovddLow = false →
       (bitSent s.vol .optical i = none → optxPin s.vol i = .low) ∧
       (∀ b, bitSent s.vol .optical i = some b → optxPin s.vol i = .of b) ∧
       (i = none → de485Pin s.vol i = .low ∧ txd485Pin s.vol i = .high) ∧
       (∀ n : Int, i = some n → vget s.vol.work.ex.sent 2 ≠ [] →
         de485Pin s.vol i =
           .of (decide (-1 ≤ n ∧ n ≤ ((pinLevels .rs485 (vget s.vol.work.ex.sent 2)).length : Int))))) ∧
     (∀ p, p = .optical ∨ p = .mbus ∨ p = .rs485 → coreRuns s.vol = true → portInSet s.vol p = true →
       exec (.frameSilenceTimeout p) s =
         .next { s with
           vol.work.pt.frameDiscard := satInc s.vol.work.pt.frameDiscard
           vol.work.ex.lastTraffic := vset s.vol.work.ex.lastTraffic (portIx p) (some s.vol.bak.count) }) ∧
     (coreRuns s.vol = true → s.vol.work.pt.lbPending = true → loopReplySent s.vol = true →
       s.vol.work.pt.lbResult ≠ 1 →
       exec .portLoopbackStart s =
         .next (s.up (logG 0x0608 (s.vol.work.pt.lbRequest.toNat / 2 ^ 28)
           { s.vol with
             work.pt.lbPending := false
             work.pt.lbRun := s.vol.work.pt.lbRequest
             work.pt.lbSession := s.vol.work.pt.lbNextSession
             work.pt.lbResult := 1
             work.pt.lbBits := 0
             work.pt.lbErrors := 0
             work.pt.lbEcho := none }))) ∧
     (∀ (bits : Nat) (back : List Bool) (aborted : Bool), s.vol.work.pt.lbResult = 1 →
       (s.vol.work.pt.lbRun.toNat / 2 ^ 28 ≠ 4 → aborted = true ∨ 511 ≤ bits →
         ∃ t, exec (.portLoopbackEnd bits back aborted) s = .next t ∧ t.nv = s.nv ∧ t.vol.bak = s.vol.bak ∧
           let e := loopErrors s.vol (min bits 511) back
           t.vol.work.pt.lbResult = (if aborted then 4 else if e = 0 then 2 else 3) ∧
             t.vol.work.pt.lbBits.toNat = min bits 511 ∧ t.vol.work.pt.lbErrors.toNat = e ∧ t.vol.work.pt.lbSession = 0 ∧
             (s.vol.work.pt.lbRun.toNat / 2 ^ 26 % 4 = 1 → e = 0) ∧
             (back = (prbs9 511).reverse → e = 0) ∧
             (s.vol.work.pt.lbRun.toNat / 2 ^ 26 % 4 ≠ 1 → back = [] → e = min bits 511)) ∧
       (s.vol.work.pt.lbRun.toNat / 2 ^ 28 ≠ 4 → bits < 511 →
         exec (.portLoopbackEnd bits back false) s = .next s) ∧
       (s.vol.work.pt.lbRun.toNat / 2 ^ 28 = 4 → aborted = true ∨ 512 ≤ s.vol.work.pt.lbBits.toNat →
         ∃ t, exec (.portLoopbackEnd bits back aborted) s = .next t ∧ t.nv = s.nv ∧ t.vol.bak = s.vol.bak ∧
           t.vol.work.pt.lbResult = (if aborted then 4 else 2) ∧ t.vol.work.pt.lbBits = s.vol.work.pt.lbBits ∧
           t.vol.work.pt.lbErrors = 0 ∧ t.vol.work.pt.lbSession = 0))) ∧
  (∀ s : State,
     (∀ n, pulsesRun s.vol = true → 164 ≤ n → s.vol.work.pt.pulseA.low = false → s.vol.ret.pulseA.backlog ≠ 0 →
       exec (.pulseStart ⟨.a, n⟩) s =
         .next { s with
           vol.work.pt.pulseA.low := true
           vol.ret.pulseA.backlog := s.vol.ret.pulseA.backlog - 1 }) ∧
     (∀ n, pulsesRun s.vol = true → 164 ≤ n → s.vol.work.pt.pulseB.low = false → s.vol.ret.pulseB.backlog ≠ 0 →
       exec (.pulseStart ⟨.b, n⟩) s =
         .next { s with
           vol.work.pt.pulseB.low := true
           vol.ret.pulseB.backlog := s.vol.ret.pulseB.backlog - 1 }) ∧
     (∀ o n, n < 164 ∨ (s.vol.work.pt.pulseA.low = true ∧ o = .a) → exec (.pulseStart ⟨o, n⟩) s = .next s) ∧
     exec (.pulseEnd .a) s = .next { s with vol.work.pt.pulseA.low := false } ∧
     exec (.pulseEnd .b) s = .next { s with vol.work.pt.pulseB.low := false })

/-- R434 to R437, R526: the M-Bus link layer: the acknowledgement, the data response and the tunnelled reply, each with a new access
number, its repetition under the same FCB, the tunnelled frame, selection and the rate; FCV 0 counts nothing. A frame at another bit
rate is not heard, and one for another device is traffic only. The access number of a repetition is the model's reading (log entry
147). -/
def Obligations.TheMbusLinkLayerAnswers : Prop :=
  ∀ (s : State) (d : MbusTo), mbusUp s.vol = true → portLooped s.vol .mbus = false →
    (mbusHears s.vol d.bitNs = false → exec (.mbusSndNke d) s = .next s ∧ ∀ c, exec (.mbusReqUd2 d c) s = .next s) ∧
    (mbusHears s.vol d.bitNs = true → mbusMine s.vol d.addr = false →
      let traffic : State := { s with vol.work.ex.lastTraffic := vset s.vol.work.ex.lastTraffic 1 (some s.vol.bak.count) }
      exec (.mbusSndNke d) s = .next traffic ∧ ∀ c, exec (.mbusReqUd2 d c) s = .next traffic) ∧
    (mbusHears s.vol d.bitNs = true → mbusMine s.vol d.addr = true →
      (∃ t, exec (.mbusSndNke d) s = .next t ∧ t.nv = s.nv ∧ t.vol.bak = s.vol.bak ∧ t.vol.ret.led = s.vol.ret.led ∧
        t.vol.work.pt.mbus.fcb = none ∧ t.vol.work.pt.mbus.udFcb = none ∧ t.vol.work.pt.mbus.tunnel = false ∧
        replyAt t.vol .mbus = none ∧ t.vol.work.pt.mbus.rate = s.vol.work.pt.mbus.rate ∧
        vget t.vol.work.ex.sent 1 = if d.addr = 255 then vget s.vol.work.ex.sent 1 else [0xE5]) ∧
      (∀ c : FrameCount, d.addr ≠ 255 →
        ¬ (c.fcv = true ∧ s.vol.work.pt.mbus.fcb = some c.fcb ∧ s.vol.work.pt.mbus.lastResponse ≠ []) →
        ∃ t, exec (.mbusReqUd2 d c) s = .next t ∧ t.nv = s.nv ∧ t.vol.bak = s.vol.bak ∧ t.vol.ret.led = s.vol.ret.led ∧
          t.vol.work.pt.mbus.fcb = (if c.fcv then some c.fcb else s.vol.work.pt.mbus.fcb) ∧
          t.vol.work.pt.mbus.access = s.vol.work.pt.mbus.access + 1 ∧
          t.vol.work.pt.mbus.lastResponse = vget t.vol.work.ex.sent 1 ∧
          (s.vol.work.pt.mbus.tunnel = false →
            vget t.vol.work.ex.sent 1 = ft12 s.vol 0x72
              (mbusIdent s.nv ++ [s.vol.work.pt.mbus.access + 1, mbusStatus s.vol, 0, 0] ++ mbusRecords s.vol)) ∧
          (∀ b, s.vol.work.pt.mbus.tunnel = true → replyAt s.vol .mbus = some b →
            vget t.vol.work.ex.sent 1 = ft12 s.vol 0xA5 b ∧ replyAt t.vol .mbus = none ∧
              t.vol.work.pt.mbus.tunnel = false) ∧
          (s.vol.work.pt.mbus.tunnel = true → replyAt s.vol .mbus = none →
            vget t.vol.work.ex.sent 1 = ft12 s.vol 0xA5 [] ∧ t.vol.work.pt.mbus.tunnel = true)) ∧
      (∀ fcb : Bool, d.addr ≠ 255 → s.vol.work.pt.mbus.fcb = some fcb → s.vol.work.pt.mbus.lastResponse ≠ [] →
        exec (.mbusReqUd2 d ⟨fcb, true⟩) s =
          .next { s with
            vol.work.pt.mbus.lastValid := s.vol.bak.count
            vol.work.ex.lastTraffic := vset s.vol.work.ex.lastTraffic 1 (some s.vol.bak.count)
            vol.work.pt.sentRate := vset s.vol.work.pt.sentRate 1 (300 * 2 ^ s.vol.work.pt.mbus.rate.toNat)
            vol.work.ex.sent := vset s.vol.work.ex.sent 1 s.vol.work.pt.mbus.lastResponse }) ∧
      (∀ (c : FrameCount) (f : Frame), d.addr ≠ 255 → f.data.length ≤ 233 →
        ∃ t, exec (.mbusSndUd d c 0xA5 f) s = .next t ∧ t.nv = s.nv ∧
          t.vol.work.pt.mbus.udFcb = (if c.fcv then some c.fcb else s.vol.work.pt.mbus.udFcb) ∧
          vget t.vol.work.ex.sent 1 = [0xE5] ∧
          (c.fcv = true → s.vol.work.pt.mbus.udFcb = some c.fcb → t.vol.bak = s.vol.bak ∧ t.vol.ret = s.vol.ret ∧
            t.vol.work.obj = s.vol.work.obj ∧ t.vol.work.ex.inHand = s.vol.work.ex.inHand ∧
            t.vol.work.ex.queue = s.vol.work.ex.queue)) ∧
      (∀ ud : UdHead, 0xB8 ≤ ud.ci.toNat → ud.ci.toNat ≤ 0xBD →
        ∃ t, exec (.mbusBaudSwitch d ud) s = .next t ∧ t.nv = s.nv ∧ t.vol.bak = s.vol.bak ∧ t.vol.ret = s.vol.ret ∧
          t.vol.work.pt.mbus.udFcb = (if ud.count.fcv then some ud.count.fcb else s.vol.work.pt.mbus.udFcb) ∧
          t.vol.work.pt.mbus.rate =
            if ud.count.fcv = true ∧ s.vol.work.pt.mbus.udFcb = some ud.count.fcb then s.vol.work.pt.mbus.rate
            else BitVec.ofNat 3 (ud.ci.toNat - 0xB8))) ∧
    (∀ p : Selection, mbusHears s.vol p.bitNs = true →
      ∃ t, exec (.mbusSelect p) s = .next t ∧ t.nv = s.nv ∧ t.vol.bak = s.vol.bak ∧ t.vol.ret = s.vol.ret ∧
        t.vol.work.pt.mbus.selected = selectionMatches s.nv p.pattern ∧
        (selectionMatches s.nv p.pattern = true → vget t.vol.work.ex.sent 1 = [0xE5] ∧
          t.vol.work.pt.mbus.udFcb = if p.count.fcv then some p.count.fcb else s.vol.work.pt.mbus.udFcb)) ∧
    (38400 ≤ (s.vol.bak.count - s.vol.work.pt.mbus.lastValid).toNat →
      exec .mbusBaudTimeout s = .next { s with vol.work.pt.mbus.rate := ofInt 3 s.vol.work.pt.mbBaud })

/-- R69, R71, R441 to R445: a new transaction of LINK begins with its OP and STATUS; a whole record of the host is taken and an
incomplete one waits; the bits of a byte that LSCK leaves incomplete are held; a transaction that began with RDY 0 stays so, and one with
an OP of 0x03 to 0xFF is ignored until LCS_N rises; records leave byte by byte, and the filler where
there is none, LSDO holding the last bit; the end of a transaction discards what is incomplete. -/
def Obligations.LinkCarriesRecordsBothWays : Prop :=
  ∀ s : State, portInSet s.vol .link = true →
    (s.vol.work.pt.link.selected = false →
      exec .linkNop s =
        .next { s with
          vol.work.pt.link.lcsLow := true
          vol.work.pt.link.selected := true
          vol.work.pt.link.shift := []
          vol.work.pt.link.lsdo := (linkStatus s.vol).getLsbD 0
          vol.work.pt.link.op := 0
          vol.work.pt.link.ready := coreRuns s.vol
          vol.work.pt.link.rx := []
          vol.work.pt.link.shifted := 0
          vol.work.pt.link.sent := [0x00, linkStatus s.vol]
          vol.work.pt.link.rxOverflow := false }) ∧
    (s.vol.work.pt.link.selected = true → s.vol.work.pt.link.op = 1 → s.vol.work.pt.link.rx = [] →
      s.vol.work.pt.link.shift = [] → s.vol.work.pt.link.ready = true → coreRuns s.vol = true →
      portLooped s.vol .link = false →
      (∀ (type : Nat) (body : Bytes), type = 1 ∨ type = 7 → body.length < 65536 →
        exec (.linkWrite ⟨BitVec.ofNat 8 type :: (beBytes 2 body.length ++ body), [], 1⟩) s =
          .next (s.up
            { hostRecord s.nv type body
                { s.vol with work.pt.link.lcsLow := true, work.pt.link.lsdo := false, work.pt.link.sent := [] } with
              work.pt.link.rx := [] })) ∧
      (∀ (type : Byte) (r : Bytes), type ≠ 0 → r.length < 2 ∨ r.length < 2 + beNat (r.take 2) →
        exec (.linkWrite ⟨type :: r, [], 1⟩) s =
          .next { s with
            vol.work.pt.link.lcsLow := true
            vol.work.pt.link.lsdo := false
            vol.work.pt.link.sent := []
            vol.work.pt.link.rx := type :: r }) ∧
      (∀ tail : List Bool, tail.length < 8 →
        exec (.linkWrite ⟨[], tail, 1⟩) s =
          .next { s with
            vol.work.pt.link.lcsLow := true
            vol.work.pt.link.lsdo := false
            vol.work.pt.link.sent := []
            vol.work.pt.link.shift := tail })) ∧
    (s.vol.work.pt.link.selected = true → s.vol.work.pt.link.op = 1 → s.vol.work.pt.link.shift = [] →
      s.vol.work.pt.link.ready = false → coreRuns s.vol = true → ∀ b : Bytes,
      exec (.linkWrite ⟨b, [], 1⟩) s =
        .next { s with
          vol.work.pt.link.lcsLow := true
          vol.work.pt.link.lsdo := false
          vol.work.pt.link.sent := [] }) ∧
    (∀ (op : Byte) (b : Bytes), 3 ≤ op.toNat → s.vol.work.pt.link.selected = true → s.vol.work.pt.link.op = op →
      s.vol.work.pt.link.shift = [] →
      exec (.linkWrite ⟨b, [], op⟩) s =
        .next { s with
          vol.work.pt.link.lcsLow := true
          vol.work.pt.link.lsdo := false
          vol.work.pt.link.sent := [] }) ∧
    (∀ n : Nat, s.vol.work.pt.link.selected = true → s.vol.work.pt.link.op = 2 → s.vol.work.pt.link.shift = [] →
      s.vol.work.pt.link.ready = true → coreRuns s.vol = true → portLooped s.vol .link = false → 0 < n →
      (linkPick s.vol.work.pt.link = none →
        exec (.linkRead (8 * n)) s =
          .next { s with
            vol.work.pt.link.lcsLow := true
            vol.work.pt.link.lsdo := false
            vol.work.pt.link.sent := List.replicate n 0x00 }) ∧
      (∀ q, linkPick s.vol.work.pt.link = some q →
        let r := (linkQueue s.vol.work.pt.link q).headD []
        let k := s.vol.work.pt.link.shifted
        (k + n < r.length →
          exec (.linkRead (8 * n)) s =
            .next { s with
              vol.work.pt.link.lcsLow := true
              vol.work.pt.link.lsdo := ((slice r k n).getLast?.map (·.getLsbD 0)).getD s.vol.work.pt.link.lsdo
              vol.work.pt.link.sent := slice r k n
              vol.work.pt.link.shifted := k + n
              vol.work.pt.link.source := q }) ∧
        (q < 4 → k + n = r.length →
          ∃ t, exec (.linkRead (8 * n)) s = .next t ∧ t.nv = s.nv ∧ t.vol.bak = s.vol.bak ∧
            ((∀ i : Nat, i < 4 → ∀ x, slotAt s.vol i = some x → x.closing = false) → t.vol.ret = s.vol.ret) ∧
            t.vol.work.pt.link.sent = slice r k n ∧ t.vol.work.pt.link.shifted = 0 ∧
            linkQueue t.vol.work.pt.link q = (linkQueue s.vol.work.pt.link q).tail))) ∧
    ∀ tail : List Bool, s.vol.work.pt.link.shift.length + tail.length < 8 →
      exec (.linkDeselect tail) s =
        .next { s with
          vol.work.pt.frameDiscard :=
            if s.vol.work.pt.link.rx = [] then s.vol.work.pt.frameDiscard else satInc s.vol.work.pt.frameDiscard
          vol.work.pt.link.lcsLow := false
          vol.work.pt.link.selected := false
          vol.work.pt.link.op := 0
          vol.work.pt.link.rx := []
          vol.work.pt.link.shift := []
          vol.work.pt.link.shifted := 0 }

/-! ### Signalling over the power wiring (R455 to R487) -/

/-- R455, R457, R458, R461, R463 to R465: the half-cycles of every context are counted while the LINE clock runs, in use or not. An idle
context leaves idle after eight good spacings of the crossings of its samples, with two erased half-cycles before it; a context in use
sums the samples before its crossing, and follows a half-cycle that is neither erased nor its own by 1/64; a warm-up half-cycle and one
with lost samples are erased; a missing phase ends what is on the line, pulses among it; a drive record gives its pulse, or comes too
late and aborts the frame. -/
def Obligations.ContextsFollowThePhase : Prop :=
  ∀ (s : State) (k : Fin 3),
    let c := lctx s.vol k.val
    let r := refresh k.val s.vol
    (coreRuns s.vol = true → lineAbsent s.vol = false → ∀ h : HalfCycle,
      let l := seenSamples r k.val c.hc h.samples
      (∃ t, exec (.lineHalfCycle k h) s = .next t ∧ t.nv = s.nv ∧ t.vol.bak = s.vol.bak ∧ t.vol.ret.led = s.vol.ret.led ∧
        (lctx t.vol k.val).hc = c.hc + 1 ∧ (lctx t.vol k.val).past = l ∧
        (c.past ≠ [] → (lctx t.vol k.val).windows = (windowSamples c l :: c.windows).take 2)) ∧
      (∀ a b, c.idle = true → c.lastCross = some a → crossingsOf c l = [b] → goodSpacing a (crossPos c.hc b) = true →
        ∃ t, exec (.lineHalfCycle k h) s = .next t ∧ t.vol.ret = s.vol.ret ∧ (lctx t.vol k.val).xofs = c.xofs ∧
          (c.good + 1 < 8 → (lctx t.vol k.val).idle = true ∧ (lctx t.vol k.val).good = c.good + 1) ∧
          (8 ≤ c.good + 1 → (lctx t.vol k.val).idle = false ∧ (lctx t.vol k.val).warmup = 2)) ∧
      (c.idle = false → lineUp r k.val = true →
        let erased := decide (0 < c.warmup) || decide (0 < h.lost) ||
          windowJumps (lineSet r k.val 5) (windowSamples c l) c.windows
        ∃ t, exec (.lineHalfCycle k h) s = .next t ∧ (lctx t.vol k.val).warmup = c.warmup - 1 ∧
          (lctx t.vol k.val).prevNotch = notchSum (notchSamples c l) ∧ (lctx t.vol k.val).prevErased = erased ∧
          (lctx t.vol k.val).erased = (if erased then satInc c.erased else c.erased) ∧
          (lctx t.vol k.val).xofs =
            if erased || ctxSends c c.hc then c.xofs else xofsAfter c.xofs c.hc (crossingsOf c l))) ∧
    (lineUp s.vol k.val = true →
      (c.idle = false →
        ∃ t, exec (.phaseMissing k) s = .next t ∧ t.nv = s.nv ∧ t.vol.bak = s.vol.bak ∧ t.vol.ret.led = s.vol.ret.led ∧
          (lctx t.vol k.val).idle = true ∧ (lctx t.vol k.val).queue = [] ∧ (lctx t.vol k.val).rest = [] ∧
          (lctx t.vol k.val).rx = none ∧ (lctx t.vol k.val).frame = none ∧ (lctx t.vol k.val).owed = none ∧
          (lctx t.vol k.val).pulses = [] ∧ (lctx t.vol k.val).pdHigh = false) ∧
      (∀ d h n, s.vol.work.line.drive.find? (·.ctx.val == k.val) = some d →
        (d.live = true → inTime d h n = true →
          ∃ t, exec (.driveRecord k ⟨h, n⟩) s = .next t ∧ t.nv = s.nv ∧ t.vol.bak = s.vol.bak ∧ t.vol.ret = s.vol.ret ∧
            (lctx t.vol k.val).pulses =
              c.pulses ++ [{ hc := d.hc, tick := d.tick, ticks := lineSet s.vol k.val 1, sym := d.sym }] ∧
            (d.hc = c.hc → (lctx t.vol k.val).pdHigh = true) ∧ t.vol.work.fab = s.vol.work.fab) ∧
        (d.live = true → inTime d h n = false →
          ∃ t, exec (.driveRecord k ⟨h, n⟩) s = .next t ∧ t.nv = s.nv ∧ t.vol.bak = s.vol.bak ∧
            t.vol.work.fab.late = satInc s.vol.work.fab.late ∧ (lctx t.vol k.val).txAbort = true ∧
            (lctx t.vol k.val).queue = [] ∧ (lctx t.vol k.val).rest = []) ∧
        (d.live = false →
          ∃ t, exec (.driveRecord k ⟨h, n⟩) s = .next t ∧ t.nv = s.nv ∧ t.vol.bak = s.vol.bak ∧ t.vol.ret = s.vol.ret ∧
            (lctx t.vol k.val).pulses = c.pulses ∧ (lctx t.vol k.val).pdHigh = c.pdHigh ∧
            t.vol.work.fab.late = satInc s.vol.work.fab.late)))

/-- R470 to R472: a node prepares its READING for a POLL, hands an OBJECT to the engine, and replies TTURN bit periods after the
request with each bit R times. -/
def Obligations.NodesAnswerPollsAndObjects : Prop :=
  ∀ (s : State) (k : Fin 3), lineUp s.vol k.val = true → serves s.vol k.val 2 = true →
    (∀ f, (lctx s.vol k.val).frame = some f → f.type = 1 →
      ∃ t, exec (.linePoll k) s = .next t ∧ t.nv = s.nv ∧ t.vol.bak = s.vol.bak ∧ t.vol.ret = s.vol.ret ∧
        (lctx t.vol k.val).frame = none ∧
        (lctx t.vol k.val).owed = some
          { bits := lineBits 0 (lineSet s.vol k.val 11) 2 (readingPayload s.vol f.margin), formed := true,
            dueAt := f.endHc + 1 + BitVec.ofNat 16 (bitPeriods s.vol k.val (lineSet s.vol k.val 7)),
            fromEngine := false }) ∧
    (∀ f, (lctx s.vol k.val).frame = some f → f.type = 3 → f.dest ≠ 16383 → portBusy s.vol .line = false →
      ∃ t, exec (.lineObject k) s = .next t ∧ t.nv = s.nv ∧ (lctx t.vol k.val).frame = none ∧
        (lctx t.vol k.val).owed = some
          { bits := [], formed := false,
            dueAt := f.endHc + 1 + BitVec.ofNat 16 (bitPeriods s.vol k.val (lineSet s.vol k.val 7)),
            fromEngine := true }) ∧
    (∀ o, (lctx s.vol k.val).owed = some o → (o.dueAt - (lctx s.vol k.val).hc).toNat ≤ 1 →
      (lctx s.vol k.val).queue = [] →
      ∃ t, exec (.nodeReply k) s = .next t ∧ t.nv = s.nv ∧ t.vol.bak = s.vol.bak ∧ (lctx t.vol k.val).owed = none ∧
        (o.fromEngine = false → t.vol.work.line.ncount = s.vol.work.line.ncount + 1 ∧
          (lctx t.vol k.val).queue.length + (lctx t.vol k.val).rest.length = repeats s.vol k.val * o.bits.length) ∧
        (∀ b, o.fromEngine = true → replyAt s.vol .line = some b → replyAt t.vol .line = none ∧
          (lctx t.vol k.val).queue.length + (lctx t.vol k.val).rest.length =
            repeats s.vol k.val * (lineBits 0 (lineSet s.vol k.val 11) 3 b).length) ∧
        (o.fromEngine = true → replyAt s.vol .line = none → (lctx t.vol k.val).queue = []))

/-- R473 to R477: a sweep begins and polls node after node; an attempt without an answer is made again until RETRIES is spent,
and a READING ends the poll. -/
def Obligations.MastersSweepAndPoll : Prop :=
  ∀ (s : State) (k : Fin 3), lineUp s.vol k.val = true →
    (let r := refresh k.val s.vol
     lineUp r k.val = true → serves r k.val 3 = true → vget s.vol.ret.line.sweeping k.val = false →
      (∀ t, vget s.vol.ret.line.sweepTick k.val = some t →
        lineSet r k.val 10 * 230400 ≤ (s.vol.bak.count - t).toNat) →
      s.vol.work.line.handback = false →
      exec (.sweepStart k) s =
        .next (s.up
          { r with
            ret.line.sweeping := vset s.vol.ret.line.sweeping k.val true
            ret.line.sweepTick := vset s.vol.ret.line.sweepTick k.val (some s.vol.bak.count)
            ret.line.next := vset s.vol.ret.line.next k.val (pollRange r k.val).1 })) ∧
    (masterFree (refresh k.val s.vol) k.val = true →
      (∀ p, (lctx s.vol k.val).poll = some p →
        ∃ t, exec (.pollAttempt k) s = .next t ∧ t.nv = s.nv ∧ t.vol.bak = s.vol.bak ∧ t.vol.ret = s.vol.ret ∧
          (lctx t.vol k.val).poll = some { p with attempt := p.attempt + 1, waiting := true, waited := 0 }) ∧
      (∀ n, (lctx s.vol k.val).poll = none → vget s.vol.ret.line.sweeping k.val = true → rosterQueued s.vol = false →
        nextNode s.nv (refresh k.val s.vol) k.val = some n →
        ∃ t, exec (.pollAttempt k) s = .next t ∧ t.nv = s.nv ∧ t.vol.bak = s.vol.bak ∧
          vget t.vol.ret.line.next k.val = n ∧
          (lctx t.vol k.val).poll = some { node := n, attempt := 1, waiting := true, touched := false, waited := 0 }) ∧
      ((lctx s.vol k.val).poll = none → vget s.vol.ret.line.sweeping k.val = true → rosterQueued s.vol = false →
        nextNode s.nv (refresh k.val s.vol) k.val = none →
        ∃ t, exec (.pollAttempt k) s = .next t ∧ t.nv = s.nv ∧ vget t.vol.ret.line.sweeping k.val = false ∧
          t.vol.work.line.sweeps = satInc s.vol.work.line.sweeps)) ∧
    (∀ f p, (lctx s.vol k.val).frame = some f → (lctx s.vol k.val).poll = some p → f.type = 2 →
      ∃ t, exec (.lineReading k) s = .next t ∧ t.nv = s.nv ∧ t.vol.bak = s.vol.bak ∧ t.vol.ret.led = s.vol.ret.led ∧
        (lctx t.vol k.val).poll = none ∧ (lctx t.vol k.val).frame = none ∧
        vget t.vol.ret.line.next k.val = p.node + 1) ∧
    (∀ p, (lctx s.vol k.val).poll = some p → p.waiting = true → (lctx s.vol k.val).rx = none →
      (lctx s.vol k.val).frame = none → (lctx s.vol k.val).queue = [] → (lctx s.vol k.val).rest = [] →
      bitPeriods s.vol k.val (lineSet s.vol k.val 7 + 20) ≤ p.waited → s.vol.work.line.handback = false →
      ∃ t, exec (.pollWaitTimeout k) s = .next t ∧ t.nv = s.nv ∧ t.vol.bak = s.vol.bak ∧
        (p.attempt < 1 + lineSet s.vol k.val 9 → (lctx t.vol k.val).poll = some { p with waiting := false }) ∧
        (1 + lineSet s.vol k.val 9 ≤ p.attempt → (lctx t.vol k.val).poll = none ∧
          vget t.vol.ret.line.next k.val = p.node + 1))

/-- R67, R446, R478 to R482: the host's edges keep it alive and wait in their channel while CORE is stopped, 255 beside the
first, its symbols are queued, its silence hands the line to the device, and it gets the line back when the current frames
have ended. -/
def Obligations.TheHostLosesAndRegainsTheLine : Prop :=
  ∀ s : State,
    (∀ body : Bytes, coreRuns s.vol = true →
      (symbolsBad s.vol body = true →
        exec (.hostSymbols body) s = .next { s with vol.work.pt.frameDiscard := satInc s.vol.work.pt.frameDiscard }) ∧
      (symbolsBad s.vol body = false →
        ∃ t, exec (.hostSymbols body) s = .next t ∧ t.nv = s.nv ∧ t.vol.bak = s.vol.bak ∧ t.vol.ret = s.vol.ret ∧
          t.vol.work.pt = s.vol.work.pt ∧
          (lctx t.vol ((body.headD 0).toNat % 4)).queue.length =
            (lctx s.vol ((body.headD 0).toNat % 4)).queue.length + (body.getD 3 0).toNat)) ∧
    (phyForHost s.vol = true → coreRuns s.vol = true →
      ∃ t, exec .hbeatEdge s = .next t ∧ t.nv = s.nv ∧ t.vol.bak = s.vol.bak ∧ t.vol.work.pt.link.alive = true ∧
        t.vol.work.pt.link.lastEdge = s.vol.bak.count ∧
        t.vol.work.line.handback = (s.vol.work.line.handback || s.vol.work.line.deviceService)) ∧
    (phyForHost s.vol = true → coreRuns s.vol = false →
      (s.vol.work.fab.hbeat.toggled = false →
        exec .hbeatEdge s = .next { s with vol.work.fab.hbeat.toggled := true }) ∧
      (s.vol.work.fab.hbeat.toggled = true → s.vol.work.fab.hbeat.pending ≠ 255 →
        exec .hbeatEdge s = .next { s with vol.work.fab.hbeat.pending := s.vol.work.fab.hbeat.pending + 1 }) ∧
      (s.vol.work.fab.hbeat.toggled = true → s.vol.work.fab.hbeat.pending = 255 →
        exec .hbeatEdge s = .next { s with vol.work.fab.toggleOvf := satInc s.vol.work.fab.toggleOvf })) ∧
    (coreRuns s.vol = true → phyForHost s.vol = true → s.vol.work.pt.link.alive = true →
      s.vol.work.pt.link.everAlive = true → 640 ≤ (s.vol.bak.count - s.vol.work.pt.link.lastEdge).toNat →
      ∃ t, exec .hostSilent s = .next t ∧ t.nv = s.nv ∧ t.vol.bak = s.vol.bak ∧ t.vol.work.pt.link.alive = false ∧
        t.vol.work.line.handback = false ∧ t.vol.work.line.deviceService = true) ∧
    (∀ k : Fin 3, lineUp (refresh k.val s.vol) k.val = true → phyForHost s.vol = true → s.vol.work.line.deviceService = true →
      s.vol.work.line.handback = false → (lctx s.vol k.val).serviceOn = false → (lctx s.vol k.val).idle = false →
      (lctx s.vol k.val).queue = [] →
      bitPeriods (refresh k.val s.vol) k.val (lineSet (refresh k.val s.vol) k.val 8) ≤ (lctx s.vol k.val).quiet →
      ∃ t, exec (.fallbackStart k) s = .next t ∧ t.nv = s.nv ∧ t.vol.bak = s.vol.bak ∧ t.vol.ret = s.vol.ret ∧
        (lctx t.vol k.val).serviceOn = true) ∧
    (coreRuns s.vol = true → s.vol.work.line.handback = true → s.vol.work.line.ctxs.all ctxFree = true →
      ∃ t, exec .lineHandback s = .next t ∧ t.nv = s.nv ∧ t.vol.bak = s.vol.bak ∧ t.vol.work.line.handback = false ∧
        t.vol.work.line.deviceService = false ∧ t.vol.work.line.ctxs.all (fun c => !c.serviceOn && c.poll.isNone) = true)

/-! ### Flow (R213 to R216) -/

/-- R215: the flow of a mean velocity; below CUTOFF it is 0, and beyond s48 it saturates. -/
def Obligations.TheFlowFollowsTheMeanVelocity : Prop :=
  ∀ (js : List Nat) (s : Vol), s.ret.flow.empty = false →
    let c := s.work.obj.calib
    let vel := pathVelocity s (goodMean s js)
    let vbar := roundAway (sumInt (js.map fun j => lget c.w (j - 1) * (vel j).1)) (2 ^ 30)
    let x := roundAway (c.area * profileFactor s.work.obj.prof vbar * vbar) (2 ^ 30 * 10 ^ 9)
    let t := flowResult js s
    ((vbar.natAbs : Int) < c.cutoff →
      t.ret.flow.inForce.map (·.q) = some 0 ∧ t.work.flow.flow = 0 ∧ t.work.flow.cutoff = true) ∧
    (c.cutoff ≤ (vbar.natAbs : Int) →
      t.work.flow.cutoff = false ∧
        (-(2 ^ 47) ≤ x → x ≤ 2 ^ 47 - 1 →
          t.ret.flow.inForce.map (·.q) = some x ∧ t.work.flow.flow.toInt = x) ∧
        (2 ^ 47 ≤ x → t.ret.flow.inForce.map (·.q) = some (2 ^ 47 - 1) ∧ t.work.flow.sat = true) ∧
        (x < -(2 ^ 47) → t.ret.flow.inForce.map (·.q) = some (-(2 ^ 47)) ∧ t.work.flow.sat = true))

/-! ### The display (R488 to R514) -/

/-- R497 to R508: a pending rectangle starts at a frame start where its band has a sequence, unless it shows what stands there already;
one whose band is empty stays pending; a rectangle that has run its frames takes its shown values, and the CRC of the panel record
follows; INFO and a token result leave the display in time. -/
def Obligations.RectanglesRunTheirFrames : Prop :=
  ∀ s : State,
    (∀ r, s.vol.work.disp.pmic = true → displayFree s.vol = true → coreRuns s.vol = true → s.vol.work.disp.running = [] →
      s.vol.work.disp.pend = [r] →
      (framesOf (bandSeqs s.vol (bandNow s.vol)) r.clear = 0 →
        ∃ t, exec .displayFrameStart s = .next t ∧ t.nv = s.nv ∧ t.vol.bak = s.vol.bak ∧ t.vol.work.disp.running = [] ∧
          t.vol.work.disp.pend = [r] ∧ t.vol.work.disp.pmic = false ∧
          t.vol.work.disp.updates = s.vol.work.disp.updates) ∧
      (drawnAlready s.nv { s.vol with work.disp.pend := [] } r = true →
        framesOf (bandSeqs s.vol (bandNow s.vol)) r.clear ≠ 0 →
        ∃ t, exec .displayFrameStart s = .next t ∧ t.nv = s.nv ∧ t.vol.bak = s.vol.bak ∧ t.vol.work.disp.running = [] ∧
          t.vol.work.disp.pend = [] ∧ t.vol.work.disp.pmic = false ∧
          t.vol.work.disp.updates = satInc s.vol.work.disp.updates) ∧
      (drawnAlready s.nv { s.vol with work.disp.pend := [] } r = false →
        framesOf (bandSeqs s.vol (bandNow s.vol)) r.clear ≠ 0 →
        ∃ t q, exec .displayFrameStart s = .next t ∧ t.nv = s.nv ∧ t.vol.bak = s.vol.bak ∧
          t.vol.work.disp.running = [q] ∧ sameBox q r = true ∧ q.clear = r.clear ∧ q.frame = 1 ∧
          q.frames = framesOf (bandSeqs s.vol (bandNow s.vol)) r.clear ∧ t.vol.work.disp.pend = [] ∧
          t.vol.work.disp.pmic = true)) ∧
    (∀ (ix : Fin 4) r, s.vol.work.disp.running[ix.val]? = some r → r.frame = r.frames →
      ∃ t, exec (.rectangleEnd ix) s = .next t ∧ t.nv = s.nv ∧ t.vol.bak = s.vol.bak ∧
        t.vol.work.disp.updates = satInc s.vol.work.disp.updates ∧
        t.vol.work.disp.running = s.vol.work.disp.running.filter (fun q => !sameBox r q) ∧
        t.vol.work.disp.pend = s.vol.work.disp.pend ∧ t.vol.ret.disp.crc = crc16 (panelBytes t.vol.ret.disp) ∧
        (r.clear = false → ∀ p ∈ r.shown, p ∈ t.vol.ret.disp.shown)) ∧
    (∀ k, s.vol.work.disp.infoAt = some k → 3840 ≤ (s.vol.bak.count - k).toNat →
      ∃ t, exec .infoTimeout s = .next t ∧ t.nv = s.nv ∧ t.vol.bak = s.vol.bak ∧ t.vol.work.disp.infoAt = none ∧
        t.vol.ret.pre = s.vol.ret.pre) ∧
    (∀ k, s.vol.work.disp.resultAt = some k → 640 ≤ (s.vol.bak.count - k).toNat →
      ∃ t, exec .tokenResultTimeout s = .next t ∧ t.nv = s.nv ∧ t.vol.bak = s.vol.bak ∧
        t.vol.work.disp.resultAt = none ∧ t.vol.work.pre.result = none ∧ t.vol.ret.pre = s.vol.ret.pre)

/-! ### Chains (R561 to R577) -/

/-- R124, R127, R563 to R566: SYNC goes low ahead of a cycle, each device lets it go, and its rise starts the cycle; a secondary that still
runs its cycle takes no part in the next one and goes on with its own; a primary whose SYNC stays low starts alone, where a cycle may
start; a secondary without CLKO runs on its RC, which makes the running cycle DEGRADED, and the one in whose bloom it happens. -/
def Obligations.SyncStartsTheCyclesOfAChain : Prop :=
  ∀ s : State,
    (isPrimary s.vol = true → sourceActive s.vol .cycle = true → coreRuns s.vol = true → canWake s.vol = false →
      exec .syncLead s = .next { s with vol.work.chain.syncLow := true, vol.work.chain.syncHeld := true }) ∧
    (isSecondary s.vol = true → coreRuns s.vol = true → canWake s.vol = false → s.vol.work.cyc.running = false →
      exec .syncFall s =
        .next { s with
          vol.work.chain.syncLow := true
          vol.work.chain.syncHeld := !s.vol.bak.power.warning
          vol.work.chain.takesPart := !s.vol.bak.power.warning }) ∧
    (isSecondary s.vol = true → coreRuns s.vol = true → canWake s.vol = false → s.vol.work.cyc.running = true →
      ∃ t, exec .syncFall s = .next t ∧ t.nv = s.nv ∧ t.vol.work.chain.takesPart = false ∧
        t.vol.work.chain.inCycle = s.vol.work.chain.inCycle ∧ t.vol.work.chain.syncHeld = false ∧
        t.vol.work.cyc = { s.vol.work.cyc with overruns := satInc s.vol.work.cyc.overruns }) ∧
    exec .syncRelease s = .next { s with vol.work.chain.syncHeld := false } ∧
    (∀ vdrv, s.vol.work.chain.syncLow = true → cyclesRun s.vol = true → s.vol.work.th.omitCycle = false →
      s.vol.work.cyc.running = false → s.vol.work.loop.running = false → s.vol.bak.power.pll = true →
      s.vol.work.cyc.abandon = false → roundsOf (th s.vol 0) ≠ [] → s.vol.work.loop.endTick ≠ some s.vol.bak.count →
      (s.vol.work.chain.syncHeld = false →
        isPrimary s.vol = true ∨ (isSecondary s.vol = true ∧ s.vol.work.chain.takesPart = true) →
        ∃ t, exec (.syncRise vdrv) s = .next t ∧ t.nv = s.nv ∧ t.vol.work.chain.syncLow = false ∧
          t.vol.work.chain.inCycle = true ∧ t.vol.work.cyc.running = true ∧
          t.vol.work.cyc.count = s.vol.work.cyc.count + 1 ∧ t.vol.work.cyc.startTick = s.vol.bak.count) ∧
      (isPrimary s.vol = true →
        ∃ t, exec (.chainSyncStuck vdrv) s = .next t ∧ t.nv = s.nv ∧ t.vol.work.chain.syncLow = false ∧
          t.vol.work.chain.inCycle = false ∧ t.vol.work.cyc.running = true ∧
          t.vol.work.cyc.count = s.vol.work.cyc.count + 1 ∧ t.vol.work.cyc.startTick = s.vol.bak.count)) ∧
    (∀ vdrv, isPrimary s.vol = true → s.vol.work.chain.syncLow = true → coreRuns s.vol = true → cyclesRun s.vol = false →
      exec (.chainSyncStuck vdrv) s =
        .next { s with
          vol.work.chain.syncLow := false
          vol.work.chain.syncHeld := false
          vol.work.chain.takesPart := false }) ∧
    (coreRuns s.vol = true → s.vol.bak.power.src = .clko →
      (s.vol.work.cyc.running = false ∨ s.vol.work.cyc.kind = .loopback →
        exec .clkoStop s =
          .next { s with
            vol.work.aux.degraded := s.vol.work.aux.degraded || s.vol.work.aux.isOpen
            vol.work.cyc.bloomRc := s.vol.work.cyc.bloomRc || (s.vol.work.fe.powered && !s.vol.work.cyc.running)
            vol.bak.power.src := .rc
            vol.bak.power.hfxo := false }) ∧
      (s.vol.work.cyc.running = true → s.vol.work.cyc.kind = .normal → s.vol.work.cyc.pairsDone = false →
        exec .clkoStop s =
          .next { s with
            vol.work.cyc.degraded := true
            vol.work.aux.degraded := s.vol.work.aux.degraded || s.vol.work.aux.isOpen
            vol.bak.power.src := .rc
            vol.bak.power.hfxo := false }) ∧
      (s.vol.work.cyc.running = true → s.vol.work.cyc.kind = .normal → s.vol.work.cyc.pairsDone = true →
        ∃ t, exec .clkoStop s = .next t ∧ t.nv = s.nv ∧ t.vol.bak.power.src = .rc ∧ t.vol.bak.power.hfxo = false ∧
          t.vol.work.cyc.degraded = true ∧ (s.vol.work.cyc.degraded = false → t.vol.work.flow.degraded = true)))

/-- R567 to R574: a secondary takes calendar, OSF and mode from a TOKEN, which the primary removes when it returns; the primary
keeps the PATH records of its cycle for its decision, and takes the first END of a position, a second one of which is a conflict, with
the position as the cycle found it; it decides 2 ms after its own last pair, a joint path by its record, or as GAP without one, after
a conflict and while its position is lost. R576: during a chain loop-back no record is heard. -/
def Obligations.ChainRecordsAreTaken : Prop :=
  ∀ (s : State) (r : ChainRec), coreRuns s.vol = true →
    (chainLoop s.vol = true →
      exec (.chainToken r) s = .next s ∧ exec (.tokenReturned r) s = .next s ∧ exec (.chainPath r) s = .next s ∧
        exec (.chainEnd r) s = .next s) ∧
    (chainLoop s.vol = false → chainGood 1 8 r = true → r.src = 0 →
      (isSecondary s.vol = true →
        ∃ t, exec (.chainToken r) s = .next t ∧ t.nv = s.nv ∧ t.vol.ret.led = s.vol.ret.led ∧
          t.vol.work.chain.mode = some (decide (beNat (slice r.body 2 1) = 0)) ∧
          t.vol.bak.osf = decide (beNat (slice r.body 3 5) / 32 % 2 = 1) ∧
          t.vol.bak.cal =
            if 64 < ((s.vol.bak.cal.ticks : Int) - 64 * (beNat (slice r.body 3 5) / 64 : Nat)).natAbs then
              calOfSeconds (beNat (slice r.body 3 5) / 64)
            else s.vol.bak.cal) ∧
      (isPrimary s.vol = true →
        exec (.tokenReturned r) s = .next { s with vol.work.chain.tokenOut := false })) ∧
    (isPrimary s.vol = true → chainLoop s.vol = false → s.vol.work.chain.inCycle = true →
      (∀ k p : Nat, chainGood 2 17 r = true → jointMode s.vol = true → s.vol.work.cyc.pairsDone = false → r.src.toNat = k →
        1 ≤ k → k ≤ 3 → (chainPos s.vol k).conflict = false → beNat (r.body.take 1) = p → 1 ≤ p → p ≤ 8 →
        exec (.chainPath r) s =
          .next { s with
            vol.work.chain.paths :=
              s.vol.work.chain.paths.filter (·.1 != 8 * k + p) ++ [(8 * k + p, beNat (r.body.drop 1))] }) ∧
      (∀ k : Nat, chainGood 3 10 r = true → r.src.toNat = k → 1 ≤ k → k ≤ 3 → (chainPos s.vol k).ends ≠ 0 →
        (chainPos s.vol k).conflict = false →
        exec (.chainEnd r) s =
          .next (s.up (logM 0x0182 k
            (setChainPos k { vget s.vol.work.chain.before k with conflict := true, ends := 2 } s.vol)))) ∧
      (∀ k : Nat, chainGood 3 10 r = true → r.src.toNat = k → 1 ≤ k → k ≤ 3 → (chainPos s.vol k).ends = 0 →
        s.vol.work.chain.ownDone = false →
        ∃ t, exec (.chainEnd r) s = .next t ∧ t.nv = s.nv ∧ t.vol.bak = s.vol.bak ∧ (chainPos t.vol k).known = true ∧
          (chainPos t.vol k).ends = 1 ∧ (chainPos t.vol k).missing = 0 ∧ (chainPos t.vol k).lost = false ∧
          (chainPos t.vol k).flow = BitVec.ofNat 64 (beNat (slice r.body 1 8)))) ∧
    (isPrimary s.vol = true → s.vol.work.chain.ownDone = true →
      ∃ t, exec .chainDecideTimeout s = .next t ∧ t.nv = s.nv ∧ t.vol.bak = s.vol.bak ∧ t.vol.work.cyc.pairsDone = true) ∧
    ∀ j : Nat, 8 < j → j < 33 →
      let c := vget s.vol.work.chain.positions ((j - 1) / 8)
      let p := pathW (jointVerdict j s.vol) j
      (∀ i : Nat, i < 33 → i ≠ j → pathW (jointVerdict j s.vol) i = pathW s.vol i) ∧
      (∀ w, s.vol.work.chain.paths.find? (·.1 == j) = some (j, w) → c.conflict = false → c.lost = false →
        p.decided = true ∧ p.cycle = BitVec.ofNat 16 w ∧ p.v = (BitVec.ofNat 32 (w / 2 ^ 64)).toInt ∧
          p.verdict = BitVec.ofNat 2 (min 2 (w / 2 ^ 30 % 4))) ∧
      ((pathW s.vol j).decided = false →
        s.vol.work.chain.paths.find? (·.1 == j) = none ∨ c.conflict = true ∨ c.lost = true →
        p.decided = true ∧ p.verdict = 2 ∧ p.cause = 1)
end

