-- ==== Sys2Proof/Laws/Log.lean ====
section
/-! SUPPORT. What an entry in an event log and a page in the STORE's line can change: the store's working state, the logs and
the pending list, and nothing else. -/

namespace Sys2Proof.Machine

/-- s' differs from s in the store's working state, the logs and the pending list at most. -/
structure LogFrame (s s' : Vol) : Prop where
  only : s' = { s with work.store := s'.work.store, ret.logs := s'.ret.logs, ret.store := s'.ret.store }

theorem LogFrame.refl (s : Vol) : LogFrame s s := ⟨rfl⟩

theorem LogFrame.trans {a b c : Vol} (h : LogFrame a b) (k : LogFrame b c) : LogFrame a c :=
  ⟨by rw [k.only, h.only]⟩

theorem LogFrame.bak {s s' : Vol} (h : LogFrame s s') : s'.bak = s.bak := by rw [h.only]
theorem LogFrame.free {s s' : Vol} (h : LogFrame s s') : s'.free = s.free := by rw [h.only]

theorem LogFrame.work_th {s s' : Vol} (h : LogFrame s s') : s'.work.th = s.work.th := by rw [h.only]
theorem LogFrame.work_fe {s s' : Vol} (h : LogFrame s s') : s'.work.fe = s.work.fe := by rw [h.only]
theorem LogFrame.work_cyc {s s' : Vol} (h : LogFrame s s') : s'.work.cyc = s.work.cyc := by rw [h.only]
theorem LogFrame.work_loop {s s' : Vol} (h : LogFrame s s') : s'.work.loop = s.work.loop := by rw [h.only]
theorem LogFrame.work_te {s s' : Vol} (h : LogFrame s s') : s'.work.te = s.work.te := by rw [h.only]
theorem LogFrame.work_laneCopy {s s' : Vol} (h : LogFrame s s') : s'.work.laneCopy = s.work.laneCopy := by rw [h.only]
theorem LogFrame.work_ports {s s' : Vol} (h : LogFrame s s') : s'.work.ports = s.work.ports := by rw [h.only]
theorem LogFrame.work_paths {s s' : Vol} (h : LogFrame s s') : s'.work.paths = s.work.paths := by rw [h.only]
theorem LogFrame.work_levels {s s' : Vol} (h : LogFrame s s') : s'.work.levels = s.work.levels := by rw [h.only]
theorem LogFrame.work_flow {s s' : Vol} (h : LogFrame s s') : s'.work.flow = s.work.flow := by rw [h.only]
theorem LogFrame.work_aux {s s' : Vol} (h : LogFrame s s') : s'.work.aux = s.work.aux := by rw [h.only]
theorem LogFrame.work_obj {s s' : Vol} (h : LogFrame s s') : s'.work.obj = s.work.obj := by rw [h.only]
theorem LogFrame.work_pre {s s' : Vol} (h : LogFrame s s') : s'.work.pre = s.work.pre := by rw [h.only]
theorem LogFrame.work_ex {s s' : Vol} (h : LogFrame s s') : s'.work.ex = s.work.ex := by rw [h.only]
theorem LogFrame.work_pt {s s' : Vol} (h : LogFrame s s') : s'.work.pt = s.work.pt := by rw [h.only]
theorem LogFrame.work_line {s s' : Vol} (h : LogFrame s s') : s'.work.line = s.work.line := by rw [h.only]
theorem LogFrame.work_disp {s s' : Vol} (h : LogFrame s s') : s'.work.disp = s.work.disp := by rw [h.only]
theorem LogFrame.work_fab {s s' : Vol} (h : LogFrame s s') : s'.work.fab = s.work.fab := by rw [h.only]
theorem LogFrame.work_chain {s s' : Vol} (h : LogFrame s s') : s'.work.chain = s.work.chain := by rw [h.only]
theorem LogFrame.work_life {s s' : Vol} (h : LogFrame s s') : s'.work.life = s.work.life := by rw [h.only]
theorem LogFrame.work_streamWords {s s' : Vol} (h : LogFrame s s') : s'.work.streamWords = s.work.streamWords := by rw [h.only]
theorem LogFrame.ret_flow {s s' : Vol} (h : LogFrame s s') : s'.ret.flow = s.ret.flow := by rw [h.only]
theorem LogFrame.ret_led {s s' : Vol} (h : LogFrame s s') : s'.ret.led = s.ret.led := by rw [h.only]
theorem LogFrame.ret_pre {s s' : Vol} (h : LogFrame s s') : s'.ret.pre = s.ret.pre := by rw [h.only]
theorem LogFrame.ret_count {s s' : Vol} (h : LogFrame s s') : s'.ret.count = s.ret.count := by rw [h.only]
theorem LogFrame.ret_ex {s s' : Vol} (h : LogFrame s s') : s'.ret.ex = s.ret.ex := by rw [h.only]
theorem LogFrame.ret_pulseA {s s' : Vol} (h : LogFrame s s') : s'.ret.pulseA = s.ret.pulseA := by rw [h.only]
theorem LogFrame.ret_pulseB {s s' : Vol} (h : LogFrame s s') : s'.ret.pulseB = s.ret.pulseB := by rw [h.only]
theorem LogFrame.ret_line {s s' : Vol} (h : LogFrame s s') : s'.ret.line = s.ret.line := by rw [h.only]
theorem LogFrame.ret_disp {s s' : Vol} (h : LogFrame s s') : s'.ret.disp = s.ret.disp := by rw [h.only]
theorem LogFrame.ret_reset {s s' : Vol} (h : LogFrame s s') : s'.ret.reset = s.ret.reset := by rw [h.only]
theorem LogFrame.ret_avail {s s' : Vol} (h : LogFrame s s') : s'.ret.avail = s.ret.avail := by rw [h.only]

theorem addPending_frame (p : Pending) (s : Vol) : LogFrame s (addPending p s) := ⟨rfl⟩

theorem pendAll_frame (g : Req → Pending) : ∀ (l : List Req) (s : Vol),
    LogFrame s (l.foldl (fun s r => addPending (g r) s) s)
  | [], s => LogFrame.refl s
  | r :: l, s => (addPending_frame (g r) s).trans (pendAll_frame g l _)

theorem flushEnds_frame (s : Vol) : LogFrame s (flushEnds s) := by
  unfold flushEnds
  dsimp only
  generalize s.work.store.line.filter (·.flush) = l
  have h : LogFrame s (l.foldl (fun s r => addPending (pendOf l r) s)
      { s with ret.store.pending := s.ret.store.pending.map (uncommit l) }) :=
    LogFrame.trans (b := { s with ret.store.pending := s.ret.store.pending.map (uncommit l) }) ⟨rfl⟩ (pendAll_frame _ l _)
  generalize l.foldl _ _ = u at h ⊢
  exact h.trans ⟨rfl⟩

theorem storeMet_frame (s : Vol) : LogFrame s (storeMet s) := ⟨rfl⟩

theorem startHead_frame (s : Vol) : LogFrame s (startHead s) := by
  unfold startHead
  split
  · exact LogFrame.refl s
  · split
    · exact LogFrame.refl s
    · split
      · split
        · exact ⟨rfl⟩
        · exact flushEnds_frame s
      · split
        · exact ⟨rfl⟩
        · exact LogFrame.refl s

theorem submit_frame (r : Req) (s : Vol) : LogFrame s (submit r s) := by
  unfold submit
  dsimp only
  have h := storeMet_frame s
  generalize storeMet s = u at h ⊢
  split
  · exact (h.trans (c := { u with work.store.line := u.work.store.line ++ [r] }) ⟨rfl⟩).trans (startHead_frame _)
  · exact h.trans ⟨rfl⟩

theorem submitAll_frame : ∀ (l : List Req) (s : Vol), LogFrame s (submitAll l s)
  | [], s => LogFrame.refl s
  | r :: l, s => (submit_frame r s).trans (submitAll_frame l _)

theorem writeEntry_frame (l : LogId) (e : Nat) (s : Vol) : LogFrame s (writeEntry l e s) := by
  unfold writeEntry
  cases l
  · exact LogFrame.trans (b := { s with ret.logs.nextM := s.ret.logs.nextM + 1 }) ⟨rfl⟩ (submit_frame _ _)
  · exact LogFrame.trans (b := { s with ret.logs.nextG := s.ret.logs.nextG + 1 }) ⟨rfl⟩ (submit_frame _ _)

theorem logEvent_frame (l : LogId) (c d : Nat) (s : Vol) : LogFrame s (logEvent l c d s) := by
  unfold logEvent
  dsimp only
  split
  · exact ⟨rfl⟩
  · exact writeEntry_frame l _ s

theorem logLimited_frame (l : LogId) (c k d : Nat) (s : Vol) : LogFrame s (logLimited l c k d s) := by
  unfold logLimited
  dsimp only
  split
  · exact ⟨rfl⟩
  · exact LogFrame.trans ⟨rfl⟩ (logEvent_frame l c d _)

theorem logLimitedTimes_frame (l : LogId) (c k d n : Nat) (s : Vol) : LogFrame s (logLimitedTimes l c k d n s) := by
  unfold logLimitedTimes
  dsimp only
  split
  · exact LogFrame.refl s
  · exact (logLimited_frame l c k d s).trans ⟨rfl⟩

theorem logM_frame (c d : Nat) (s : Vol) : LogFrame s (logM c d s) := logEvent_frame _ c d s
theorem logG_frame (c d : Nat) (s : Vol) : LogFrame s (logG c d s) := logEvent_frame _ c d s
theorem limM_frame (c k d : Nat) (s : Vol) : LogFrame s (limM c k d s) := logLimited_frame _ c k d s
theorem limG_frame (c k d : Nat) (s : Vol) : LogFrame s (limG c k d s) := logLimited_frame _ c k d s

@[simp] theorem submit_bak (r : Req) (s : Vol) : (submit r s).bak = s.bak := (submit_frame r s).bak
@[simp] theorem submit_free (r : Req) (s : Vol) : (submit r s).free = s.free := (submit_frame r s).free
@[simp] theorem submit_work_th (r : Req) (s : Vol) : (submit r s).work.th = s.work.th := (submit_frame r s).work_th
@[simp] theorem submit_work_fe (r : Req) (s : Vol) : (submit r s).work.fe = s.work.fe := (submit_frame r s).work_fe
@[simp] theorem submit_work_cyc (r : Req) (s : Vol) : (submit r s).work.cyc = s.work.cyc := (submit_frame r s).work_cyc
@[simp] theorem submit_work_loop (r : Req) (s : Vol) : (submit r s).work.loop = s.work.loop := (submit_frame r s).work_loop
@[simp] theorem submit_work_te (r : Req) (s : Vol) : (submit r s).work.te = s.work.te := (submit_frame r s).work_te
@[simp] theorem submit_work_laneCopy (r : Req) (s : Vol) : (submit r s).work.laneCopy = s.work.laneCopy := (submit_frame r s).work_laneCopy
@[simp] theorem submit_work_ports (r : Req) (s : Vol) : (submit r s).work.ports = s.work.ports := (submit_frame r s).work_ports
@[simp] theorem submit_work_paths (r : Req) (s : Vol) : (submit r s).work.paths = s.work.paths := (submit_frame r s).work_paths
@[simp] theorem submit_work_levels (r : Req) (s : Vol) : (submit r s).work.levels = s.work.levels := (submit_frame r s).work_levels
@[simp] theorem submit_work_flow (r : Req) (s : Vol) : (submit r s).work.flow = s.work.flow := (submit_frame r s).work_flow
@[simp] theorem submit_work_aux (r : Req) (s : Vol) : (submit r s).work.aux = s.work.aux := (submit_frame r s).work_aux
@[simp] theorem submit_work_obj (r : Req) (s : Vol) : (submit r s).work.obj = s.work.obj := (submit_frame r s).work_obj
@[simp] theorem submit_work_pre (r : Req) (s : Vol) : (submit r s).work.pre = s.work.pre := (submit_frame r s).work_pre
@[simp] theorem submit_work_ex (r : Req) (s : Vol) : (submit r s).work.ex = s.work.ex := (submit_frame r s).work_ex
@[simp] theorem submit_work_pt (r : Req) (s : Vol) : (submit r s).work.pt = s.work.pt := (submit_frame r s).work_pt
@[simp] theorem submit_work_line (r : Req) (s : Vol) : (submit r s).work.line = s.work.line := (submit_frame r s).work_line
@[simp] theorem submit_work_disp (r : Req) (s : Vol) : (submit r s).work.disp = s.work.disp := (submit_frame r s).work_disp
@[simp] theorem submit_work_fab (r : Req) (s : Vol) : (submit r s).work.fab = s.work.fab := (submit_frame r s).work_fab
@[simp] theorem submit_work_chain (r : Req) (s : Vol) : (submit r s).work.chain = s.work.chain := (submit_frame r s).work_chain
@[simp] theorem submit_work_life (r : Req) (s : Vol) : (submit r s).work.life = s.work.life := (submit_frame r s).work_life
@[simp] theorem submit_work_streamWords (r : Req) (s : Vol) : (submit r s).work.streamWords = s.work.streamWords := (submit_frame r s).work_streamWords
@[simp] theorem submit_ret_flow (r : Req) (s : Vol) : (submit r s).ret.flow = s.ret.flow := (submit_frame r s).ret_flow
@[simp] theorem submit_ret_led (r : Req) (s : Vol) : (submit r s).ret.led = s.ret.led := (submit_frame r s).ret_led
@[simp] theorem submit_ret_pre (r : Req) (s : Vol) : (submit r s).ret.pre = s.ret.pre := (submit_frame r s).ret_pre
@[simp] theorem submit_ret_count (r : Req) (s : Vol) : (submit r s).ret.count = s.ret.count := (submit_frame r s).ret_count
@[simp] theorem submit_ret_ex (r : Req) (s : Vol) : (submit r s).ret.ex = s.ret.ex := (submit_frame r s).ret_ex
@[simp] theorem submit_ret_pulseA (r : Req) (s : Vol) : (submit r s).ret.pulseA = s.ret.pulseA := (submit_frame r s).ret_pulseA
@[simp] theorem submit_ret_pulseB (r : Req) (s : Vol) : (submit r s).ret.pulseB = s.ret.pulseB := (submit_frame r s).ret_pulseB
@[simp] theorem submit_ret_line (r : Req) (s : Vol) : (submit r s).ret.line = s.ret.line := (submit_frame r s).ret_line
@[simp] theorem submit_ret_disp (r : Req) (s : Vol) : (submit r s).ret.disp = s.ret.disp := (submit_frame r s).ret_disp
@[simp] theorem submit_ret_reset (r : Req) (s : Vol) : (submit r s).ret.reset = s.ret.reset := (submit_frame r s).ret_reset
@[simp] theorem submit_ret_avail (r : Req) (s : Vol) : (submit r s).ret.avail = s.ret.avail := (submit_frame r s).ret_avail

@[simp] theorem submitAll_bak (l : List Req) (s : Vol) : (submitAll l s).bak = s.bak := (submitAll_frame l s).bak
@[simp] theorem submitAll_free (l : List Req) (s : Vol) : (submitAll l s).free = s.free := (submitAll_frame l s).free
@[simp] theorem submitAll_work_th (l : List Req) (s : Vol) : (submitAll l s).work.th = s.work.th := (submitAll_frame l s).work_th
@[simp] theorem submitAll_work_fe (l : List Req) (s : Vol) : (submitAll l s).work.fe = s.work.fe := (submitAll_frame l s).work_fe
@[simp] theorem submitAll_work_cyc (l : List Req) (s : Vol) : (submitAll l s).work.cyc = s.work.cyc := (submitAll_frame l s).work_cyc
@[simp] theorem submitAll_work_loop (l : List Req) (s : Vol) : (submitAll l s).work.loop = s.work.loop := (submitAll_frame l s).work_loop
@[simp] theorem submitAll_work_te (l : List Req) (s : Vol) : (submitAll l s).work.te = s.work.te := (submitAll_frame l s).work_te
@[simp] theorem submitAll_work_laneCopy (l : List Req) (s : Vol) : (submitAll l s).work.laneCopy = s.work.laneCopy := (submitAll_frame l s).work_laneCopy
@[simp] theorem submitAll_work_ports (l : List Req) (s : Vol) : (submitAll l s).work.ports = s.work.ports := (submitAll_frame l s).work_ports
@[simp] theorem submitAll_work_paths (l : List Req) (s : Vol) : (submitAll l s).work.paths = s.work.paths := (submitAll_frame l s).work_paths
@[simp] theorem submitAll_work_levels (l : List Req) (s : Vol) : (submitAll l s).work.levels = s.work.levels := (submitAll_frame l s).work_levels
@[simp] theorem submitAll_work_flow (l : List Req) (s : Vol) : (submitAll l s).work.flow = s.work.flow := (submitAll_frame l s).work_flow
@[simp] theorem submitAll_work_aux (l : List Req) (s : Vol) : (submitAll l s).work.aux = s.work.aux := (submitAll_frame l s).work_aux
@[simp] theorem submitAll_work_obj (l : List Req) (s : Vol) : (submitAll l s).work.obj = s.work.obj := (submitAll_frame l s).work_obj
@[simp] theorem submitAll_work_pre (l : List Req) (s : Vol) : (submitAll l s).work.pre = s.work.pre := (submitAll_frame l s).work_pre
@[simp] theorem submitAll_work_ex (l : List Req) (s : Vol) : (submitAll l s).work.ex = s.work.ex := (submitAll_frame l s).work_ex
@[simp] theorem submitAll_work_pt (l : List Req) (s : Vol) : (submitAll l s).work.pt = s.work.pt := (submitAll_frame l s).work_pt
@[simp] theorem submitAll_work_line (l : List Req) (s : Vol) : (submitAll l s).work.line = s.work.line := (submitAll_frame l s).work_line
@[simp] theorem submitAll_work_disp (l : List Req) (s : Vol) : (submitAll l s).work.disp = s.work.disp := (submitAll_frame l s).work_disp
@[simp] theorem submitAll_work_fab (l : List Req) (s : Vol) : (submitAll l s).work.fab = s.work.fab := (submitAll_frame l s).work_fab
@[simp] theorem submitAll_work_chain (l : List Req) (s : Vol) : (submitAll l s).work.chain = s.work.chain := (submitAll_frame l s).work_chain
@[simp] theorem submitAll_work_life (l : List Req) (s : Vol) : (submitAll l s).work.life = s.work.life := (submitAll_frame l s).work_life
@[simp] theorem submitAll_work_streamWords (l : List Req) (s : Vol) : (submitAll l s).work.streamWords = s.work.streamWords := (submitAll_frame l s).work_streamWords
@[simp] theorem submitAll_ret_flow (l : List Req) (s : Vol) : (submitAll l s).ret.flow = s.ret.flow := (submitAll_frame l s).ret_flow
@[simp] theorem submitAll_ret_led (l : List Req) (s : Vol) : (submitAll l s).ret.led = s.ret.led := (submitAll_frame l s).ret_led
@[simp] theorem submitAll_ret_pre (l : List Req) (s : Vol) : (submitAll l s).ret.pre = s.ret.pre := (submitAll_frame l s).ret_pre
@[simp] theorem submitAll_ret_count (l : List Req) (s : Vol) : (submitAll l s).ret.count = s.ret.count := (submitAll_frame l s).ret_count
@[simp] theorem submitAll_ret_ex (l : List Req) (s : Vol) : (submitAll l s).ret.ex = s.ret.ex := (submitAll_frame l s).ret_ex
@[simp] theorem submitAll_ret_pulseA (l : List Req) (s : Vol) : (submitAll l s).ret.pulseA = s.ret.pulseA := (submitAll_frame l s).ret_pulseA
@[simp] theorem submitAll_ret_pulseB (l : List Req) (s : Vol) : (submitAll l s).ret.pulseB = s.ret.pulseB := (submitAll_frame l s).ret_pulseB
@[simp] theorem submitAll_ret_line (l : List Req) (s : Vol) : (submitAll l s).ret.line = s.ret.line := (submitAll_frame l s).ret_line
@[simp] theorem submitAll_ret_disp (l : List Req) (s : Vol) : (submitAll l s).ret.disp = s.ret.disp := (submitAll_frame l s).ret_disp
@[simp] theorem submitAll_ret_reset (l : List Req) (s : Vol) : (submitAll l s).ret.reset = s.ret.reset := (submitAll_frame l s).ret_reset
@[simp] theorem submitAll_ret_avail (l : List Req) (s : Vol) : (submitAll l s).ret.avail = s.ret.avail := (submitAll_frame l s).ret_avail

@[simp] theorem logEvent_bak (l : LogId) (c d : Nat) (s : Vol) : (logEvent l c d s).bak = s.bak := (logEvent_frame l c d s).bak
@[simp] theorem logEvent_free (l : LogId) (c d : Nat) (s : Vol) : (logEvent l c d s).free = s.free := (logEvent_frame l c d s).free
@[simp] theorem logEvent_work_th (l : LogId) (c d : Nat) (s : Vol) : (logEvent l c d s).work.th = s.work.th := (logEvent_frame l c d s).work_th
@[simp] theorem logEvent_work_fe (l : LogId) (c d : Nat) (s : Vol) : (logEvent l c d s).work.fe = s.work.fe := (logEvent_frame l c d s).work_fe
@[simp] theorem logEvent_work_cyc (l : LogId) (c d : Nat) (s : Vol) : (logEvent l c d s).work.cyc = s.work.cyc := (logEvent_frame l c d s).work_cyc
@[simp] theorem logEvent_work_loop (l : LogId) (c d : Nat) (s : Vol) : (logEvent l c d s).work.loop = s.work.loop := (logEvent_frame l c d s).work_loop
@[simp] theorem logEvent_work_te (l : LogId) (c d : Nat) (s : Vol) : (logEvent l c d s).work.te = s.work.te := (logEvent_frame l c d s).work_te
@[simp] theorem logEvent_work_laneCopy (l : LogId) (c d : Nat) (s : Vol) : (logEvent l c d s).work.laneCopy = s.work.laneCopy := (logEvent_frame l c d s).work_laneCopy
@[simp] theorem logEvent_work_ports (l : LogId) (c d : Nat) (s : Vol) : (logEvent l c d s).work.ports = s.work.ports := (logEvent_frame l c d s).work_ports
@[simp] theorem logEvent_work_paths (l : LogId) (c d : Nat) (s : Vol) : (logEvent l c d s).work.paths = s.work.paths := (logEvent_frame l c d s).work_paths
@[simp] theorem logEvent_work_levels (l : LogId) (c d : Nat) (s : Vol) : (logEvent l c d s).work.levels = s.work.levels := (logEvent_frame l c d s).work_levels
@[simp] theorem logEvent_work_flow (l : LogId) (c d : Nat) (s : Vol) : (logEvent l c d s).work.flow = s.work.flow := (logEvent_frame l c d s).work_flow
@[simp] theorem logEvent_work_aux (l : LogId) (c d : Nat) (s : Vol) : (logEvent l c d s).work.aux = s.work.aux := (logEvent_frame l c d s).work_aux
@[simp] theorem logEvent_work_obj (l : LogId) (c d : Nat) (s : Vol) : (logEvent l c d s).work.obj = s.work.obj := (logEvent_frame l c d s).work_obj
@[simp] theorem logEvent_work_pre (l : LogId) (c d : Nat) (s : Vol) : (logEvent l c d s).work.pre = s.work.pre := (logEvent_frame l c d s).work_pre
@[simp] theorem logEvent_work_ex (l : LogId) (c d : Nat) (s : Vol) : (logEvent l c d s).work.ex = s.work.ex := (logEvent_frame l c d s).work_ex
@[simp] theorem logEvent_work_pt (l : LogId) (c d : Nat) (s : Vol) : (logEvent l c d s).work.pt = s.work.pt := (logEvent_frame l c d s).work_pt
@[simp] theorem logEvent_work_line (l : LogId) (c d : Nat) (s : Vol) : (logEvent l c d s).work.line = s.work.line := (logEvent_frame l c d s).work_line
@[simp] theorem logEvent_work_disp (l : LogId) (c d : Nat) (s : Vol) : (logEvent l c d s).work.disp = s.work.disp := (logEvent_frame l c d s).work_disp
@[simp] theorem logEvent_work_fab (l : LogId) (c d : Nat) (s : Vol) : (logEvent l c d s).work.fab = s.work.fab := (logEvent_frame l c d s).work_fab
@[simp] theorem logEvent_work_chain (l : LogId) (c d : Nat) (s : Vol) : (logEvent l c d s).work.chain = s.work.chain := (logEvent_frame l c d s).work_chain
@[simp] theorem logEvent_work_life (l : LogId) (c d : Nat) (s : Vol) : (logEvent l c d s).work.life = s.work.life := (logEvent_frame l c d s).work_life
@[simp] theorem logEvent_work_streamWords (l : LogId) (c d : Nat) (s : Vol) : (logEvent l c d s).work.streamWords = s.work.streamWords := (logEvent_frame l c d s).work_streamWords
@[simp] theorem logEvent_ret_flow (l : LogId) (c d : Nat) (s : Vol) : (logEvent l c d s).ret.flow = s.ret.flow := (logEvent_frame l c d s).ret_flow
@[simp] theorem logEvent_ret_led (l : LogId) (c d : Nat) (s : Vol) : (logEvent l c d s).ret.led = s.ret.led := (logEvent_frame l c d s).ret_led
@[simp] theorem logEvent_ret_pre (l : LogId) (c d : Nat) (s : Vol) : (logEvent l c d s).ret.pre = s.ret.pre := (logEvent_frame l c d s).ret_pre
@[simp] theorem logEvent_ret_count (l : LogId) (c d : Nat) (s : Vol) : (logEvent l c d s).ret.count = s.ret.count := (logEvent_frame l c d s).ret_count
@[simp] theorem logEvent_ret_ex (l : LogId) (c d : Nat) (s : Vol) : (logEvent l c d s).ret.ex = s.ret.ex := (logEvent_frame l c d s).ret_ex
@[simp] theorem logEvent_ret_pulseA (l : LogId) (c d : Nat) (s : Vol) : (logEvent l c d s).ret.pulseA = s.ret.pulseA := (logEvent_frame l c d s).ret_pulseA
@[simp] theorem logEvent_ret_pulseB (l : LogId) (c d : Nat) (s : Vol) : (logEvent l c d s).ret.pulseB = s.ret.pulseB := (logEvent_frame l c d s).ret_pulseB
@[simp] theorem logEvent_ret_line (l : LogId) (c d : Nat) (s : Vol) : (logEvent l c d s).ret.line = s.ret.line := (logEvent_frame l c d s).ret_line
@[simp] theorem logEvent_ret_disp (l : LogId) (c d : Nat) (s : Vol) : (logEvent l c d s).ret.disp = s.ret.disp := (logEvent_frame l c d s).ret_disp
@[simp] theorem logEvent_ret_reset (l : LogId) (c d : Nat) (s : Vol) : (logEvent l c d s).ret.reset = s.ret.reset := (logEvent_frame l c d s).ret_reset
@[simp] theorem logEvent_ret_avail (l : LogId) (c d : Nat) (s : Vol) : (logEvent l c d s).ret.avail = s.ret.avail := (logEvent_frame l c d s).ret_avail

@[simp] theorem logM_bak (c d : Nat) (s : Vol) : (logM c d s).bak = s.bak := (logM_frame c d s).bak
@[simp] theorem logM_free (c d : Nat) (s : Vol) : (logM c d s).free = s.free := (logM_frame c d s).free
@[simp] theorem logM_work_th (c d : Nat) (s : Vol) : (logM c d s).work.th = s.work.th := (logM_frame c d s).work_th
@[simp] theorem logM_work_fe (c d : Nat) (s : Vol) : (logM c d s).work.fe = s.work.fe := (logM_frame c d s).work_fe
@[simp] theorem logM_work_cyc (c d : Nat) (s : Vol) : (logM c d s).work.cyc = s.work.cyc := (logM_frame c d s).work_cyc
@[simp] theorem logM_work_loop (c d : Nat) (s : Vol) : (logM c d s).work.loop = s.work.loop := (logM_frame c d s).work_loop
@[simp] theorem logM_work_te (c d : Nat) (s : Vol) : (logM c d s).work.te = s.work.te := (logM_frame c d s).work_te
@[simp] theorem logM_work_laneCopy (c d : Nat) (s : Vol) : (logM c d s).work.laneCopy = s.work.laneCopy := (logM_frame c d s).work_laneCopy
@[simp] theorem logM_work_ports (c d : Nat) (s : Vol) : (logM c d s).work.ports = s.work.ports := (logM_frame c d s).work_ports
@[simp] theorem logM_work_paths (c d : Nat) (s : Vol) : (logM c d s).work.paths = s.work.paths := (logM_frame c d s).work_paths
@[simp] theorem logM_work_levels (c d : Nat) (s : Vol) : (logM c d s).work.levels = s.work.levels := (logM_frame c d s).work_levels
@[simp] theorem logM_work_flow (c d : Nat) (s : Vol) : (logM c d s).work.flow = s.work.flow := (logM_frame c d s).work_flow
@[simp] theorem logM_work_aux (c d : Nat) (s : Vol) : (logM c d s).work.aux = s.work.aux := (logM_frame c d s).work_aux
@[simp] theorem logM_work_obj (c d : Nat) (s : Vol) : (logM c d s).work.obj = s.work.obj := (logM_frame c d s).work_obj
@[simp] theorem logM_work_pre (c d : Nat) (s : Vol) : (logM c d s).work.pre = s.work.pre := (logM_frame c d s).work_pre
@[simp] theorem logM_work_ex (c d : Nat) (s : Vol) : (logM c d s).work.ex = s.work.ex := (logM_frame c d s).work_ex
@[simp] theorem logM_work_pt (c d : Nat) (s : Vol) : (logM c d s).work.pt = s.work.pt := (logM_frame c d s).work_pt
@[simp] theorem logM_work_line (c d : Nat) (s : Vol) : (logM c d s).work.line = s.work.line := (logM_frame c d s).work_line
@[simp] theorem logM_work_disp (c d : Nat) (s : Vol) : (logM c d s).work.disp = s.work.disp := (logM_frame c d s).work_disp
@[simp] theorem logM_work_fab (c d : Nat) (s : Vol) : (logM c d s).work.fab = s.work.fab := (logM_frame c d s).work_fab
@[simp] theorem logM_work_chain (c d : Nat) (s : Vol) : (logM c d s).work.chain = s.work.chain := (logM_frame c d s).work_chain
@[simp] theorem logM_work_life (c d : Nat) (s : Vol) : (logM c d s).work.life = s.work.life := (logM_frame c d s).work_life
@[simp] theorem logM_work_streamWords (c d : Nat) (s : Vol) : (logM c d s).work.streamWords = s.work.streamWords := (logM_frame c d s).work_streamWords
@[simp] theorem logM_ret_flow (c d : Nat) (s : Vol) : (logM c d s).ret.flow = s.ret.flow := (logM_frame c d s).ret_flow
@[simp] theorem logM_ret_led (c d : Nat) (s : Vol) : (logM c d s).ret.led = s.ret.led := (logM_frame c d s).ret_led
@[simp] theorem logM_ret_pre (c d : Nat) (s : Vol) : (logM c d s).ret.pre = s.ret.pre := (logM_frame c d s).ret_pre
@[simp] theorem logM_ret_count (c d : Nat) (s : Vol) : (logM c d s).ret.count = s.ret.count := (logM_frame c d s).ret_count
@[simp] theorem logM_ret_ex (c d : Nat) (s : Vol) : (logM c d s).ret.ex = s.ret.ex := (logM_frame c d s).ret_ex
@[simp] theorem logM_ret_pulseA (c d : Nat) (s : Vol) : (logM c d s).ret.pulseA = s.ret.pulseA := (logM_frame c d s).ret_pulseA
@[simp] theorem logM_ret_pulseB (c d : Nat) (s : Vol) : (logM c d s).ret.pulseB = s.ret.pulseB := (logM_frame c d s).ret_pulseB
@[simp] theorem logM_ret_line (c d : Nat) (s : Vol) : (logM c d s).ret.line = s.ret.line := (logM_frame c d s).ret_line
@[simp] theorem logM_ret_disp (c d : Nat) (s : Vol) : (logM c d s).ret.disp = s.ret.disp := (logM_frame c d s).ret_disp
@[simp] theorem logM_ret_reset (c d : Nat) (s : Vol) : (logM c d s).ret.reset = s.ret.reset := (logM_frame c d s).ret_reset
@[simp] theorem logM_ret_avail (c d : Nat) (s : Vol) : (logM c d s).ret.avail = s.ret.avail := (logM_frame c d s).ret_avail

@[simp] theorem logG_bak (c d : Nat) (s : Vol) : (logG c d s).bak = s.bak := (logG_frame c d s).bak
@[simp] theorem logG_free (c d : Nat) (s : Vol) : (logG c d s).free = s.free := (logG_frame c d s).free
@[simp] theorem logG_work_th (c d : Nat) (s : Vol) : (logG c d s).work.th = s.work.th := (logG_frame c d s).work_th
@[simp] theorem logG_work_fe (c d : Nat) (s : Vol) : (logG c d s).work.fe = s.work.fe := (logG_frame c d s).work_fe
@[simp] theorem logG_work_cyc (c d : Nat) (s : Vol) : (logG c d s).work.cyc = s.work.cyc := (logG_frame c d s).work_cyc
@[simp] theorem logG_work_loop (c d : Nat) (s : Vol) : (logG c d s).work.loop = s.work.loop := (logG_frame c d s).work_loop
@[simp] theorem logG_work_te (c d : Nat) (s : Vol) : (logG c d s).work.te = s.work.te := (logG_frame c d s).work_te
@[simp] theorem logG_work_laneCopy (c d : Nat) (s : Vol) : (logG c d s).work.laneCopy = s.work.laneCopy := (logG_frame c d s).work_laneCopy
@[simp] theorem logG_work_ports (c d : Nat) (s : Vol) : (logG c d s).work.ports = s.work.ports := (logG_frame c d s).work_ports
@[simp] theorem logG_work_paths (c d : Nat) (s : Vol) : (logG c d s).work.paths = s.work.paths := (logG_frame c d s).work_paths
@[simp] theorem logG_work_levels (c d : Nat) (s : Vol) : (logG c d s).work.levels = s.work.levels := (logG_frame c d s).work_levels
@[simp] theorem logG_work_flow (c d : Nat) (s : Vol) : (logG c d s).work.flow = s.work.flow := (logG_frame c d s).work_flow
@[simp] theorem logG_work_aux (c d : Nat) (s : Vol) : (logG c d s).work.aux = s.work.aux := (logG_frame c d s).work_aux
@[simp] theorem logG_work_obj (c d : Nat) (s : Vol) : (logG c d s).work.obj = s.work.obj := (logG_frame c d s).work_obj
@[simp] theorem logG_work_pre (c d : Nat) (s : Vol) : (logG c d s).work.pre = s.work.pre := (logG_frame c d s).work_pre
@[simp] theorem logG_work_ex (c d : Nat) (s : Vol) : (logG c d s).work.ex = s.work.ex := (logG_frame c d s).work_ex
@[simp] theorem logG_work_pt (c d : Nat) (s : Vol) : (logG c d s).work.pt = s.work.pt := (logG_frame c d s).work_pt
@[simp] theorem logG_work_line (c d : Nat) (s : Vol) : (logG c d s).work.line = s.work.line := (logG_frame c d s).work_line
@[simp] theorem logG_work_disp (c d : Nat) (s : Vol) : (logG c d s).work.disp = s.work.disp := (logG_frame c d s).work_disp
@[simp] theorem logG_work_fab (c d : Nat) (s : Vol) : (logG c d s).work.fab = s.work.fab := (logG_frame c d s).work_fab
@[simp] theorem logG_work_chain (c d : Nat) (s : Vol) : (logG c d s).work.chain = s.work.chain := (logG_frame c d s).work_chain
@[simp] theorem logG_work_life (c d : Nat) (s : Vol) : (logG c d s).work.life = s.work.life := (logG_frame c d s).work_life
@[simp] theorem logG_work_streamWords (c d : Nat) (s : Vol) : (logG c d s).work.streamWords = s.work.streamWords := (logG_frame c d s).work_streamWords
@[simp] theorem logG_ret_flow (c d : Nat) (s : Vol) : (logG c d s).ret.flow = s.ret.flow := (logG_frame c d s).ret_flow
@[simp] theorem logG_ret_led (c d : Nat) (s : Vol) : (logG c d s).ret.led = s.ret.led := (logG_frame c d s).ret_led
@[simp] theorem logG_ret_pre (c d : Nat) (s : Vol) : (logG c d s).ret.pre = s.ret.pre := (logG_frame c d s).ret_pre
@[simp] theorem logG_ret_count (c d : Nat) (s : Vol) : (logG c d s).ret.count = s.ret.count := (logG_frame c d s).ret_count
@[simp] theorem logG_ret_ex (c d : Nat) (s : Vol) : (logG c d s).ret.ex = s.ret.ex := (logG_frame c d s).ret_ex
@[simp] theorem logG_ret_pulseA (c d : Nat) (s : Vol) : (logG c d s).ret.pulseA = s.ret.pulseA := (logG_frame c d s).ret_pulseA
@[simp] theorem logG_ret_pulseB (c d : Nat) (s : Vol) : (logG c d s).ret.pulseB = s.ret.pulseB := (logG_frame c d s).ret_pulseB
@[simp] theorem logG_ret_line (c d : Nat) (s : Vol) : (logG c d s).ret.line = s.ret.line := (logG_frame c d s).ret_line
@[simp] theorem logG_ret_disp (c d : Nat) (s : Vol) : (logG c d s).ret.disp = s.ret.disp := (logG_frame c d s).ret_disp
@[simp] theorem logG_ret_reset (c d : Nat) (s : Vol) : (logG c d s).ret.reset = s.ret.reset := (logG_frame c d s).ret_reset
@[simp] theorem logG_ret_avail (c d : Nat) (s : Vol) : (logG c d s).ret.avail = s.ret.avail := (logG_frame c d s).ret_avail

@[simp] theorem limM_bak (c k d : Nat) (s : Vol) : (limM c k d s).bak = s.bak := (limM_frame c k d s).bak
@[simp] theorem limM_free (c k d : Nat) (s : Vol) : (limM c k d s).free = s.free := (limM_frame c k d s).free
@[simp] theorem limM_work_th (c k d : Nat) (s : Vol) : (limM c k d s).work.th = s.work.th := (limM_frame c k d s).work_th
@[simp] theorem limM_work_fe (c k d : Nat) (s : Vol) : (limM c k d s).work.fe = s.work.fe := (limM_frame c k d s).work_fe
@[simp] theorem limM_work_cyc (c k d : Nat) (s : Vol) : (limM c k d s).work.cyc = s.work.cyc := (limM_frame c k d s).work_cyc
@[simp] theorem limM_work_loop (c k d : Nat) (s : Vol) : (limM c k d s).work.loop = s.work.loop := (limM_frame c k d s).work_loop
@[simp] theorem limM_work_te (c k d : Nat) (s : Vol) : (limM c k d s).work.te = s.work.te := (limM_frame c k d s).work_te
@[simp] theorem limM_work_laneCopy (c k d : Nat) (s : Vol) : (limM c k d s).work.laneCopy = s.work.laneCopy := (limM_frame c k d s).work_laneCopy
@[simp] theorem limM_work_ports (c k d : Nat) (s : Vol) : (limM c k d s).work.ports = s.work.ports := (limM_frame c k d s).work_ports
@[simp] theorem limM_work_paths (c k d : Nat) (s : Vol) : (limM c k d s).work.paths = s.work.paths := (limM_frame c k d s).work_paths
@[simp] theorem limM_work_levels (c k d : Nat) (s : Vol) : (limM c k d s).work.levels = s.work.levels := (limM_frame c k d s).work_levels
@[simp] theorem limM_work_flow (c k d : Nat) (s : Vol) : (limM c k d s).work.flow = s.work.flow := (limM_frame c k d s).work_flow
@[simp] theorem limM_work_aux (c k d : Nat) (s : Vol) : (limM c k d s).work.aux = s.work.aux := (limM_frame c k d s).work_aux
@[simp] theorem limM_work_obj (c k d : Nat) (s : Vol) : (limM c k d s).work.obj = s.work.obj := (limM_frame c k d s).work_obj
@[simp] theorem limM_work_pre (c k d : Nat) (s : Vol) : (limM c k d s).work.pre = s.work.pre := (limM_frame c k d s).work_pre
@[simp] theorem limM_work_ex (c k d : Nat) (s : Vol) : (limM c k d s).work.ex = s.work.ex := (limM_frame c k d s).work_ex
@[simp] theorem limM_work_pt (c k d : Nat) (s : Vol) : (limM c k d s).work.pt = s.work.pt := (limM_frame c k d s).work_pt
@[simp] theorem limM_work_line (c k d : Nat) (s : Vol) : (limM c k d s).work.line = s.work.line := (limM_frame c k d s).work_line
@[simp] theorem limM_work_disp (c k d : Nat) (s : Vol) : (limM c k d s).work.disp = s.work.disp := (limM_frame c k d s).work_disp
@[simp] theorem limM_work_fab (c k d : Nat) (s : Vol) : (limM c k d s).work.fab = s.work.fab := (limM_frame c k d s).work_fab
@[simp] theorem limM_work_chain (c k d : Nat) (s : Vol) : (limM c k d s).work.chain = s.work.chain := (limM_frame c k d s).work_chain
@[simp] theorem limM_work_life (c k d : Nat) (s : Vol) : (limM c k d s).work.life = s.work.life := (limM_frame c k d s).work_life
@[simp] theorem limM_work_streamWords (c k d : Nat) (s : Vol) : (limM c k d s).work.streamWords = s.work.streamWords := (limM_frame c k d s).work_streamWords
@[simp] theorem limM_ret_flow (c k d : Nat) (s : Vol) : (limM c k d s).ret.flow = s.ret.flow := (limM_frame c k d s).ret_flow
@[simp] theorem limM_ret_led (c k d : Nat) (s : Vol) : (limM c k d s).ret.led = s.ret.led := (limM_frame c k d s).ret_led
@[simp] theorem limM_ret_pre (c k d : Nat) (s : Vol) : (limM c k d s).ret.pre = s.ret.pre := (limM_frame c k d s).ret_pre
@[simp] theorem limM_ret_count (c k d : Nat) (s : Vol) : (limM c k d s).ret.count = s.ret.count := (limM_frame c k d s).ret_count
@[simp] theorem limM_ret_ex (c k d : Nat) (s : Vol) : (limM c k d s).ret.ex = s.ret.ex := (limM_frame c k d s).ret_ex
@[simp] theorem limM_ret_pulseA (c k d : Nat) (s : Vol) : (limM c k d s).ret.pulseA = s.ret.pulseA := (limM_frame c k d s).ret_pulseA
@[simp] theorem limM_ret_pulseB (c k d : Nat) (s : Vol) : (limM c k d s).ret.pulseB = s.ret.pulseB := (limM_frame c k d s).ret_pulseB
@[simp] theorem limM_ret_line (c k d : Nat) (s : Vol) : (limM c k d s).ret.line = s.ret.line := (limM_frame c k d s).ret_line
@[simp] theorem limM_ret_disp (c k d : Nat) (s : Vol) : (limM c k d s).ret.disp = s.ret.disp := (limM_frame c k d s).ret_disp
@[simp] theorem limM_ret_reset (c k d : Nat) (s : Vol) : (limM c k d s).ret.reset = s.ret.reset := (limM_frame c k d s).ret_reset
@[simp] theorem limM_ret_avail (c k d : Nat) (s : Vol) : (limM c k d s).ret.avail = s.ret.avail := (limM_frame c k d s).ret_avail

@[simp] theorem limG_bak (c k d : Nat) (s : Vol) : (limG c k d s).bak = s.bak := (limG_frame c k d s).bak
@[simp] theorem limG_free (c k d : Nat) (s : Vol) : (limG c k d s).free = s.free := (limG_frame c k d s).free
@[simp] theorem limG_work_th (c k d : Nat) (s : Vol) : (limG c k d s).work.th = s.work.th := (limG_frame c k d s).work_th
@[simp] theorem limG_work_fe (c k d : Nat) (s : Vol) : (limG c k d s).work.fe = s.work.fe := (limG_frame c k d s).work_fe
@[simp] theorem limG_work_cyc (c k d : Nat) (s : Vol) : (limG c k d s).work.cyc = s.work.cyc := (limG_frame c k d s).work_cyc
@[simp] theorem limG_work_loop (c k d : Nat) (s : Vol) : (limG c k d s).work.loop = s.work.loop := (limG_frame c k d s).work_loop
@[simp] theorem limG_work_te (c k d : Nat) (s : Vol) : (limG c k d s).work.te = s.work.te := (limG_frame c k d s).work_te
@[simp] theorem limG_work_laneCopy (c k d : Nat) (s : Vol) : (limG c k d s).work.laneCopy = s.work.laneCopy := (limG_frame c k d s).work_laneCopy
@[simp] theorem limG_work_ports (c k d : Nat) (s : Vol) : (limG c k d s).work.ports = s.work.ports := (limG_frame c k d s).work_ports
@[simp] theorem limG_work_paths (c k d : Nat) (s : Vol) : (limG c k d s).work.paths = s.work.paths := (limG_frame c k d s).work_paths
@[simp] theorem limG_work_levels (c k d : Nat) (s : Vol) : (limG c k d s).work.levels = s.work.levels := (limG_frame c k d s).work_levels
@[simp] theorem limG_work_flow (c k d : Nat) (s : Vol) : (limG c k d s).work.flow = s.work.flow := (limG_frame c k d s).work_flow
@[simp] theorem limG_work_aux (c k d : Nat) (s : Vol) : (limG c k d s).work.aux = s.work.aux := (limG_frame c k d s).work_aux
@[simp] theorem limG_work_obj (c k d : Nat) (s : Vol) : (limG c k d s).work.obj = s.work.obj := (limG_frame c k d s).work_obj
@[simp] theorem limG_work_pre (c k d : Nat) (s : Vol) : (limG c k d s).work.pre = s.work.pre := (limG_frame c k d s).work_pre
@[simp] theorem limG_work_ex (c k d : Nat) (s : Vol) : (limG c k d s).work.ex = s.work.ex := (limG_frame c k d s).work_ex
@[simp] theorem limG_work_pt (c k d : Nat) (s : Vol) : (limG c k d s).work.pt = s.work.pt := (limG_frame c k d s).work_pt
@[simp] theorem limG_work_line (c k d : Nat) (s : Vol) : (limG c k d s).work.line = s.work.line := (limG_frame c k d s).work_line
@[simp] theorem limG_work_disp (c k d : Nat) (s : Vol) : (limG c k d s).work.disp = s.work.disp := (limG_frame c k d s).work_disp
@[simp] theorem limG_work_fab (c k d : Nat) (s : Vol) : (limG c k d s).work.fab = s.work.fab := (limG_frame c k d s).work_fab
@[simp] theorem limG_work_chain (c k d : Nat) (s : Vol) : (limG c k d s).work.chain = s.work.chain := (limG_frame c k d s).work_chain
@[simp] theorem limG_work_life (c k d : Nat) (s : Vol) : (limG c k d s).work.life = s.work.life := (limG_frame c k d s).work_life
@[simp] theorem limG_work_streamWords (c k d : Nat) (s : Vol) : (limG c k d s).work.streamWords = s.work.streamWords := (limG_frame c k d s).work_streamWords
@[simp] theorem limG_ret_flow (c k d : Nat) (s : Vol) : (limG c k d s).ret.flow = s.ret.flow := (limG_frame c k d s).ret_flow
@[simp] theorem limG_ret_led (c k d : Nat) (s : Vol) : (limG c k d s).ret.led = s.ret.led := (limG_frame c k d s).ret_led
@[simp] theorem limG_ret_pre (c k d : Nat) (s : Vol) : (limG c k d s).ret.pre = s.ret.pre := (limG_frame c k d s).ret_pre
@[simp] theorem limG_ret_count (c k d : Nat) (s : Vol) : (limG c k d s).ret.count = s.ret.count := (limG_frame c k d s).ret_count
@[simp] theorem limG_ret_ex (c k d : Nat) (s : Vol) : (limG c k d s).ret.ex = s.ret.ex := (limG_frame c k d s).ret_ex
@[simp] theorem limG_ret_pulseA (c k d : Nat) (s : Vol) : (limG c k d s).ret.pulseA = s.ret.pulseA := (limG_frame c k d s).ret_pulseA
@[simp] theorem limG_ret_pulseB (c k d : Nat) (s : Vol) : (limG c k d s).ret.pulseB = s.ret.pulseB := (limG_frame c k d s).ret_pulseB
@[simp] theorem limG_ret_line (c k d : Nat) (s : Vol) : (limG c k d s).ret.line = s.ret.line := (limG_frame c k d s).ret_line
@[simp] theorem limG_ret_disp (c k d : Nat) (s : Vol) : (limG c k d s).ret.disp = s.ret.disp := (limG_frame c k d s).ret_disp
@[simp] theorem limG_ret_reset (c k d : Nat) (s : Vol) : (limG c k d s).ret.reset = s.ret.reset := (limG_frame c k d s).ret_reset
@[simp] theorem limG_ret_avail (c k d : Nat) (s : Vol) : (limG c k d s).ret.avail = s.ret.avail := (limG_frame c k d s).ret_avail

end Sys2Proof.Machine
end

