-- ==== Sys2Proof/Laws/State.lean ====
section
/-! SUPPORT. The fields of the state under the updates that have a name of their own, each by `rfl`. -/

namespace Sys2Proof.Machine

@[simp] theorem State.up_vol (s : State) (v : Vol) : (s.up v).vol = v := rfl
@[simp] theorem State.up_nv (s : State) (v : Vol) : (s.up v).nv = s.nv := rfl
@[simp] theorem State.up_pending (s : State) (v : Vol) : (s.up v).pending = s.pending := rfl
@[simp] theorem State.up_up (s : State) (v w : Vol) : (s.up v).up w = s.up w := rfl
theorem State.up_self (s : State) : s.up s.vol = s := rfl

@[simp] theorem takeFree_fst (s : Vol) : (takeFree s).1 = Config.freeValue s.free := rfl
@[simp] theorem takeFree_work (s : Vol) : (takeFree s).2.work = s.work := rfl
@[simp] theorem takeFree_ret (s : Vol) : (takeFree s).2.ret = s.ret := rfl
@[simp] theorem takeFree_bak (s : Vol) : (takeFree s).2.bak = s.bak := rfl
@[simp] theorem takeFree_free (s : Vol) : (takeFree s).2.free = s.free + 1 := rfl

@[simp] theorem putSlot_sessions (n : Nat) (x : Option Session) (s : Vol) :
    (putSlot n x s).work.ex.sessions = vset s.work.ex.sessions n x := rfl
@[simp] theorem putSlot_bak (n : Nat) (x : Option Session) (s : Vol) : (putSlot n x s).bak = s.bak := rfl
@[simp] theorem putSlot_ret (n : Nat) (x : Option Session) (s : Vol) : (putSlot n x s).ret = s.ret := rfl

@[simp] theorem addPending_list (p : Pending) (s : Vol) :
    (addPending p s).ret.store.pending =
      (s.ret.store.pending ++ [p]).drop ((s.ret.store.pending ++ [p]).length - 32) := by
  unfold addPending; dsimp only
@[simp] theorem addPending_work (p : Pending) (s : Vol) : (addPending p s).work = s.work := by unfold addPending; dsimp only
@[simp] theorem addPending_bak (p : Pending) (s : Vol) : (addPending p s).bak = s.bak := by unfold addPending; dsimp only

@[simp] theorem setPwron_work (s : Vol) : (setPwron s).work = s.work := rfl
@[simp] theorem setPwron_ret (s : Vol) : (setPwron s).ret = s.ret := rfl
@[simp] theorem setPwron_power (s : Vol) : (setPwron s).bak.power = s.bak.power := rfl
@[simp] theorem setPwron_count (s : Vol) : (setPwron s).bak.count = s.bak.count := rfl
@[simp] theorem setPwron_cal (s : Vol) : (setPwron s).bak.cal = s.bak.cal := rfl
@[simp] theorem setPwron_osf (s : Vol) : (setPwron s).bak.osf = s.bak.osf := rfl

@[simp] theorem wakeRecord_work (n : Nat) (c : Bool) (s : Vol) : (wakeRecord n c s).work = s.work := rfl
@[simp] theorem wakeRecord_ret (n : Nat) (c : Bool) (s : Vol) : (wakeRecord n c s).ret = s.ret := rfl
@[simp] theorem wakeRecord_power (n : Nat) (c : Bool) (s : Vol) : (wakeRecord n c s).bak.power = s.bak.power := rfl

@[simp] theorem modChange_change (g : Change → Change) (s : Vol) :
    (modChange g s).work.life.change = s.work.life.change.map g := rfl
@[simp] theorem modChange_bak (g : Change → Change) (s : Vol) : (modChange g s).bak = s.bak := rfl
@[simp] theorem modChange_ret (g : Change → Change) (s : Vol) : (modChange g s).ret = s.ret := rfl

@[simp] theorem dropHead_line (s : Vol) : (dropHead s).work.store.line = s.work.store.line.drop 1 := rfl
@[simp] theorem dropHead_bak (s : Vol) : (dropHead s).bak = s.bak := rfl
@[simp] theorem dropHead_ret (s : Vol) : (dropHead s).ret = s.ret := rfl

end Sys2Proof.Machine
end

