-- ==== Sys2Proof/Laws/Kept.lean ====
section
/-! SUPPORT. What the LEDGER, the STORE's bookkeeping and a change of the life cycle leave alone: the state of POWER, the reset
record, the tick count, the last-wake record, the accepted SEAL level and the codes taken. -/

namespace Sys2Proof.Machine

/-- What the supervisor alone moves. -/
structure Kept (s s' : Vol) : Prop where
  power : s'.bak.power = s.bak.power
  reset : s'.ret.reset = s.ret.reset
  count : s'.bak.count = s.bak.count
  lastWake : s'.bak.lastWake = s.bak.lastWake
  sealOpen : s'.bak.sealOpen = s.bak.sealOpen
  th : s'.work.th = s.work.th

theorem Kept.refl (s : Vol) : Kept s s := ⟨rfl, rfl, rfl, rfl, rfl, rfl⟩

theorem Kept.trans {a b c : Vol} (h : Kept a b) (k : Kept b c) : Kept a c :=
  ⟨k.power.trans h.power, k.reset.trans h.reset, k.count.trans h.count, k.lastWake.trans h.lastWake,
    k.sealOpen.trans h.sealOpen, k.th.trans h.th⟩

theorem Kept.after {a b c : Vol} (k : Kept b c) (h : Kept a b) : Kept a c := h.trans k

theorem LogFrame.kept {s s' : Vol} (h : LogFrame s s') : Kept s s' :=
  ⟨by rw [h.bak], h.ret_reset, by rw [h.bak], by rw [h.bak], by rw [h.bak], h.work_th⟩

/-- A fold of steps that keep them keeps them. -/
theorem kept_foldl {α : Type} {f : Vol → α → Vol} (h : ∀ s a, Kept s (f s a)) : ∀ (l : List α) (s : Vol), Kept s (l.foldl f s)
  | [], s => Kept.refl s
  | a :: l, s => (h s a).trans (kept_foldl h l (f s a))

theorem countUnmetered_kept (n : Nat) (s : Vol) : Kept s (countUnmetered n s) := ⟨rfl, rfl, rfl, rfl, rfl, rfl⟩
theorem spanBook_kept (a m q : Nat) (s : Vol) : Kept s (spanBook a m q s) := by
  unfold spanBook; exact ⟨rfl, rfl, rfl, rfl, rfl, rfl⟩
theorem deduct_kept (v : Nat) (s : Vol) : Kept s (deduct v s) := by
  unfold deduct; dsimp only; split <;> exact ⟨rfl, rfl, rfl, rfl, rfl, rfl⟩
theorem ledgerTakes_kept (a b c d : Nat) (s : Vol) : Kept s (ledgerTakes a b c d s) := by
  unfold ledgerTakes; dsimp only
  split
  · exact Kept.refl s
  · exact Kept.after (deduct_kept _ _) ⟨rfl, rfl, rfl, rfl, rfl, rfl⟩
theorem pulseLost_kept (o n : Nat) (s : Vol) : Kept s (pulseLost o n s) := by
  unfold pulseLost
  split
  · exact Kept.refl s
  · dsimp only
    refine Kept.trans ?_ (logLimitedTimes_frame _ _ _ _ _ _).kept
    split <;> exact ⟨rfl, rfl, rfl, rfl, rfl, rfl⟩
theorem pulseBook_kept (a b : Nat) (f r : Bool) (s : Vol) : Kept s (pulseBook a b f r s) := by
  unfold pulseBook
  split
  · exact Kept.refl s
  · dsimp only
    refine Kept.after (pulseLost_kept _ _ _) (Kept.after (pulseLost_kept _ _ _) ?_)
    exact ⟨rfl, rfl, rfl, rfl, rfl, rfl⟩
theorem endGap_kept (n : Nat) (q : Option Int) (s : Vol) : Kept s (endGap n q s).1 := by
  unfold endGap
  split
  · exact Kept.refl s
  · split
    · split
      · dsimp only
        have h : Kept s (limM 0x0167 0xFF (ceilDiv n 4) { s with ret.led.interval.gapFilled := true }) :=
          Kept.after (limM_frame _ _ _ _).kept ⟨rfl, rfl, rfl, rfl, rfl, rfl⟩
        generalize limM 0x0167 0xFF (ceilDiv n 4) { s with ret.led.interval.gapFilled := true } = u at h ⊢
        split <;> exact h.trans ⟨rfl, rfl, rfl, rfl, rfl, rfl⟩
      · exact Kept.after (logM_frame _ _ _).kept ⟨rfl, rfl, rfl, rfl, rfl, rfl⟩
    · exact Kept.after (logM_frame _ _ _).kept ⟨rfl, rfl, rfl, rfl, rfl, rfl⟩
theorem markUnfilled_kept (g : Gap) (s : Vol) : Kept s (markUnfilled g s) := by
  unfold markUnfilled; split <;> exact ⟨rfl, rfl, rfl, rfl, rfl, rfl⟩
theorem decideGaps_kept (s : Vol) : Kept s (decideGaps s).1 := by
  have go : ∀ (l : List Gap) (x : Vol × Nat × Nat), Kept s x.1 →
      Kept s (l.foldl (fun (x : Vol × Nat × Nat) g =>
        ((endGap g.ticks g.flow (markUnfilled g x.1)).1, x.2.1 + (endGap g.ticks g.flow (markUnfilled g x.1)).2.1,
          x.2.2 + (endGap g.ticks g.flow (markUnfilled g x.1)).2.2)) x).1 := by
    intro l
    induction l with
    | nil => intro x h; exact h
    | cons g l ih => intro x h; exact ih _ (h.trans ((markUnfilled_kept g x.1).trans (endGap_kept _ _ _)))
  exact go _ _ ⟨rfl, rfl, rfl, rfl, rfl, rfl⟩
theorem addGap_kept (c : BitVec 32) (n : Nat) (s : Vol) : Kept s (addGap c n s) := by
  unfold addGap
  split
  · exact Kept.refl s
  · exact Kept.after (countUnmetered_kept _ _) ⟨rfl, rfl, rfl, rfl, rfl, rfl⟩
theorem bookFlow_kept (m : Nat) (s : Vol) : Kept s (bookFlow m s).1 := by
  unfold bookFlow
  split
  · exact Kept.refl s
  · split
    · exact Kept.refl s
    · dsimp only
      split <;> split <;> exact ⟨rfl, rfl, rfl, rfl, rfl, rfl⟩
theorem bookTo_kept (c : BitVec 32) (s : Vol) : Kept s (bookTo c s) := by
  unfold bookTo
  dsimp only
  split
  · exact Kept.refl s
  split
  · exact ⟨rfl, rfl, rfl, rfl, rfl, rfl⟩
  refine Kept.trans ?_ (pulseBook_kept _ _ _ _ _)
  refine Kept.trans ?_ (ledgerTakes_kept _ _ _ _ _)
  refine Kept.trans (b := addGap _ _ _) ?_ ⟨rfl, rfl, rfl, rfl, rfl, rfl⟩
  refine Kept.trans ?_ (addGap_kept _ _ _)
  refine Kept.trans ?_ (spanBook_kept _ _ _ _)
  refine Kept.trans ?_ (spanBook_kept _ _ _ _)
  refine Kept.trans ?_ (bookFlow_kept _ _)
  split
  · exact Kept.refl s
  · exact decideGaps_kept s
theorem bookLoop_kept (c : BitVec 32) (s : Vol) : Kept s (bookLoop c s) := by
  unfold bookLoop
  dsimp only
  split
  · exact Kept.refl s
  · split
    · have h := (countUnmetered_kept (c - s.ret.flow.lastBooking).toNat s).trans
        (spanBook_kept s.ret.flow.lastBooking.toNat (c - s.ret.flow.lastBooking).toNat 0 _)
      generalize spanBook _ _ _ (countUnmetered _ s) = u at h ⊢
      exact h.trans ⟨rfl, rfl, rfl, rfl, rfl, rfl⟩
    · exact ⟨rfl, rfl, rfl, rfl, rfl, rfl⟩
theorem bookEvent_kept (c : BitVec 32) (s : Vol) : Kept s (bookEvent c s) := by
  unfold bookEvent
  split
  · exact Kept.refl s
  · split
    · exact bookLoop_kept c s
    · split
      · exact Kept.refl s
      · exact bookTo_kept c s

theorem guardRefused_kept (p : Nat) (s : Vol) : Kept s (guardRefused p s) := (logLimited_frame _ _ _ _ _).kept
theorem submitGuarded_kept (l : List Req) (s : Vol) : Kept s (submitGuarded l s) := by
  unfold submitGuarded
  split
  · exact guardRefused_kept _ s
  · exact (submitAll_frame _ _).kept

theorem drainRecord_kept (r : Rec) (s : Vol) : Kept s (drainRecord r s) := by
  unfold drainRecord
  dsimp only
  exact Kept.after (kept_foldl (fun s p => (submit_frame _ s).kept) _ _) ⟨rfl, rfl, rfl, rfl, rfl, rfl⟩
theorem writeRec_kept (nv : Nv) (r : Rec) (c : Bool) (s : Vol) : Kept s (writeRec nv r c s) :=
  (drainRecord_kept r s).trans (submitGuarded_kept _ _)
theorem writeRingA_kept (nv : Nv) (s : Vol) : Kept s (writeRingA nv s) := by
  unfold writeRingA; split
  · exact submitGuarded_kept _ _
  · exact Kept.refl s
theorem writeRingB_kept (nv : Nv) (s : Vol) : Kept s (writeRingB nv s) := by
  unfold writeRingB; split
  · exact submitGuarded_kept _ _
  · exact Kept.refl s
theorem writeRings_kept (nv : Nv) (s : Vol) : Kept s (writeRings nv s) := (writeRingA_kept nv s).trans (writeRingB_kept nv _)
theorem appendProfile_kept (r : Nat) (s : Vol) : Kept s (appendProfile r s) := by
  unfold appendProfile
  dsimp only
  split
  · exact Kept.after (submitGuarded_kept _ _) (Kept.after (submitGuarded_kept _ _) ⟨rfl, rfl, rfl, rfl, rfl, rfl⟩)
  · exact Kept.after (submitGuarded_kept _ _) ⟨rfl, rfl, rfl, rfl, rfl, rfl⟩
theorem appendAnchor_kept (t k : Nat) (u c : Bool) (s : Vol) : Kept s (appendAnchor t k u c s) := appendProfile_kept _ _
theorem takeTariff_kept (t : Nat) (s : Vol) : Kept s (takeTariff t s) := by
  unfold takeTariff
  dsimp only
  split
  · exact Kept.after (logG_frame _ _ _).kept ⟨rfl, rfl, rfl, rfl, rfl, rfl⟩
  · exact ⟨rfl, rfl, rfl, rfl, rfl, rfl⟩
theorem closeGaps_kept (s : Vol) : Kept s (closeGaps s) := by
  unfold closeGaps
  dsimp only
  have h : Kept s (if restartTicks s = 0 then s else
      match s.ret.flow.gapOpen, s.ret.flow.gaps.getLast? with
      | true, some g => markUnfilled { g with ticks := g.ticks + restartTicks s, here := true } s
      | _, _ => markUnfilled { ticks := restartTicks s, flow := s.ret.flow.inForce.map (·.q), here := true } s) := by
    split
    · exact Kept.refl s
    · split <;> exact markUnfilled_kept _ _
  refine Kept.trans (h.trans (kept_foldl (fun s g => markUnfilled_kept g s) _ _)) ⟨rfl, rfl, rfl, rfl, rfl, rfl⟩
theorem closeInterval_kept (nv : Nv) (s : Vol) : Kept s (closeInterval nv s) := by
  unfold closeInterval
  dsimp only
  split
  · exact Kept.refl s
  · have h := closeGaps_kept s
    generalize closeGaps s = u at h ⊢
    split
    · refine Kept.trans ?_ (writeRec_kept _ _ _ _)
      exact (h.trans (appendProfile_kept _ _)).trans ⟨rfl, rfl, rfl, rfl, rfl, rfl⟩
    · exact (h.trans (appendProfile_kept _ _)).trans ⟨rfl, rfl, rfl, rfl, rfl, rfl⟩
theorem openInterval_kept (t : Nat) (c p : Bool) (s : Vol) : Kept s (openInterval t c p s) := ⟨rfl, rfl, rfl, rfl, rfl, rfl⟩
theorem applyToken_kept (t : Token) (s : Vol) : Kept s (applyToken t s) := ⟨rfl, rfl, rfl, rfl, rfl, rfl⟩
theorem applyTokens_kept (nv : Nv) (s : Vol) : Kept s (applyTokens nv s) := by
  unfold applyTokens
  dsimp only
  split
  · exact Kept.refl s
  · refine Kept.trans ?_ (writeRingB_kept nv _)
    have h := (bookEvent_kept s.bak.count s).trans
      (kept_foldl (fun s t => applyToken_kept t s) (s.ret.pre.tokens.filter (tokenDue s)) _)
    exact h.trans ⟨rfl, rfl, rfl, rfl, rfl, rfl⟩
theorem hwmTakes_kept (t : Nat) (s : Vol) : Kept s (hwmTakes t s) := by
  unfold hwmTakes; split <;> exact ⟨rfl, rfl, rfl, rfl, rfl, rfl⟩
theorem closeSpan_kept (n : Nat) (s : Vol) : Kept s (closeSpan n s) := by
  unfold closeSpan; dsimp only; split <;> exact ⟨rfl, rfl, rfl, rfl, rfl, rfl⟩
theorem quarterTick_kept (nv : Nv) (t : Nat) (c : BitVec 32) (s : Vol) : Kept s (quarterTick nv t c s) := by
  unfold quarterTick
  dsimp only
  refine Kept.trans ?_ (writeRings_kept nv _)
  refine Kept.trans ?_ (takeTariff_kept _ _)
  refine Kept.trans ?_ (hwmTakes_kept _ _)
  refine Kept.trans ?_ (openInterval_kept _ _ _ _)
  have h := (((bookEvent_kept c s).trans (applyTokens_kept nv _)).trans (closeSpan_kept t _)).trans (closeInterval_kept nv _)
  split
  · exact h.trans (appendAnchor_kept _ _ _ _ _)
  · exact h
theorem billingClose_kept (nv : Nv) (t b l : Nat) (x y z : Bool) (s : Vol) : Kept s (billingClose nv t b l x y z s) := by
  unfold billingClose
  dsimp only
  refine Kept.trans ?_ (logM_frame _ _ _).kept
  refine Kept.trans ?_ (writeRingB_kept nv _)
  refine Kept.trans ?_ (writeRec_kept nv _ _ _)
  exact Kept.after (submitAll_frame _ _).kept ⟨rfl, rfl, rfl, rfl, rfl, rfl⟩
theorem advanceHwm_kept (t : Nat) (s : Vol) : Kept s (advanceHwm t s) := by
  unfold advanceHwm
  dsimp only
  split
  · split
    · exact Kept.after (logM_frame _ _ _).kept ⟨rfl, rfl, rfl, rfl, rfl, rfl⟩
    · exact ⟨rfl, rfl, rfl, rfl, rfl, rfl⟩
  · exact Kept.refl s
theorem billingTest_kept (nv : Nv) (b t : Nat) (x y z : Bool) (s : Vol) : Kept s (billingTest nv b t x y z s) := by
  unfold billingTest
  dsimp only
  refine Kept.trans ?_ (advanceHwm_kept _ _)
  have h : Kept s (logLimitedTimes .metrology 0x0305 0xFF 0xFF (boundsPassed s b t) s) :=
    (logLimitedTimes_frame _ _ _ _ _ _).kept
  refine h.trans ?_
  generalize logLimitedTimes .metrology 0x0305 0xFF 0xFF (boundsPassed s b t) s = u
  split
  · refine Kept.trans ?_ (billingClose_kept _ _ _ _ _ _ _ _)
    split
    · exact Kept.after (logM_frame _ _ _).kept ⟨rfl, rfl, rfl, rfl, rfl, rfl⟩
    · exact Kept.refl u
  · exact Kept.refl u
theorem billingStep_kept (nv : Nv) (b t : Nat) (x y z : Bool) (s : Vol) : Kept s (billingStep nv b t x y z s) := by
  unfold billingStep
  dsimp only
  split
  · exact ⟨rfl, rfl, rfl, rfl, rfl, rfl⟩
  · exact Kept.after (billingTest_kept _ _ _ _ _ _ _) ⟨rfl, rfl, rfl, rfl, rfl, rfl⟩
theorem ledgerOsf_kept (s : Vol) : Kept s (ledgerOsf s) := by
  unfold ledgerOsf; split <;> exact ⟨rfl, rfl, rfl, rfl, rfl, rfl⟩
theorem heldSteps_kept (nv : Nv) (t : HeldTick) (s : Vol) : Kept s (heldSteps nv t s) := by
  unfold heldSteps
  dsimp only
  have k := bookEvent_kept t.count s
  generalize bookEvent t.count s = u at k ⊢
  have h : Kept s (if t.osf = true then ledgerOsf u else u) := by
    split
    · exact k.trans (ledgerOsf_kept u)
    · exact k
  generalize (if t.osf = true then ledgerOsf u else u) = v at h ⊢
  refine Kept.trans ?_ (billingStep_kept _ _ _ _ _ _ _)
  split
  · exact h.trans (quarterTick_kept _ _ _ _)
  · exact h
theorem heldTick_kept (nv : Nv) (t : HeldTick) (s : Vol) : Kept s (heldTick nv t s) := by
  have k := heldSteps_kept nv t { s with bak := atTick t s.bak }
  exact ⟨k.power, k.reset, rfl, k.lastWake, k.sealOpen, k.th⟩
theorem processHeld_kept (nv : Nv) (s : Vol) : Kept s (processHeld nv s) := by
  unfold processHeld
  dsimp only
  split
  · exact ⟨rfl, rfl, rfl, rfl, rfl, rfl⟩
  · exact Kept.after (kept_foldl (fun s t => heldTick_kept nv t s) _ _) ⟨rfl, rfl, rfl, rfl, rfl, rfl⟩
theorem outageTick_kept (nv : Nv) (l : Bool) (s : Vol) : Kept s (outageTick nv l s) := by
  unfold outageTick
  split
  · exact Kept.refl s
  · dsimp only
    refine (applyTokens_kept nv s).trans ?_
    generalize applyTokens nv s = u
    split
    · refine Kept.after (billingStep_kept _ _ _ _ _ _ _) ?_
      exact (closeSpan_kept _ u).trans ⟨rfl, rfl, rfl, rfl, rfl, rfl⟩
    · refine Kept.trans ?_ (writeRings_kept nv _)
      refine Kept.trans ?_ (takeTariff_kept _ _)
      refine Kept.trans ?_ (billingStep_kept _ _ _ _ _ _ _)
      refine Kept.trans ?_ (openInterval_kept _ _ _ _)
      refine Kept.trans ?_ (appendAnchor_kept _ _ _ _ _)
      refine Kept.trans ?_ (closeInterval_kept nv _)
      split
      · exact (closeSpan_kept _ u).trans ⟨rfl, rfl, rfl, rfl, rfl, rfl⟩
      · exact Kept.refl u

theorem drainLoop_kept (nv : Nv) : ∀ (n : Nat) (s : Vol), Kept s (drainLoop nv n s)
  | 0, s => Kept.refl s
  | n + 1, s => by
    unfold drainLoop
    split
    · exact Kept.refl s
    · exact Kept.after (drainLoop_kept nv n _) (Kept.after (submitGuarded_kept _ _) ⟨rfl, rfl, rfl, rfl, rfl, rfl⟩)
theorem drainPending_kept (nv : Nv) (s : Vol) : Kept s (drainPending nv s) := by
  unfold drainPending
  split
  · exact drainLoop_kept nv _ s
  · exact Kept.refl s

theorem modChange_kept (g : Change → Change) (s : Vol) : Kept s (modChange g s) := ⟨rfl, rfl, rfl, rfl, rfl, rfl⟩
theorem stagePages_kept (l : List Req) (s : Vol) : Kept s (stagePages l s) :=
  (modChange_kept _ _).trans (submitAll_frame _ _).kept
theorem markLast_kept (s : Vol) : Kept s (markLast s) := by
  unfold markLast
  dsimp only
  have h := modChange_kept (fun c => setLeft (c.left + 1) c) s
  generalize modChange _ s = u at h ⊢
  split <;> exact h.trans ⟨rfl, rfl, rfl, rfl, rfl, rfl⟩
theorem changeLog_kept (c d : Nat) (s : Vol) : Kept s (changeLog c d s) := (logM_frame _ _ _).kept.trans (markLast_kept _)
theorem newState_kept (c : Change) (s : Vol) : Kept s (newState c s) := by
  unfold newState; split <;> exact ⟨rfl, rfl, rfl, rfl, rfl, rfl⟩
theorem beginStage_kept (nv : Nv) (s : Vol) : Kept s (beginStage nv s) := by
  unfold beginStage
  split
  · exact Kept.refl s
  · split
    · exact stagePages_kept _ _
    · exact Kept.after (stagePages_kept _ _) ⟨rfl, rfl, rfl, rfl, rfl, rfl⟩
    · exact stagePages_kept _ _
    · exact Kept.after (changeLog_kept _ _ _) (Kept.after (stagePages_kept _ _) ⟨rfl, rfl, rfl, rfl, rfl, rfl⟩)
    · dsimp only
      refine Kept.trans ?_ (stagePages_kept _ _)
      refine Kept.trans ?_ (newState_kept _ _)
      split <;> exact ⟨rfl, rfl, rfl, rfl, rfl, rfl⟩
    · dsimp only
      split <;> exact Kept.after (stagePages_kept _ _) ⟨rfl, rfl, rfl, rfl, rfl, rfl⟩
    · exact stagePages_kept _ _
    · exact Kept.refl s
theorem toStage_kept (nv : Nv) (x : ChangeStage) (s : Vol) : Kept s (toStage nv x s) :=
  (modChange_kept _ _).trans (beginStage_kept nv _)
theorem stageLog_kept (c : Change) (s : Vol) : Kept s (stageLog c s) := by
  unfold stageLog
  split
  · exact Kept.after (changeLog_kept _ _ _) ⟨rfl, rfl, rfl, rfl, rfl, rfl⟩
  · exact Kept.after (changeLog_kept _ _ _) ⟨rfl, rfl, rfl, rfl, rfl, rfl⟩
  · exact Kept.refl s
theorem stageDone_kept (nv : Nv) (c : Change) (s : Vol) : Kept s (stageDone nv c s) := by
  unfold stageDone
  split
  · exact toStage_kept nv _ s
  · dsimp only
    refine Kept.trans ?_ (toStage_kept nv _ _)
    split
    · exact stageLog_kept c s
    · exact Kept.refl s
theorem moveChange_kept (nv : Nv) (s : Vol) : Kept s (moveChange nv s) := by
  unfold moveChange
  split
  · split
    · exact Kept.refl s
    · split
      · exact stageDone_kept nv _ s
      · split
        · exact toStage_kept nv _ s
        · exact Kept.refl s
  · exact Kept.refl s
theorem startChange_kept (nv : Nv) (c : Change) (s : Vol) : Kept s (startChange nv c s) := by
  unfold startChange
  dsimp only
  have h := bookEvent_kept s.bak.count s
  generalize bookEvent _ s = u at h ⊢
  exact Kept.after (toStage_kept nv _ _) (h.trans ⟨rfl, rfl, rfl, rfl, rfl, rfl⟩)
theorem sealOpens_kept (nv : Nv) (i : StartIn) (s : Vol) : Kept s (sealOpens nv i s) := by
  unfold sealOpens
  split
  · exact Kept.refl s
  · split
    · exact startChange_kept nv _ s
    · exact startChange_kept nv _ s
    · exact Kept.refl s
theorem adoptChange_kept (nv : Nv) (i : StartIn) (s : Vol) : Kept s (adoptChange nv i s) := by
  unfold adoptChange
  split
  · split
    · exact Kept.refl s
    · exact ⟨rfl, rfl, rfl, rfl, rfl, rfl⟩
  · exact Kept.refl s
theorem resumeChange_kept (nv : Nv) (s : Vol) : Kept s (resumeChange nv s) := by
  unfold resumeChange
  split
  · refine Kept.trans ?_ (toStage_kept nv _ _)
    refine Kept.trans ?_ (logM_frame _ _ _).kept
    exact Kept.after (logM_frame _ _ _).kept ⟨rfl, rfl, rfl, rfl, rfl, rfl⟩
  · exact Kept.refl s
theorem orderIfOpen_kept (s : Vol) : Kept s (orderIfOpen s) := by
  unfold orderIfOpen
  dsimp only
  split
  · exact Kept.refl s
  · split <;> exact ⟨rfl, rfl, rfl, rfl, rfl, rfl⟩

end Sys2Proof.Machine
end

