-- ==== Sys2Proof/Laws/Mac.lean ====
section
/-! SUPPORT. The lengths that AES, CMAC and the MAC of a frame have, and the bytes of a number against the number of bytes. -/

namespace Sys2Proof.Machine

@[simp] theorem length_xorBytes (a b : Bytes) : (xorBytes a b).length = min a.length b.length := by
  simp [xorBytes]

theorem length_nextKey (k : Bytes) (r : Byte) (h : k.length = 16) : (nextKey k r).length = 16 := by
  simp [nextKey, slice, h]

theorem length_keySchedule (n : Nat) (k : Bytes) (r : Byte) (h : k.length = 16) :
    ∀ x ∈ keySchedule n k r, x.length = 16 := by
  induction n generalizing k r with
  | zero => simp [keySchedule]
  | succ n ih =>
    have h' := length_nextKey k r h
    simpa [keySchedule, h'] using ih _ _ h'

theorem length_encRounds (l : List Bytes) (s : Bytes) (h : ∀ x ∈ l, x.length = 16) (hl : l ≠ []) :
    (encRounds l s).length = 16 := by
  induction l generalizing s with
  | nil => exact absurd rfl hl
  | cons k r ih =>
    cases r with
    | nil => simp [encRounds, shiftRows, h k (by simp)]
    | cons k' r =>
      simp only [encRounds]
      exact ih _ (fun x hx => h x (List.mem_cons_of_mem _ hx)) (by simp)

theorem length_aesEnc (key block : Bytes) (h : key.length = 16) : (aesEnc key block).length = 16 :=
  length_encRounds _ _ (length_keySchedule _ _ _ h) (by simp [keySchedule])

theorem length_cmac (key msg : Bytes) (h : key.length = 16) : (cmac key msg).length = 16 := by
  simp [cmac, List.foldl_append, length_aesEnc _ _ h]

@[simp] theorem length_beBytes (n x : Nat) : (beBytes n x).length = n := by
  induction n with
  | zero => rfl
  | succ n ih => simp [beBytes, ih]

@[simp] theorem length_frameMac (ks : BitVec 128) (dir : Byte) (body : Bytes) : (frameMac ks dir body).length = 4 := by
  simp [frameMac, length_cmac, keyBytes]

/-- Four bytes are the bytes of the number that they spell. -/
theorem beBytes_beNat (l : Bytes) (h : l.length = 4) : beBytes 4 (beNat l % 4294967296) = l := by
  match l, h with
  | [a, b, c, d], _ =>
    have ha := a.isLt
    have hb := b.isLt
    have hc := c.isLt
    have hd := d.isLt
    simp only [beNat, beBytes, List.foldl, List.cons.injEq, and_true]
    refine ⟨?_, ?_, ?_, ?_⟩ <;> apply BitVec.eq_of_toNat_eq <;> simp only [BitVec.toNat_ofNat] <;> omega

end Sys2Proof.Machine
end

