-- ==== Sys2Proof/Laws/Memory.lean ====
section
/-! SUPPORT. The store array: every operation on it keeps the canonical form and stays inside the array. -/

namespace Sys2Proof.Machine

theorem memWfFrom_mono {lo lo' : Nat} (h : lo' ≤ lo) : ∀ {m : List Host.Cell}, memWfFrom lo m = true → memWfFrom lo' m = true
  | [], _ => rfl
  | (k, v) :: r, w => by
    simp only [memWfFrom, Bool.and_eq_true, decide_eq_true_eq] at w ⊢
    exact ⟨⟨le_trans h w.1.1, w.1.2⟩, w.2⟩

/-- A write keeps the form from any bound that the address respects. -/
theorem memWrite_wfFrom {a : Nat} {b : Byte} :
    ∀ {m : List Host.Cell} {lo : Nat}, lo ≤ a → memWfFrom lo m = true → memWfFrom lo (memWrite m a b) = true
  | [], lo, h, _ => by
    unfold memWrite
    split
    · rfl
    · rename_i n
      simp only [memWfFrom, Bool.and_true, Bool.and_eq_true, decide_eq_true_eq]
      exact ⟨h, by simpa using n⟩
  | (k, v) :: r, lo, h, w => by
    have w' := w
    simp only [memWfFrom, Bool.and_eq_true, decide_eq_true_eq] at w'
    obtain ⟨⟨hk, hv⟩, hr⟩ := w'
    unfold memWrite
    split
    · rename_i lt
      split
      · exact w
      · rename_i n
        simp only [memWfFrom, Bool.and_eq_true, decide_eq_true_eq]
        exact ⟨⟨h, by simpa using n⟩, ⟨Nat.succ_le_of_lt lt, hv⟩, hr⟩
    · split
      · rename_i e
        split
        · exact memWfFrom_mono (by omega) hr
        · rename_i n
          simp only [memWfFrom, Bool.and_eq_true, decide_eq_true_eq]
          exact ⟨⟨h, by simpa using n⟩, by rw [e]; exact hr⟩
      · rename_i ge ne
        simp only [memWfFrom, Bool.and_eq_true, decide_eq_true_eq]
        exact ⟨⟨hk, hv⟩, memWrite_wfFrom (by omega) hr⟩

theorem memWrite_wf {m : List Host.Cell} (a : Nat) (b : Byte) (h : Memory.wf m = true) : Memory.wf (memWrite m a b) = true :=
  memWrite_wfFrom (Nat.zero_le a) h

theorem memWriteList_wf : ∀ (d : Bytes) {m : List Host.Cell} (a : Nat), Memory.wf m = true → Memory.wf (memWriteList m a d) = true
  | [], _, _, h => h
  | _ :: r, _, a, h => memWriteList_wf r (a + 1) (memWrite_wf a _ h)

/-- A page write keeps the canonical form. -/
theorem memWritePage_wf {m : List Host.Cell} (n : Nat) (d : Bytes) (h : Memory.wf m = true) :
    Memory.wf (memWritePage m n d) = true := memWriteList_wf _ _ h

theorem memWrite_bounded {a : Nat} {b : Byte} (h : a < 524288) :
    ∀ {m : List Host.Cell}, memBounded m = true → memBounded (memWrite m a b) = true
  | [], _ => by
    unfold memWrite
    split <;> simp [memBounded, h]
  | (k, v) :: r, w => by
    have w' := w
    simp only [memBounded, List.all_cons, Bool.and_eq_true, decide_eq_true_eq] at w'
    have hr : memBounded r = true := w'.2
    unfold memWrite
    split
    · split
      · exact w
      · simpa [memBounded, h] using w'
    · split
      · split
        · exact hr
        · simpa [memBounded, h] using w'.2
      · have := memWrite_bounded (b := b) h hr
        simp only [memBounded, List.all_cons, Bool.and_eq_true, decide_eq_true_eq]
        exact ⟨w'.1, this⟩

theorem memWriteList_bounded : ∀ (d : Bytes) {m : List Host.Cell} (a : Nat), a + d.length ≤ 524288 →
    memBounded m = true → memBounded (memWriteList m a d) = true
  | [], _, _, _, h => h
  | x :: r, _, a, ha, h => by
    simp only [List.length_cons] at ha
    exact memWriteList_bounded r (a + 1) (by omega) (memWrite_bounded (by omega) h)

theorem padTo_length {α : Type} (n : Nat) (x : α) (l : List α) : (padTo n x l).length = n := by
  simp only [padTo, List.length_take, List.length_append, List.length_replicate]
  omega

/-- A write of one of the 8 192 pages stays inside the array. -/
theorem memWritePage_bounded {m : List Host.Cell} {n : Nat} (d : Bytes) (hn : n < 8192) (h : memBounded m = true) :
    memBounded (memWritePage m n d) = true :=
  memWriteList_bounded _ _ (by rw [padTo_length]; omega) h

end Sys2Proof.Machine
end

