-- ==== Sys2Proof/Laws/Start.lean ====
section
/-! SUPPORT. What a wake and a start leave in POWER and in the reset record: the tail of each writes the store, the LEDGER and
the DISPLAY only. -/

namespace Sys2Proof.Machine

/-! ### The DISPLAY -/

theorem dueCheck_kept (s : Vol) : Kept s (dueCheck s) := by
  unfold dueCheck
  split
  · exact Kept.refl s
  · dsimp only
    have go : ∀ (b : Nat) (seqs : List (List Int)) (l : List Rect) (p : Vol × List Rect), Kept s p.1 →
        Kept s (l.foldl (fun (p : Vol × List Rect) r =>
          if (p.1.work.disp.running ++ p.2).any (boxesMeet r) || decide (4 ≤ p.1.work.disp.running.length) then (p.1, p.2 ++ [r])
          else if framesOf seqs r.clear = 0 then (limG 0x0702 0xFF b p.1, p.2 ++ [r])
          else ({ p.1 with work.disp.pmic := true }, p.2)) p).1 := by
      intro b seqs l
      induction l with
      | nil => intro p h; exact h
      | cons r l ih =>
        intro p h
        rw [List.foldl_cons]
        apply ih
        split
        · exact h
        · split
          · exact h.trans (limG_frame _ _ _ _).kept
          · exact h.trans ⟨rfl, rfl, rfl, rfl, rfl, rfl⟩
    exact go _ _ _ _ (Kept.refl s)

theorem collapse_kept (r : Rect) (s : Vol) : Kept s (collapse r s) := by
  unfold collapse
  exact Kept.after (limG_frame _ _ _ _).kept ⟨rfl, rfl, rfl, rfl, rfl, rfl⟩

theorem displayMet_kept (s : Vol) : Kept s (displayMet s) := ⟨rfl, rfl, rfl, rfl, rfl, rfl⟩

theorem request_kept (r : Rect) (s : Vol) : Kept s (request r s) := by
  have last : ∀ v : Vol, Kept s v → Kept s (if v.work.disp.pmic = true then v else dueCheck v) := by
    intro v h
    split
    · exact h
    · exact h.trans (dueCheck_kept v)
  unfold request
  split
  · exact Kept.refl s
  · refine last _ ((displayMet_kept s).trans ?_)
    dsimp only
    generalize displayMet s = u
    split
    · exact ⟨rfl, rfl, rfl, rfl, rfl, rfl⟩
    · split
      · exact Kept.refl u
      · split
        · exact collapse_kept _ _
        · exact ⟨rfl, rfl, rfl, rfl, rfl, rfl⟩

theorem fieldCheck_kept (nv : Nv) (s : Vol) : Kept s (fieldCheck nv s) := by
  unfold fieldCheck
  split
  · exact Kept.refl s
  · refine kept_foldl (fun s p => ?_) _ _
    split
    · exact Kept.refl s
    · exact request_kept _ _

theorem redraw_kept (r : Rect) (s : Vol) : Kept s (redraw r s) := (request_kept _ s).trans (request_kept _ _)

theorem displayResume_kept (s : Vol) : Kept s (displayResume s) := by
  unfold displayResume
  dsimp only
  split
  · exact dueCheck_kept s
  · exact Kept.after (logG_frame _ _ _).kept (Kept.after (kept_foldl (fun s r => redraw_kept r s) _ _) ⟨rfl, rfl, rfl, rfl, rfl, rfl⟩)

theorem displayRecover_kept (nv : Nv) (l : Bool) (s : Vol) : Kept s (displayRecover nv l s) := by
  unfold displayRecover
  split
  · exact Kept.refl s
  · dsimp only
    refine Kept.after (fieldCheck_kept nv _) ?_
    split
    · refine Kept.after (logG_frame _ _ _).kept ?_
      refine Kept.after (request_kept _ _) ?_
      refine Kept.after (request_kept _ _) ?_
      exact ⟨rfl, rfl, rfl, rfl, rfl, rfl⟩
    · split
      · exact Kept.after (kept_foldl (fun s r => redraw_kept r s) _ _) ⟨rfl, rfl, rfl, rfl, rfl, rfl⟩
      · exact Kept.after (logG_frame _ _ _).kept (Kept.after (kept_foldl (fun s r => redraw_kept r s) _ _) ⟨rfl, rfl, rfl, rfl, rfl, rfl⟩)

/-! ### A wake -/

theorem hbeatAlive_kept (s : Vol) : Kept s (hbeatAlive s) := by
  unfold hbeatAlive
  dsimp only
  split
  · exact Kept.after (logG_frame _ _ _).kept ⟨rfl, rfl, rfl, rfl, rfl, rfl⟩
  · exact ⟨rfl, rfl, rfl, rfl, rfl, rfl⟩

theorem hbeatCatchUp_kept (s : Vol) : Kept s (hbeatCatchUp s) := by
  unfold hbeatCatchUp
  split
  · exact Kept.after (hbeatAlive_kept _) ⟨rfl, rfl, rfl, rfl, rfl, rfl⟩
  · exact Kept.refl s

/-- What a wake does after CORE runs. -/
theorem wakeTail_kept (nv : Nv) (s : Vol) : Kept s (wakeTail nv s) := by
  unfold wakeTail
  dsimp only
  refine Kept.trans ?_ (moveChange_kept nv _)
  refine Kept.trans ?_ (orderIfOpen_kept _)
  have h := (((processHeld_kept nv s).trans (hbeatCatchUp_kept _)).trans (startHead_frame _).kept).trans (drainPending_kept nv _)
  split
  · exact h
  · exact h.trans (displayResume_kept _)

/-- What a wake makes of POWER (R530). -/
theorem wakeUp_power (nv : Nv) (s : Vol) :
    (wakeUp nv s).bak.power =
      { s.bak.power with
        state := .doze, core := true, full := true, src := .rc, hfxo := false, hfxoFailed := false, attempts := 0,
        retrying := none, entering := false, sealNews := false, dozeFrom := s.bak.count,
        wakeFrom := some (if s.bak.power.retrying.isSome then s.bak.power.failTick else s.bak.count) } := by
  unfold wakeUp
  dsimp only
  rw [(wakeTail_kept nv _).power]

theorem wakeUp_rest (nv : Nv) (s : Vol) :
    (wakeUp nv s).ret.reset = s.ret.reset ∧ (wakeUp nv s).bak.count = s.bak.count ∧
      (wakeUp nv s).bak.lastWake = s.bak.lastWake ∧ (wakeUp nv s).bak.sealOpen = s.bak.sealOpen ∧
      (wakeUp nv s).work.th = s.work.th := by
  unfold wakeUp
  dsimp only
  generalize hu : Vol.mk _ _ _ _ = u
  have k := wakeTail_kept nv u
  subst hu
  exact ⟨k.reset, k.count, k.lastWake, k.sealOpen, k.th⟩

end Sys2Proof.Machine
end

