-- ==== Sys2Proof/WellFormed.lean ====
section
/-! DEFINITION. When a command's operands can come from the hardware: the widths and counts that the manual gives for what a
row reads from outside. A meaning is total, so a term that no hardware sends has an outcome too, of which nothing is
claimed. -/

namespace Sys2Proof

/-- Sixteen conversions of each pin (R20), each a ratio of at most 1, in units of 2^-24. -/
def StartIn.wf (i : StartIn) : Bool :=
  i.conv.toList.all fun l => l.length == 16 && l.all fun x => decide (x ≤ 2 ^ 24)

/-- A frame carries at most 1 024 bytes of data (R399). -/
def Frame.wf (f : Frame) : Bool := decide (f.data.length ≤ 1024)

/-- The samples of a half-cycle (R456, R458): one for each tick, and 12 bits in two's complement each. -/
def HalfCycle.wf (h : HalfCycle) : Bool :=
  h.samples.length == 512 && h.samples.all fun x => decide (-2048 ≤ x ∧ x ≤ 2047)

/-- A record of the chain: LEN is one byte (R567), and no body is longer. -/
def ChainRec.wf (r : ChainRec) : Bool := decide (r.body.length ≤ 255)

/-- The operands of a command. -/
def Instr.wf : Instr → Bool
  | .vbkRelease i | .brownoutRelease i | .vcoreBrownout i | .testenRelease i | .rstNRelease i | .thatchReread i _
  | .limpAttempt _ _ i | .watchdog _ i | .lifecycleChange i => i.wf
  | .acousticLoopbackInjector f | .acousticLoopbackReference f | .acousticLoopbackCrosspoint f
  | .acousticLoopbackStop f | .portLoopbackDigital f | .portLoopbackPin f | .lineLoopbackSymbol f
  | .lineLoopbackAnalog f | .lineLoopbackExternal f | .displayReadbackRequest f | .countClear f | .clockSet f
  | .tokenSubmit f | .open_ f | .openProof f | .close f | .get f | .next f | .set f | .keyWrite f
  | .calibrationSetWrite f | .profileTableWrite f | .curveWrite f | .periodicWakeWrite f | .pscaleWrite f
  | .tariffConfig f | .priceChanged f | .siteNotesWrite f | .rosterWrite f | .templateWrite f | .driveCurveWrite f
  | .lineSettingsWrite f | .portSettingsWrite f | .sealAction f | .retireAction f => f.wf
  | .mbusSndUd _ _ _ f => f.wf
  | .lineHalfCycle _ h => h.wf
  | .chainToken r | .chainPath r | .chainEnd r | .tokenReturned r => r.wf
  | .mbusSelect p => p.pattern.length == 8
  | .linkWrite b => b.op != 0 && b.op != 2
  | _ => true

end Sys2Proof
end

