-- ==== Sys2Proof/Tests/Slice0.lean ====
section
/-! SUPPORT. Small tests: what WellFormed refuses, and for every statement states and operands that meet its hypotheses. Each
check is one step on a small state, by hand calculation from the rules. -/

namespace Sys2Proof.Tests

open Sys2Proof Sys2Proof.Machine

set_option Elab.async false

/-- A device awake in DOZE. -/
def awake : Vol :=
  { State.reset.vol with
    bak.power.state := .doze
    bak.power.core := true
    bak.power.full := true }

/-- The state with a given volatile part. -/
def st (v : Vol) : State := { State.reset with vol := v }

/-- The taken code of thatch field i. -/
def code (i c : Nat) (v : Vol) : Vol :=
  { v with
    work.th.entries :=
      vset v.work.th.entries i { vget v.work.th.entries i with taken := BitVec.ofNat 4 c } }

/-- The next state of a command passes a test. -/
def after (c : Instr) (s : State) (p : State → Bool) : Bool :=
  match exec c s with
  | .next t => p t
  | _ => false

/-! ### WellFormed: a term of each shape, and one that its check refuses -/

def pins : StartIn := { (default : StartIn) with conv := Vector.replicate 12 (List.replicate 16 0) }

def badPins : StartIn := { pins with conv := vset pins.conv 3 [0] }

def halfWave : HalfCycle := { samples := List.replicate 512 1, lost := 0 }

theorem test_wf_start : (Instr.vbkRelease pins).wf = true ∧ (Instr.vbkRelease badPins).wf = false := by decide +kernel

theorem test_wf_ratio :
    (Instr.vbkRelease { pins with conv := vset pins.conv 0 (List.replicate 16 (2 ^ 24 + 1)) }).wf = false := by
  decide +kernel

theorem test_wf_frame : (Instr.get default).wf = true ∧
    (Instr.get { (default : Frame) with data := List.replicate 1025 0 }).wf = false := by decide +kernel

theorem test_wf_half_cycle : (Instr.lineHalfCycle 0 halfWave).wf = true ∧
    (Instr.lineHalfCycle 0 { halfWave with samples := [] }).wf = false ∧
    (Instr.lineHalfCycle 0 { halfWave with samples := List.replicate 512 2048 }).wf = false := by decide +kernel

theorem test_wf_chain_record : (Instr.chainEnd default).wf = true ∧
    (Instr.chainEnd { (default : ChainRec) with body := List.replicate 256 0 }).wf = false := by decide +kernel

theorem test_wf_selection : (Instr.mbusSelect ⟨List.replicate 8 0xFF, default, 0⟩).wf = true ∧
    (Instr.mbusSelect ⟨[0xFF], default, 0⟩).wf = false := by decide +kernel

/-! ### The block and the store -/

/-- R282: a tick of a running device, and none in OFF. -/
theorem witness_EmptyQueueAdvancesOneTick :
    (st awake).pending = [] ∧ (st awake).vol.bak.power.state ≠ .off ∧ State.reset.pending = [] ∧
      State.reset.vol.bak.power.state = .off := by decide +kernel

theorem witness_EveryStepKeepsTheStoreInvariant : State.reset.Inv ∧ Runs State.reset State.reset :=
  ⟨by unfold State.Inv; decide +kernel, rfl⟩

theorem witness_OnlyPageWritesChangeTheArray : exec .syncRelease State.reset = .next State.reset := rfl

/-- A started write of page 5. -/
def page5 : Req := { plainReq 5 [1, 2, 3] .repair with started := true }

def writing : State := st { awake with work.store.line := [page5] }

theorem witness_PageWriteStoresItsPage :
    storeInv writing.nv = true ∧ writing.vol.work.store.line = page5 :: [] ∧ page5.started = true ∧ page5.page < 8192 ∧
      after (.pageWriteDone true 200 0) writing (fun t => memPage t.nv.mem 5 == padTo 64 0xFF [1, 2, 3]) = true := by
  decide +kernel

/-- An ordinary write of ring A that waits at the head, after a failed check. -/
def ringWaits : Vol := { awake with
  work.store.line := [plainReq 128 [7] .ringA]
  work.store.failed := 1000 }

theorem witness_PageWritesFailAndWaitForTheReserve :
    (page5.retried = false ∧ page5.started = true ∧ storeInv writing.nv = true) ∧
      ({ page5 with retried := true }.retried = true ∧ { page5 with retried := true }.page < 8192) ∧
      (coreRuns ringWaits = true ∧ ringWaits.bak.power.warning = false ∧ ringWaits.bak.power.deferred = none ∧
        192 ≤ (192 : BitVec 8).toNat ∧ ringWaits.ret.store.pending = [] ∧ ringWaits.work.life.change = none ∧
        ringWaits.work.ex.inHand = none ∧ ringWaits.work.ex.queue = []) ∧
      (191 : BitVec 8).toNat < 192 ∧
      (reserveOk ringWaits = false ∧ 1000 ≤ ringWaits.work.store.failed ∧ ringWaits.work.store.held = []) ∧
      after (.reserveCheck true 192) (st ringWaits) (fun t => t.vol.work.store.line.all (·.started)) = true ∧
      after (.reserveCheck true 191) (st ringWaits) (fun t => t.vol.work.store.failed == 1001) = true ∧
      after .reserveLow (st ringWaits) (fun t => t.vol.ret.store.pending.length == 1) = true := by
  decide +kernel

def window : LogWindow := { (default : LogWindow) with log := .general, code := 0x0401, key := 3, seq := 0, count := 2 }

/-- The entry of a window stands in its page, and an hour has passed. -/
def windowed : State :=
  let d := pageForm 0 0x16 0 1 (List.replicate 16 0)
  let p := logPage .general 0
  { st { awake with
      bak.count := 230400
      work.store.scrubDue := true
      ret.logs.windows := [window]
      ret.logs.nextG := 1 } with
    nv := { State.reset.nv with mem := memWritePage [] p d } }

theorem witness_ScrubAndLogWindows :
    (coreRuns windowed.vol = true ∧ windowed.vol.work.store.scrubDue = true ∧ lineFill windowed.vol = 0) ∧
      lineFill { windowed.vol with work.store.line := [page5] } ≠ 0 ∧
      windowed.vol.ret.logs.windows.find? (fun x => x.log == window.log && x.code == window.code && x.key == window.key) =
        some window ∧
      230400 ≤ (windowed.vol.bak.count - window.since).toNat ∧ window.count ≠ 0 ∧
      (let closed := { windowed.vol with ret.logs.windows := [] }
       entryKept closed window = true ∧ pageValid windowed.nv closed (logPage .general 0) = true ∧
         pageSeq (viewPage windowed.nv closed (logPage .general 0)) = window.seq.toNat) ∧
      after (.scrub .clean) windowed (fun t => t.vol.ret.store.scrubPtr == 1) = true ∧
      after (.scrub .clean) { windowed with vol.work.store.line := [page5] }
        (fun t => t.vol.ret.store.scrubPtr == 0 && t.vol.work.store.scrubDue) = true ∧
      after (.logWindowEnd .general 0x0401 3) windowed (fun t => t.vol.work.store.line.length == 1) = true := by
  decide +kernel

/-- A full pending list. -/
def pended : Vol := { awake with ret.store.pending := List.replicate 32 (plainReq 9 [] .repair).toPending }

theorem witness_EntriesAreNumberedAndPended :
    logsWait awake = false ∧ { awake with bak.power.state := .limp }.bak.power.state = .limp ∧
      pended.ret.store.pending.length ≤ 32 ∧ pended.ret.store.pending.length = 32 := by decide +kernel

/-! ### Supplies, resets and waking -/

def asleep : Vol :=
  { State.reset.vol with
    bak.power.state := .sleep
    bak.count := 230400 }

def kept_ : Vol := { State.reset.vol with bak.power.state := .keep }

/-- RST_N holds the device. -/
def heldLow : Vol :=
  { State.reset.vol with
    bak.power.state := .held
    bak.power.rstLow := true
    bak.power.deferred := some (resetOf .pin default) }

def heldTest : Vol :=
  { State.reset.vol with
    bak.power.state := .held
    bak.power.testenHold := some .por
    bak.power.deferred := some (resetOf .por default) }

def unchecked : Vol :=
  { awake with
    bak.power.checks := vset awake.bak.power.checks 1 (some 0)
    bak.count := 128 }

theorem witness_ResetsAndReturnsOfSupplyStartTheDevice :
    (pins.testen = false ∧ pins.rstLow = false ∧ State.reset.vol.bak.power.state = .off ∧ State.reset.vol.bak.power.rstLow = false ∧
        writeRuns State.reset.vol = false) ∧
      (kept_.bak.power.state = .keep ∧ kept_.bak.power.rstLow = false ∧
        { kept_ with bak.power.rstLow := true }.bak.power.rstLow = true) ∧
      after (.brownoutRelease { pins with rstLow := true }) (st kept_)
        (fun t => t.vol.bak.power.state == .held && t.vol.bak.power.rstLow) = true ∧
      (resettable awake = true ∧ awake.bak.power.state ≠ .held ∧ storeRuns awake = false ∧
        awake.bak.power.rstLow = false) ∧
      (heldLow.bak.power.rstLow = true ∧ heldLow.bak.power.state = .held ∧
        heldLow.bak.power.deferred = some (resetOf .pin default) ∧ (resetOf .pin default).defer = 0) ∧
      (heldTest.bak.power.testenHold = some .por ∧ heldTest.bak.power.deferred = some (resetOf .por default) ∧
        heldTest.bak.power.rstLow = false) ∧
      (vget unchecked.bak.power.checks 1 = some 0 ∧ coreRuns unchecked = true ∧ watched unchecked 1 = true ∧
        128 ≤ (unchecked.bak.count - 0).toNat ∧ storeRuns unchecked = false) := by
  decide +kernel

/-- A write in progress, at which a reset waits. -/
theorem witness_AResetHoldsTheDeviceOrWaitsForTheStore :
    (resettable awake = true ∧ awake.bak.power.state ≠ .held ∧ awake.bak.power.warning = false ∧ storeRuns awake = false) ∧
      (resettable writing.vol = true ∧ writing.vol.bak.power.state ≠ .held ∧ storeRuns writing.vol = true ∧
        writing.vol.bak.power.deferred = none ∧ writing.vol.bak.power.warning = false) ∧
      awake.work.loop.running = false ∧
      after .pinReset (st awake) (fun t => t.vol.bak.power.state == .held) = true ∧
      after .pinReset writing (fun t => t.vol.bak.power.state == .doze) = true := by decide +kernel

def warned : Vol := { awake with bak.power.warning := true }

def browned : Vol := { warned with bak.power.brownOut := true }

theorem witness_TheSupplyFallsFromWarningToOff :
    (coreRuns awake = true ∧ awake.bak.power.state = .doze ∧ awake.bak.power.warning = false ∧
        120 ≤ (120 : BitVec 8).toNat) ∧
      (warned.bak.power.warning = true ∧ warned.bak.power.state ≠ .off ∧ warned.bak.power.state ≠ .keep ∧
        warned.bak.power.state = .doze ∧ warned.bak.power.onVres = false ∧ warned.work.cyc.running = false ∧
        warned.work.aux.isOpen = false ∧ coreRuns warned = true) ∧
      (browned.bak.power.brownOut = true ∧ storeRuns browned = false ∧ browned.work.loop.running = false) ∧
      noLedger awake = false ∧
      after (.powerFailWarning 120) (st awake)
        (fun t => t.vol.work.store.flushing && t.vol.work.store.line.any fun r => r.flush && r.job == .ringB) = true ∧
      after .keepEntry (st browned) (fun t => t.vol.bak.power.state == .keep) = true ∧
      after .vbkLoss (st awake) (fun t => t.vol.bak == { bakClear with osfCause := 3 }) = true := by decide +kernel

/-- Asleep one tick before a cycle and an AUX slot, with a second that has just begun and both alarms enabled for it. -/
def planned : Vol :=
  code 0 0 (code 9 0
    { asleep with
      work.life.state := .service
      bak.count := 63
      work.aux.sched.repeat_ := 1
      bak.secTick := true
      bak.alarmA := { alarmBlank with
        enable := 1
        mask := 0x3F }
      bak.alarmB := { alarmBlank with
        enable := 1
        mask := 0x3F } })

theorem witness_AWakeRunsCoreAndRecordsItsSource :
    (canWake planned = true ∧ isPrimary planned = false ∧
        [WakeSource.wakeN, .cycle, .auxSlot, .alarmA, .alarmB].all (sourceActive planned) = true ∧
        WakeSource.cycle ≠ .supervisor) ∧
      after .cycleWakeLead (st planned) (fun t => t.vol.bak.lastWake.source == 0x0D && coreRuns t.vol) = true ∧
      after .auxSlotWakeLead (st planned) (fun t => t.vol.bak.lastWake.source == 0x0D) = true ∧
      after .auxSlotWakeLead (st { planned with work.cyc.rate := 0, work.cyc.nextRate := 0 }) (fun t => t.vol.bak.lastWake.source == 0x0E) = true ∧
      planned.bak.power.entering = false ∧
      after (.alarmMatch false) (st planned) (fun t => t.vol.bak.lastWake.source == 2) = true ∧
      after (.alarmMatch true) (st planned) (fun t => t.vol.bak.lastWake.source == 2) = true ∧
      after (.wake ⟨.wakeN, [.alarmB], true⟩ false) (st planned)
        (fun t => t.vol.bak.lastWake.source == 2 && t.vol.bak.power.wakeNIsLow) = true ∧
      after (.wake ⟨.wakeN, [], false⟩ true) (st planned) (fun t => !t.vol.bak.lastWake.collision) = true ∧
      after (.wake ⟨.wakeN, [], false⟩ true) (st { planned with bak.power.entering := true })
        (fun t => t.vol.bak.lastWake.collision && !t.vol.bak.power.entering) = true := by decide +kernel

/-- The periodic wake belongs to every third tick, and the next one is such a tick. -/
def everyThird : Vol :=
  { awake with
    bak.pwake := { pwakeBlank with
      enable := 1
      interval := 3 }
    bak.count := 2 }

def dutyTwo : Vol :=
  { awake with
    bak.pwake := { pwakeBlank with duty := 2 }
    bak.count := 460800 }

theorem witness_SleepEndsWithThePeriodicWake :
    (awake.bak.power.state = .doze ∧ sleepHeld awake = false ∧ wakeNext awake = false ∧
        wakeNext (tickOn awake) = false ∧ awake.bak.power.deferred = none) ∧
      (sleepHeld everyThird = false ∧ wakeNext everyThird = true ∧ wakeNext { everyThird with bak.count := 1 } = false ∧
        wakeNext (tickOn { everyThird with bak.count := 1 }) = true) ∧
      { awake with bak.power.wakeNIsLow := true }.bak.power.wakeNIsLow = true ∧
      sleepHeld { awake with work.pre.pour := true } = true ∧
      (periodicMatch asleep = true ∧ canWake asleep = true ∧ asleep.bak.power.warning = false) ∧
      (periodicMatch dutyTwo = true ∧ coreRuns dutyTwo = true ∧ canWake dutyTwo = false ∧
        dutyTwo.bak.pwake.duty.toNat % 4 = 2) ∧
      ({ awake with bak.power.wakeNLow := some (awake.bak.count - 63) }.bak.power.wakeNLow = some (awake.bak.count - 63) ∧
        canWake awake = false) ∧
      after .sleepEntry (st { awake with bak.power.wakeNLow := some (awake.bak.count - 64) }) (fun t => t.vol.bak.power.state == .sleep && !coreRuns t.vol) = true ∧
      after .sleepEntry (st { awake with bak.power.wakeNLow := some (awake.bak.count - 63) })
        (fun t => t.vol.bak.power.state == .doze) = true ∧
      after .sleepEntry (st everyThird) (fun t => t.vol.bak.power.state == .doze) = true ∧
      after .sleepEntry (st { awake with bak.power.wakeNIsLow := true }) (fun t => t.vol.bak.power.state == .doze) = true ∧
      after (.wake ⟨.wakeN, [], false⟩ false) (st awake) (fun t => t.vol.bak.power.wakeNLow == some awake.bak.count) = true ∧
      after .periodicWake (st asleep) (fun t => t.vol.bak.lastWake.source == 1) = true := by decide +kernel

/-- The third attempt is due. -/
def retrying : Vol :=
  { asleep with
    bak.power.retrying := some (.wakeN, false)
    bak.power.attempts := 3
    bak.power.failTick := 230208 }

def limping : Vol := { State.reset.vol with bak.power.state := .limp }

theorem witness_FailedWakesLeadToLimpAndOutOfIt :
    (canWake asleep = true ∧ sourceActive asleep .wakeN = true) ∧
      (retrying.bak.power.retrying = some (.wakeN, false) ∧ retrying.bak.power.state = .sleep ∧
        64 * retrying.bak.power.attempts ≤ (retrying.bak.count - retrying.bak.power.failTick).toNat ∧
        retrying.bak.power.attempts = 3) ∧
      { retrying with bak.power.attempts := 2 }.bak.power.attempts < 3 ∧
      (warningAllows retrying .wakeN = true ∧ warningAllows { retrying with bak.power.warning := true } .wakeN = false) ∧
      (limping.bak.power.warning = false ∧ { limping with bak.power.warning := true }.bak.power.warning = true ∧
        pins.rstLow = false) ∧
      after (.wakeRetry false) (st { retrying with bak.power.warning := true })
        (fun t => t.vol.bak.power.attempts == 3 && t.vol.bak.power.state == .sleep) = true ∧
      after (.limpAttempt .wakeN true pins) (st { limping with bak.power.warning := true })
        (fun t => t.vol.bak.power.state == .limp) = true ∧
      (limping.bak.power.state = .limp ∧ limpDue .wakeN limping = true ∧ pins.testen = false ∧
        limping.bak.power.rstLow = false) ∧
      after (.wakeRetry false) (st retrying) (fun t => t.vol.bak.power.state == .limp) = true ∧
      after (.wakeRetry true) (st retrying) (fun t => t.vol.bak.power.state == .doze) = true := by decide +kernel

def linkedTwice : Vol :=
  { awake with
    bak.sealCand := true
    bak.sealRun := 2
    bak.sealTick := some 0
    bak.count := 64 }

/-- A DOZE period that begins 3 600 s after the thatch was read. -/
def hourly : Vol :=
  { awake with
    bak.count := 230400
    bak.power.dozeFrom := 230400 }

theorem witness_BlocksAreCheckedAndSealAndThatchRead :
    (coreRuns unchecked = true ∧ watched unchecked 1 = true ∧ vget unchecked.bak.power.checks 1 = some 0 ∧
        watched unchecked 2 = true ∧ vget unchecked.bak.power.checks 2 = none ∧ watched unchecked 0 = false ∧
        checkDue unchecked = true ∧ checkDue { unchecked with bak.power.lastCheck := some 65 } = false ∧
        checkDue { unchecked with bak.power.lastCheck := some 64 } = true) ∧
      after .watchdogCheck (st unchecked) (fun t => vget t.vol.bak.power.checks 2 == some 128) = true ∧
      (linkedTwice.bak.power.state ≠ .off ∧ linkedTwice.bak.power.state ≠ .keep ∧ linkedTwice.bak.sealOpen = false ∧
        linkedTwice.bak.sealCand = true ∧ linkedTwice.bak.sealRun = 2 ∧ sealSampleDue linkedTwice = true) ∧
      (({ linkedTwice with bak.count := 63 } : Vol).bak.count - 0).toNat < 64 ∧
      { linkedTwice with bak.sealRun := 1 }.bak.sealRun < 2 ∧
      rereadDue hourly true = true ∧ rereadDue { awake with bak.count := 234240 } false = true ∧
      after (.sealSample true) (st linkedTwice) (fun t => t.vol.bak.sealOpen && t.vol.bak.sealRun == 0) = true ∧
      after (.sealSample true) (st { linkedTwice with bak.count := 63 }) (fun t => !t.vol.bak.sealOpen) = true ∧
      after (.thatchReread { pins with role := 2 } true) (st hourly)
        (fun t => t.vol.work.th.roleRead == 2 && t.vol.work.th.lastRead == 230400 &&
          (vget t.vol.work.th.entries 0).taken == 15) = true := by decide +kernel

def lineRuns : Vol := code 6 0 { awake with work.line.running := true }

/-- The LINE clock does not run at 50 Hz. -/
def lineStopped : Vol := code 6 0 awake

/-- Eight half-periods, the longest one 5 % over the nominal. -/
def goodSpaces : List Nat := 10500000 :: List.replicate 7 10000000

theorem witness_ClockSourcesAreLostAndRestored :
    (awake.bak.power.lfStandin = false ∧ awake.bak.power.state ≠ .off) ∧
      lfPlausible { awake with bak.power.lfStandin := true } 4096 = true ∧
      (lineAbsent lineRuns = false ∧ 3 * halfPeriodNs lineRuns ≤ 1000 * 30000) ∧
      (coreRuns lineStopped = true ∧ th lineStopped 6 ≠ 15 ∧ lineStopped.work.line.running = false ∧
        crossingsValid lineStopped goodSpaces = true ∧ crossingsValid lineStopped (10500001 :: goodSpaces) = false ∧
        crossingsValid lineStopped [] = false) ∧
      (awake.work.cyc.kind = .normal ∧ awake.work.cyc.pairsDone = false ∧ { awake with work.cyc.running := true }.work.cyc.running = true ∧
        { awake with work.aux.isOpen := true }.work.aux.isOpen = true) ∧
      { awake with bak.power.hfxoFailed := true }.bak.power.hfxoFailed = true ∧
      (coreRuns awake = true ∧ onRc awake = true ∧ awake.bak.power.hfxoFailed = false ∧
        awake.work.fe.round.running = false) ∧
      after .lineLost (st { lineRuns with work.line.drive := [⟨1, 5, 0, true, 0⟩] })
        (fun t => !t.vol.work.line.running && (lctx t.vol 2).idle && t.vol.work.line.drive.length == 1) = true ∧
      after .lineLost (st { lineRuns with work.line.running := false }) (fun t => t.vol.work.line.kept.isNone) = true ∧
      after .lfStandin (st awake) (fun t => t.vol.bak.osfCause == 2) = true ∧
      after (.lineRestored [[], goodSpaces, goodSpaces]) (st lineStopped)
        (fun t => t.vol.work.line.ref == 1 && (lctx t.vol 0).warmup == 2) = true ∧
      after .hfxoFail (st { awake with work.cyc.running := true, work.cyc.pairsDone := true })
        (fun t => t.vol.work.cyc.degraded && t.vol.work.flow.degraded) = true := by
  decide +kernel

/-- Measuring with a round that waits for lock. -/
def measuring : Vol :=
  { awake with
    bak.power.state := .measure
    work.cyc.running := true
    work.fe.round.waiting := some 3000 }

def inRound : Vol :=
  { awake with
    bak.power.state := .measure
    bak.power.pll := true
    work.cyc.running := true
    work.fe.round.running := true }

theorem witness_FineLockIsTakenAndLost :
    (measuring.bak.power.state = .measure ∧ measuring.work.fe.round.waiting = some 3000 ∧ measuring.work.cyc.running = true ∧
        measuring.bak.power.pll = false) ∧
      { measuring with work.fe.round.waiting := none }.work.fe.round.waiting = none ∧
      (inRound.bak.power.pll = true ∧ inRound.work.fe.round.running = true ∧ inRound.work.aux.isOpen = false) ∧
      { measuring with work.cyc.running := false }.work.cyc.running = false ∧
      after .pllUnlock (st inRound) (fun t => t.vol.work.fe.round.gap && t.vol.work.fab.pllUnlock == 1) = true ∧
      after .relockTimeout (st measuring) (fun t => !t.vol.work.cyc.running) = true ∧
      after .pllLockFail (st { measuring with work.cyc.running := false }) (fun t => t.vol.work.cyc.relockFailed) = true := by
  decide +kernel

/-- A request of the engine that found a block absent. -/
def retried (f : Frame) : Vol :=
  { awake with work.ex.inHand := some { frame := f, clamps := [], clamped := false, await := .retry } }

theorem witness_TheFabricAgesRetriesAndIdles :
    (coreRuns awake = true ∧ awake.work.fab.waiting = []) ∧
      ((retried default).work.ex.queue = [] ∧ (retried { (default : Frame) with cmd := 3 }).work.ex.queue = [] ∧
        (default : Frame).session = 0 ∧ (default : Frame).stalls = false ∧ writeRuns (retried default) = false) ∧
      (let v : Vol := { awake with work.fab.waiting := [⟨.store, .ledger, false⟩] }
       (v.work.fab.waiting.any fun r => r.target == .store) = true) ∧
      ((retried default).work.store.line.length < 5 ∧ (retried default).work.store.held = []) ∧
      (awake.work.store.line = [] ∧ awake.work.store.held = [] ∧ awake.work.disp.running = [] ∧
        awake.work.disp.pmic = false) ∧
      after (.arbitrationAge .store .ledger) (st awake) (fun t => t.vol.work.fab.waiting.length == 1) = true ∧
      after (.fabricRetry false []) (st (retried default))
        (fun t => t.vol.work.ex.inHand.isNone && t.vol.work.fab.absent == 1) = true ∧
      after (.fabricRetry true []) (st (retried { (default : Frame) with cmd := 3 }))
        (fun t => t.vol.work.ex.inHand.isNone && t.vol.work.store.present) = true ∧
      after (.blockIdleTimeout .store) (st { awake with work.store.present := true, work.fab.waiting := [⟨.store, .ledger, false⟩] })
        (fun t => t.vol.work.store.present && t.vol.work.fab.waiting == []) = true := by decide +kernel

/-! ### Cycles, rounds and stamps -/

/-- Ready for a cycle: a plan of one path, on the crystal, FINE locked. -/
def ready : Vol :=
  code 0 0 (code 3 0
    { awake with
      bak.power.state := .measure
      bak.power.src := .crystal
      bak.power.pll := true })

theorem witness_AStartTickBeginsACycle :
    (cyclesRun ready = true ∧ measureDue ready = true ∧
        { ready with bak.power.state := .doze }.bak.power.state = .doze ∧ ready.bak.power.state = .measure ∧
        ready.work.fe.powered = false) ∧
      (let v := { ready with bak.count := 1 }
       cyclesRun v = true ∧ measureDue v = false) ∧
      cyclesRun awake = false ∧
      ({ ready with work.loop.endTick := some 0 }.work.loop.endTick = some ready.bak.count ∧
        ready.work.loop.endTick ≠ some ready.bak.count) ∧
      after .measureEntry (st { ready with bak.power.state := .doze })
        (fun t => t.vol.work.fe.powered && t.vol.bak.power.state == .measure) = true ∧
      after .measureEntry (st { ready with bak.count := 1, bak.power.state := .doze }) (fun t => !t.vol.work.fe.powered) = true ∧
      after (.cycleStart 3000) (st { ready with work.loop.endTick := some 0 }) (fun t => !t.vol.work.cyc.running) = true ∧
      (isPrimary ready = false ∧ isSecondary ready = false ∧ cyclesRun ready = true ∧
        ready.work.cyc.nextRate = ready.work.cyc.rate ∧ ready.work.cyc.seen ≠ some (startTickOf ready) ∧
        mayStart (startTickOf ready) ready = true ∧ ready.work.th.omitCycle = false ∧ ready.work.cyc.running = false ∧ ready.work.loop.running = false ∧
        ready.bak.power.pll = true ∧ ready.work.cyc.abandon = false ∧ roundsOf (th ready 0) ≠ []) ∧
      { ready with work.cyc.running := true }.work.cyc.kind = .normal ∧
      after (.cycleStart 3000) (st ready)
        (fun t => t.vol.work.cyc.running && t.vol.work.cyc.count == 1 && t.vol.work.fe.round.running) = true := by
  decide +kernel

/-- A round of one path, before its shot. -/
def joined : Vol :=
  { ready with
    work.cyc.running := true
    work.te.powered := true
    work.te.calibrated := true
    work.fe.powered := true
    work.fe.round := { (default : Round) with
      running := true
      slots := [.path 1] }
    work.fe.sets := #v[joinSet ready [.path 1] 0 0 60 3000, joinSet ready [.path 1] 1 0 60 3000, setClear, setClear] }

/-- Its shot has been fired, and the bursts run. -/
def shotOnce : Vol :=
  { joined with
    work.fe.round.shots := 1
    work.fe.sets := joined.work.fe.sets.map fun e => if e.port.isSome then { e with drive := .burst } else e }

/-- A round of two slots of the same plan, the second to be shot. -/
def twoSlots : Vol :=
  { joined with
    work.fe.round := { (default : Round) with
      running := true
      slots := [.path 1, .path 2]
      shots := 1 }
    work.fe.sets := #v[joinSet ready [.path 1, .path 2] 0 0 60 3000, joinSet ready [.path 1, .path 2] 1 0 60 3000,
      joinSet ready [.path 1, .path 2] 2 1 60 3000, joinSet ready [.path 1, .path 2] 3 1 60 3000] }

theorem witness_ShotsOpenTheEpochAndGateEarlierSlots :
    (joined.work.fe.round.running = true ∧ joined.work.fe.round.shots = 0 ∧ joined.work.fe.round.settling = false ∧
        joined.work.te.calibrated = true ∧ joined.work.te.coarse ≤ 77 ∧
        joined.work.fe.round.unfired = false ∧ (eset joined 0).port ≠ none) ∧
      (twoSlots.work.fe.round.shots = 1 ∧ 1 < twoSlots.work.fe.round.slots.length) ∧
      (0 < shotOnce.work.fe.round.shots ∧ shotOnce.work.fe.round.shots = 0 + 1 ∧
        0 + 1 = shotOnce.work.fe.round.slots.length ∧
        shotOnce.work.fe.sets.toList.any (fun e => e.port == some 1 && e.drive == .burst) = true) ∧
      after (.shot 77 (Vector.replicate 4 (Vector.ofFn fun i => if i.val < 16 then 8 else 9))) (st joined)
        (fun t => (lane t.vol 0).epoch == 77 && (eset t.vol 0).floor == 9) = true ∧
      after (.slotShot 1) (st twoSlots) (fun t => (eset t.vol 0).gated && (eset t.vol 2).drive == .burst) = true ∧
      after (.blankingEnd 0) (st shotOnce) (fun t => (eset t.vol 0).listening && (eset t.vol 0).drive == .released) = true ∧
      after (.burstEnd 0 2799) (st shotOnce) (fun t => t.vol.work.fe.round.gap && (eset t.vol 1).drive == .damping) = true ∧
      after (.comparatorGateEnd 1) (st { twoSlots with work.fe.round.shots := 2 }) (fun t => !(eset t.vol 0).gated) = true := by
  decide +kernel

/-- Set 0 listens in the middle of its window. -/
def listening : Vol :=
  { shotOnce with work.fe.sets := vset shotOnce.work.fe.sets 0 { eset shotOnce 0 with listening := true } }

def midWindow : Nat := (searchWindow listening 0 0).1

def armed : Vol :=
  { shotOnce with
    work.fe.sets := vset shotOnce.work.fe.sets 0
      { eset shotOnce 0 with
        listening := true
        armedAt := some midWindow } }

theorem witness_ArmingIsConfirmedOrWithdrawn :
    (let e := eset listening 0
     e.port = some 0 ∧ roundFires listening = true ∧ e.listening = true ∧ e.slot < listening.work.fe.round.shots ∧ e.closed = false ∧ e.armedAt = none ∧
       e.endedAt = none ∧ ((searchWindow listening 0 e.slot).1 : Int) ≤ slotTime listening e.slot midWindow ∧
       midWindow ≤ windowEnd listening e ∧ 3 * max 4 e.floor < (13 : BitVec 10).toNat) ∧
      (let e := eset armed 0
       e.armedAt = some midWindow ∧ e.confirmed = false ∧ e.closed = false ∧ e.port = some 0 ∧
         6 * max 4 e.floor ≤ (24 : BitVec 10).toNat ∧ midWindow ≤ windowEnd armed e) ∧
      (let e := { eset armed 0 with armedAt := some (windowEnd armed (eset armed 0)) }
       let v := { armed with work.fe.sets := vset armed.work.fe.sets 0 e }
       after (.armingConfirmed 0 (windowEnd v e) 24) (st v) (fun t => (eset t.vol 0).confirmed) = true ∧
         after (.armingConfirmed 0 (windowEnd v e + 1) 24) (st v) (fun t => !(eset t.vol 0).confirmed) = true) ∧
      after (.comparatorArmed 0 midWindow 13) (st listening) (fun t => (eset t.vol 0).armedAt == some midWindow) = true ∧
      after (.armingConfirmed 0 midWindow 24) (st armed) (fun t => (eset t.vol 0).confirmed) = true ∧
      after (.armingWithdrawn 0 (midWindow + 32 * halfPeriod (th armed 1))) (st armed)
        (fun t => (eset t.vol 0).armedAt == none) = true := by
  decide +kernel

/-- The settle of the last round. -/
def settling : Vol :=
  { shotOnce with
    work.fe.round.settling := true
    work.fe.round.windows := 1 }

/-- A close word of port 0 waits on lane 0. -/
def closeWord : StampWord := stampWord 0 0 1 1 0 0 0

def received : Vol :=
  { settling with
    work.te.lanes := vset settling.work.te.lanes 0 { lane settling 0 with taken := [closeWord] } }

def staleFlow : Vol :=
  { awake with
    bak.count := 100000
    ret.flow.inForce := some { (default : FlowInForce) with q := 5 } }

theorem witness_RoundsCloseAndFollowOneAnother :
    (shotOnce.work.fe.round.running = true ∧ shotOnce.work.fe.round.settling = false ∧
        shotOnce.work.fe.round.unfired = false ∧ 0 < shotOnce.work.fe.round.shots ∧
        shotOnce.work.fe.round.slots.length ≤ shotOnce.work.fe.round.windows + 1 ∧
        (eset shotOnce 0).port ≠ none ∧ (eset shotOnce 0).slot = 0 ∧ (eset shotOnce 0).closed = false) ∧
      (settling.work.fe.round.settling = true ∧ referenceLoop settling = false ∧ settling.work.cyc.abandon = false ∧
        (roundsOf (th settling 0)).length ≤ settling.work.fe.round.index + 1) ∧
      settling.work.fe.round.index + 1 < (roundsOf (th (code 0 2 settling) 0)).length ∧
      ((splitClose 0 [] (lane (drainAll received) 0).taken).isSome = true ∧ inLoop received = false ∧
        setUse received 0 = some (.path 1) ∧ (pathW received 1).up = none ∧ upPort 1 = 0 ∧ (eset received 0).done = false) ∧
      ageLimit staleFlow < (staleFlow.bak.count - 0).toNat ∧
      after (.searchWindowClose 0) (st shotOnce)
        (fun t => t.vol.work.fe.round.settling && (eset t.vol 1).closed) = true ∧
      after (.settleEnd 3000) (st settling) (fun t => !t.vol.work.cyc.running && t.vol.work.cyc.nextSwapped) = true ∧
      after (.receptionClose 0 0 []) (st received) (fun t => (pathW t.vol 1).up.isSome) = true ∧
      after .flowStale (st staleFlow) (fun t => t.vol.work.flow.stale) = true := by
  decide +kernel

/-- A lane with every cell at work. -/
def busyLane : Lane :=
  { (default : Lane) with
    cells := Vector.replicate 4 { (default : Cell) with
      job := some
        { source := 0
          falling := false
          t := 0
          cstop := 2
          armed := true
          gap := false } } }

theorem witness_TheLongestFreeCellTakesTheEdge :
    ((default : Lane).lastStart = none ∧ (List.range 4).all (fun i => cellFree 5 (vget (default : Lane).cells i)) = true ∧
        (List.range 4).all (fun j => decide ((vget (default : Lane).cells 0).freeSince =
          (vget (default : Lane).cells j).freeSince)) = true) ∧
      (List.range 4).all (fun i => !cellFree 5 (vget busyLane.cells i)) = true ∧
      ¬ (1342178 - 0) * 1953125 < 40000000 * 65536 := by decide +kernel

/-- A frequency slot of FIN0, open on both AUX lanes. -/
def slotOpen : Vol :=
  code 9 0 { ready with
    work.te.powered := true
    work.te.calibrated := true
    work.aux.live := [0]
    work.aux.isOpen := true }

/-- Cell 0 of lane 0 has a code range of 2 048 and works on an edge. -/
def charging : Vol :=
  let c : Cell :=
    { (default : Cell) with
      vT := 12800
      v2T := 51200
      job := some
        { source := 0
          falling := false
          t := 0
          cstop := 2
          armed := true
          gap := false } }
  { shotOnce with
    work.te.lanes := vset shotOnce.work.te.lanes 0
      { lane shotOnce 0 with cells := vset (lane shotOnce 0).cells 0 c } }

theorem witness_CrossingsBecomeStamps :
    (roundFires armed = true ∧ armed.work.te.powered = true ∧ armed.work.fe.round.lostLock = false ∧ (eset armed 0).port = some 0 ∧
        (eset armed 0).armedAt ≠ none ∧ (eset armed 0).gated = false ∧ (eset armed 0).closed = false ∧
        (eset armed 0).crossings < 63 ∧ 5 + 3356 ≤ ((lane armed 0).epoch + windowEnd armed (eset armed 0)) * 65536) ∧
      (slotOpen.work.aux.isOpen = true ∧ slotOpen.work.aux.closing = none ∧ slotOpen.work.te.powered = true ∧
        finLane 0 = 4 ∧ slotOpen.work.aux.interval = false ∧ finMode (th slotOpen 9) 0 ≠ 0 ∧
        slotOpen.work.aux.live.contains 0 = true ∧
        (vget slotOpen.work.aux.sensors 0).pol = 0 ∧ (vget slotOpen.work.aux.sensors 0).presc = 0 ∧
        (lane slotOpen 4).epoch * 65536 ≤ 5 ∧ 5 + 3356 ≤ ((lane slotOpen 4).epoch + slotCloseT slotOpen) * 65536) ∧
      ((vget (lane charging 0).cells 0).job.any (·.armed) = true ∧ charging.work.fe.round.lostLock = false ∧
        chargeTime (linTable State.reset.nv 0 0) (16 * 2000) (vget (lane charging 0).cells 0) = some 98304 ∧
        cycleEnds (lane charging 0) { source := 0, falling := false, t := 0, cstop := 2, armed := true, gap := false }
          (512 * 65536) = true ∧ (lane charging 0).queue.length < 512) ∧
      (List.range 4).all (fun i => (vget (lane slotOpen 4).cells i).job.isNone) = true ∧
      after (.risingCrossing 0 0 false 5) (st armed) (fun t => (eset t.vol 0).crossings == 1) = true ∧
      after (.cellCycleEnd 0 0 (512 * 65536) 2000 2) (st charging)
        (fun t => (lane t.vol 0).queue == [stampWord 0 0 0 0 0 0 2048]) = true ∧
      after (.cellCycleEnd 0 0 (2 * 65536) 2000 2) (st charging) (fun t => (lane t.vol 0).queue.isEmpty) = true ∧
      after (.epochMarker 4) (st slotOpen) (fun t => (lane t.vol 4).wraps == 1) = true := by
  decide +kernel

/-- Cell 0 of lane 0 awaits its settle run. -/
def calibrating : Vol :=
  let c : Cell :=
    { (default : Cell) with
      vT := 12800
      v2T := 51200
      calibrating := true }
  { shotOnce with
    work.te.lanes := (vset shotOnce.work.te.lanes 0
      { lane shotOnce 0 with cells := vset (lane shotOnce 0).cells 0 c }) }

def auxCell : Vol :=
  let c : Cell :=
    { (default : Cell) with
      vT := 12800
      v2T := 51200 }
  { slotOpen with
    work.te.lanes := vset slotOpen.work.te.lanes 4 { lane slotOpen 4 with cells := Vector.replicate 4 c } }

/-- Eight measurements with the means 800.25 and 3 200.125 ADC codes. -/
def codes12804 : List (BitVec 12) := [800, 800, 800, 800, 800, 800, 801, 801]

def codes51202 : List (BitVec 12) := [3200, 3200, 3200, 3200, 3200, 3200, 3200, 3201]

def uncalibrated : Vol := { joined with work.te.calibrated := false }

theorem witness_CalibrationRunsMoveTheCoefficients :
    (let c := vget (lane calibrating 0).cells 0
     calibrating.work.te.powered = true ∧ c.out = false ∧ c.calibrating = true ∧ referenceLoop calibrating = false ∧
       runRejected c false 12804 51202 = false ∧ runRejected c false 12800 54400 = true) ∧
      (meanCode codes12804 = 12804 ∧ codes12804.length = 8 ∧ meanCode codes51202 = 51202 ∧ codes51202.length = 8 ∧
        meanCode (List.replicate 8 800) = 12800 ∧ meanCode (List.replicate 8 3400) = 54400) ∧
      (uncalibrated.work.te.powered = true ∧ uncalibrated.work.te.calibrated = false ∧
        runRejected (vget (lane uncalibrated 5).cells 3) true 12800 51200 = false ∧
        meanCode (List.replicate 16 800) = 12800 ∧ meanCode (List.replicate 16 3200) = 51200) ∧
      (auxCell.work.aux.isOpen = true ∧ auxCell.work.aux.closing = none ∧
        (lane auxCell 4).epoch + ((lane auxCell 4).recals + 1) * 2 ^ 25 ≤ 2 ^ 25 ∧
        (lane auxCell 4).recals % 4 = 0 ∧ (vget (lane auxCell 4).cells 0).out = false) ∧
      after (.calRunDone 0 0 7 ⟨codes12804, codes51202⟩) (st calibrating)
        (fun t => (vget (lane t.vol 0).cells 0).vT == 12801 && (vget (lane t.vol 0).cells 0).v2T == 51201) = true ∧
      after (.calRunDone 0 0 7 ⟨List.replicate 8 800, List.replicate 8 3400⟩) (st calibrating)
        (fun t => (vget (lane t.vol 0).cells 0).rejects == 1) = true ∧
      after (.startupCalibration (Vector.replicate 6 (Vector.replicate 4 ⟨List.replicate 16 800, List.replicate 16 3200⟩)))
          (st uncalibrated)
        (fun t => t.vol.work.te.calibrated && (vget (lane t.vol 5).cells 3).v2T == 51200) = true ∧
      after (.auxCellRecal 4 0 (2 ^ 25)) (st auxCell)
        (fun t => (lane t.vol 4).recals == 1 && (vget (lane t.vol 4).cells 0).calibrating) = true ∧
      after (.auxCellRecal 4 0 (2 ^ 25 - 1)) (st auxCell) (fun t => (lane t.vol 4).recals == 0) = true := by
  decide +kernel

def loopRuns : Vol :=
  { awake with
    work.loop.running := true
    bak.count := 38400 }

def lineLoop : Vol :=
  { awake with
    work.line.lbResult := 1
    work.line.lbSymbols := 64
    work.line.lbErased := 5 }

/-- A loop-back is requested, and path 1 has had a PAIR. -/
def loopAsked : Vol :=
  { awake with
    work.loop.requested := true
    work.paths := vset awake.work.paths 1 { pathW awake 1 with prev := some default } }

def readsBack : Vol := code 8 0 { awake with work.disp.lbResult := 1 }

theorem witness_LoopbacksBeginAndEnd :
    (let v := { awake with work.loop.requested := true }
     v.work.loop.requested = true ∧ v.work.loop.running = false ∧ atBoundary v = true) ∧
      (loopRuns.work.loop.running = true ∧ 38400 ≤ (loopRuns.bak.count - loopRuns.work.loop.startTick).toNat) ∧
      (let v := { loopRuns with work.loop.ending := some 1 }
       v.work.loop.ending = some 1 ∧ v.work.loop.running = true ∧ atBoundary v = true) ∧
      (lineLoop.work.line.lbResult = 1 ∧ 64 ≤ lineLoop.work.line.lbSymbols.toNat ∧ lineLoop.work.line.lbPending = false ∧
        { lineLoop with work.line.lbPending := true }.work.line.lbPending = true) ∧
      (readsBack.work.disp.lbResult = 1 ∧ readsBack.work.disp.running = [] ∧ (panel readsBack).isSome = true ∧
        coreRuns readsBack = true) ∧
      after .loopbackStart (st { awake with work.loop.requested := true }) (fun t => t.vol.work.loop.running) = true ∧
      after .loopbackStart (st loopAsked) (fun t => t.vol.work.loop.running && (pathW t.vol 1).prev.isNone) = true ∧
      after .loopbackEnd (st { loopRuns with work.loop.ending := some 1 })
        (fun t => !t.vol.work.loop.running && t.vol.work.loop.ending.isNone && t.vol.work.loop.endTick == some 38400) = true ∧
      after (.lineLoopbackEnd false) (st lineLoop) (fun t => t.vol.work.line.lbResult == 3) = true ∧
      after (.lineLoopbackEnd false) (st { lineLoop with work.line.lbPending := true, work.line.lbNextSession := 7 })
        (fun t => t.vol.work.line.lbResult == 1 && t.vol.work.line.lbSession == 7 && t.vol.work.line.lbSymbols == 0) = true ∧
      after (.displayLoopbackStart 4) (st readsBack)
        (fun t => t.vol.work.disp.lbResult == 3 && t.vol.work.disp.lbMask == 4) = true := by
  decide +kernel

def slotClosed : Vol := { slotOpen with work.aux.isOpen := false }

/-- A slot due, calibrated and locked. -/
def slotDue_ : Vol := { slotClosed with work.aux.due := true }

/-- The lane of its only input has gone out of service. -/
def slotOut : Vol := { slotDue_ with work.te.lanes := vset slotDue_.work.te.lanes 4 { lane slotDue_ 4 with out := true } }

theorem witness_SlotsFallDueAndOpen :
    (nextSlotKind slotClosed = some false ∧ coreRuns slotClosed = true ∧ slotClosed.bak.power.warning = false ∧
        retired slotClosed = false ∧ slotDue slotClosed = true ∧ slotDue slotOpen = true ∧ slotClosed.work.aux.isOpen = false ∧
        slotClosed.work.aux.due = false ∧ liveInputs slotClosed false ≠ []) ∧
      slotOpen.work.aux.isOpen = true ∧
      (slotDue_.work.aux.due = true ∧ slotDue_.work.te.calibrated = true ∧ slotDue_.bak.power.pll = true ∧
        slotDue_.work.te.powered = true ∧ calibrates [4, 5] slotDue_ = false ∧ slotDue_.work.te.coarse ≤ 9 ∧
        slotDue_.work.aux.live = [0] ∧ (liveInputs slotDue_ false).contains 0 = true) ∧
      (slotOut.work.aux.live = [0] ∧ (liveInputs slotOut slotOut.work.aux.interval).contains 0 = false ∧
        calibrates [4, 5] slotOut = false) ∧
      after (.auxSlotOpen 9) (st slotOut) (fun t => !t.vol.work.aux.isOpen && (fin t.vol 0).status == 5) = true ∧
      after .auxSlotDue (st slotClosed) (fun t => t.vol.work.aux.due) = true ∧
      after .auxSlotDue (st slotOpen) (fun t => t.vol.work.aux.skipped == 1) = true ∧
      after (.auxSlotOpen 9) (st slotDue_) (fun t => t.vol.work.aux.isOpen && (lane t.vol 5).epoch == 9) = true := by
  decide +kernel

/-- An interval slot with a start stamp on AUXA and a stop stamp on AUXB. -/
def interval : Vol :=
  let v := code 9 5 { slotOpen with work.aux.interval := true }
  let a := { lane v 4 with queue := [stampWord 0 0 0 0 0 100 0] }
  let b := { lane v 5 with queue := [stampWord 1 0 0 0 0 200 0] }
  { v with work.te.lanes := vset (vset v.work.te.lanes 4 a) 5 b }

def slotBusy : Vol := { slotOpen with work.te.lanes := vset slotOpen.work.te.lanes 4 busyLane }

/-- An interval slot with a cell still at work. -/
def intervalBusy : Vol := { interval with work.te.lanes := vset interval.work.te.lanes 4 { lane interval 4 with cells := busyLane.cells } }

/-- Pulse inputs at the largest count; FIN2 has read inactive twice and active once. -/
def counts : Vol := code 9 8
  { asleep with
    ret.count := Vector.replicate 6 (BitVec.ofNat 48 (2 ^ 48 - 1))
    bak.pulses := vset asleep.bak.pulses 2 { idle := 2, active := 1 } }

def copyDue : Vol := code 9 8 { awake with bak.count := 230400 }

theorem witness_SlotsCloseOnTheirResults :
    (auxBusy slotBusy = true ∧ slotBusy.work.aux.isOpen = true ∧ slotBusy.work.aux.interval = false ∧
        slotBusy.work.aux.closing = none) ∧
      (auxBusy slotOpen = false ∧ finStamps 0 (auxWords slotOpen (finLane 0)) = [] ∧
        finLaneOut slotOpen 0 = false ∧ slotOpen.work.aux.live.contains 0 = true) ∧
      (interval.work.aux.isOpen = true ∧ interval.work.aux.interval = true ∧ interval.work.aux.closing = none ∧
        (intervalStamps interval (auxWords interval 4) (auxWords interval 5)).1.isSome = true ∧
        (intervalStamps interval (auxWords interval 4) (auxWords interval 5)).2.isSome = true ∧ auxBusy interval = false) ∧
      (auxBusy intervalBusy = true ∧
        (intervalStamps intervalBusy (auxWords intervalBusy 4) (auxWords intervalBusy 5)).2.isSome = true) ∧
      (pulseCounting counts = true ∧ counts.bak.power.state = .sleep ∧ (vget counts.work.obj.sensors 2).pol = 0) ∧
      (pulseCounting copyDue = true ∧ coreRuns copyDue = true ∧ 230400 ≤ (copyDue.bak.count - copyDue.bak.pulseCopy).toNat ∧
        (({ copyDue with bak.count := 230399 } : Vol).bak.count - copyDue.bak.pulseCopy).toNat < 230400) ∧
      after .gateClose (st slotOpen) (fun t => !t.vol.work.aux.isOpen && (fin t.vol 0).status == 1) = true ∧
      after .intervalTimeout (st interval) (fun t => !t.vol.work.aux.isOpen) = true ∧
      after .intervalClose (st interval) (fun t => !t.vol.work.aux.isOpen && (fin t.vol 0).period == 100 * 65536) = true ∧
      after .intervalClose (st intervalBusy)
        (fun t => t.vol.work.aux.closing == some (intervalBusy.work.te.coarse + 1 - (lane intervalBusy 4).epoch)) = true ∧
      after (.finPulse ⟨2, false⟩) (st counts) (fun t => vget t.vol.ret.count 2 == 0) = true ∧
      after (.finPulse ⟨2, true⟩) (st counts) (fun t => (vget t.vol.bak.pulses 2).idle == 1 && vget t.vol.ret.count 2 != 0) = true ∧
      after .pulseCountCopy (st copyDue) (fun t => t.vol.work.store.line.length == 1) = true ∧
      after .pulseCountCopy (st { copyDue with bak.count := 230399 }) (fun t => t.vol.work.store.line == []) = true := by
  decide +kernel

/-! ### The timekeeper and the LEDGER -/

/-- 2399-12-31 23:59:59, the last tick. -/
def lastTick : Cal :=
  { subsec := 63
    sec := 0x59
    min := 0x59
    hour := 0x23
    day := 0x31
    wday := 5
    month := 0x12
    year := 0x99
    century := 0x23 }

def leapDay : Cal :=
  { lastTick with
    day := 0x28
    month := 0x02
    year := 0x96 }

/-- R287: 2396 has a 29 February. -/
theorem witness_ATickMovesAValidCalendarByOneTick :
    (lastTick.valid = true ∧ lastTick.subsec.toNat < 64 ∧ lastTick.nextTick.2 = true ∧ lastTick.nextTick.1.ticks = 0) ∧
      (leapDay.valid = true ∧ leapDay.nextTick.2 = false ∧ leapDay.nextTick.1.day = 0x29 ∧
        leapDay.nextTick.1.ticks = leapDay.ticks + 1) := by decide +kernel

/-- A reading was taken 64 s ago. -/
def readTemp : Vol :=
  { awake with
    bak.lastReading := some 2500
    bak.tempTick := some 0
    bak.count := 4096 }

/-- The window has run its length. -/
def windowOver : Vol := { readTemp with bak.lfPeriods := 4194304 }

theorem witness_ReadingsAndWindowsCorrectTheTick :
    (awake.bak.power.state ≠ .off ∧ readingDue awake.bak = true ∧ readingDue readTemp.bak = true ∧
        readingDue { readTemp with bak.count := 4095 }.bak = false ∧
        readingDue { readTemp with bak.count := 1024, bak.tfast := true }.bak = true) ∧
      ((-5500 : Int) ≤ 13000 ∧ (13001 : Int) > 13000) ∧
      (windowOver.bak.lastReading = some 2500 ∧ 4194304 ≤ (windowOver.bak.lfPeriods : Int) + windowOver.bak.tcAdded ∧
        (({ windowOver with bak.tcAdded := -1 } : Vol).bak.lfPeriods : Int) + -1 < 4194304) ∧
      after (.tempRead (-5500)) (st awake) (fun t => t.vol.bak.tempDie == ofInt 12 (-220)) = true ∧
      after (.tempRead 13001) (st readTemp) (fun t => t.vol.bak.tDiscards == 1) = true ∧
      after (.tempRead 2500) (st { readTemp with bak.count := 4095 }) (fun t => t.vol.bak.tempTick == some 0) = true ∧
      after .tcorrWindow (st windowOver) (fun t => t.vol.bak.tcorr == 0 && t.vol.bak.lfPeriods == 0) = true ∧
      after .tcorrWindow (st { windowOver with bak.tcAdded := -1 }) (fun t => t.vol.bak.lfPeriods == 4194304) = true := by decide +kernel

def slewing (left : Int) (sub : BitVec 6) : Vol :=
  { awake with
    bak.slewLeft := left
    bak.cal.subsec := sub }

def wrapping : Vol := { awake with bak.cal := lastTick }

/-- A quarter-hour in SLEEP. -/
def quarter : Vol := { asleep with bak.osf := false }

def fourth : Vol := { quarter with
  bak.heldTicks := [⟨1, 1, false, none, 0⟩, ⟨2, 2, false, none, 0⟩, ⟨3, 3, false, none, 0⟩] }

theorem witness_TheCalendarWrapsSlewsAndHoldsTicks :
    (wrapping.bak.power.state ≠ .off ∧ wrapping.bak.slewLeft = 0 ∧ atWrap wrapping.bak.cal = true) ∧
      (0 < (slewing 3 31).bak.slewLeft ∧ (slewing 3 31).bak.cal.subsec = 31) ∧
      ((slewing (-3) 32).bak.slewLeft < 0 ∧ (slewing (-3) 32).bak.cal.subsec = 32 ∧
        (slewing (-3) 32).bak.slewHeld = false) ∧
      (quarter.bak.power.state = .sleep ∧ noLedger quarter = false ∧ isEventTick quarter = true ∧
        quarter.bak.heldTicks = []) ∧
      (fourth.bak.power.state = .sleep ∧ noLedger fourth = false ∧ isEventTick fourth = true ∧
        fourth.bak.heldTicks.length = 3 ∧ fourth.bak.heldTicks.all (·.count != fourth.bak.count) = true ∧ fourth.bak.power.retrying = none ∧
        fourth.bak.power.warning = false) ∧
      ({ awake with bak.pwronTick := true }.bak.pwronTick = true ∧ awake.bak.pwronTick = false) ∧
      after .pwronEvaluate (st { awake with bak.pwronTick := true, bak.pwronLevel := true })
        (fun t => t.vol.bak.pwronLevel == pwronEval awake.bak) = true ∧
      after .pwronEvaluate (st { awake with bak.pwronLevel := !pwronEval awake.bak })
        (fun t => t.vol.bak.pwronLevel != pwronEval awake.bak) = true ∧
      after .calendarWrap (st wrapping) (fun t => t.vol.bak.osfCause == 4 && t.vol.bak.cal.century == 0x20) = true ∧
      after .slewTick (st (slewing 3 31)) (fun t => t.vol.bak.cal.subsec == 33) = true ∧
      after .eventTickHeld (st quarter) (fun t => t.vol.bak.heldTicks.length == 1 && !coreRuns t.vol) = true ∧
      after .slewTick (st (slewing (-3) 32)) (fun t => t.vol.bak.cal.subsec == 32) = true ∧
      after .eventTickHeld (st fourth) (fun t => coreRuns t.vol && t.vol.bak.heldTicks.isEmpty) = true := by
  decide +kernel

/-- A committed stage of the OPERATOR at the boundary after its commit. -/
def staged (osf : Bool) (c : Cal) : Vol :=
  { awake with
    bak.count := 1
    bak.osf := osf
    bak.stage := some
      { time := c
        since := 0
        committed := true
        role := .operator
        clamped := false } }

/-- Eight seconds ahead of the calendar, the largest difference that slews. -/
def ahead8 : Cal := { calStart with sec := 8 }

theorem witness_StagesAreCommittedOrEnd :
    (let v := staged false ahead8
     v.work.ex.inHand = none ∧ v.work.ex.queue = [] ∧ v.bak.stage.all (fun g => g.committed && g.since != v.bak.count &&
       !commitRefused v g && decide ((commitDiff v g).natAbs = 512)) = true ∧ v.bak.osf = false) ∧
      (let v := staged true lastTick
       v.bak.osf = true ∧ v.bak.stage.all (fun g => !commitRefused v g) = true) ∧
      (let v := { staged false ahead8 with
         bak.stage := some
           { time := ahead8
             since := 0
             committed := false
             role := .operator
             clamped := false }
         bak.count := 64 }
       v.bak.stage.all (fun g => !g.committed && decide (64 ≤ (v.bak.count - g.since).toNat)) = true ∧
         v.work.ex.inHand = none ∧ after .stageTimeout (st v) (fun t => t.vol.bak.stage.isNone) = true) ∧
      (let v := { awake with
         bak.freeze := some
           { shadow := calStart
             since := 0
             readers := [.exchange] }
         bak.count := 64 }
       v.bak.freeze.all (fun z => decide (64 ≤ (v.bak.count - z.since).toNat)) = true ∧ v.work.ex.inHand = none ∧
         after .freezeTimeout (st v) (fun t => t.vol.bak.freeze.isNone && t.vol.bak.staleReaders == [.exchange]) = true ∧
         (let w := { v with work.ex.inHand := some { frame := default, clamps := [], clamped := false, await := .freeze false } }
          let f : Frame := { (default : Frame) with stallsAgain := true }
          let u := { v with work.ex.inHand := some { frame := f, clamps := [], clamped := false, await := .freeze false } }
          after .freezeTimeout (st u) (fun t => t.vol.bak.freeze.isSome) &&
            after .freezeTimeout (st w) (fun t => t.vol.work.ex.inHand.isNone)) = true) ∧
      after .clockCommit (st (staged false ahead8)) (fun t => t.vol.bak.slewLeft == 512) = true ∧
      after .clockCommit (st (staged true lastTick)) (fun t => !t.vol.bak.osf && t.vol.bak.cal.century == 0x23) = true := by
  decide +kernel

theorem witness_ABookingKeepsNetAsForwardLessReverse :
    awake.ret.led.net = awake.ret.led.fwd - awake.ret.led.rev ∧ awake.ret.flow.inForce = none ∧
      awake.ret.flow.gaps = [] ∧ (5 - awake.ret.flow.lastBooking).toNat < 2 ^ 31 ∧
      (bookTo 5 awake).ret.flow.lastBooking = 5 ∧ bookTo 4 (bookTo 5 awake) = bookTo 5 awake ∧
      2 ^ 31 ≤ ((4 : BitVec 32) - (bookTo 5 awake).ret.flow.lastBooking).toNat := by decide +kernel

/-- 2000-02-01 00:15:00 with an open interval. -/
def quarterPast : Vol :=
  { awake with
    bak.count := 57600
    bak.osf := false
    bak.cal := { calStart with
      month := 2
      min := 0x15 }
    ret.led.interval := { (default : Interval) with
      isOpen := true
      endTime := 900 } }

/-- 2000-02-02 00:00:00. -/
def midnight : Vol := { quarterPast with bak.cal := { calStart with
  month := 2
  day := 2 } }

def backSet : Vol := { quarterPast with
  ret.led.setBack := true
  work.obj.bday := 0 }

def inputs : Vol := code 5 1 awake

theorem witness_IntervalsBillingAndTariffInputs :
    (coreRuns quarterPast = true ∧ retired quarterPast = false ∧ isSecondary quarterPast = false ∧
        commitStands quarterPast = false ∧ commitStands (staged false ahead8) = true ∧
        quarterPast.bak.cal.quarter = true ∧ quarterPast.ret.led.interval.isOpen = true ∧
        quarterPast.ret.led.interval.openedAt ≠ quarterPast.bak.count ∧ quarterPast.ret.pre.tokens = [] ∧
        quarterPast.ret.led.page = [] ∧ quarterPast.bak.cal.ticks / 64 % 86400 ≠ 0) ∧
      (midnight.bak.cal.quarter = true ∧ midnight.bak.cal.ticks / 64 % 86400 = 0 ∧
        { quarterPast with bak.cal.min := 0x16 }.bak.cal.quarter = false ∧ awake.ret.led.interval.isOpen = false ∧
        awake.bak.osf = true) ∧
      (quarterPast.bak.osf = false ∧ quarterPast.bak.hwm < quarterPast.bak.cal.ticks ∧
        (boundsDue quarterPast quarterPast.bak.cal.ticks).1 ≠ 0) ∧
      (backSet.bak.osf = false ∧ backSet.ret.led.setBack = true ∧ backSet.bak.hwm < backSet.bak.cal.ticks ∧
        (boundsDue backSet backSet.bak.cal.ticks).1 = 0) ∧
      (inputs.bak.power.state = .doze ∧ th inputs 5 = 1 ∧ inputs.bak.inFault.getLsbD 0 = false ∧ inputs.bak.inFault = 0 ∧
        { inputs with bak.inFault := 1 }.bak.inFault.getLsbD 0 = true ∧ th (code 5 6 awake) 5 = 6 ∧
        th (code 5 0 awake) 5 = 0) ∧
      after .intervalEnd (st quarterPast) (fun t => t.vol.ret.led.nextSeq == 1 && t.vol.ret.led.page.length == 1) = true ∧
      after .intervalEnd (st midnight) (fun t => t.vol.ret.led.nextSeq == 2) = true ∧
      after .billingBoundary (st quarterPast) (fun t => t.vol.ret.led.closes == 1 && t.vol.ret.led.seen == quarterPast.bak.cal.ticks) = true ∧
      after .intervalEnd (st { quarterPast with bak.stage := (staged false ahead8).bak.stage })
        (fun t => t.vol.ret.led.nextSeq == 0) = true ∧
      after .hwmRegained (st backSet) (fun t => !t.vol.ret.led.setBack) = true ∧
      after (.tariffAccepted true true) (st inputs) (fun t => t.vol.bak.accepted == some (true, false)) = true ∧
      after (.tariffInputFault 0) (st inputs) (fun t => t.vol.bak.inFault == 1) = true ∧
      after (.tariffInputFault 1) (st inputs) (fun t => t.vol.bak.inFault == 0) = true ∧
      after (.tariffInputFault 1) (st (code 5 6 awake)) (fun t => t.vol.bak.inFault == 2) = true := by
  decide +kernel

/-- A day profile whose only switch point selects T3. -/
def calendarT3 : Vol := code 5 3
  { awake with
    bak.osf := false
    work.obj.tariffCal := { tariffCalBlank with dayprof := [1, 0, 0, 3] :: tariffCalBlank.dayprof.drop 1 } }

theorem witness_TheThatchSelectsTheTariffSource :
    th (code 5 0 awake) 5 = 0 ∧ th (code 5 4 awake) 5 = 4 ∧ th awake 5 = 15 ∧ th inputs 5 = 1 ∧ tariffSampled inputs = true ∧
      th (code 5 6 awake) 5 = 6 ∧ tariffSampled (code 5 6 awake) = true ∧ th calendarT3 5 = 3 ∧ calendarT3.bak.osf = false ∧
      calendarTariff calendarT3.work.obj.tariffCal (calOfSeconds (6400 / 64)) = some 3 ∧
      requestedTariff calendarT3 6400 = 3 := by decide +kernel

/-! ### Prepayment -/

/-- A prepaid device with its token key and a credit in uCU. -/
def prepaidOf (credit : BitVec 64) : Vol :=
  { code 5 4 awake with
    work.life.keyset := 16
    ret.pre.credit := credit }

/-- A credit token with ID 5 and amount 3 x 10^1 under the token key zero and serial number zero. -/
def token : Nat := 90161022850024

/-- The 20 digits of a number. -/
def digits (n : Nat) : List (Fin 10) := (List.range 20).map fun i => Fin.ofNat 10 (n / 10 ^ (19 - i))

/-- The keypad with an entry. -/
def keyed (n : Nat) : Vol := { prepaidOf 0 with work.pre.entry := digits n }

theorem witness_StartOpensAPourAboveTheFloor :
    (keypadOn (prepaidOf 1) = true ∧ (prepaidOf 1).work.pre.keyDown = false ∧ retired (prepaidOf 1) = false ∧
        (prepaidOf 1).work.pre.pour = false ∧ creditFloor (prepaidOf 1) < (prepaidOf 1).ret.pre.credit.toInt) ∧
      (keypadOn (prepaidOf 0) = true ∧ (prepaidOf 0).work.pre.keyDown = false ∧ retired (prepaidOf 0) = false ∧
        (prepaidOf 0).ret.pre.credit.toInt ≤ creditFloor (prepaidOf 0)) ∧
      after .keyStart (st (prepaidOf 1)) (fun t => t.vol.work.pre.valve) = true ∧
      after .keyStart (st (prepaidOf 0)) (fun t => !t.vol.work.pre.pour) = true := by decide +kernel

theorem witness_KeysEditTheEntryAndAct :
    keypadOn (keyed 7) = true ∧ (keyed 7).work.pre.keyDown = false ∧ (keyed 7).work.pre.entry.length = 20 ∧
      (prepaidOf 0).work.pre.entry.length < 20 ∧
      retired (keyed 7) = false ∧ retired { keyed 7 with work.life.state := .retired } = true ∧
      after (.keyDigit 9) (st (keyed 7)) (fun t => t.vol.work.pre.entry.getLast? == some 7) = true ∧
      after .keyClear (st (keyed 7)) (fun t => t.vol.work.pre.entry.length == 19) = true := by decide +kernel

def waited (v : Vol) (ticks : BitVec 32) : Vol := { v with bak.count := ticks }

def locked : Vol := { prepaidOf 0 with
  ret.pre.lockFrom := some 0
  ret.pre.lockTicks := 38400
  bak.count := 38400 }

def emptied : Vol := { prepaidOf 0 with work.pre.pour := true }

/-- A reset has cut a pour, with credit left. -/
def cut : Vol := { prepaidOf 1 with ret.pre.pourCut := true }

/-- A written token of 3 x 10^1, of a class. -/
def written (cls : Nat) : Vol :=
  let k : Token :=
    { cls, id := 5, amount := 8195, seq := 7, written := true, since := 0, byAction := false }
  { prepaidOf 300000 with
    ret.pre.tokens := [k]
    bak.count := 1 }

theorem witness_WaitsEndAndWrittenTokensAct :
    (keypadOn (prepaidOf 0) = true ∧ (waited (keyed 7) 3840).work.pre.entry ≠ [] ∧
        3840 ≤ ((waited (keyed 7) 3840).bak.count - (waited (keyed 7) 3840).work.pre.lastKey).toNat) ∧
      (lockedOut locked = true ∧ lockTicksLeft locked = 0) ∧
      (emptied.ret.pre.pourCut = false ∧ emptied.work.pre.pour = true ∧
        emptied.ret.pre.credit.toInt ≤ creditFloor emptied) ∧
      (cut.ret.pre.pourCut = true ∧ creditFloor cut < cut.ret.pre.credit.toInt ∧ cut.work.pre.stopPressed = false ∧
        noFlowLong cut = false ∧ { cut with work.pre.stopPressed := true }.work.pre.stopPressed = true ∧
        noFlowLong { cut with work.pre.noFlowSince := some 0, bak.count := 115200 } = true) ∧
      (coreRuns (written 0) = true ∧ (written 0).ret.pre.tokens.length = 1 ∧
        (written 0).ret.pre.tokens.all (fun k => k.written && k.since != (written 0).bak.count) = true ∧
        retired (written 0) = false ∧ retired { written 0 with work.life.state := .retired } = true) ∧
      after .tokenApply (st { written 0 with work.life.state := .retired }) (fun t => t.vol.ret.pre.tokens.length == 1) = true ∧
      after .entryTimeout (st (waited (keyed 7) 3839)) (fun t => t.vol.work.pre.entry.length == 20) = true ∧
      after .pourEnd (st cut) (fun t => t.vol.ret.pre.lastEnd == 4) = true ∧
      after .pourEnd (st { prepaidOf 0 with ret.pre.pourCut := true }) (fun t => t.vol.ret.pre.lastEnd == 1) = true ∧
      after .pourEnd (st { cut with work.pre.stopPressed := true }) (fun t => t.vol.ret.pre.lastEnd == 2) = true ∧
      after .pourEnd (st { cut with work.pre.noFlowSince := some 0, bak.count := 115200 })
        (fun t => t.vol.ret.pre.lastEnd == 3) = true ∧
      after .tokenApply (st { written 0 with ret.pre.credit := BitVec.ofInt 64 (-300000), ret.pre.emerg := true })
        (fun t => !t.vol.ret.pre.emerg) = true ∧
      after .tokenApply (st { written 2 with ret.pre.emerg := true }) (fun t => t.vol.ret.pre.emerg) = true ∧
      after .tokenApply (st (written 0)) (fun t => t.vol.ret.pre.credit == 600000 && t.vol.ret.pre.tokSeq == 7) = true ∧
      after .tokenApply (st (written 1)) (fun t => t.vol.ret.pre.credit == 0) = true ∧
      after .tokenApply (st (written 2)) (fun t => t.vol.ret.pre.credit == 300000) = true := by decide +kernel

def wrongFourth : Vol := { keyed (2 ^ 66) with ret.pre.wrong := 4 }

theorem witness_EnterEvaluatesAToken :
    (keypadOn (keyed token) = true ∧ (keyed token).work.pre.keyDown = false ∧ (keyed token).work.pre.entry.length = 20 ∧
        tokenNumber ((keyed token).work.pre.entry.map (·.val)) = token ∧
        tokenResult State.reset.nv (keyed token) token = 0) ∧
      (tokenResult State.reset.nv wrongFourth (2 ^ 66) = 1 ∧ wrongFourth.ret.pre.wrong = 4) ∧
      (prepaidOf 0).work.pre.entry.length < 20 ∧
      after .keyEnter (st wrongFourth) (fun t => t.vol.ret.pre.lockTicks == 38400) = true := by decide +kernel

theorem witness_AnAcceptedIdEntersTheWindow :
    (1023 < (2 : Nat) ^ 20 ∧ (0 : BitVec 20).toNat ≤ 1023 + 1023 ∧ (windowWith 0 1 1023).2.getLsbD 1023 = true) ∧
      ((1023 : BitVec 20).toNat ≤ 0 + 1023 ∧ (windowWith 1023 1 0).1 = 1023 ∧ (windowWith 1023 1 0).2.getLsbD 1023 = true ∧
        (windowWith 1023 1 0).2.getLsbD 0 = true ∧ (windowWith 1023 1 0).2.getLsbD 5 = false) := by decide +kernel

/-! ### Object exchange -/

/-- A device in CALIBRATE with SEAL open, every key written, the line, a panel, prepayment and two pulse outputs. -/
def bench : Vol :=
  let v := code 5 4 (code 6 2 (code 7 14 (code 8 14 (code 9 8 awake))))
  { v with
    bak.sealOpen := true
    work.life.state := .calibrate
    work.store.present := true
    work.disp.present := true
    work.life.keyset := 31
    work.line.ctxs := vset v.work.line.ctxs 1 { vget v.work.line.ctxs 1 with idle := false } }

/-- An open session of a role in slot 1, under the key zero. -/
def session (r : Role) : Session :=
  { (default : Session) with
    role := r
    port := .optical
    reserved := false
    ks := 0
    seq := 0 }

def inside (r : Role) : Vol := { bench with work.ex.sessions := vset bench.work.ex.sessions 0 (some (session r)) }

/-- A frame of a session on the optical port, with its LEN, MAC and CRC; `session` 0 is PUBLIC. -/
def frameOf (session seq cmd : Byte) (ident : BitVec 48) (attr : Byte) (data : Bytes) : Frame :=
  let f : Frame :=
    { port := .optical, addr := 0, len := BitVec.ofNat 16 (10 + data.length + (if session = 0 then 0 else 4)), session, seq,
      cmd, ident, attr, data, mac := 0, crc := 0, bytesOk := true, stalls := false, stallsAgain := false, bitNs := 104167 }
  let m := frameMac 0 0x00 (frameBody f)
  let mac := BitVec.ofNat 32 (beNat m)
  { f with
    mac := mac
    crc := crc16 (frameBody f ++ (if session = 0 then [] else m)) }

theorem frameOf_mac (seq cmd : Byte) (ident : BitVec 48) (attr : Byte) (data : Bytes) :
    beBytes 4 (frameOf 1 seq cmd ident attr data).mac.toNat = frameMac 0 0x00 (frameBody (frameOf 1 seq cmd ident attr data)) := by
  have l : ∀ x : Bytes, x.length = 4 → beBytes 4 (beNat x % 4294967296) = x := beBytes_beNat
  simp [frameOf, frameBody, l]

theorem frameOf_not_bad (seq cmd : Byte) (ident : BitVec 48) (attr : Byte) (data : Bytes) (h : data.length ≤ 1024) :
    frameBad (frameOf 1 seq cmd ident attr data) = false := by
  have e : (10 + data.length + 4) % 65536 = 10 + data.length + 4 := Nat.mod_eq_of_lt (by omega)
  have l : ∀ x : Bytes, x.length = 4 → beBytes 4 (beNat x % 4294967296) = x := beBytes_beNat
  simp [frameBad, frameOf, hasMac, l, frameBody, e]
  omega

/-- The optical port is free. -/
def portFree (v : Vol) : Bool :=
  coreRuns v && !portLooped v .optical && !portBusy v .optical && v.work.ex.inHand.isNone

theorem frameTaken_frameOf (v : Vol) (hv : portFree v = true) (seq cmd : Byte) (ident : BitVec 48) (attr : Byte)
    (data : Bytes) (h : data.length ≤ 1024) : frameTaken v (frameOf 1 seq cmd ident attr data) = true := by
  simp only [portFree, Bool.and_eq_true, Bool.not_eq_true'] at hv
  obtain ⟨⟨⟨h1, h2⟩, h3⟩, h4⟩ := hv
  have p : (frameOf 1 seq cmd ident attr data).port = .optical := rfl
  have q : frameHeard v (frameOf 1 seq cmd ident attr data) = true := by
    show (optRateOf 104167).isSome = true
    decide
  have r : portInSet v .optical = true := rfl
  simp only [frameTaken, frameOf_not_bad _ _ _ _ _ h, h1, p, q, r, h2, h3, h4]
  rfl

/-- The port is free, and slot 1 holds the open session, before its first frame. -/
def sessionReady (x : Session) (v : Vol) : Bool :=
  portFree v && slotAt v 0 == some x && x.port == .optical && !x.reserved && x.ks == 0 && x.seq == 0

/-- The engine takes the frame at once, as the next one of the session. -/
def Taken (x : Session) (v : Vol) (f : Frame) : Prop := frameTaken v f = true ∧ sessionTaken v f x = true

theorem taken_frameOf (x : Session) (v : Vol) (hv : sessionReady x v = true) (cmd : Byte) (ident : BitVec 48) (attr : Byte)
    (data : Bytes) (h : data.length ≤ 1024) : Taken x v (frameOf 1 1 cmd ident attr data) := by
  simp only [sessionReady, Bool.and_eq_true, Bool.not_eq_true', beq_iff_eq] at hv
  obtain ⟨⟨⟨⟨⟨h1, h2⟩, h3⟩, h4⟩, h5⟩, h6⟩ := hv
  refine ⟨frameTaken_frameOf v h1 _ _ _ _ _ h, ?_⟩
  have e := frameOf_mac 1 cmd ident attr data
  have p : (frameOf 1 1 cmd ident attr data).port = .optical := rfl
  have n : (frameOf 1 1 cmd ident attr data).session = 1 := rfl
  have q : (frameOf 1 1 cmd ident attr data).seq = 1 := rfl
  generalize frameOf 1 1 cmd ident attr data = f at e p n q
  simp [sessionTaken, hasMac, e, p, n, q, h2, h3, h4, h5, h6]

/-- The frame meets the other hypotheses up to the execution of the SET of o by the role. -/
def admitted (r : Role) (o : Obj) (f : Frame) : Bool :=
  let v := inside r
  let i := inSession f (session r) v
  f.cmd == 4 && objOf i f.ident == some o && attrExists State.reset.nv i o f.attr.toNat && setStatus i r o == none &&
    v.work.store.present && v.work.disp.present && decide (v.work.store.line.length < 5) && v.work.store.held.isEmpty

/-- A SET of a structure object meets the hypotheses, under its row. -/
def Writable (r : Role) (o : Obj) (row : Row) (f : Frame) : Prop :=
  Taken (session r) (inside r) f ∧ admitted r o f = true ∧ rowOf (inside r) f = row ∧
    (match setOut (inSession f (session r) (inside r)) f o with
      | .write v _ _ => guardStatus (inSession f (session r) (inside r)) r (writesLegal v) == none
      | _ => false) = true

theorem ready_inside (r : Role) : sessionReady (session r) (inside r) = true := by cases r <;> decide +kernel

/-- A calibration set that no rule refuses. -/
def calibBench : Calib := { calibWritten bench with
  eaveOpen := 0
  eaveClose := 100000
  lsrc := [] }

/-- The rows SET, KEY_WRITE, CALIBRATION_SET_WRITE, PROFILE_TABLE_WRITE, CURVE_WRITE and PERIODIC_WAKE_WRITE. -/
theorem witness_ObjectWritesWaitAndTakeEffect :
    Writable .operator (.alarm false) .set
        (frameOf 1 1 4 0x0000600901FF 255
          (serialise alarmFields (List.replicate alarmFields.length 0))) ∧
      Writable .operator (.key 1) .key
        (frameOf 1 1 4 0x0000601002FF 255
          (List.replicate 16 7)) ∧
      Writable .metrology (.calib) .calib
        (frameOf 1 1 4 0x0800600300FF 255
          (serialise calibShape (calibList calibBench))) ∧
      Writable .metrology (.prof) .prof
        (frameOf 1 1 4 0x0800600400FF 255
          ((List.range 16).flatMap fun i => beSigned 4 (1000 * (i + 1)) ++ beSigned 4 1000000)) ∧
      Writable .metrology (.curve) .curve
        (frameOf 1 1 4 0x0000600903FF 64
          ([0xFF, 0xFE])) ∧
      Writable .operator (.pwake) .pwake
        (frameOf 1 1 4 0x0000600900FF 255
          (serialise (pwakeFields 1) [1, 1, 0])) :=
  ⟨⟨taken_frameOf _ _ (ready_inside _) _ _ _ _ (by decide +kernel), by decide +kernel, by decide +kernel,
      by decide +kernel⟩,
    ⟨taken_frameOf _ _ (ready_inside _) _ _ _ _ (by decide +kernel), by decide +kernel, by decide +kernel,
      by decide +kernel⟩,
    ⟨taken_frameOf _ _ (ready_inside _) _ _ _ _ (by decide +kernel), by decide +kernel, by decide +kernel,
      by decide +kernel⟩,
    ⟨taken_frameOf _ _ (ready_inside _) _ _ _ _ (by decide +kernel), by decide +kernel, by decide +kernel,
      by decide +kernel⟩,
    ⟨taken_frameOf _ _ (ready_inside _) _ _ _ _ (by decide +kernel), by decide +kernel, by decide +kernel,
      by decide +kernel⟩,
    ⟨taken_frameOf _ _ (ready_inside _) _ _ _ _ (by decide +kernel), by decide +kernel, by decide +kernel,
      by decide +kernel⟩⟩

/-- The rows PSCALE_WRITE, TARIFF_CONFIG, PRICE_CHANGED, TEMPLATE_WRITE, DRIVE_CURVE_WRITE, LINE_SETTINGS_WRITE and
PORT_SETTINGS_WRITE. -/
theorem witness_ObjectWritesWaitAndTakeEffect_more :
    Writable .metrology (.profile) .pscale
        (frameOf 1 1 4 0x0800630100FF 255
          (serialise pscaleFields [0, 0, 1])) ∧
      Writable .operator (.source) .tariff
        (frameOf 1 1 4 0x0000600A00FF 255
          (List.replicate (fldBytes (sourceFields (tariffSource bench).2)) 1)) ∧
      Writable .operator (.prices) .price
        (frameOf 1 1 4 0x0000600A01FF 255
          (serialise priceFields [1, 2, 3, 4, 999])) ∧
      Writable .operator (.templates) .template
        (frameOf 1 1 4 0x0000601300FF 0
          ([15, 15, 0, 0, 0, 0])) ∧
      Writable .operator (.curves) .driveCurve
        (frameOf 1 1 4 0x0000601301FF 0
          ([1, 2, 3, 4, 5, 6, 7, 255])) ∧
      Writable .operator (.lineSettings) .line
        (frameOf 1 1 4 0x0000601200FF 0
          (serialise lineFields [1, 1, 1, 1, 1, 1, 1, 1, 1, 1, 1, 1, 1, 2, 3, 4, 5, 6, 1, 1, 1, 1, 1, 1])) ∧
      Writable .operator (.portSettings) .port
        (frameOf 1 1 4 0x0000601100FF 0
          (serialise portFields [250, 5, 247, 31])) :=
  ⟨⟨taken_frameOf _ _ (ready_inside _) _ _ _ _ (by decide +kernel), by decide +kernel, by decide +kernel,
      by decide +kernel⟩,
    ⟨taken_frameOf _ _ (ready_inside _) _ _ _ _ (by decide +kernel), by decide +kernel, by decide +kernel,
      by decide +kernel⟩,
    ⟨taken_frameOf _ _ (ready_inside _) _ _ _ _ (by decide +kernel), by decide +kernel, by decide +kernel,
      by decide +kernel⟩,
    ⟨taken_frameOf _ _ (ready_inside _) _ _ _ _ (by decide +kernel), by decide +kernel, by decide +kernel,
      by decide +kernel⟩,
    ⟨taken_frameOf _ _ (ready_inside _) _ _ _ _ (by decide +kernel), by decide +kernel, by decide +kernel,
      by decide +kernel⟩,
    ⟨taken_frameOf _ _ (ready_inside _) _ _ _ _ (by decide +kernel), by decide +kernel, by decide +kernel,
      by decide +kernel⟩,
    ⟨taken_frameOf _ _ (ready_inside _) _ _ _ _ (by decide +kernel), by decide +kernel, by decide +kernel,
      by decide +kernel⟩⟩

def setNotesFrame : Frame := frameOf 1 1 4 0x0000600C01FF 255 [0x0F, 0xFF, 1]

def setRosterFrame : Frame := frameOf 1 1 4 0x0000601201FF 254 [0, 1, 2, 3, 4, 5, 6, 7]

/-- A committed write of port settings. -/
def written4 : Vol := { inside .operator with
  work.ex.inHand := some
    { frame := frameOf 1 1 4 0x0000601100FF 0 (serialise portFields [250, 5, 247, 31])
      clamps := []
      clamped := false
      await := .write (.port 250 5 247 31) 0 true } }

theorem witness_ObjectWritesWaitAndTakeEffect_pages :
    (Taken (session .operator) (inside .operator) setNotesFrame ∧ admitted .operator .notes setNotesFrame = true ∧
        (setNotesFrame.attr = 255 ∧ setNotesFrame.data.drop 2 ≠ [] ∧ beNat (setNotesFrame.data.take 2) = 4095)) ∧
      (Taken (session .operator) (inside .operator) setRosterFrame ∧ admitted .operator .roster setRosterFrame = true ∧
        (setRosterFrame.attr ≠ 255 ∧ setRosterFrame.data.length = 8)) ∧
      written4.work.ex.inHand.any (fun h => h.await == .write (.port 250 5 247 31) 0 true) = true :=
  ⟨⟨taken_frameOf _ _ (ready_inside _) _ _ _ _ (by decide), by decide +kernel, by decide +kernel⟩,
    ⟨taken_frameOf _ _ (ready_inside _) _ _ _ _ (by decide), by decide +kernel, by decide +kernel⟩, by decide +kernel⟩

/-- A request of the control object. -/
def requestFrame (attr : Byte) (n : Nat) : Frame := frameOf 1 1 4 0x0000601400FF attr (beBytes 4 n)

/-- A request of the control object meets the hypotheses, under its row. -/
def Requestable (row : Row) (attr : Byte) (n : Nat) : Prop :=
  Taken (session .metrology) (inside .metrology) (requestFrame attr n) ∧ admitted .metrology .control (requestFrame attr n) = true ∧
    rowOf (inside .metrology) (requestFrame attr n) = row ∧
    (requestFrame attr n).data.length = 4 ∧
    controlStatus (inSession (requestFrame attr n) (session .metrology) (inside .metrology)) attr.toNat
      (beNat (requestFrame attr n).data) = stOk

def clockData : Bytes := [0x23, 0x99, 0x12, 0x31, 1, 0x23, 0x59, 0x59, 0, 0, 0, 0, 0, 0, 0, 0]

def setClockFrame : Frame := frameOf 1 1 4 0x0000010000FF 255 clockData

theorem witness_RequestsOfTheControlObjectAreTaken :
    Requestable .acStop 0 0 ∧
      Requestable .acInjector 0 (2 ^ 28) ∧
      Requestable .acReference 0 (2 * 2 ^ 28) ∧
      Requestable .acCross 0 (3 * 2 ^ 28 + 15 * 2 ^ 24) ∧
      Requestable .portDigital 1 (2 ^ 28 + 2 ^ 26) ∧
      Requestable .portPin 1 (3 * 2 ^ 28 + 2 * 2 ^ 26) ∧
      Requestable .lineSymbol 3 (2 ^ 28 + 2 ^ 26) ∧
      Requestable .lineAnalog 3 (2 * 2 ^ 28 + 2 ^ 26) ∧
      Requestable .lineExternal 3 (3 * 2 ^ 28 + 2 ^ 26) ∧
      Requestable .readback 5 (2 ^ 28) ∧
      (Taken (session .operator) (inside .operator) setClockFrame ∧ admitted .operator .clock setClockFrame = true ∧
        (setClockFrame.data.length = 16 ∧ (stagedCal setClockFrame.data).valid = true ∧ setClockFrame.stalls = false)) :=
  ⟨⟨taken_frameOf _ _ (ready_inside _) _ _ _ _ (by simp), by decide +kernel, by decide +kernel, by decide +kernel,
      by decide +kernel⟩,
    ⟨taken_frameOf _ _ (ready_inside _) _ _ _ _ (by simp), by decide +kernel, by decide +kernel, by decide +kernel,
      by decide +kernel⟩,
    ⟨taken_frameOf _ _ (ready_inside _) _ _ _ _ (by simp), by decide +kernel, by decide +kernel, by decide +kernel,
      by decide +kernel⟩,
    ⟨taken_frameOf _ _ (ready_inside _) _ _ _ _ (by simp), by decide +kernel, by decide +kernel, by decide +kernel,
      by decide +kernel⟩,
    ⟨taken_frameOf _ _ (ready_inside _) _ _ _ _ (by simp), by decide +kernel, by decide +kernel, by decide +kernel,
      by decide +kernel⟩,
    ⟨taken_frameOf _ _ (ready_inside _) _ _ _ _ (by simp), by decide +kernel, by decide +kernel, by decide +kernel,
      by decide +kernel⟩,
    ⟨taken_frameOf _ _ (ready_inside _) _ _ _ _ (by simp), by decide +kernel, by decide +kernel, by decide +kernel,
      by decide +kernel⟩,
    ⟨taken_frameOf _ _ (ready_inside _) _ _ _ _ (by simp), by decide +kernel, by decide +kernel, by decide +kernel,
      by decide +kernel⟩,
    ⟨taken_frameOf _ _ (ready_inside _) _ _ _ _ (by simp), by decide +kernel, by decide +kernel, by decide +kernel,
      by decide +kernel⟩,
    ⟨taken_frameOf _ _ (ready_inside _) _ _ _ _ (by simp), by decide +kernel, by decide +kernel, by decide +kernel,
      by decide +kernel⟩,
    ⟨taken_frameOf _ _ (ready_inside _) _ _ _ _ (by decide), by decide +kernel, by decide +kernel⟩⟩

/-- An ACTION meets the other hypotheses up to its execution. -/
def actable (r : Role) (v : Vol) (o : Obj) (f : Frame) : Bool :=
  let i := inSession f (session r) v
  f.cmd == 5 && objOf i f.ident == some o && attrExists State.reset.nv i o f.attr.toNat &&
    actStatus i r o (f.data.headD 0).toNat == none && v.work.life.change.isNone

def closed : Vol := { inside .metrology with
  bak.sealOpen := false
  work.obj.calib.area := 1 }

def actionFrame (ident : BitVec 48) (data : Bytes) : Frame := frameOf 1 1 5 ident 255 data

def tokenData (n : Nat) : Bytes := 1 :: (digits n).map fun d => BitVec.ofNat 8 (48 + d.val)

theorem witness_ActionsAreCarriedOut :
    (Taken (session .metrology) closed (actionFrame 0x0000600E00FF [1]) ∧
        (actable .metrology closed .life (actionFrame 0x0000600E00FF [1]) = true ∧ sealable closed = true ∧
          closed.bak.sealOpen = false ∧ (calibWritten closed).area ≠ 0 ∧ closed.work.life.keyset.getLsbD 2 = true)) ∧
      (Taken (session .operator) (inside .operator) (actionFrame 0x0000600E00FF [2]) ∧
        (actable .operator (inside .operator) .life (actionFrame 0x0000600E00FF [2]) = true ∧
          sealable (inside .operator) = true ∧ (inside .operator).bak.sealOpen = true)) ∧
      (Taken (session .operator) (inside .operator) (actionFrame 0x0000600700FF [1]) ∧
        (actable .operator (inside .operator) (.fin 0) (actionFrame 0x0000600700FF [1]) = true ∧
          finMode (th (inside .operator) 9) 0 = 3)) ∧
      (Taken (session .customer) (inside .customer) (actionFrame 0x0000600B00FF (tokenData token)) ∧
        (actable .customer (inside .customer) .credit (actionFrame 0x0000600B00FF (tokenData token)) = true ∧
          (tokenDigits (tokenData token).tail).map tokenNumber = some token ∧
          tokenResult State.reset.nv (inside .customer) token = 0 ∧
          tokenResult State.reset.nv (inside .customer) (2 ^ 66) = 1)) :=
  ⟨⟨taken_frameOf _ _ (by decide +kernel) _ _ _ _ (by decide), by decide +kernel⟩,
    ⟨taken_frameOf _ _ (ready_inside _) _ _ _ _ (by decide), by decide +kernel⟩,
    ⟨taken_frameOf _ _ (ready_inside _) _ _ _ _ (by decide), by decide +kernel⟩,
    ⟨taken_frameOf _ _ (ready_inside _) _ _ _ _ (by decide +kernel), by decide +kernel⟩⟩

/-- OPEN of METROLOGY, step 1, on a port without a session. -/
def openFrame : Frame := frameOf 0 0 1 0 0 [3, 1, 2, 3, 4, 5, 6, 7, 8]

/-- A reserved slot under the key zero with both challenges zero. -/
def reservedSession : Session := { session .metrology with reserved := true }

def reservedSlot : Vol := { bench with work.ex.sessions := vset bench.work.ex.sessions 0 (some reservedSession) }

def proofData : Bytes := proofOf 0 0x43 0 0 State.reset.nv.trim.serial

theorem length_proofData : proofData.length = 8 := by
  simp [proofData, proofOf, length_cmac, keyBytes]

/-- METROLOGY is locked out, and another role's slot is open. -/
def lockedOpen : Vol := { bench with ret.ex.lockFrom := vset bench.ret.ex.lockFrom (roleCode .metrology) (some 0) }

/-- 0-0:96.1.0. -/
def identityName : BitVec 48 := 0x0000600100FF

def closeFrame (ident : BitVec 48) : Frame := frameOf 1 1 2 ident 255 []

/-- The look-up of a frame of the operator. -/
def looksUp (f : Frame) : Option Nat := lookUp State.reset.nv f (inSession f (session .operator) (inside .operator))

/-- The operator's frame has been carried out. -/
def answered (f : Frame) : Vol :=
  match exec (.close f) (st (inside .operator)) with
  | .next t => t.vol
  | _ => awake

theorem witness_SessionsOpenAndClose :
    (frameTaken bench openFrame = true ∧ openFrame.cmd = 1 ∧ openFrame.session = 0 ∧ openFrame.ident = 0 ∧
        openFrame.attr = 0 ∧ openFrame.data.length = 9 ∧ roleOf (openFrame.data.headD 0).toNat = some .metrology ∧
        roleOnPort .metrology openFrame.port = true ∧ roleAdmitted bench.work.life.state .metrology = true ∧
        roleLocked bench .metrology = false ∧ roleKey bench .metrology openFrame.port = some (0, false) ∧
        [0, 1, 2, 3].find? (fun n => (slotAt bench n).isNone) = some 0 ∧
        (bench.work.ex.sessions.toList.filterMap id).all (·.role != .metrology) = true) ∧
      (let f := frameOf 1 0 1 0 0 proofData
       frameTaken reservedSlot f = true ∧ beBytes 4 f.mac.toNat = frameMac 0 0x00 (frameBody f) ∧
         (f.cmd = 1 ∧ hasMac f.session = true ∧ slotAt reservedSlot (f.session.toNat - 1) = some reservedSession ∧
           reservedSession.port = f.port ∧ reservedSession.reserved = true ∧ roleLocked reservedSlot .metrology = false ∧
           roleKey reservedSlot .metrology .optical = some (0, false) ∧ reservedSession.ks = 0 ∧ f.seq = 0 ∧ f.ident = 0 ∧
           f.attr = 0) ∧
         f.data = proofOf 0 0x43 reservedSession.cd reservedSession.cc State.reset.nv.trim.serial) ∧
      (frameTaken lockedOpen openFrame = true ∧ openFrame.port = .optical ∧ roleLocked lockedOpen .metrology = true) ∧
      (Taken (session .operator) (inside .operator) (closeFrame identityName) ∧
        ((closeFrame identityName).cmd = 2 ∧ looksUp (closeFrame identityName) = none ∧
          replyGone (answered (closeFrame identityName)) .optical = false)) ∧
      (Taken (session .operator) (inside .operator) (closeFrame 0) ∧ looksUp (closeFrame 0) = some stUnknown) :=
  ⟨by decide +kernel,
    ⟨frameTaken_frameOf _ (by decide +kernel) _ _ _ _ _ (by simp [length_proofData]), frameOf_mac _ _ _ _ _,
      by decide +kernel, rfl⟩,
    by decide +kernel,
    ⟨taken_frameOf _ _ (ready_inside _) _ _ _ _ (by decide), by decide +kernel⟩,
    ⟨taken_frameOf _ _ (ready_inside _) _ _ _ _ (by decide), by decide +kernel⟩⟩

/-- CLOSE is answered, and its session ends with the reply. -/
theorem test_close_ends_with_its_reply :
    ((slotAt (answered (closeFrame identityName)) 0).any (·.closing) &&
      after (.replyTransmit .optical) (st (answered (closeFrame identityName))) (fun t => (slotAt t.vol 0).isNone)) = true := by
  decide +kernel

/-- GET of the identity object. -/
def getFrame : Frame := frameOf 1 1 3 0x0000600100FF 255 []

/-- A session with a block left. -/
def blockSession : Session := { session .operator with blocks := [[7]] }

def blockLeft : Vol := { bench with work.ex.sessions := vset bench.work.ex.sessions 0 (some blockSession) }

def nextFrame : Frame := frameOf 1 1 6 identityName 255 []

theorem witness_RepliesLeaveInBlocks :
    (Taken (session .operator) (inside .operator) getFrame ∧
        (getFrame.port = .optical ∧ getFrame.cmd = 3 ∧
          (let i := inSession getFrame (session .operator) (inside .operator)
           objOf i getFrame.ident = some .identity ∧ attrExists State.reset.nv i .identity 255 = true ∧
             getStatus i .operator .identity = none ∧ absentTarget getFrame .identity = none ∧
             (match getObj State.reset.nv i .identity 255 getFrame.data with
               | .value b false _ => decide (0 < b.length)
               | _ => false) = true))) ∧
      (Taken blockSession blockLeft nextFrame ∧
        (nextFrame.cmd = 6 ∧ blockSession.blocks = [[7]] ∧
          lookUp State.reset.nv nextFrame (inSession nextFrame blockSession blockLeft) = none)) ∧
      (Taken (session .operator) (inside .operator) nextFrame ∧
        ((session .operator).blocks = [] ∧ looksUp nextFrame = none)) :=
  ⟨⟨taken_frameOf _ _ (ready_inside _) _ _ _ _ (by decide), by decide +kernel⟩,
    ⟨taken_frameOf _ _ (by decide +kernel) _ _ _ _ (by decide), by decide +kernel⟩,
    ⟨taken_frameOf _ _ (ready_inside _) _ _ _ _ (by decide), by decide +kernel⟩⟩

def roleLock : Vol := { waited bench 38400 with
  ret.ex.lockFrom := vset bench.ret.ex.lockFrom 2 (some 0) }

/-- A change that waits for its reply to leave. -/
def ordered : Vol :=
  orderChange .optical .sealed 2 { bench with work.ex.replies := vset bench.work.ex.replies 0 (some [1]) }

theorem witness_SessionsLockoutsChangesAndWindowsEnd :
    (let v := waited (inside .operator) 7680
     slotAt v 0 = some (session .operator) ∧ (session .operator).reserved = false ∧
       7680 ≤ (v.bak.count - (session .operator).lastTick).toNat ∧
       after (.sessionTimeout 0) (st v) (fun t => (slotAt t.vol 0).isNone) = true ∧
       after (.sessionTimeout 0) (st (waited (inside .operator) 7679)) (fun t => (slotAt t.vol 0).isSome) = true) ∧
      (let v := waited reservedSlot 640
       slotAt v 0 = some reservedSession ∧ 640 ≤ (v.bak.count - reservedSession.lastTick).toNat) ∧
      (vget roleLock.ret.ex.lockFrom (roleCode .operator) = some 0 ∧ 38400 ≤ (roleLock.bak.count - 0).toNat) ∧
      (ordered.work.life.change.any (fun c => !c.begun && !changeMayBegin c ordered && c.via == some .optical) = true ∧
        coreRuns ordered = true ∧ ((vget ordered.work.ex.replies 0).isSome = true) ∧
        ordered.work.life.change.all (fun c => decide ((ordered.bak.count + 6 - c.since).toNat < 7)) = true) ∧
      ordered.work.life.change.any (fun c => changeMayBegin c (waited ordered 7) && !changeMayBegin c (waited ordered 6) &&
        changeMayBegin c { ordered with work.ex.replies := bench.work.ex.replies }) = true ∧
      after (.lifecycleChange pins) (st (waited ordered 7)) (fun t => t.vol.work.life.change.any (·.begun)) = true ∧
      after (.lifecycleChange pins) (st (waited ordered 6)) (fun t => t.vol.work.life.change.all (!·.begun)) = true ∧
      (let v := { awake with ret.avail.elapsed := 2018304000 }
       2018304000 ≤ v.ret.avail.elapsed.toNat ∧ after .availWindow (st v) (fun t => t.vol.ret.avail.windows == 1) = true) := by
  decide +kernel

/-! ### Ports -/

def replied (p : Port) : Vol := { bench with
  work.ex.replies := vset bench.work.ex.replies (portIx p) (some [1, 2])
  work.pt.setNew := some (.optical, [250, 5, 247, 31]) }

/-- A port loop-back of LINK-PORT `n`. -/
def portLoop (pending : Bool) (n : Nat) : Vol := { bench with
  work.pt.lbPending := pending
  work.pt.lbResult := if pending then 0 else 1
  work.pt.lbRequest := BitVec.ofNat 32 (n * 2 ^ 28)
  work.pt.lbRun := BitVec.ofNat 32 (n * 2 ^ 28 + 2 * 2 ^ 26) }

/-- The two bytes of a reply are on their way. -/
def sending : Vol := { bench with work.ex.sent := Vector.replicate 5 [1, 2] }

/-- Pulses of 1 L on both outputs. -/
def pulsing (low : Bool) : Vol :=
  let v := code 11 0 awake
  { v with
    work.pt.pulseA.low := low
    work.pt.pulseB.low := low
    ret.pulseA.backlog := 2
    ret.pulseB.backlog := 1 }

theorem witness_PortsReplyLoopBackAndPulse :
    (coreRuns (replied .optical) = true ∧ replyAt (replied .optical) .optical = some [1, 2] ∧
        replyAt (replied .rs485) .rs485 = some [1, 2] ∧ (replied .optical).work.pt.setNew = some (.optical, [250, 5, 247, 31]) ∧
        portInSet bench .mbus = true ∧ portInSet bench .rs485 = true ∧ bench.work.pt.setNew = none) ∧
      ((portLoop true 1).work.pt.lbPending = true ∧ loopReplySent (portLoop true 1) = true ∧
        (portLoop false 1).work.pt.lbResult = 1 ∧ (portLoop false 1).work.pt.lbRun.toNat / 2 ^ 28 ≠ 4 ∧
        (portLoop false 1).work.pt.lbRun.toNat / 2 ^ 26 % 4 ≠ 1 ∧ (portLoop false 4).work.pt.lbRun.toNat / 2 ^ 28 = 4 ∧
        (portLoop true 1).work.pt.lbResult ≠ 1) ∧
      (bench.bak.power.state = .doze ∧ bench.bak.power.iovddLow = false ∧ bitSent bench .optical none = none ∧
        bitSent sending .optical (some 0) = some true ∧ vget sending.work.ex.sent 2 ≠ [] ∧
        (pinLevels .rs485 [1, 2]).length = 20 ∧ de485Pin sending (some (-2)) = .low ∧ de485Pin sending (some (-1)) = .high ∧
        de485Pin sending (some 20) = .high ∧ de485Pin sending (some 21) = .low ∧ optxPin sending (some (-1)) = .low ∧
        optxPin sending (some 0) = .high) ∧
      (pulsesRun (pulsing false) = true ∧ (pulsing false).work.pt.pulseA.low = false ∧
        (pulsing false).work.pt.pulseB.low = false ∧ (pulsing true).work.pt.pulseA.low = true) ∧
      after (.replyTransmit .optical) (st (replied .optical)) (fun t => t.vol.work.pt.rsAddr == 247) = true ∧
      after (.portLoopbackEnd 511 (prbs9 511).reverse false) (st (portLoop false 1))
        (fun t => t.vol.work.pt.lbResult == 2 && t.vol.work.pt.lbBits == 511) = true ∧
      after (.portLoopbackEnd 511 (prbs9 511) false) (st (portLoop false 1)) (fun t => t.vol.work.pt.lbResult == 3) = true ∧
      after (.portLoopbackEnd 510 [] false) (st (portLoop false 1)) (fun t => t.vol.work.pt.lbResult == 1) = true ∧
      after (.portLoopbackEnd 64 [] true) (st (portLoop false 1))
        (fun t => t.vol.work.pt.lbResult == 4 && t.vol.work.pt.lbErrors == 64) = true ∧
      after (.portLoopbackEnd 0 [] false) (st { portLoop false 4 with work.pt.lbBits := 512 })
        (fun t => t.vol.work.pt.lbResult == 2) = true ∧
      after (.portLoopbackEnd 0 [] false) (st { portLoop false 4 with work.pt.lbBits := 511 })
        (fun t => t.vol.work.pt.lbResult == 1) = true ∧
      after (.replyTransmit .optical) (st { replied .optical with work.pt.optRate := 19200 })
        (fun t => vget t.vol.work.pt.sentRate 0 == 19200) = true ∧
      after (.pulseStart ⟨.b, 164⟩) (st (pulsing false)) (fun t => t.vol.ret.pulseB.backlog == 0) = true ∧
      after (.pulseStart ⟨.b, 163⟩) (st (pulsing false)) (fun t => t.vol.ret.pulseB.backlog == 1) = true := by decide +kernel

/-- An M-Bus slave with address 5. -/
def slave (tunnel : Bool) (fcb : Option Bool) : Vol := { bench with
  work.pt.mbAddr := 5
  work.pt.mbus.tunnel := tunnel
  work.pt.mbus.fcb := fcb
  work.pt.mbus.udFcb := fcb
  work.pt.mbus.lastResponse := [9] }

def fetched : Vol := { slave true none with work.ex.replies := vset bench.work.ex.replies 1 (some [1, 2]) }

theorem witness_TheMbusLinkLayerAnswers :
    (mbusUp (slave false none) = true ∧ portLooped (slave false none) .mbus = false ∧ mbusMine (slave false none) 5 = true ∧
        mbusMine (slave false none) 254 = true ∧ mbusMine (slave false none) 255 = true ∧
        mbusMine (slave false none) 6 = false ∧ (slave false none).work.pt.mbus.fcb ≠ some true) ∧
      ((slave false (some true)).work.pt.mbus.fcb = some true ∧ (slave false (some true)).work.pt.mbus.lastResponse ≠ []) ∧
      ((slave true none).work.pt.mbus.tunnel = true ∧ replyAt (slave true none) .mbus = none ∧
        replyAt fetched .mbus = some [1, 2]) ∧
      (selectionMatches State.reset.nv [0xFF, 0xFF, 0xFF, 0xFF, 0xFF, 0xFF, 0xFF, 0xFF] = true ∧
        selectionMatches State.reset.nv [] = false) ∧
      38400 ≤ ((waited bench 38400).bak.count - (waited bench 38400).work.pt.mbus.lastValid).toNat ∧
      (mbusHears (slave false none) 416667 = true ∧ mbusHears (slave false none) 3333333 = false) ∧
      after (.mbusSndNke ⟨5, 416667⟩) (st (slave true none)) (fun t => vget t.vol.work.ex.sent 1 == [0xE5]) = true ∧
      after (.mbusSndNke ⟨6, 416667⟩) (st (slave true none)) (fun t => t.vol.work.pt.mbus.tunnel) = true ∧
      after (.mbusReqUd2 ⟨5, 416667⟩ ⟨true, true⟩) (st fetched)
        (fun t => !t.vol.work.pt.mbus.tunnel && t.vol.work.pt.mbus.access == 1) = true ∧
      after (.mbusReqUd2 ⟨254, 416667⟩ ⟨true, true⟩) (st (slave false (some true)))
        (fun t => vget t.vol.work.ex.sent 1 == [9]) = true ∧
      after (.mbusReqUd2 ⟨254, 416667⟩ ⟨true, false⟩) (st (slave false (some true)))
        (fun t => vget t.vol.work.ex.sent 1 != [9]) = true ∧
      after (.mbusBaudSwitch ⟨5, 416667⟩ ⟨0xBD, ⟨true, true⟩⟩) (st (slave false none))
        (fun t => t.vol.work.pt.mbus.rate == 5 && t.vol.work.pt.mbus.udFcb == some true) = true ∧
      after (.mbusSndUd ⟨5, 416667⟩ ⟨true, true⟩ 0xA5 default) (st (slave false (some true)))
        (fun t => vget t.vol.work.ex.sent 1 == [0xE5]) = true := by decide +kernel

/-- LINK in a transaction with an OP. -/
def linked (op : Byte) (symbols raw : List Bytes) (shifted : Nat) : Vol := { bench with
  work.pt.link.selected := true
  work.pt.link.ready := true
  work.pt.link.op := op
  work.pt.link.symbols := symbols
  work.pt.link.raw := raw
  work.pt.link.shifted := shifted }

theorem witness_LinkCarriesRecordsBothWays :
    (portInSet bench .link = true ∧ bench.work.pt.link.selected = false) ∧
      ((linked 1 [] [] 0).work.pt.link.op = 1 ∧ (linked 1 [] [] 0).work.pt.link.rx = [] ∧
        (linked 1 [] [] 0).work.pt.link.shift = [] ∧ coreRuns (linked 1 [] [] 0) = true ∧
        (linked 1 [] [] 0).work.pt.link.selected = true ∧
        portLooped (linked 1 [] [] 0) .link = false) ∧
      (linkPick (linked 2 [] [] 0).work.pt.link = none) ∧
      (linkPick (linked 2 [[1, 2, 3]] [[4]] 0).work.pt.link = some 0 ∧ linkPick (linked 2 [] [[4, 5]] 0).work.pt.link = some 3 ∧
        linkPick (linked 2 [[1, 2, 3]] [[4]] 2).work.pt.link = some 0) ∧
      after .linkNop (st bench) (fun t => t.vol.work.pt.link.sent.length == 2) = true ∧
      after (.linkWrite ⟨[1, 0, 0], [], 1⟩) (st (linked 1 [] [] 0)) (fun t => t.vol.work.pt.link.rx == []) = true ∧
      after (.linkWrite ⟨[1, 0], [], 1⟩) (st (linked 1 [] [] 0)) (fun t => t.vol.work.pt.link.rx == [1, 0]) = true ∧
      after (.linkWrite ⟨[], [true, false], 1⟩) (st (linked 1 [] [] 0)) (fun t => t.vol.work.pt.link.shift == [true, false]) = true ∧
      after (.linkWrite ⟨[1, 0], [], 1⟩) (st { linked 1 [] [] 0 with work.pt.link.ready := false })
        (fun t => t.vol.work.pt.link.rx == []) = true ∧
      after (.linkWrite ⟨[1, 0], [], 3⟩) (st (linked 3 [] [] 0)) (fun t => t.vol.work.pt.link.rx == []) = true ∧
      after (.linkRead 16) (st (linked 2 [] [] 0)) (fun t => t.vol.work.pt.link.sent == [0, 0]) = true ∧
      after (.linkRead 8) (st (linked 2 [[1, 2, 3]] [[4]] 0)) (fun t => t.vol.work.pt.link.shifted == 1) = true ∧
      after (.linkRead 8) (st (linked 2 [[1, 2, 3]] [[4]] 2)) (fun t => t.vol.work.pt.link.symbols == []) = true ∧
      after (.linkDeselect [true]) (st (linked 1 [] [] 0)) (fun t => !t.vol.work.pt.link.selected) = true := by decide +kernel

/-! ### The line -/

/-- The LINE clock runs, and context 0 is changed by g. -/
def lineOf (role : Nat) (g : LineCtx → LineCtx) : Vol :=
  let v := code 6 role awake
  { v with
    work.line.running := true
    work.line.ctxs := vset v.work.line.ctxs 0
      (g { vget v.work.line.ctxs 0 with
        idle := false
        inForce := v.work.line.settings
        quiet := 65535 }) }

/-- An idle context after n good spacings. -/
def idleCtx (n : Nat) : Vol :=
  lineOf 0 fun c => { c with
    idle := true
    good := n
    lastCross := some (2 ^ 29 - 384) }

/-- A half-cycle whose samples fall through zero halfway between ticks 487 and 488, at 7 800 in 1/16 tick. -/
def half (lost : Nat) : HalfCycle := { samples := List.replicate 488 5 ++ List.replicate 24 (-5), lost }

/-- A record of context 0 for tick 100 of half-cycle 6. -/
def record (live : Bool) : LineDrive := ⟨0, 6, 100, live, 6⟩

def driving (live : Bool) : Vol := { lineOf 0 id with work.line.drive := [record live] }

/-- The same, in half-cycle n. -/
def atHalf (n : BitVec 16) : Vol := { lineOf 0 (fun c => { c with hc := n }) with work.line.drive := [record true] }

theorem witness_ContextsFollowThePhase :
    (crossingsOf (lctx (idleCtx 6) 0) (half 0).samples = [{ at_ := 7800, rises := false }] ∧
        crossPos (lctx (idleCtx 6) 0).hc { at_ := 7800, rises := false } = 7800 ∧
        goodSpacing (2 ^ 29 - 384) 7800 = true ∧ coreRuns (idleCtx 6) = true ∧ lineAbsent (idleCtx 6) = false) ∧
      (let c := lctx (lineOf 0 id) 0
       (followLine 0 (half 0).samples false { c with past := (half 0).samples }).windows.length = 1 ∧ c.past = [] ∧
         (followLine 0 (half 0).samples false c).past = (half 0).samples) ∧
      (lineUp (idleCtx 6) 0 = true ∧ (lctx (idleCtx 6) 0).idle = true ∧ (lctx (idleCtx 6) 0).lastCross = some (2 ^ 29 - 384) ∧
        goodSpacing 0 7783 = true ∧ goodSpacing 0 7782 = false ∧ goodSpacing (2 ^ 29 - 1) 7782 = true ∧
        goodSpacing 0 8601 = true ∧ goodSpacing 0 8602 = false) ∧
      (lineUp (lineOf 0 id) 0 = true ∧ (lctx (lineOf 0 id) 0).idle = false ∧ 0 < (half 2).lost ∧
        0 < (lctx (lineOf 0 fun c => { c with warmup := 2 }) 0).warmup) ∧
      ((driving true).work.line.drive.find? (·.ctx.val == 0) = some (record true) ∧ lineUp (driving true) 0 = true ∧
        inTime (record true) 6 96 = true ∧ inTime (record true) 6 97 = false ∧ inTime (record true) 7 0 = false ∧
        (driving false).work.line.drive.find? (·.ctx.val == 0) = some (record false) ∧ (record true).live = true) ∧
      after (.lineHalfCycle 0 (half 0)) (st (idleCtx 6)) (fun t => (lctx t.vol 0).good == 7) = true ∧
      after (.lineHalfCycle 0 (half 0)) (st (idleCtx 7)) (fun t => !(lctx t.vol 0).idle) = true ∧
      after (.lineHalfCycle 0 (half 2)) (st (lineOf 0 id)) (fun t => (lctx t.vol 0).erased == 1 && t.vol.work.fab.fifoOvf == 2) = true ∧
      after (.phaseMissing 0) (st (lineOf 0 id)) (fun t => (lctx t.vol 0).idle) = true ∧
      after (.driveRecord 0 ⟨6, 96⟩) (st (atHalf 6)) (fun t => (lctx t.vol 0).pdHigh && (lctx t.vol 0).pulses.length == 1) = true ∧
      after (.driveRecord 0 ⟨5, 96⟩) (st (atHalf 5)) (fun t => !(lctx t.vol 0).pdHigh && (lctx t.vol 0).pulses.length == 1) = true ∧
      (lctx (atHalf 6) 0).hc = (record true).hc ∧ (lctx (atHalf 5) 0).hc ≠ (record true).hc ∧
      after (.driveRecord 0 ⟨6, 97⟩) (st (driving true)) (fun t => t.vol.work.fab.late == 1 && (lctx t.vol 0).txAbort) = true ∧
      after (.driveRecord 0 ⟨6, 96⟩) (st (driving false))
        (fun t => t.vol.work.fab.late == 1 && !(lctx t.vol 0).pdHigh) = true := by decide +kernel

def lineReceived (role type : Nat) : Vol :=
  lineOf role fun c => { c with
    frame := some
      { dest := 5
        src := 0
        type
        payload := []
        margin := 300
        endHc := 9 }
    poll := if type = 2 then some
        { node := 5
          attempt := 1
          waiting := true
          touched := false
          waited := 0 }
      else none }

def owing (fromEngine : Bool) : Vol :=
  lineOf 0 fun c => { c with
    owed := some
      { bits := [true, false]
        formed := !fromEngine
        dueAt := c.hc
        fromEngine } }

def owingReply : Vol := { owing true with work.ex.replies := vset awake.work.ex.replies 4 (some [1]) }

theorem witness_NodesAnswerPollsAndObjects :
    (lineUp (lineReceived 0 1) 0 = true ∧ serves (lineReceived 0 1) 0 2 = true ∧
        (lctx (lineReceived 0 1) 0).frame.any (·.type == 1) = true) ∧
      ((lctx (lineReceived 0 3) 0).frame.any (fun f => f.type == 3 && f.dest != 16383) = true ∧
        portBusy (lineReceived 0 3) .line = false) ∧
      (serves (owing false) 0 2 = true ∧ (lctx (owing false) 0).queue = [] ∧
        (lctx (owing false) 0).owed.any (fun o => !o.fromEngine && (o.dueAt - (lctx (owing false) 0).hc).toNat == 0) = true) ∧
      ((lctx (owing true) 0).owed.any (·.fromEngine) = true ∧ replyAt (owing true) .line = none ∧
        replyAt owingReply .line = some [1]) ∧
      after (.linePoll 0) (st (lineReceived 0 1)) (fun t => (lctx t.vol 0).owed.any (·.formed)) = true ∧
      after (.nodeReply 0) (st (owing false)) (fun t => t.vol.work.line.ncount == 1) = true ∧
      after (.nodeReply 0) (st owingReply) (fun t => (replyAt t.vol .line).isNone) = true := by decide +kernel

/-- A master in a sweep at an address, with a poll. -/
def master (sweeping : Bool) (next : Nat) (p : Option Poll) : Vol :=
  let v := lineOf 2 fun c => { c with poll := p }
  { v with
    ret.line.sweeping := vset v.ret.line.sweeping 0 sweeping
    ret.line.next := vset v.ret.line.next 0 next }

def poll (attempt : Nat) (waiting : Bool) : Poll :=
  { node := 5
    attempt
    waiting
    touched := false
    waited := 65535 }

/-- The store with roster entry 16 381 enabled. -/
def rosterNv : Nv := { State.reset.nv with mem := memWrite State.reset.nv.mem (64 * rosterPage 16381 + 8 * (16381 % 8) + 7) 0 }

theorem witness_MastersSweepAndPoll :
    (lineUp (master false 0 none) 0 = true ∧ serves (master false 0 none) 0 3 = true ∧
        vget (master false 0 none).ret.line.sweeping 0 = false ∧ vget (master false 0 none).ret.line.sweepTick 0 = none ∧
        (master false 0 none).work.line.handback = false) ∧
      (masterFree (refresh 0 (master true 16380 (some (poll 1 false)))) 0 = true ∧
        (lctx (master true 16380 (some (poll 1 false))) 0).poll = some (poll 1 false)) ∧
      (masterFree (refresh 0 (master true 16380 none)) 0 = true ∧ rosterQueued (master true 16380 none) = false ∧
        nextNode rosterNv (refresh 0 (master true 16380 none)) 0 = some 16381) ∧
      nextNode State.reset.nv (refresh 0 (master true 16380 none)) 0 = none ∧
      (lineUp (lineReceived 2 2) 0 = true ∧ (lctx (lineReceived 2 2) 0).frame.any (·.type == 2) = true ∧
        (lctx (lineReceived 2 2) 0).poll.isSome = true) ∧
      (let v := master true 0 (some (poll 1 true))
       (lctx v 0).poll = some (poll 1 true) ∧ (lctx v 0).rx = none ∧ (lctx v 0).frame = none ∧ (lctx v 0).queue = [] ∧
         (lctx v 0).rest = [] ∧ bitPeriods v 0 (lineSet v 0 7 + 20) ≤ 65535 ∧ 1 < 1 + lineSet v 0 9) ∧
      (1 + lineSet (master true 0 (some (poll 4 true))) 0 9 ≤ (poll 4 true).attempt) ∧
      after (.pollWaitTimeout 0) (st (master true 0 (some (poll 4 true)))) (fun t => vget t.vol.ret.line.next 0 == 6) = true ∧
      after (.sweepStart 0) (st (master false 0 none)) (fun t => vget t.vol.ret.line.next 0 == 1) = true := by
  decide +kernel

/-- PHY-for-host service with the host alive. -/
def hosted (alive deviceService handback : Bool) : Vol :=
  let v := lineOf 6 id
  { v with
    bak.count := 640
    work.line.deviceService := deviceService
    work.line.handback := handback
    work.line.hostSymbolsOk := true
    work.line.settings := v.work.line.settings.set 18 1
    work.line.ctxs := v.work.line.ctxs.map fun c => { c with inForce := v.work.line.settings.set 18 1 }
    work.pt.link.alive := alive
    work.pt.link.everAlive := true }

def stopped : Vol := { hosted false false false with bak.power.state := .sleep, bak.power.core := false }

/-- 255 edges already wait in the channel beside the one that has toggled. -/
def stoppedFull : Vol := { stopped with work.fab.hbeat := ⟨true, 255⟩ }

/-- Two symbols for context 0, to begin at half-cycle 4. -/
def symbols : Bytes := [0, 0, 4, 2, 1, 0]

theorem witness_TheHostLosesAndRegainsTheLine :
    (coreRuns (hosted true false false) = true ∧ symbolsBad (hosted true false false) symbols = false ∧
        symbolsBad (hosted true false false) [0, 0, 3, 1, 0] = true ∧
        symbolsBad (hosted true false false) (symbols ++ [0]) = true) ∧
      (phyForHost (hosted true false false) = true ∧ coreRuns stopped = false ∧ phyForHost stopped = true ∧
        stopped.work.fab.hbeat = default ∧ stoppedFull.work.fab.hbeat = ⟨true, 255⟩ ∧ coreRuns stoppedFull = false) ∧
      after .hbeatEdge (st stopped) (fun t => t.vol.work.fab.hbeat == ⟨true, 0⟩) = true ∧
      after .hbeatEdge (st { stopped with work.fab.hbeat := ⟨true, 0⟩ }) (fun t => t.vol.work.fab.hbeat == ⟨true, 1⟩) = true ∧
      after .hbeatEdge (st stoppedFull) (fun t => t.vol.work.fab.toggleOvf == 1) = true ∧
      ((hosted true false false).work.pt.link.everAlive = true ∧
        640 ≤ ((hosted true false false).bak.count - (hosted true false false).work.pt.link.lastEdge).toNat) ∧
      (let v := hosted false true false
       lineUp v 0 = true ∧ v.work.line.deviceService = true ∧ v.work.line.handback = false ∧ (lctx v 0).serviceOn = false ∧
         (lctx v 0).idle = false ∧ (lctx v 0).queue = [] ∧
         bitPeriods (refresh 0 v) 0 (lineSet (refresh 0 v) 0 8) ≤ (lctx v 0).quiet) ∧
      ((hosted true true true).work.line.handback = true ∧ (hosted true true true).work.line.ctxs.all ctxFree = true) ∧
      after (.hostSymbols symbols) (st (hosted true false false)) (fun t => (lctx t.vol 0).queue.length == 2) = true ∧
      after .hostSilent (st (hosted true false false)) (fun t => t.vol.work.line.deviceService) = true ∧
      after .lineHandback (st (hosted true true true)) (fun t => !t.vol.work.line.deviceService) = true := by decide +kernel

/-! ### Flow, display and chains -/

/-- One path with a valid velocity, weight 1 and an area. -/
def flowing (v area cutoff : Int) : Vol :=
  let a := awake
  { a with
    ret.flow.empty := false
    work.obj.calib.w := [2 ^ 30]
    work.obj.calib.area := area
    work.obj.calib.cutoff := cutoff
    work.paths := vset a.work.paths 1 { vget a.work.paths 1 with
      state := 0
      v := v } }

theorem witness_TheFlowFollowsTheMeanVelocity :
    (flowing 5 1 6).ret.flow.empty = false ∧
      (let s := flowing 5 1 6
       let vbar := roundAway (sumInt ([1].map fun j => lget s.work.obj.calib.w (j - 1) * (pathVelocity s (goodMean s [1]) j).1))
         (2 ^ 30)
       vbar = 5 ∧ (vbar.natAbs : Int) < s.work.obj.calib.cutoff ∧ (flowResult [1] s).work.flow.cutoff = true) ∧
      (let s := flowing 5 1 5
       s.work.obj.calib.cutoff ≤ 5 ∧ (flowResult [1] s).work.flow.cutoff = false) ∧
      (let s := flowing (2 ^ 31 - 1) (2 ^ 63) 0
       (flowResult [1] s).work.flow.sat = true ∧ (flowResult [1] s).ret.flow.inForce.map (·.q) = some (2 ^ 47 - 1)) ∧
      (let s := flowing (-(2 ^ 31)) (2 ^ 63) 0
       (flowResult [1] s).ret.flow.inForce.map (·.q) = some (-(2 ^ 47))) := by decide +kernel

/-- A full-panel CLEAR on a panel of 296 x 128. -/
def rect (clear : Bool) : Rect :=
  { (default : Rect) with
    x := 0
    y := 0
    wcol := 37
    h := 128
    clear
    field := 63 }

def pending (r : Rect) (runs : List Rect) : Vol :=
  let v := code 8 0 awake
  { v with
    work.disp.present := true
    work.disp.pmic := true
    work.disp.curves := List.replicate 136 (257 :: List.replicate 63 0)
    work.disp.pend := if runs = [] then [r] else []
    work.disp.running := runs }

/-- No band has a sequence. -/
def bandless : Vol := { pending (rect true) [] with work.disp.curves := List.replicate 136 (List.replicate 64 0) }

/-- A field with its shown value and its DRAW. -/
def shownField : Vol :=
  let e := fieldBlank.set 0 1
  let v := pending (fieldRect e 0 false) []
  { v with
    work.disp.templates := [[1, 1] ++ e] ++ v.work.disp.templates
    ret.disp.shownTemplate := 0
    ret.disp.shown := [(0, [])] }

def shownInfo : Vol := { waited (code 8 0 awake) 3840 with
  work.disp.infoAt := some 0
  work.disp.resultAt := some 0 }

theorem witness_RectanglesRunTheirFrames :
    (displayFree (pending (rect true) []) = true ∧ coreRuns (pending (rect true) []) = true ∧
        (pending (rect true) []).work.disp.pend = [rect true] ∧
        drawnAlready State.reset.nv { pending (rect true) [] with work.disp.pend := [] } (rect true) = false ∧
        framesOf (bandSeqs (pending (rect true) []) (bandNow (pending (rect true) []))) true ≠ 0) ∧
      (framesOf (bandSeqs bandless (bandNow bandless)) (rect true).clear = 0 ∧ bandless.work.disp.pend = [rect true] ∧
        bandless.work.disp.pmic = true ∧ displayFree bandless = true) ∧
      after .displayFrameStart (st bandless) (fun t => t.vol.work.disp.pend.length == 1 && !t.vol.work.disp.pmic) = true ∧
      framesOf (bandSeqs shownField (bandNow shownField)) false ≠ 0 ∧
      (shownField.work.disp.pend.length = 1 ∧
        shownField.work.disp.pend.all (fun r => drawnAlready State.reset.nv { shownField with work.disp.pend := [] } r) = true) ∧
      after (.rectangleEnd 0) (st (pending (rect true) [{ rect true with frame := 1, frames := 1 }]))
        (fun t => t.vol.ret.disp.crc == crc16 (panelBytes t.vol.ret.disp) && t.vol.work.disp.updates == 1) = true ∧
      ((pending (rect true) [{ rect true with frame := 1, frames := 1 }]).work.disp.running[0]? =
          some { rect true with frame := 1, frames := 1 }) ∧
      (shownInfo.work.disp.infoAt = some 0 ∧ 3840 ≤ (shownInfo.bak.count - 0).toNat ∧ shownInfo.work.disp.resultAt = some 0) ∧
      after .infoTimeout (st shownInfo) (fun t => t.vol.work.disp.infoAt.isNone) = true ∧
      after .tokenResultTimeout (st shownInfo) (fun t => t.vol.work.disp.resultAt.isNone) = true := by decide +kernel

/-- A device of a chain: role 1 is a secondary, 2 the primary, in joint integration. -/
def chained (role : Nat) : Vol :=
  let v := code 10 (if role = 1 then 5 else 0) awake
  { v with
    work.th.roleTaken := BitVec.ofNat 2 role
    work.chain.mode := some true
    work.chain.takesPart := true
    work.chain.inCycle := true }

/-- SYNC is low before a cycle of a plan with one path. -/
def syncLow (role : Nat) : Vol :=
  let v := code 0 0 (chained role)
  { v with
    bak.count := 6400
    bak.power.pll := true
    bak.power.src := .crystal
    bak.power.hfxo := true
    work.chain.syncLow := true
    work.cyc.nextRate := v.work.cyc.rate }

/-- One tick before a start tick. -/
def leading : Vol := { syncLow 2 with
  bak.count := 6399
  work.chain.syncLow := false }

def onClko : Vol := { chained 1 with bak.power.src := .clko }

def onClkoCycle : Vol := { onClko with work.cyc.running := true }

/-- A secondary whose cycle still runs. -/
def chainBusy : Vol := { chained 1 with work.cyc.running := true }

theorem witness_SyncStartsTheCyclesOfAChain :
    (isPrimary leading = true ∧ sourceActive leading .cycle = true ∧ coreRuns leading = true ∧ canWake leading = false) ∧
      (isSecondary (chained 1) = true ∧ coreRuns (chained 1) = true ∧ (chained 1).work.cyc.running = false) ∧
      (let v := syncLow 2
       v.work.chain.syncLow = true ∧ cyclesRun v = true ∧ v.work.th.omitCycle = false ∧ v.work.cyc.running = false ∧
         v.work.loop.running = false ∧ v.bak.power.pll = true ∧ v.work.cyc.abandon = false ∧ roundsOf (th v 0) ≠ [] ∧
         v.work.chain.syncHeld = false ∧ isPrimary v = true) ∧
      (cyclesRun (syncLow 1) = true ∧ isPrimary (syncLow 1) = false ∧ (syncLow 1).work.chain.takesPart = true) ∧
      (coreRuns onClko = true ∧ onClko.bak.power.src = .clko ∧ onClko.work.cyc.running = false ∧
        onClkoCycle.work.cyc.running = true ∧ onClkoCycle.work.cyc.kind = .normal ∧ onClkoCycle.work.cyc.pairsDone = false) ∧
      after (.syncRise 12000) (st { syncLow 2 with bak.count := 6399, work.cyc.seen := some 6336 })
        (fun t => t.vol.work.cyc.startTick == 6399) = true ∧
      after .clkoStop (st onClkoCycle) (fun t => t.vol.work.cyc.degraded) = true ∧
      after .clkoStop (st { onClkoCycle with work.cyc.pairsDone := true }) (fun t => t.vol.work.flow.degraded) = true ∧
      (isSecondary chainBusy = true ∧ coreRuns chainBusy = true ∧ canWake chainBusy = false ∧
        chainBusy.work.cyc.running = true) ∧
      (let v := { syncLow 2 with bak.power.warning := true }
       isPrimary v = true ∧ v.work.chain.syncLow = true ∧ coreRuns v = true ∧ cyclesRun v = false) ∧
      ((syncLow 2).work.loop.endTick ≠ some (syncLow 2).bak.count) ∧
      after .syncFall (st chainBusy) (fun t => !t.vol.work.chain.takesPart && t.vol.work.chain.inCycle &&
        t.vol.work.cyc.overruns == 1) = true ∧
      after (.chainSyncStuck 12000) (st { syncLow 2 with bak.power.warning := true })
        (fun t => !t.vol.work.cyc.running && !t.vol.work.chain.syncLow) = true ∧
      after .clkoStop (st { onClko with work.fe.powered := true }) (fun t => t.vol.work.cyc.bloomRc) = true ∧
      after .syncLead (st leading) (fun t => t.vol.work.chain.syncHeld) = true ∧
      after .syncFall (st (chained 1)) (fun t => t.vol.work.chain.takesPart) = true ∧
      after (.syncRise 12000) (st (syncLow 1)) (fun t => t.vol.work.cyc.running) = true ∧
      after (.chainSyncStuck 12000) (st (syncLow 2)) (fun t => !t.vol.work.chain.takesPart) = true ∧
      after .clkoStop (st onClko) (fun t => t.vol.bak.power.src == .rc) = true := by decide +kernel

/-- A whole chain record. -/
def chainRec (src type : Nat) (body : Bytes) : ChainRec :=
  let r : ChainRec :=
    { src := BitVec.ofNat 8 src, type := BitVec.ofNat 8 type, len := BitVec.ofNat 8 body.length, body, crc := 0 }
  { r with crc := chainCrc r }

/-- A loop-back of the chain link runs. -/
def chainLooped : Vol := { chained 1 with
  work.pt.lbResult := 1
  work.pt.lbRun := BitVec.ofNat 32 (5 * 2 ^ 28) }

def decidedOwn : Vol := { chained 2 with work.chain.ownDone := true }

/-- Position 1 has sent its END. -/
def endedOnce : Vol := setChainPos 1 { chainPos (chained 2) 1 with ends := 1 } (chained 2)

/-- The record of path 9, the first of position 1: CYCLE 7, V 11. -/
def pathNine : Vol := { chained 2 with work.chain.paths := [(9, 11 * 2 ^ 64 + 7)] }

theorem witness_ChainRecordsAreTaken :
    (coreRuns (chained 1) = true ∧ isSecondary (chained 1) = true ∧ chainGood 1 8 (chainRec 0 1 (List.replicate 8 32)) = true ∧
        (chainRec 0 1 (List.replicate 8 32)).src = 0 ∧ isPrimary (chained 2) = true) ∧
      (chainLoop (chained 2) = false ∧ (chained 2).work.chain.inCycle = true ∧ jointMode (chained 2) = true ∧
        (chained 2).work.cyc.pairsDone = false ∧
        chainGood 2 17 (chainRec 3 2 (8 :: List.replicate 16 1)) = true ∧ (chainRec 3 2 (8 :: List.replicate 16 1)).src = 3 ∧
        (chainPos (chained 2) 3).conflict = false) ∧
      (chainGood 3 10 (chainRec 1 3 (List.replicate 10 2)) = true ∧ (chainPos (chained 2) 1).ends = 0 ∧
        (chained 2).work.chain.ownDone = false) ∧
      (chainLoop (chained 1) = false ∧ chainLoop chainLooped = true ∧ coreRuns chainLooped = true) ∧
      after (.chainToken (chainRec 0 1 (List.replicate 8 32))) (st chainLooped) (fun t => t.vol.work.chain.chout == []) = true ∧
      ((chainPos endedOnce 1).ends ≠ 0 ∧ (chainPos endedOnce 1).conflict = false ∧ isPrimary endedOnce = true ∧
        endedOnce.work.chain.inCycle = true) ∧
      after (.chainEnd (chainRec 1 3 (List.replicate 10 2))) (st endedOnce) (fun t => (chainPos t.vol 1).conflict) = true ∧
      (pathNine.work.chain.paths.find? (·.1 == 9) = some (9, 11 * 2 ^ 64 + 7) ∧ (chainPos pathNine 1).conflict = false ∧
        (chainPos pathNine 1).lost = false ∧ (pathW pathNine 9).decided = false) ∧
      ((pathW (jointVerdict 9 pathNine) 9).v = 11 ∧ (pathW (jointVerdict 9 pathNine) 9).cycle = 7 ∧
        (pathW (jointVerdict 10 pathNine) 10).verdict = 2 ∧ (pathW (jointVerdict 32 pathNine) 32).cause = 1) ∧
      (let v := setChainPos 1 { chainPos pathNine 1 with lost := true } pathNine
       (pathW (jointVerdict 9 v) 9).verdict = 2) ∧
      (isPrimary decidedOwn = true ∧ decidedOwn.work.chain.ownDone = true) ∧
      after (.chainToken (chainRec 0 1 (List.replicate 8 32))) (st (chained 1)) (fun t => t.vol.bak.osf) = true ∧
      after (.tokenReturned (chainRec 0 1 (List.replicate 8 32))) (st (chained 2)) (fun t => !t.vol.work.chain.tokenOut) = true ∧
      after (.chainPath (chainRec 3 2 (8 :: List.replicate 16 1))) (st (chained 2))
        (fun t => t.vol.work.chain.paths == [(32, beNat (List.replicate 16 1))]) = true ∧
      after (.chainEnd (chainRec 1 3 (List.replicate 10 2))) (st (chained 2)) (fun t => (chainPos t.vol 1).known) = true ∧
      after .chainDecideTimeout (st decidedOwn) (fun t => t.vol.work.cyc.pairsDone) = true := by decide +kernel

/-- No row of the table has bits: no word spells a command, and nothing is put in the queue. -/
theorem test_no_word_spells_a_command (n w : Nat) :
    decodeTableWord n w = none ∧ State.reset.withFetchWord n w = State.reset := ⟨rfl, rfl⟩

end Sys2Proof.Tests
end

section
/-! SUPPORT. What the work that waits for a wake leaves of the backup domain: the STORE, the DISPLAY and a change of the life cycle
leave all of it, the LEDGER moves HWM alone, and the held ticks are taken off their list. -/

namespace Sys2Proof.Machine

/-! ### Folds -/

/-- A fold of steps that leave the backup domain leaves it. -/
theorem foldl_bak {α : Type} {f : Vol → α → Vol} (h : ∀ s a, (f s a).bak = s.bak) (l : List α) (s : Vol) :
    (l.foldl f s).bak = s.bak := by
  induction l generalizing s with
  | nil => rfl
  | cons a l ih => rw [List.foldl_cons, ih, h]

/-- The same for steps that carry further values beside the state. -/
theorem foldl_fst_bak {α β : Type} {f : Vol × β → α → Vol × β} (h : ∀ p a, (f p a).1.bak = p.1.bak) (l : List α) (p : Vol × β) :
    (l.foldl f p).1.bak = p.1.bak := by
  induction l generalizing p with
  | nil => rfl
  | cons a l ih => rw [List.foldl_cons, ih, h]

/-! ### The booking -/

@[simp] theorem deduct_bak (v : Nat) (s : Vol) : (deduct v s).bak = s.bak := by
  unfold deduct; split <;> rfl
@[simp] theorem ledgerTakes_bak (a b c d : Nat) (s : Vol) : (ledgerTakes a b c d s).bak = s.bak := by
  unfold ledgerTakes
  split
  · rfl
  · exact deduct_bak _ _
@[simp] theorem logLimitedTimes_bak (l : LogId) (c k d n : Nat) (s : Vol) : (logLimitedTimes l c k d n s).bak = s.bak :=
  (logLimitedTimes_frame l c k d n s).bak
@[simp] theorem pulseLost_bak (o n : Nat) (s : Vol) : (pulseLost o n s).bak = s.bak := by
  unfold pulseLost
  split
  · rfl
  · rw [logLimitedTimes_bak]; split <;> rfl
@[simp] theorem pulseBook_bak (a b : Nat) (f r : Bool) (s : Vol) : (pulseBook a b f r s).bak = s.bak := by
  unfold pulseBook
  split
  · rfl
  · simp only [pulseLost_bak]
@[simp] theorem endGap_bak (n : Nat) (q : Option Int) (s : Vol) : (endGap n q s).1.bak = s.bak := by
  unfold endGap
  split
  · rfl
  · split
    · split
      · split <;> exact limM_bak _ _ _ _
      · exact logM_bak _ _ _
    · exact logM_bak _ _ _
@[simp] theorem markUnfilled_bak (g : Gap) (s : Vol) : (markUnfilled g s).bak = s.bak := by
  unfold markUnfilled; split <;> rfl
@[simp] theorem decideGaps_bak (s : Vol) : (decideGaps s).1.bak = s.bak := by
  unfold decideGaps
  refine (foldl_fst_bak (fun p g => ?_) _ _).trans rfl
  exact (endGap_bak _ _ _).trans (markUnfilled_bak g p.1)
@[simp] theorem addGap_bak (c : BitVec 32) (n : Nat) (s : Vol) : (addGap c n s).bak = s.bak := by
  unfold addGap; split <;> rfl
@[simp] theorem bookFlow_bak (m : Nat) (s : Vol) : (bookFlow m s).1.bak = s.bak := by
  unfold bookFlow
  split
  · rfl
  · split
    · rfl
    · dsimp only
      split <;> split <;> rfl
@[simp] theorem spanBook_bak (a m q : Nat) (s : Vol) : (spanBook a m q s).bak = s.bak := rfl
@[simp] theorem bookTo_bak (c : BitVec 32) (s : Vol) : (bookTo c s).bak = s.bak := by
  unfold bookTo
  dsimp only
  split
  · rfl
  · split
    · rfl
    · simp only [pulseBook_bak, ledgerTakes_bak, addGap_bak, spanBook_bak, bookFlow_bak]
      split
      · rfl
      · exact decideGaps_bak s
@[simp] theorem bookLoop_bak (c : BitVec 32) (s : Vol) : (bookLoop c s).bak = s.bak := by
  unfold bookLoop
  dsimp only
  split
  · rfl
  · split <;> rfl
@[simp] theorem bookEvent_bak (c : BitVec 32) (s : Vol) : (bookEvent c s).bak = s.bak := by
  unfold bookEvent
  split
  · rfl
  · split
    · exact bookLoop_bak c s
    · split
      · rfl
      · exact bookTo_bak c s

/-! ### Pages -/

@[simp] theorem submitGuarded_bak (l : List Req) (s : Vol) : (submitGuarded l s).bak = s.bak := by
  unfold submitGuarded
  split
  · exact (logLimited_frame _ _ _ _ _).bak
  · exact submitAll_bak _ _
@[simp] theorem writeRec_bak (nv : Nv) (r : Rec) (c : Bool) (s : Vol) : (writeRec nv r c s).bak = s.bak :=
  (submitGuarded_bak _ _).trans (foldl_bak (fun s _ => submit_bak _ s) _ _)
@[simp] theorem writeRingA_bak (nv : Nv) (s : Vol) : (writeRingA nv s).bak = s.bak := by
  unfold writeRingA
  split
  · exact submitGuarded_bak _ _
  · rfl
@[simp] theorem writeRingB_bak (nv : Nv) (s : Vol) : (writeRingB nv s).bak = s.bak := by
  unfold writeRingB
  split
  · exact submitGuarded_bak _ _
  · rfl
@[simp] theorem writeRings_bak (nv : Nv) (s : Vol) : (writeRings nv s).bak = s.bak :=
  (writeRingB_bak _ _).trans (writeRingA_bak _ _)
@[simp] theorem appendProfile_bak (r : Nat) (s : Vol) : (appendProfile r s).bak = s.bak := by
  unfold appendProfile
  dsimp only
  split <;> simp only [submitGuarded_bak]
@[simp] theorem drainLoop_bak (nv : Nv) (n : Nat) (s : Vol) : (drainLoop nv n s).bak = s.bak := by
  induction n generalizing s with
  | zero => rfl
  | succ n ih =>
    unfold drainLoop
    split
    · rfl
    · rw [ih, submitGuarded_bak]
@[simp] theorem drainPending_bak (nv : Nv) (s : Vol) : (drainPending nv s).bak = s.bak := by
  unfold drainPending
  split
  · exact drainLoop_bak nv _ s
  · rfl

/-! ### A demand interval and a billing period -/

@[simp] theorem takeTariff_bak (t : Nat) (s : Vol) : (takeTariff t s).bak = s.bak := by
  unfold takeTariff
  dsimp only
  split
  · exact logG_bak _ _ _
  · rfl
@[simp] theorem closeGaps_bak (s : Vol) : (closeGaps s).bak = s.bak := by
  unfold closeGaps
  refine (foldl_bak (fun s g => markUnfilled_bak g s) _ _).trans ?_
  split
  · rfl
  · split <;> exact markUnfilled_bak _ _
@[simp] theorem closeInterval_bak (nv : Nv) (s : Vol) : (closeInterval nv s).bak = s.bak := by
  unfold closeInterval
  dsimp only
  split
  · rfl
  · split <;> simp only [writeRec_bak, appendProfile_bak, closeGaps_bak]
@[simp] theorem applyTokens_bak (nv : Nv) (s : Vol) : (applyTokens nv s).bak = s.bak := by
  unfold applyTokens
  dsimp only
  split
  · rfl
  · rw [writeRingB_bak]
    exact (foldl_bak (f := fun s t => applyToken t s) (fun _ _ => rfl) _ _).trans (bookEvent_bak _ s)
@[simp] theorem closeSpan_bak (n : Nat) (s : Vol) : (closeSpan n s).bak = s.bak := by
  unfold closeSpan
  dsimp only
  split <;> rfl
@[simp] theorem ledgerOsf_bak (s : Vol) : (ledgerOsf s).bak = s.bak := by
  unfold ledgerOsf; split <;> rfl

/-- s' differs from s in HWM and in the list of the held ticks at most, of the backup domain. -/
structure LedgerBak (s s' : Vol) : Prop where
  only : s'.bak = { s.bak with hwm := s'.bak.hwm, heldTicks := s'.bak.heldTicks }

theorem LedgerBak.of_bak {s s' : Vol} (h : s'.bak = s.bak) : LedgerBak s s' := ⟨by rw [h]⟩

theorem LedgerBak.trans {a b c : Vol} (h : LedgerBak a b) (k : LedgerBak b c) : LedgerBak a c :=
  ⟨by rw [k.only, h.only]⟩

/-- A fold of steps that leave the rest of the backup domain leaves it. -/
theorem ledgerBak_foldl {α : Type} {f : Vol → α → Vol} (h : ∀ s a, LedgerBak s (f s a)) (l : List α) (s : Vol) :
    LedgerBak s (l.foldl f s) := by
  induction l generalizing s with
  | nil => exact .of_bak rfl
  | cons a l ih => exact (h s a).trans (ih _)

theorem hwmTakes_ledgerBak (t : Nat) (s : Vol) : LedgerBak s (hwmTakes t s) := by
  unfold hwmTakes; split <;> exact ⟨rfl⟩

theorem advanceHwm_ledgerBak (t : Nat) (s : Vol) : LedgerBak s (advanceHwm t s) := by
  unfold advanceHwm
  dsimp only
  split
  · split
    · exact LedgerBak.trans (b := { s with bak.hwm := t, ret.led.setBack := false }) ⟨rfl⟩ (.of_bak (logM_bak _ _ _))
    · exact ⟨rfl⟩
  · exact .of_bak rfl

theorem quarterTick_ledgerBak (nv : Nv) (t : Nat) (c : BitVec 32) (s : Vol) : LedgerBak s (quarterTick nv t c s) := by
  unfold quarterTick
  dsimp only
  refine LedgerBak.trans (.of_bak ?_) ((hwmTakes_ledgerBak t _).trans (.of_bak ((writeRings_bak nv _).trans (takeTariff_bak t _))))
  change Vol.bak (if _ then _ else _) = _
  split
  · exact (appendProfile_bak _ _).trans (by simp)
  · simp

theorem billingClose_ledgerBak (nv : Nv) (t b l : Nat) (x y z : Bool) (s : Vol) : LedgerBak s (billingClose nv t b l x y z s) := by
  constructor
  simp [billingClose]

theorem billingTest_ledgerBak (nv : Nv) (b t : Nat) (x y z : Bool) (s : Vol) : LedgerBak s (billingTest nv b t x y z s) := by
  unfold billingTest
  dsimp only
  refine LedgerBak.trans (.of_bak (logLimitedTimes_bak .metrology 0x0305 0xFF 0xFF (boundsPassed s b t) s)) ?_
  generalize logLimitedTimes .metrology 0x0305 0xFF 0xFF (boundsPassed s b t) s = u
  refine LedgerBak.trans ?_ (advanceHwm_ledgerBak t _)
  split
  · refine LedgerBak.trans (.of_bak ?_) (billingClose_ledgerBak nv _ _ _ _ _ _ _)
    split
    · exact logM_bak _ _ _
    · rfl
  · exact .of_bak rfl

theorem billingStep_ledgerBak (nv : Nv) (b t : Nat) (x y z : Bool) (s : Vol) : LedgerBak s (billingStep nv b t x y z s) := by
  unfold billingStep
  dsimp only
  split
  · exact .of_bak rfl
  · exact LedgerBak.trans (b := { s with ret.led.seen := t }) (.of_bak rfl) (billingTest_ledgerBak _ _ _ _ _ _ _)

theorem heldSteps_ledgerBak (nv : Nv) (t : HeldTick) (s : Vol) : LedgerBak s (heldSteps nv t s) := by
  unfold heldSteps
  dsimp only
  have booked : (if t.osf = true then ledgerOsf (bookEvent t.count s) else bookEvent t.count s).bak = s.bak := by
    split <;> simp
  generalize (if t.osf = true then ledgerOsf (bookEvent t.count s) else bookEvent t.count s) = u at booked ⊢
  refine LedgerBak.trans (.of_bak booked) (LedgerBak.trans ?_ (billingStep_ledgerBak _ _ _ _ _ _ _))
  split
  · exact quarterTick_ledgerBak _ _ _ _
  · exact .of_bak rfl

/-- What a held tick shows of the timekeeper is put back after it (R335). -/
theorem heldTick_ledgerBak (nv : Nv) (t : HeldTick) (s : Vol) : LedgerBak s (heldTick nv t s) := by
  have h := (heldSteps_ledgerBak nv t { s with bak := atTick t s.bak }).only
  constructor
  simp only [heldTick]
  rw [h]
  rfl

theorem processHeld_ledgerBak (nv : Nv) (s : Vol) : LedgerBak s (processHeld nv s) := by
  unfold processHeld
  dsimp only
  split
  · exact ⟨rfl⟩
  · exact LedgerBak.trans (b := { s with bak.heldTicks := [] }) ⟨rfl⟩ (ledgerBak_foldl (fun s t => heldTick_ledgerBak nv t s) _ _)

/-! ### A change of the life cycle -/

@[simp] theorem stagePages_bak (l : List Req) (s : Vol) : (stagePages l s).bak = s.bak := submitAll_bak _ _
@[simp] theorem markLast_bak (s : Vol) : (markLast s).bak = s.bak := by
  unfold markLast
  dsimp only
  split <;> rfl
@[simp] theorem changeLog_bak (c d : Nat) (s : Vol) : (changeLog c d s).bak = s.bak :=
  (markLast_bak _).trans (logM_bak _ _ _)
@[simp] theorem newState_bak (c : Change) (s : Vol) : (newState c s).bak = s.bak := by
  unfold newState; split <;> rfl
@[simp] theorem beginStage_bak (nv : Nv) (s : Vol) : (beginStage nv s).bak = s.bak := by
  unfold beginStage
  split
  · rfl
  · next c _ =>
    split
    case h_4 => exact (changeLog_bak _ _ _).trans (stagePages_bak _ _)
    case h_5 =>
      refine (stagePages_bak _ _).trans ((newState_bak _ _).trans ?_)
      split <;> rfl
    case h_6 => dsimp only; split <;> exact stagePages_bak _ _
    case h_8 => rfl
    all_goals exact stagePages_bak _ _
@[simp] theorem toStage_bak (nv : Nv) (x : ChangeStage) (s : Vol) : (toStage nv x s).bak = s.bak := beginStage_bak _ _
@[simp] theorem stageLog_bak (c : Change) (s : Vol) : (stageLog c s).bak = s.bak := by
  unfold stageLog
  split
  · exact changeLog_bak _ _ _
  · exact changeLog_bak _ _ _
  · rfl
@[simp] theorem stageDone_bak (nv : Nv) (c : Change) (s : Vol) : (stageDone nv c s).bak = s.bak := by
  unfold stageDone
  split
  · exact toStage_bak _ _ _
  · rw [toStage_bak]
    split
    · exact stageLog_bak c s
    · rfl
@[simp] theorem moveChange_bak (nv : Nv) (s : Vol) : (moveChange nv s).bak = s.bak := by
  unfold moveChange
  split
  · split
    · rfl
    · split
      · exact stageDone_bak _ _ _
      · split
        · exact toStage_bak _ _ _
        · rfl
  · rfl
@[simp] theorem orderIfOpen_bak (s : Vol) : (orderIfOpen s).bak = s.bak := by
  unfold orderIfOpen
  dsimp only
  split
  · rfl
  · split <;> rfl

/-! ### The DISPLAY -/

@[simp] theorem dueCheck_bak (s : Vol) : (dueCheck s).bak = s.bak := by
  unfold dueCheck
  split
  · rfl
  · refine foldl_fst_bak (fun p r => ?_) _ _
    dsimp only
    split
    · rfl
    · split
      · exact limG_bak _ _ _ _
      · rfl
@[simp] theorem request_bak (r : Rect) (s : Vol) : (request r s).bak = s.bak := by
  have last : ∀ v : Vol, (if v.work.disp.pmic = true then v else dueCheck v).bak = v.bak := by
    intro v
    split
    · rfl
    · exact dueCheck_bak v
  unfold request
  split
  · rfl
  · refine (last _).trans ?_
    split
    · rfl
    · split
      · rfl
      · split
        · exact limG_bak _ _ _ _
        · rfl
@[simp] theorem fieldCheck_bak (nv : Nv) (s : Vol) : (fieldCheck nv s).bak = s.bak := by
  unfold fieldCheck
  split
  · rfl
  · refine foldl_bak (fun s p => ?_) _ _
    split
    · rfl
    · exact request_bak _ _
@[simp] theorem displayResume_bak (s : Vol) : (displayResume s).bak = s.bak := by
  unfold displayResume
  dsimp only
  split
  · exact dueCheck_bak s
  · rw [logG_bak]
    exact foldl_bak (f := fun s r => redraw r s) (fun s r => (request_bak _ _).trans (request_bak _ s)) _ _

/-! ### The wake -/

@[simp] theorem startHead_bak (s : Vol) : (startHead s).bak = s.bak := (startHead_frame s).bak
@[simp] theorem hbeatAlive_bak (s : Vol) : (hbeatAlive s).bak = s.bak := by
  unfold hbeatAlive
  dsimp only
  split
  · exact logG_bak _ _ _
  · rfl
@[simp] theorem hbeatCatchUp_bak (s : Vol) : (hbeatCatchUp s).bak = s.bak := by
  unfold hbeatCatchUp
  split
  · exact hbeatAlive_bak _
  · rfl
@[simp] theorem periodicDuties_bak (nv : Nv) (s : Vol) :
    (periodicDuties nv s).bak = { s.bak with power.lingerFrom := (periodicDuties nv s).bak.power.lingerFrom } := by
  unfold periodicDuties
  dsimp only
  split <;> split <;> simp

/-- What goes on at a wake moves HWM and the held ticks alone, of the backup domain (R335, R530). -/
theorem wakeTail_ledgerBak (nv : Nv) (s : Vol) : LedgerBak s (wakeTail nv s) := by
  refine (processHeld_ledgerBak nv s).trans (.of_bak ?_)
  unfold wakeTail
  dsimp only
  split <;> simp

end Sys2Proof.Machine
end

section
/-! SUPPORT. WATCHDOG_CHECK (R543): a check goes to each watched block, and nothing else is touched. -/

namespace Sys2Proof.Machine

/-! ### Elements of a vector -/

theorem vget_vset_self {α : Type} [Inhabited α] {n i : Nat} (v : Vector α n) (x : α) (h : i < n) : vget (vset v i x) i = x := by
  simp [vget, vset, Vector.getD, Array.getD, h]

theorem vget_vset_ne {α : Type} [Inhabited α] {n i j : Nat} (v : Vector α n) (x : α) (h : i ≠ j) :
    vget (vset v i x) j = vget v j := by
  by_cases hj : j < n <;> simp [vget, vset, Vector.getD, Array.getD, hj, h]

theorem vget_ofFn {α : Type} [Inhabited α] {n i : Nat} (f : Fin n → α) (h : i < n) : vget (Vector.ofFn f) i = f ⟨i, h⟩ := by
  simp [vget, Vector.getD, Array.getD, h]

/-! ### One check -/

/-- s' differs from s in the checks that wait and in the next free value at most. -/
structure CheckFrame (s s' : Vol) : Prop where
  only : s' = { s with bak.power.checks := s'.bak.power.checks, free := s'.free }

theorem CheckFrame.trans {a b c : Vol} (h : CheckFrame a b) (k : CheckFrame b c) : CheckFrame a c :=
  ⟨by rw [k.only, h.only]⟩

theorem CheckFrame.work {s s' : Vol} (h : CheckFrame s s') : s'.work = s.work := by rw [h.only]
theorem CheckFrame.ret {s s' : Vol} (h : CheckFrame s s') : s'.ret = s.ret := by rw [h.only]
theorem CheckFrame.count {s s' : Vol} (h : CheckFrame s s') : s'.bak.count = s.bak.count := by rw [h.only]
theorem CheckFrame.core {s s' : Vol} (h : CheckFrame s s') : s'.bak.power.core = s.bak.power.core := by rw [h.only]
theorem CheckFrame.watched {s s' : Vol} (h : CheckFrame s s') (b : Nat) : watched s' b = watched s b := by rw [h.only]; rfl

/-- What a check leaves of block b: no check waits for a block that is not watched, the first one has the present tick, and a later one
that tick or the one of the check before it. -/
def BlockChecked (s : Vol) (b : Nat) (check : Option (BitVec 32)) : Prop :=
  (watched s b = true → vget s.bak.power.checks b = none → check = some s.bak.count) ∧
    (watched s b = true → ∀ c, vget s.bak.power.checks b = some c → check = some c ∨ check = some s.bak.count) ∧
    (watched s b = false → check = none)

/-- The tick that a check leaves for its block. -/
def checkLeft (b : Nat) (s : Vol) : Option (BitVec 32) :=
  if !watched s b then none
  else match vget s.bak.power.checks b with
    | none => some s.bak.count
    | some t => some (if (freeBit s).1 then s.bak.count else t)

theorem checkBlock_checks (b : Nat) (s : Vol) :
    (checkBlock b s).bak.power.checks = vset s.bak.power.checks b (checkLeft b s) := by
  unfold checkBlock checkLeft
  split
  · rfl
  · cases vget s.bak.power.checks b <;> rfl

theorem checkBlock_frame (b : Nat) (s : Vol) : CheckFrame s (checkBlock b s) := by
  unfold checkBlock
  split
  · exact ⟨rfl⟩
  · split <;> exact ⟨rfl⟩

theorem checkLeft_blockChecked (b : Nat) (s : Vol) : BlockChecked s b (checkLeft b s) := by
  unfold checkLeft
  refine ⟨fun hw hc => ?_, fun hw c hc => ?_, fun hw => ?_⟩
  · simp [hw, hc]
  · cases (freeBit s).1 <;> simp [hw, hc]
  · simp [hw]

theorem checkBlock_self {b : Nat} (hb : b < 7) (s : Vol) : BlockChecked s b (vget (checkBlock b s).bak.power.checks b) := by
  rw [checkBlock_checks, vget_vset_self _ _ hb]
  exact checkLeft_blockChecked b s

theorem checkBlock_other {a b : Nat} (h : a ≠ b) (s : Vol) :
    vget (checkBlock a s).bak.power.checks b = vget s.bak.power.checks b := by
  rw [checkBlock_checks, vget_vset_ne _ _ h]

/-! ### The checks of a list of blocks -/

/-- The blocks of a list are checked one after another. -/
def checkBlocks (l : List Nat) (s : Vol) : Vol := l.foldl (fun s b => checkBlock b s) s

theorem checkBlocks_frame (l : List Nat) (s : Vol) : CheckFrame s (checkBlocks l s) := by
  induction l generalizing s with
  | nil => exact ⟨rfl⟩
  | cons a l ih => exact (checkBlock_frame a s).trans (ih _)

theorem checkBlocks_other {l : List Nat} {b : Nat} (h : b ∉ l) (s : Vol) :
    vget (checkBlocks l s).bak.power.checks b = vget s.bak.power.checks b := by
  induction l generalizing s with
  | nil => rfl
  | cons a l ih =>
    rw [List.mem_cons, not_or] at h
    exact (ih h.2 _).trans (checkBlock_other (Ne.symm h.1) s)

/-- A block that stands once in the list has been checked. -/
theorem checkBlocks_mem {l : List Nat} {b : Nat} (hl : l.Nodup) (hb : b ∈ l) (h7 : b < 7) (s : Vol) :
    BlockChecked s b (vget (checkBlocks l s).bak.power.checks b) := by
  induction l generalizing s with
  | nil => exact absurd hb List.not_mem_nil
  | cons a l ih =>
    obtain ⟨ha, hl⟩ := List.nodup_cons.mp hl
    change BlockChecked s b (vget (checkBlocks l (checkBlock a s)).bak.power.checks b)
    by_cases hab : a = b
    · subst hab
      rw [checkBlocks_other ha]
      exact checkBlock_self h7 s
    · have h := ih hl ((List.mem_cons.mp hb).resolve_left (Ne.symm hab)) (checkBlock a s)
      unfold BlockChecked at h ⊢
      rwa [(checkBlock_frame a s).watched, (checkBlock_frame a s).count, checkBlock_other hab] at h

/-! ### WATCHDOG_CHECK -/

theorem watchdogCheck_not_due {s : Vol} (h : checkDue s = false) : watchdogCheck s = s := by
  simp [watchdogCheck, h]

theorem watchdogCheck_due {s : Vol} (hc : coreRuns s = true) (h : checkDue s = true) :
    watchdogCheck s = { checkBlocks (List.range 7) s with bak.power.lastCheck := some s.bak.count } := by
  have count := (checkBlocks_frame (List.range 7) s).count
  simp only [checkBlocks] at count
  simp [watchdogCheck, hc, h, checkBlocks, count]

end Sys2Proof.Machine
end

section
/-! SUPPORT. SEAL (R25, R547): what a sample does, and what the acceptance of another level leaves of the sampling. -/

namespace Sys2Proof.Machine

/-! ### The samples -/

theorem sealSample_not_due (nv : Nv) (isOpen : Bool) {s : Vol} (h : sealSampleDue s = false) : sealSample nv isOpen s = s := by
  simp [sealSample, h]

theorem sealSampleDue_of_recent {s : Vol} {u : BitVec 32} (hu : s.bak.sealTick = some u) (h : (s.bak.count - u).toNat < 64) :
    sealSampleDue s = false := by
  simp only [sealSampleDue, hu, decide_eq_false_iff_not]
  omega

section
variable (nv : Nv) {isOpen : Bool} {s : Vol} (hoff : s.bak.power.state ≠ .off) (hkeep : s.bak.power.state ≠ .keep)
  (hdue : sealSampleDue s = true)
include hoff hkeep hdue

theorem sealSample_same (h : isOpen = s.bak.sealOpen) :
    sealSample nv isOpen s =
      { s with bak.sealTick := some s.bak.count, bak.sealCand := isOpen, bak.sealRun := 0 } := by
  simp [sealSample, hoff, hkeep, hdue, h]

theorem sealSample_run (h : isOpen ≠ s.bak.sealOpen) (hc : s.bak.sealCand = isOpen) (hr : s.bak.sealRun < 2) :
    sealSample nv isOpen s =
      { s with bak.sealTick := some s.bak.count, bak.sealCand := isOpen, bak.sealRun := s.bak.sealRun + 1 } := by
  have third : s.bak.sealRun + 1 < 3 := by omega
  simp [sealSample, hoff, hkeep, hdue, h, hc, third]

theorem sealSample_third (h : isOpen ≠ s.bak.sealOpen) (hc : s.bak.sealCand = isOpen) (hr : s.bak.sealRun = 2) :
    sealSample nv isOpen s =
      acceptSeal nv isOpen
        { s with bak.sealTick := some s.bak.count, bak.sealCand := isOpen, bak.sealRun := 0 } := by
  simp [sealSample, hoff, hkeep, hdue, h, hc, hr]

end

/-! ### What ends where SEAL is accepted as linked -/

@[simp] theorem logSeal_bak (isOpen : Bool) (s : Vol) : (logSeal isOpen s).bak = s.bak := by
  unfold logSeal
  dsimp only
  split <;> exact logM_bak _ _ _

@[simp] theorem loopEnds_bak (reason : Nat) (s : Vol) : (loopEnds reason s).bak = s.bak := rfl

theorem lineLoopDrop_bak (s : Vol) : (lineLoopDrop s).bak = s.bak := by
  unfold lineLoopDrop
  dsimp only
  split <;> rfl

theorem lineLoopResult_bak (result : Nat) (s : Vol) : (lineLoopResult result s).bak = s.bak := by
  have ended : (logG 0x0619 result
      { lineLoopDrop s with work.line.lbResult := BitVec.ofNat 3 result, work.line.lbSession := 0 }).bak = s.bak :=
    (logG_bak _ _ _).trans (lineLoopDrop_bak s)
  unfold lineLoopResult
  dsimp only
  split
  · exact (logG_bak _ _ _).trans ended
  · exact ended

theorem endLineLoops_bak (n : Nat) (s : Vol) : (endLineLoops n s).bak = s.bak := by
  unfold endLineLoops
  dsimp only
  split
  · exact lineLoopResult_bak _ _
  · rfl

theorem endPortLoops_bak (n : Nat) (s : Vol) : (endPortLoops n s).bak = s.bak := by
  unfold endPortLoops
  dsimp only
  split
  · exact logG_bak _ _ _
  · rfl

theorem endSession_bak (n : Nat) (s : Vol) : (endSession n s).bak = s.bak := by
  unfold endSession
  dsimp only
  rw [endLineLoops_bak, endPortLoops_bak]
  split <;> rfl

@[simp] theorem endSessionsIf_bak (p : Nat → Session → Bool) (s : Vol) : (endSessionsIf p s).bak = s.bak := by
  unfold endSessionsIf
  refine foldl_bak (fun s n => ?_) _ _
  split
  · split
    · exact endSession_bak _ _
    · rfl
  · rfl

/-! ### The wake that an accepted change asks for -/

/-- The accepted level of SEAL and the run of its samples stand. -/
structure SealStands (s s' : Vol) : Prop where
  sealOpen : s'.bak.sealOpen = s.bak.sealOpen
  sealRun : s'.bak.sealRun = s.bak.sealRun

theorem SealStands.of_bak {s s' : Vol} (h : s'.bak = s.bak) : SealStands s s' := ⟨by rw [h], by rw [h]⟩

theorem SealStands.trans {a b c : Vol} (h : SealStands a b) (k : SealStands b c) : SealStands a c :=
  ⟨k.sealOpen.trans h.sealOpen, k.sealRun.trans h.sealRun⟩

theorem LedgerBak.sealStands {s s' : Vol} (h : LedgerBak s s') : SealStands s s' := ⟨by rw [h.only], by rw [h.only]⟩

theorem wakeUp_sealStands (nv : Nv) (s : Vol) : SealStands s (wakeUp nv s) := by
  unfold wakeUp
  have tail := fun v => (wakeTail_ledgerBak nv v).sealStands
  exact ⟨(tail _).sealOpen, (tail _).sealRun⟩

theorem periodicDuties_sealStands (nv : Nv) (s : Vol) : SealStands s (periodicDuties nv s) := by
  constructor <;> rw [periodicDuties_bak]

theorem wakeFor_sealStands (nv : Nv) (source : WakeSource) (collision : Bool) (s : Vol) :
    SealStands s (wakeFor nv source collision s) := by
  have woken : SealStands s (wakeUp nv (if source == .supervisor then s else wakeRecord (wakeCode source) collision s)) := by
    refine SealStands.trans ?_ (wakeUp_sealStands nv _)
    split <;> exact ⟨rfl, rfl⟩
  unfold wakeFor
  dsimp only
  split
  · exact woken.trans (periodicDuties_sealStands nv _)
  · exact woken

theorem tryWake_sealStands (nv : Nv) (r : Raised) (collision : Bool) (s : Vol) : SealStands s (tryWake nv r collision s) := by
  unfold tryWake
  split
  · split
    · exact wakeFor_sealStands _ _ _ _
    · exact .of_bak rfl
  · exact .of_bak rfl

theorem raiseWake_sealStands (nv : Nv) (w : WakeSource) (also : List WakeSource) (s : Vol) :
    SealStands s (raiseWake nv w also s) := by
  have seen : (if s.bak.power.entering = true then freeBit s else (false, s)).2.bak = s.bak := by
    split <;> rfl
  unfold raiseWake
  split
  · exact SealStands.trans (.of_bak seen) (tryWake_sealStands nv _ _ _)
  · exact .of_bak rfl

theorem serveSeal_sealStands (nv : Nv) (s : Vol) : SealStands s (serveSeal nv s) := by
  unfold serveSeal
  split
  · exact raiseWake_sealStands _ _ _ _
  · exact .of_bak rfl

/-- An accepted level stands after all that its acceptance sets off, and the samples begin anew. -/
theorem acceptSeal_sealStands (nv : Nv) (isOpen : Bool) (s : Vol) :
    SealStands { s with bak.sealOpen := isOpen } (acceptSeal nv isOpen s) := by
  unfold acceptSeal
  dsimp only
  have logged := logSeal_bak isOpen { s with bak.sealOpen := isOpen }
  generalize logSeal isOpen { s with bak.sealOpen := isOpen } = u at logged ⊢
  have ended : (if isOpen = true then orderIfOpen u
      else endSessionsIf (fun _ x => x.role == .metrology && x.initialKey) (loopEnds 3 u)).bak = u.bak := by
    split <;> simp
  generalize (if isOpen = true then orderIfOpen u
      else endSessionsIf (fun _ x => x.role == .metrology && x.initialKey) (loopEnds 3 u)) = v at ended ⊢
  refine SealStands.trans (.of_bak (ended.trans logged)) ?_
  split
  · exact .of_bak rfl
  · exact SealStands.trans (b := { v with bak.power.sealNews := true }) ⟨rfl, rfl⟩ (serveSeal_sealStands nv _)

end Sys2Proof.Machine
end

section
/-! SUPPORT. THATCH_REREAD (R45, R46): its events touch the logs alone. -/

namespace Sys2Proof.Machine

/-- A fold of steps that touch the logs alone touches the logs alone. -/
theorem logFrame_foldl {α : Type} {f : Vol → α → Vol} (h : ∀ s a, LogFrame s (f s a)) (l : List α) (s : Vol) :
    LogFrame s (l.foldl f s) := by
  induction l generalizing s with
  | nil => exact LogFrame.refl s
  | cons a l ih => exact (h s a).trans (ih _)

theorem rereadEvent_frame (data atReset before now : Nat) (s : Vol) : LogFrame s (rereadEvent data atReset before now s) := by
  unfold rereadEvent
  split
  · exact LogFrame.refl s
  · split <;> exact logG_frame _ _ _

/-- The thatch as a re-read leaves it (R46). -/
def rereadThatch (nv : Nv) (i : StartIn) (inDoze : Bool) (tick : BitVec 32) (old : Thatch) : Thatch :=
  { old with
    entries := Vector.ofFn fun f =>
      rereadEntry (rtrefOf nv) f.val (ratioOf (vget i.conv f.val)) (vget old.entries f.val)
    roleRead := i.role
    rolePending := i.role != old.roleAtReset
    lastRead := tick
    omitCycle := !inDoze }

theorem reread_th (nv : Nv) (i : StartIn) {inDoze : Bool} {s : Vol} (h : rereadDue s inDoze = true) :
    (reread nv i inDoze s).work.th = rereadThatch nv i inDoze s.bak.count s.work.th := by
  simp only [reread, h, Bool.not_true, Bool.false_eq_true, if_false]
  rw [(rereadEvent_frame _ _ _ _ _).work_th, (logFrame_foldl (fun v _ => rereadEvent_frame _ _ _ _ v) _ _).work_th]
  rfl

/-- Of one field a re-read renews LATEST and PENDING, and takes no code (R46). -/
theorem rereadThatch_entry (nv : Nv) (i : StartIn) (inDoze : Bool) (tick : BitVec 32) (old : Thatch) {f : Nat} (hf : f < 12) :
    vget (rereadThatch nv i inDoze tick old).entries f =
      rereadEntry (rtrefOf nv) f (ratioOf (vget i.conv f)) (vget old.entries f) :=
  vget_ofFn _ hf

end Sys2Proof.Machine
end

section
/-! PROOF. The blocks are checked, SEAL is sampled and the thatch is read again (R25, R45, R46, R543). -/

namespace Sys2Proof.Machine

theorem exec_watchdogCheck (s : State) : exec .watchdogCheck s = .next (s.up (watchdogCheck s.vol)) := rfl

theorem exec_sealSample (isOpen : Bool) (s : State) :
    exec (.sealSample isOpen) s = .next (s.up (sealSample s.nv isOpen s.vol)) := rfl

theorem exec_thatchReread (i : StartIn) (inDoze : Bool) (s : State) :
    exec (.thatchReread i inDoze) s = .next (s.up (reread s.nv i inDoze s.vol)) := rfl

/-- A due check renews the checks of the seven blocks and its own tick (R543). -/
theorem watchdogCheck_checks {v : Vol} (hcore : coreRuns v = true) (hdue : checkDue v = true) :
    (watchdogCheck v).work = v.work ∧ (watchdogCheck v).ret = v.ret ∧ (watchdogCheck v).bak.power.core = true ∧
      (watchdogCheck v).bak.power.lastCheck = some v.bak.count ∧
      ∀ b < 7, BlockChecked v b (vget (watchdogCheck v).bak.power.checks b) := by
  have frame := checkBlocks_frame (List.range 7) v
  have checked : ∀ b < 7, BlockChecked v b (vget (checkBlocks (List.range 7) v).bak.power.checks b) :=
    fun b hb => checkBlocks_mem List.nodup_range (List.mem_range.mpr hb) hb v
  rw [watchdogCheck_due hcore hdue]
  generalize checkBlocks (List.range 7) v = u at frame checked ⊢
  exact ⟨frame.work, frame.ret, frame.core.trans hcore, rfl, checked⟩

/-- Settles O18: each of the three commands by the lemma that says what its step leaves; the accepted SEAL level stands through the
wake that its acceptance may set off. -/
theorem blocksAreCheckedAndSealAndThatchRead : Obligations.BlocksAreCheckedAndSealAndThatchRead := by
  unfold Obligations.BlocksAreCheckedAndSealAndThatchRead
  refine ⟨fun s hcore => ⟨fun hdue => ?_, fun hdue => ?_⟩,
    fun s isOpen hoff hkeep => ⟨fun hdue => ⟨fun h => ?_, fun h hc hr => ?_, fun h hc hr => ?_⟩, fun u hu hn => ?_,
      fun i inDoze hdue => ?_⟩⟩
  · rw [exec_watchdogCheck, watchdogCheck_not_due hdue, State.up_self]
  · obtain ⟨hwork, hret, hon, hlast, hchecks⟩ := watchdogCheck_checks hcore hdue
    exact ⟨_, exec_watchdogCheck s, rfl, hwork, hret, hon, hlast, hchecks⟩
  · rw [exec_sealSample, sealSample_same s.nv hoff hkeep hdue h]
    rfl
  · rw [exec_sealSample, sealSample_run s.nv hoff hkeep hdue h hc hr]
    rfl
  · refine ⟨_, exec_sealSample isOpen s, ?_, ?_, rfl⟩ <;> rw [State.up_vol, sealSample_third s.nv hoff hkeep hdue h hc hr]
    · exact (acceptSeal_sealStands _ _ _).sealOpen
    · exact (acceptSeal_sealStands _ _ _).sealRun
  · rw [exec_sealSample, sealSample_not_due s.nv isOpen (sealSampleDue_of_recent hu hn), State.up_self]
  · refine ⟨_, exec_thatchReread i inDoze s, rfl, ?_⟩
    rw [State.up_vol, reread_th s.nv i hdue]
    refine ⟨rfl, rfl, rfl, fun f hf => ?_⟩
    dsimp only
    rw [rereadThatch_entry _ _ _ _ _ hf]
    exact ⟨rfl, rfl, rfl, rfl, rfl⟩

end Sys2Proof.Machine
end

section
/-! PROOF. A step is exec of the front command (O1). -/

namespace Sys2Proof.Machine

/-- Settles O1: a step matches on the queue, and its case of a command is exec by definition. -/
theorem stepRunsTheFrontCommand : Obligations.StepRunsTheFrontCommand := by
  unfold Obligations.StepRunsTheFrontCommand
  intro c rest s
  rfl

end Sys2Proof.Machine
end

section
/-! SUPPORT and PROOF. LINK (R71, R160, R441 to R445): what a row of a transaction sends, takes and leaves (O52). -/

namespace Sys2Proof.Machine

/-! ### Bits and bytes -/

@[simp] theorem byteBits_length (b : Byte) : (byteBits b).length = 8 := by simp [byteBits]

theorem bitsNat_byteBits : ∀ b : Byte, bitsNat (byteBits b) = b.toNat := by decide

theorem chunks_flatMap_byteBits (b : Bytes) : chunks 8 b.length (b.flatMap byteBits) = b.map byteBits := by
  induction b with
  | nil => rfl
  | cons x b ih =>
    have nonempty : (byteBits x ++ b.flatMap byteBits).isEmpty = false := by
      cases h : byteBits x ++ b.flatMap byteBits with
      | nil => simpa using congrArg List.length h
      | cons _ _ => rfl
    rw [List.flatMap_cons, List.length_cons, chunks, nonempty]
    simp [ih]

/-- Whole bytes come through an empty shift register as they are. -/
@[simp] theorem shiftIn_bytes (b : Bytes) : shiftIn [] b [] = (b, []) := by
  simp [shiftIn, chunks_flatMap_byteBits, Function.comp_def, bitsNat_byteBits, Nat.mul_comm]

/-- Fewer bits than a byte has stay in the shift register. -/
theorem shiftIn_tail {tail : List Bool} (h : tail.length < 8) : shiftIn [] [] tail = ([], tail) := by
  simp [shiftIn, Nat.div_eq_of_lt h, chunks]

theorem beNat_beBytes_two {n : Nat} (h : n < 65536) : beNat (beBytes 2 n) = n := by
  simp [beNat, beBytes]
  omega

/-! ### Transactions -/

/-- The port as a transaction holds it: LCS_N is low (R69). -/
def linkHeld (s : Vol) : Vol := { s with work.pt.link.lcsLow := true }

theorem linkPort_of_set {g : Vol → Vol} {s : Vol} (h : portInSet s .link = true) : linkPort g s = g (linkHeld s) := if_pos h

theorem linkBegin_new (op : Byte) {s : Vol} (h : s.work.pt.link.selected = false) :
    linkBegin op s = { s with
      work.pt.link.selected := true
      work.pt.link.shift := []
      work.pt.link.lsdo := (linkStatus s).getLsbD 0
      work.pt.link.op := op
      work.pt.link.ready := coreRuns s
      work.pt.link.rx := []
      work.pt.link.shifted := 0
      work.pt.link.sent := [0x00, linkStatus s]
      work.pt.link.rxOverflow := false } := by
  simp [linkBegin, h]

theorem linkBegin_held {op : Byte} {s : Vol} (h : s.work.pt.link.selected = true) (hop : s.work.pt.link.op = op) :
    linkBegin op s = { s with work.pt.link.sent := [] } := by
  simp [linkBegin, h, hop]

/-! ### Records of the host -/

theorem hostRecords_nil (nv : Nv) (f : Nat) (s : Vol) : hostRecords nv f [] s = (s, []) := by cases f <;> rfl

theorem hostRecords_whole (nv : Nv) (f : Nat) {t : Byte} {body : Bytes} (s : Vol) (ht : t ≠ 0) (hb : body.length < 65536) :
    hostRecords nv (f + 1) (t :: (beBytes 2 body.length ++ body)) s = (hostRecord nv t.toNat body s, []) := by
  have len : (beBytes 2 body.length ++ body).length = 2 + body.length := by simp
  have count : beNat ((beBytes 2 body.length ++ body).take 2) = body.length := by
    rw [List.take_left' (length_beBytes 2 _), beNat_beBytes_two hb]
  have rest : (beBytes 2 body.length ++ body).drop (2 + body.length) = [] := List.drop_eq_nil_of_le len.le
  have record : slice (beBytes 2 body.length ++ body) 2 body.length = body := by
    simp [slice, List.drop_left' (length_beBytes 2 body.length)]
  rw [hostRecords, if_neg ht]
  simp only [count, len, rest, record, hostRecords_nil]
  rw [if_neg (by omega)]

theorem hostRecords_waits (nv : Nv) (f : Nat) {t : Byte} {r : Bytes} (s : Vol) (ht : t ≠ 0)
    (hr : r.length < 2 ∨ r.length < 2 + beNat (r.take 2)) : hostRecords nv (f + 1) (t :: r) s = (s, t :: r) := by
  rw [hostRecords, if_neg ht]
  exact if_pos (by omega)

/-! ### WRITE (R441 to R443) -/

section
variable {s : Vol} (nv : Nv) (hsel : s.work.pt.link.selected = true) (hshift : s.work.pt.link.shift = [])
include hsel hshift

/-- The bits of a WRITE in progress that reach CORE (R443). -/
theorem linkWrite_taken {b all rest : Bytes} {tail left : List Bool} {u : Vol} (hop : s.work.pt.link.op = 1)
    (hready : s.work.pt.link.ready = true) (hcore : coreRuns s = true) (hloop : portLooped s .link = false)
    (hbits : shiftIn [] b tail = (all, left)) (hrx : s.work.pt.link.rx = [])
    (hrec : hostRecords nv (all.length + 1) all
      { s with work.pt.link.sent := [], work.pt.link.shift := left, work.pt.link.lsdo := false } = (u, rest)) :
    linkWrite nv b tail s = { u with work.pt.link.rx := rest } := by
  rw [linkWrite, linkBegin_held hsel hop]
  simp only [hshift, hbits]
  refine (if_neg (by simpa [coreRuns] using hcore)).trans ?_
  refine (if_neg (by simp [hready])).trans ?_
  refine (if_neg (by simpa [portLooped] using hloop)).trans ?_
  simp only [hrx, List.nil_append] at hrec ⊢
  rw [hrec]

/-- A WRITE that began with RDY 0 takes nothing (R442). -/
theorem linkWrite_not_ready (b : Bytes) (hop : s.work.pt.link.op = 1) (hready : s.work.pt.link.ready = false)
    (hcore : coreRuns s = true) :
    linkWrite nv b [] s =
      { s with work.pt.link.sent := [], work.pt.link.shift := [], work.pt.link.lsdo := false } := by
  rw [linkWrite, linkBegin_held hsel hop]
  simp only [hshift, shiftIn_bytes]
  refine (if_neg (by simpa [coreRuns] using hcore)).trans ?_
  exact if_pos (by simp [hready])

omit nv in
/-- The bytes of a transaction with another OP are ignored (R441). -/
theorem linkIgnore_held (b : Bytes) {op : Byte} (hop : s.work.pt.link.op = op) :
    linkIgnore op b [] s =
      { s with work.pt.link.sent := [], work.pt.link.shift := [], work.pt.link.lsdo := false } := by
  rw [linkIgnore, linkBegin_held hsel hop]
  simp [hshift]

end

/-! ### READ (R444, R445) -/

section
variable {s : Vol} {n : Nat}

theorem linkShift_filler (hn : 0 < n) (h : linkPick s.work.pt.link = none) :
    linkShift (n + 1) n s = { s with work.pt.link.sent := s.work.pt.link.sent ++ List.replicate n 0x00 } := by
  rw [linkShift, if_neg (by omega), h]

variable {q : Nat} {r : Bytes} (hn : 0 < n) (hq : linkPick s.work.pt.link = some q) (hr : (linkQueue s.work.pt.link q).headD [] = r)
include hn hq hr

theorem linkShift_part (h : s.work.pt.link.shifted + n < r.length) :
    linkShift (n + 1) n s = { s with
      work.pt.link.sent := s.work.pt.link.sent ++ slice r s.work.pt.link.shifted n
      work.pt.link.shifted := s.work.pt.link.shifted + n
      work.pt.link.source := q } := by
  have all : min n (r.length - s.work.pt.link.shifted) = n := by omega
  rw [linkShift, if_neg (by omega), hq]
  simp only [hr, all]
  exact if_neg (by omega)

theorem linkShift_whole (h : s.work.pt.link.shifted + n = r.length) :
    linkShift (n + 1) n s =
      linkPop q r { s with work.pt.link.sent := s.work.pt.link.sent ++ slice r s.work.pt.link.shifted n } := by
  have all : min n (r.length - s.work.pt.link.shifted) = n := by omega
  rw [linkShift, if_neg (by omega), hq]
  simp only [hr, all]
  refine (if_pos h).trans ?_
  rw [Nat.sub_self]
  cases n <;> rfl

end

/-- The port as the next row of a transaction in progress finds it: nothing sent, no bit held. -/
def linkCleared (s : Vol) : Vol := { s with work.pt.link.sent := [], work.pt.link.shift := [] }

/-- A READ in progress sends what its queues give, and LSDO holds the last bit (R71, R444). -/
theorem linkRead_taken {s : Vol} (n : Nat) (hsel : s.work.pt.link.selected = true) (hop : s.work.pt.link.op = 2)
    (hshift : s.work.pt.link.shift = []) (hready : s.work.pt.link.ready = true) (hcore : coreRuns s = true)
    (hloop : portLooped s .link = false) :
    linkRead (8 * n) s =
      { linkShift (n + 1) n (linkCleared s) with
        work.pt.link.lsdo := lsdoAfter (linkShift (n + 1) n (linkCleared s)).work.pt.link } := by
  rw [linkRead, linkBegin_held hsel hop]
  simp only [hshift, List.length_nil, Nat.zero_add, Nat.mul_mod_right, List.replicate_zero,
    Nat.mul_div_right n (by decide : 0 < 8)]
  refine (if_neg (by simp [coreRuns] at hcore ⊢; simp [hcore, hready])).trans ?_
  exact if_neg (by simpa [portLooped] using hloop)

/-! ### A record that has been sent in full (R444) -/

/-- A fold of steps that leave a part of the state leaves it. -/
theorem foldl_keeps {α β : Type} {g : Vol → β} {f : Vol → α → Vol} (h : ∀ s a, g (f s a) = g s) (l : List α) (s : Vol) :
    g (l.foldl f s) = g s := by
  induction l generalizing s with
  | nil => rfl
  | cons a l ih => rw [List.foldl_cons, ih, h]

/-- A fold of steps that each leave the state leaves it. -/
theorem foldl_of_fixed {α : Type} {f : Vol → α → Vol} {s : Vol} {l : List α} (h : ∀ a ∈ l, f s a = s) : l.foldl f s = s := by
  induction l with
  | nil => rfl
  | cons a l ih =>
    rw [List.foldl_cons, h a List.mem_cons_self]
    exact ih fun b hb => h b (List.mem_cons_of_mem a hb)

theorem takeSettings_bak (p : Port) (s : Vol) : (takeSettings p s).bak = s.bak := by
  unfold takeSettings
  split
  · split <;> rfl
  · rfl

theorem takeSettings_ret (p : Port) (s : Vol) : (takeSettings p s).ret = s.ret := by
  unfold takeSettings
  split
  · split <;> rfl
  · rfl

theorem takeSettings_ex (p : Port) (s : Vol) : (takeSettings p s).work.ex = s.work.ex := by
  unfold takeSettings
  split
  · split <;> rfl
  · rfl

theorem takeSettings_link (p : Port) (s : Vol) : (takeSettings p s).work.pt.link = s.work.pt.link := by
  unfold takeSettings
  split
  · split <;> rfl
  · rfl

theorem lineLoopDrop_pt (s : Vol) : (lineLoopDrop s).work.pt = s.work.pt := by
  unfold lineLoopDrop
  dsimp only
  split <;> rfl

theorem lineLoopResult_pt (result : Nat) (s : Vol) : (lineLoopResult result s).work.pt = s.work.pt := by
  have ended : (logG 0x0619 result
      { lineLoopDrop s with work.line.lbResult := BitVec.ofNat 3 result, work.line.lbSession := 0 }).work.pt = s.work.pt :=
    (logG_work_pt _ _ _).trans (lineLoopDrop_pt s)
  unfold lineLoopResult
  dsimp only
  split
  · exact (logG_work_pt _ _ _).trans ended
  · exact ended

theorem endSession_link (n : Nat) (s : Vol) : (endSession n s).work.pt.link = s.work.pt.link := by
  have line : ∀ u : Vol, (endLineLoops n u).work.pt = u.work.pt := fun u => by
    unfold endLineLoops
    dsimp only
    split
    · exact lineLoopResult_pt _ _
    · rfl
  have port : ∀ u : Vol, (endPortLoops n u).work.pt.link = u.work.pt.link := fun u => by
    unfold endPortLoops
    dsimp only
    split
    · rw [logG_work_pt]
    · rfl
  unfold endSession
  dsimp only
  rw [line, port]
  split <;> rfl

theorem endSessionsIf_link (p : Nat → Session → Bool) (s : Vol) : (endSessionsIf p s).work.pt.link = s.work.pt.link := by
  unfold endSessionsIf
  refine foldl_keeps (g := fun u => u.work.pt.link) (fun u n => ?_) _ _
  split
  · split
    · exact endSession_link _ _
    · rfl
  · rfl

theorem endSessionsIf_none {p : Nat → Session → Bool} {s : Vol} (h : ∀ i < 4, ∀ x, slotAt s i = some x → p i x = false) :
    endSessionsIf p s = s := by
  unfold endSessionsIf
  refine foldl_of_fixed fun i hi => ?_
  split
  · next x hx =>
    rw [h i (by simp at hi; omega) x hx]
    rfl
  · rfl

theorem replyLeft_bak (p : Port) (b : Bytes) (s : Vol) : (replyLeft p b s).bak = s.bak := by
  unfold replyLeft endClosed
  rw [endSessionsIf_bak, takeSettings_bak]
  rfl

theorem replyLeft_link (p : Port) (b : Bytes) (s : Vol) : (replyLeft p b s).work.pt.link = s.work.pt.link := by
  unfold replyLeft endClosed
  rw [endSessionsIf_link, takeSettings_link]
  rfl

theorem replyLeft_ret (p : Port) (b : Bytes) {s : Vol} (h : ∀ i < 4, ∀ x, slotAt s i = some x → x.closing = false) :
    (replyLeft p b s).ret = s.ret := by
  unfold replyLeft endClosed
  rw [endSessionsIf_none, takeSettings_ret]
  · rfl
  · intro i hi x hx
    rw [slotAt, takeSettings_ex] at hx
    rw [h i hi x hx, Bool.false_and]

theorem linkPop_reply (r : Bytes) (s : Vol) :
    linkPop 1 r s =
      replyLeft .link (r.drop 3) { s with work.pt.link.shifted := 0, work.pt.link.graoc := s.work.pt.link.graoc.tail } := rfl

theorem linkPop_bak (q : Nat) (r : Bytes) (s : Vol) : (linkPop q r s).bak = s.bak := by
  unfold linkPop
  split
  case h_2 => exact replyLeft_bak _ _ _
  all_goals rfl

theorem linkPop_ret (q : Nat) (r : Bytes) {s : Vol} (h : ∀ i < 4, ∀ x, slotAt s i = some x → x.closing = false) :
    (linkPop q r s).ret = s.ret := by
  unfold linkPop
  split
  case h_2 => exact replyLeft_ret _ _ h
  all_goals rfl

/-- The queue loses its first record, and the next one begins at its first byte. -/
theorem linkPop_link {q : Nat} (hq : q < 4) (r : Bytes) (s : Vol) :
    (linkPop q r s).work.pt.link.sent = s.work.pt.link.sent ∧ (linkPop q r s).work.pt.link.shifted = 0 ∧
      linkQueue (linkPop q r s).work.pt.link q = (linkQueue s.work.pt.link q).tail := by
  match q, hq with
  | 0, _ => exact ⟨rfl, rfl, rfl⟩
  | 1, _ =>
    rw [linkPop_reply, replyLeft_link]
    exact ⟨rfl, rfl, rfl⟩
  | 2, _ => exact ⟨rfl, rfl, rfl⟩
  | 3, _ => exact ⟨rfl, rfl, rfl⟩

/-- What is left of a record that has been sent in full (R444). -/
theorem linkShift_whole_leaves {s : Vol} {n q : Nat} {r : Bytes} (hn : 0 < n) (hq : linkPick s.work.pt.link = some q)
    (hr : (linkQueue s.work.pt.link q).headD [] = r) (hq4 : q < 4) (h : s.work.pt.link.shifted + n = r.length) :
    (linkShift (n + 1) n s).bak = s.bak ∧
      ((∀ i < 4, ∀ x, slotAt s i = some x → x.closing = false) → (linkShift (n + 1) n s).ret = s.ret) ∧
      (linkShift (n + 1) n s).work.pt.link.sent = s.work.pt.link.sent ++ slice r s.work.pt.link.shifted n ∧
      (linkShift (n + 1) n s).work.pt.link.shifted = 0 ∧
      linkQueue (linkShift (n + 1) n s).work.pt.link q = (linkQueue s.work.pt.link q).tail := by
  have link := linkPop_link hq4 r { s with work.pt.link.sent := s.work.pt.link.sent ++ slice r s.work.pt.link.shifted n }
  rw [linkShift_whole hn hq hr h]
  refine ⟨by rw [linkPop_bak], fun hclosing => ?_, link⟩
  rw [linkPop_ret q r (by exact hclosing)]

/-! ### The statement -/

/-- The end of a transaction (R71, R443, R444). -/
theorem execLinkDeselect_ends {s : State} {tail : List Bool} (hset : portInSet s.vol .link = true)
    (h : s.vol.work.pt.link.shift.length + tail.length < 8) :
    execLinkDeselect tail s =
      .next (s.up { linkDeselect (linkHeld s.vol) with work.pt.link.lcsLow := false }) := by
  rw [execLinkDeselect, if_neg (by omega), linkPort_of_set hset]

theorem linkDeselect_eq (s : Vol) :
    linkDeselect s = { s with
      work.pt.frameDiscard := if s.work.pt.link.rx = [] then s.work.pt.frameDiscard else satInc s.work.pt.frameDiscard
      work.pt.link.selected := false
      work.pt.link.op := 0
      work.pt.link.rx := []
      work.pt.link.shift := []
      work.pt.link.shifted := 0 } := by
  unfold linkDeselect
  cases h : s.work.pt.link.rx with
  | nil => rfl
  | cons _ _ => rfl

theorem execLinkWrite_one {s : State} (b : Bytes) (tail : List Bool) (hset : portInSet s.vol .link = true) :
    exec (.linkWrite ⟨b, tail, 1⟩) s = .next (s.up (linkWrite s.nv b tail (linkHeld s.vol))) := by
  change execLinkWrite _ s = _
  rw [execLinkWrite, if_pos rfl, linkPort_of_set hset]

theorem execLinkWrite_ignored {s : State} (b : Bytes) {op : Byte} (hop : 3 ≤ op.toNat) (hset : portInSet s.vol .link = true) :
    exec (.linkWrite ⟨b, [], op⟩) s = .next (s.up (linkIgnore op b [] (linkHeld s.vol))) := by
  have other : op ≠ 1 := by rintro rfl; exact absurd hop (by decide)
  change execLinkWrite _ s = _
  rw [execLinkWrite, if_neg other, if_pos hop, linkPort_of_set hset]

theorem execLinkRead_set {s : State} (clocks : Nat) (hset : portInSet s.vol .link = true) :
    exec (.linkRead clocks) s = .next (s.up (linkRead clocks (linkHeld s.vol))) := by
  change execLinkRead clocks s = _
  rw [execLinkRead, linkPort_of_set hset]

/-- Settles O52, command by command: what LINK_WRITE and LINK_READ take of a transaction that is open at a byte boundary, the begin by
LINK_NOP and the end by LINK_DESELECT. -/
theorem linkCarriesRecordsBothWays : Obligations.LinkCarriesRecordsBothWays := by
  unfold Obligations.LinkCarriesRecordsBothWays
  intro s hset
  refine ⟨fun hsel => ?_, fun hsel hop hrx hshift hready hcore hloop => ⟨fun type body htype hlen => ?_,
      fun type r htype hr => ?_, fun tail htail => ?_⟩, fun hsel hop hshift hready hcore b => ?_,
    fun op b hlarge hsel hop hshift => ?_,
    fun n hsel hop hshift hready hcore hloop hn => ?_, fun tail htail => ?_⟩
  · change execLinkNop s = _
    rw [execLinkNop, linkPort_of_set hset, linkBegin_new (s := linkHeld s.vol) 0 hsel]
    rfl
  · have code : (BitVec.ofNat 8 type).toNat = type := by rcases htype with rfl | rfl <;> rfl
    have nonzero : BitVec.ofNat 8 type ≠ 0 := by rcases htype with rfl | rfl <;> decide
    rw [execLinkWrite_one _ _ hset, linkWrite_taken (s := linkHeld s.vol) s.nv hsel hshift hop hready
      hcore hloop (shiftIn_bytes _) hrx (hostRecords_whole s.nv _ _ nonzero hlen), code]
    simp only [hshift, linkHeld]
  · rw [execLinkWrite_one _ _ hset, linkWrite_taken (s := linkHeld s.vol) s.nv hsel hshift hop hready
      hcore hloop (shiftIn_bytes _) hrx (hostRecords_waits s.nv _ _ htype hr)]
    simp only [hshift, linkHeld]
    rfl
  · rw [execLinkWrite_one _ _ hset, linkWrite_taken (s := linkHeld s.vol) s.nv hsel hshift hop hready
      hcore hloop (shiftIn_tail htail) hrx (hostRecords_nil s.nv _ _)]
    simp only [hrx, linkHeld]
    rfl
  · rw [execLinkWrite_one _ _ hset, linkWrite_not_ready (s := linkHeld s.vol) s.nv hsel hshift b hop hready
      hcore]
    simp only [hshift, linkHeld]
    rfl
  · rw [execLinkWrite_ignored b hlarge hset, linkIgnore_held (s := linkHeld s.vol) hsel hshift b hop]
    simp only [hshift, linkHeld]
    rfl
  · have read := execLinkRead_set (8 * n) hset
    rw [linkRead_taken (s := linkHeld s.vol) n hsel hop hshift hready hcore hloop] at read
    refine ⟨fun hq => ?_, fun q hq => ⟨fun hpart => ?_, fun hq4 hwhole => ?_⟩⟩
    · have last : (List.replicate n (0x00 : Byte)).getLast? = some 0x00 := by
        rw [List.getLast?_replicate, if_neg (by omega)]
      rw [read, linkShift_filler (s := linkCleared (linkHeld s.vol)) hn hq]
      simp only [lsdoAfter, linkCleared, linkHeld, List.nil_append, List.isEmpty_nil, if_true, last, hshift]
      rfl
    · rw [read, linkShift_part (s := linkCleared (linkHeld s.vol)) hn hq rfl hpart]
      simp only [lsdoAfter, linkCleared, linkHeld, List.nil_append, List.isEmpty_nil, if_true, hshift]
      rfl
    · have left := linkShift_whole_leaves (s := linkCleared (linkHeld s.vol)) hn hq rfl hq4 hwhole
      generalize linkShift (n + 1) n (linkCleared (linkHeld s.vol)) = u at read left
      exact ⟨_, read, rfl, left⟩
  · change execLinkDeselect tail s = _
    rw [execLinkDeselect_ends hset htail, linkDeselect_eq]
    rfl

end Sys2Proof.Machine
end

section
/-! SUPPORT and PROOF of O20. What the results of a cycle leave alone: the front end with its round, and whether a cycle runs. -/

namespace Sys2Proof.Machine

/-! ### The relation -/

/-- The front end and the cycle in progress stand. -/
structure RoundStands (s s' : Vol) : Prop where
  fe : s'.work.fe = s.work.fe
  running : s'.work.cyc.running = s.work.cyc.running

theorem RoundStands.refl (s : Vol) : RoundStands s s := ⟨rfl, rfl⟩

theorem RoundStands.trans {a b c : Vol} (h : RoundStands a b) (k : RoundStands b c) : RoundStands a c :=
  ⟨k.fe.trans h.fe, k.running.trans h.running⟩

theorem RoundStands.after {a b c : Vol} (k : RoundStands b c) (h : RoundStands a b) : RoundStands a c := h.trans k

theorem RoundStands.ite {c : Prop} [Decidable c] {s a b : Vol} (ha : RoundStands s a) (hb : RoundStands s b) :
    RoundStands s (if c then a else b) := by
  split
  · exact ha
  · exact hb

theorem LogFrame.roundStands {s s' : Vol} (h : LogFrame s s') : RoundStands s s' :=
  ⟨h.work_fe, congrArg Cycle.running h.work_cyc⟩

/-- A fold of steps under which they stand leaves them standing. -/
theorem roundStands_foldl {α : Type} {f : Vol → α → Vol} (h : ∀ s a, RoundStands s (f s a)) (l : List α) (s : Vol) :
    RoundStands s (l.foldl f s) := by
  induction l generalizing s with
  | nil => exact .refl s
  | cons a l ih => exact (h s a).trans (ih _)

/-! ### The stream of LINK and the chain -/

theorem streamPut_roundStands (bit type : Nat) (body : Bytes) (s : Vol) : RoundStands s (streamPut bit type body s) := by
  unfold streamPut
  split
  · exact .refl s
  · dsimp only
    split <;> exact ⟨rfl, rfl⟩

theorem chainSend_roundStands (b : Bytes) (s : Vol) : RoundStands s (chainSend b s) := by
  unfold chainSend
  split <;> exact ⟨rfl, rfl⟩

theorem sendResults_roundStands (s : Vol) : RoundStands s (sendResults s) := by
  unfold sendResults
  exact (roundStands_foldl (fun s _ => chainSend_roundStands _ s) _ _).trans (chainSend_roundStands _ _)

theorem countMissing_roundStands (k : Nat) (s : Vol) : RoundStands s (countMissing k s) := by
  unfold countMissing
  dsimp only
  split
  · exact .refl s
  · split
    · exact ⟨rfl, rfl⟩
    · split
      · exact .after (logM_frame _ _ _).roundStands ⟨rfl, rfl⟩
      · exact ⟨rfl, rfl⟩

/-! ### Paths -/

theorem setPathW_roundStands (j : Nat) (p : PathWork) (s : Vol) : RoundStands s (setPathW j p s) := ⟨rfl, rfl⟩

theorem setPathR_roundStands (j : Nat) (p : PathRet) (s : Vol) : RoundStands s (setPathR j p s) := ⟨rfl, rfl⟩

theorem gapPair_roundStands (j : Nat) (s : Vol) : RoundStands s (gapPair j s) := by
  unfold gapPair
  dsimp only
  split
  · exact .refl s
  · exact setPathW_roundStands _ _ _

theorem jointVerdict_roundStands (j : Nat) (s : Vol) : RoundStands s (jointVerdict j s) := by
  unfold jointVerdict
  dsimp only
  split
  · split
    · exact gapPair_roundStands _ _
    · split <;> exact ⟨rfl, rfl⟩
  · exact gapPair_roundStands _ _

theorem dropPath_roundStands (j : Nat) (s : Vol) : RoundStands s (dropPath j s) :=
  .after (limM_frame _ _ _ _).roundStands ⟨rfl, rfl⟩

theorem holdPath_roundStands (j : Nat) (s : Vol) : RoundStands s (holdPath j s) := by
  unfold holdPath
  dsimp only
  split
  · split
    · split
      · exact .after (limM_frame _ _ _ _).roundStands ⟨rfl, rfl⟩
      · exact ⟨rfl, rfl⟩
    · exact ⟨rfl, rfl⟩
  · split
    · exact ⟨rfl, rfl⟩
    · split
      · exact .after (dropPath_roundStands _ _) ⟨rfl, rfl⟩
      · split
        · exact .after (dropPath_roundStands _ _) ⟨rfl, rfl⟩
        · exact ⟨rfl, rfl⟩

theorem pathSos_roundStands (j : Nat) (s : Vol) : RoundStands s (pathSos j s) := by
  unfold pathSos
  dsimp only
  split
  · split <;> exact ⟨rfl, rfl⟩
  · exact ⟨rfl, rfl⟩

theorem setEmpty_roundStands (js : List Nat) (s : Vol) : RoundStands s (setEmpty js s) := by
  unfold setEmpty
  dsimp only
  refine .after (roundStands_foldl (fun s j => ?_) _ _) (.after (roundStands_foldl (fun s j => ?_) _ _) ?_)
  · exact ⟨rfl, rfl⟩
  · exact setPathR_roundStands _ _ _
  · exact .after (logM_frame _ _ _).roundStands ⟨rfl, rfl⟩

theorem clearEmpty_roundStands (js : List Nat) (s : Vol) : RoundStands s (clearEmpty js s) := by
  unfold clearEmpty
  dsimp only
  refine .after (roundStands_foldl (fun s j => ?_) _ _) (.after (logM_frame _ _ _).roundStands ⟨rfl, rfl⟩)
  split
  · exact .refl s
  · exact .after (dropPath_roundStands _ _) ⟨rfl, rfl⟩

theorem emptyRun_roundStands (js : List Nat) (s : Vol) : RoundStands s (emptyRun js s) := by
  unfold emptyRun
  dsimp only
  split
  · exact .refl s
  · split
    · split
      · split
        · exact setEmpty_roundStands js s
        · exact ⟨rfl, rfl⟩
      · split <;> exact ⟨rfl, rfl⟩
    · split
      · split
        · exact clearEmpty_roundStands js s
        · exact ⟨rfl, rfl⟩
      · split <;> exact ⟨rfl, rfl⟩

/-! ### The result of a cycle -/

theorem tempResult_roundStands (js : List Nat) (s : Vol) : RoundStands s (tempResult js s) := by
  unfold tempResult
  dsimp only
  split <;> exact ⟨rfl, rfl⟩

theorem degradedEvents_roundStands (s : Vol) : RoundStands s (degradedEvents s) := by
  unfold degradedEvents
  dsimp only
  split
  · exact .refl s
  · split
    · exact .after (logM_frame _ _ _).roundStands ⟨rfl, rfl⟩
    · split
      · exact .after (logM_frame _ _ _).roundStands ⟨rfl, rfl⟩
      · exact ⟨rfl, rfl⟩

theorem setNextRate_roundStands (r : Nat) (s : Vol) : RoundStands s (setNextRate r s) := by
  unfold setNextRate
  split <;> exact ⟨rfl, rfl⟩

theorem adaptRate_roundStands (v : Option Int) (s : Vol) : RoundStands s (adaptRate v s) := by
  unfold adaptRate
  dsimp only
  split_ifs
  · exact ⟨rfl, rfl⟩
  · exact .after (setNextRate_roundStands _ _) ⟨rfl, rfl⟩
  · exact .after (setNextRate_roundStands _ _) ⟨rfl, rfl⟩
  · exact .after (setNextRate_roundStands _ _) ⟨rfl, rfl⟩
  · exact ⟨rfl, rfl⟩

theorem logSat_roundStands (j : Nat) (s : Vol) : RoundStands s (logSat j s) := (limM_frame _ _ _ _).roundStands

theorem pathResults_roundStands (js : List Nat) (vel : Nat → Int × Bool) (flowSat : Bool) (s : Vol) :
    RoundStands s (pathResults js vel flowSat s) := by
  unfold pathResults
  refine roundStands_foldl (fun s j => ?_) _ _
  dsimp only
  split
  · exact .after (logSat_roundStands _ _) ⟨rfl, rfl⟩
  · exact ⟨rfl, rfl⟩

theorem takeFlow_roundStands (q : Int) (cutoff subst : Bool) (valid : Nat) (s : Vol) :
    RoundStands s (takeFlow q cutoff subst valid s) := ⟨rfl, rfl⟩

theorem noResult_roundStands (js : List Nat) (s : Vol) : RoundStands s (noResult js s) := by
  have h := pathResults_roundStands js (fun _ => (0, false)) false s
  unfold noResult
  dsimp only
  exact .after (adaptRate_roundStands _ _) (.after (limM_frame _ _ _ _).roundStands ⟨h.fe, h.running⟩)

theorem flowResult_roundStands (js : List Nat) (s : Vol) : RoundStands s (flowResult js s) := by
  unfold flowResult
  dsimp only
  split
  · exact .after (adaptRate_roundStands _ _) (.after (takeFlow_roundStands _ _ _ _ _) (pathResults_roundStands _ _ _ s))
  · refine .after (adaptRate_roundStands _ _) (.after (takeFlow_roundStands _ _ _ _ _) (.after (pathResults_roundStands _ _ _ _) ?_))
    exact .ite (.after (logSat_roundStands _ _) ⟨rfl, rfl⟩) (.refl s)

theorem streamPaths_roundStands (js : List Nat) (s : Vol) : RoundStands s (streamPaths js s) :=
  roundStands_foldl (fun s _ => streamPut_roundStands _ _ _ s) _ _

theorem showPaths_roundStands (s : Vol) : RoundStands s (showPaths s) := by
  unfold showPaths
  exact ⟨rfl, rfl⟩

theorem markNoFlow_roundStands (s : Vol) : RoundStands s (markNoFlow s) := ⟨rfl, rfl⟩

theorem cycleResult_roundStands (s : Vol) : RoundStands s (cycleResult s) := by
  unfold cycleResult
  split
  · exact .refl s
  · extract_lets js joint anchored _ _ emptied held sos temp none_ shown
    have hanchored : RoundStands s anchored :=
      (roundStands_foldl (fun s j => jointVerdict_roundStands j s) _ _).trans
        (roundStands_foldl (fun s j => .ite (setPathR_roundStands _ _ s) (.refl s)) _ _)
    have hemptied : RoundStands s emptied := .after (emptyRun_roundStands _ _) ⟨hanchored.fe, hanchored.running⟩
    have hheld : RoundStands s held :=
      hemptied.trans (.ite (roundStands_foldl (fun s j => setPathW_roundStands _ _ s) _ _)
        (roundStands_foldl (fun s j => holdPath_roundStands j s) _ _))
    have htemp : RoundStands s temp :=
      hheld.trans (.trans (roundStands_foldl (fun s j => pathSos_roundStands j s) _ _) (tempResult_roundStands _ _))
    have hshown : RoundStands s shown :=
      htemp.trans (.after (showPaths_roundStands _) (.ite (noResult_roundStands _ _) (flowResult_roundStands _ _)))
    refine .after (degradedEvents_roundStands _) (.after (markNoFlow_roundStands _) (.after (streamPut_roundStands _ _ _ _) ?_))
    exact hshown.trans (streamPaths_roundStands _ _)

theorem jointSecondaryResult_roundStands (s : Vol) : RoundStands s (jointSecondaryResult s) := by
  unfold jointSecondaryResult
  dsimp only
  split
  · exact .refl s
  · refine .after (showPaths_roundStands _) (.after (tempResult_roundStands _ _) ?_)
    refine .after (roundStands_foldl (fun s j => ?_) _ _) ⟨rfl, rfl⟩
    exact .after (setPathW_roundStands _ _ _) (.after (pathSos_roundStands _ _) (setPathW_roundStands _ _ _))

/-! ### Levels -/

theorem levelEmpty_roundStands (n : Nat) (x : RxEval) (used : Bool) (s : Vol) : RoundStands s (levelEmpty n x used s) := by
  unfold levelEmpty
  dsimp only
  split
  · exact .refl s
  · split
    · split
      · exact .after (limM_frame _ _ _ _).roundStands ⟨rfl, rfl⟩
      · exact ⟨rfl, rfl⟩
    · exact .refl s
    · split
      · exact .after (limM_frame _ _ _ _).roundStands ⟨rfl, rfl⟩
      · exact ⟨rfl, rfl⟩

theorem levelResult_roundStands (ref : Option Int) (n : Nat) (s : Vol) : RoundStands s (levelResult ref n s) := by
  unfold levelResult
  dsimp only
  split
  · exact .refl s
  · refine .after (levelEmpty_roundStands _ _ _ _) ?_
    exact .ite (.after (logM_frame _ _ _).roundStands ⟨rfl, rfl⟩) ⟨rfl, rfl⟩

theorem tryLevels_roundStands (s : Vol) : RoundStands s (tryLevels s) := by
  unfold tryLevels
  extract_lets ns r ref _ _ taken levels
  split
  · have htaken : RoundStands s taken := by
      unfold taken
      clear_value ref
      split <;> exact ⟨rfl, rfl⟩
    have hlevels : RoundStands s levels := htaken.trans (roundStands_foldl (fun s n => levelResult_roundStands ref n s) _ _)
    exact .after (roundStands_foldl (fun s _ => streamPut_roundStands _ _ _ s) _ _) ⟨hlevels.fe, hlevels.running⟩
  · exact .refl s

theorem primaryDecides_roundStands (s : Vol) : RoundStands s (primaryDecides s) := by
  unfold primaryDecides
  dsimp only
  split
  · exact .refl s
  · refine .after (tryLevels_roundStands _) (.after (cycleResult_roundStands _) ?_)
    refine .after (roundStands_foldl (fun s k => countMissing_roundStands k s) _ _) ?_
    split
    · exact (limM_frame _ _ _ _).roundStands
    · exact .refl s

/-- What follows the last own pair leaves the round and the cycle in progress (R188, R216). -/
theorem ownFinished_roundStands (s : Vol) : RoundStands s (ownFinished s) := by
  unfold ownFinished
  dsimp only
  split
  · exact tryLevels_roundStands s
  · refine .trans (b := { s with work.chain.ownDone := true }) ⟨rfl, rfl⟩ ?_
    split
    · refine .after (tryLevels_roundStands _) (.ite (.after (sendResults_roundStands _) ?_) ?_)
      all_goals exact .ite (jointSecondaryResult_roundStands _) (cycleResult_roundStands _)
    · split
      · split
        · exact primaryDecides_roundStands _
        · exact tryLevels_roundStands _
      · exact .after (tryLevels_roundStands _) (cycleResult_roundStands _)

/-! ### The end of a cycle (R116, R126, R525) -/

theorem leaveMeasure_work (s : Vol) : RoundStands s (leaveMeasure s) ∧ (leaveMeasure s).work.aux = s.work.aux ∧
    (leaveMeasure s).work.cyc = s.work.cyc := by
  unfold leaveMeasure
  split <;> exact ⟨⟨rfl, rfl⟩, rfl, rfl⟩

/-- A cycle that ends leaves no round and does not run. -/
theorem endCycle_ends (first : Nat) (s : Vol) :
    (endCycle first s).work.cyc.running = false ∧ (endCycle first s).work.fe.round = default := by
  unfold endCycle
  extract_lets loop unfired held _ _ _ _ cleared stopped
  have ended : RoundStands cleared stopped :=
    .after (leaveMeasure_work _).1 (.ite (.refl _) (.after (degradedEvents_roundStands _) (ownFinished_roundStands _)))
  exact ⟨ended.running, congrArg FrontEnd.round ended.fe⟩

theorem exec_pllLock (s : State) : exec .pllLock s = .next (s.up (pllLock s.vol)) := rfl

theorem exec_pllUnlock (s : State) : exec .pllUnlock s = .next (s.up (pllUnlock s.vol)) := rfl

theorem exec_pllLockFail (s : State) : exec .pllLockFail s = .next (s.up (pllLockFail s.vol)) := rfl

theorem exec_relockTimeout {s : State} (hrun : s.vol.work.cyc.running = true) (hpll : s.vol.bak.power.pll = false) :
    exec .relockTimeout s = .next (s.up (lockFails s.vol)) := by
  refine if_pos ?_
  rw [hrun, hpll]
  rfl

section
variable {s : Vol}

theorem pllLock_idle (hstate : s.bak.power.state = .measure) (hwait : s.work.fe.round.waiting = none) :
    pllLock s = { s with bak.power.pll := true, work.cyc.relockFailed := false } := by
  simp [pllLock, hstate, hwait]

theorem pllLock_waiting {v : Nat} (hstate : s.bak.power.state = .measure) (hwait : s.work.fe.round.waiting = some v)
    (hrun : s.work.cyc.running = true) :
    pllLock s = nextRound s.work.fe.round.index v { s with bak.power.pll := true, work.cyc.relockFailed := false } := by
  simp [pllLock, hstate, hwait, hrun]

theorem pllUnlock_round (hpll : s.bak.power.pll = true) (hround : s.work.fe.round.running = true)
    (haux : s.work.aux.isOpen = false) :
    pllUnlock s =
      roundLosesLock { s with bak.power.pll := false, work.fab.pllUnlock := satInc s.work.fab.pllUnlock } := by
  simp [pllUnlock, hpll, hround, haux]

theorem lockFails_between (hwait : s.work.fe.round.waiting = none) : lockFails s = { s with work.cyc.relockFailed := true } := by
  simp [lockFails, hwait]

theorem lockFails_idle (hrun : s.work.cyc.running = false) : lockFails s = { s with work.cyc.relockFailed := true } := by
  simp [lockFails, hrun]

theorem lockFails_waiting (hrun : s.work.cyc.running = true) (hwait : s.work.fe.round.waiting ≠ none) :
    lockFails s = endCycle s.work.fe.round.index { s with work.cyc.relockFailed := true } := by
  simp [lockFails, hrun, Option.isSome_iff_ne_none, hwait]

/-- Where no cycle runs, a failed lock leaves the due slot unopened and MEASURE (R531). -/
theorem pllLockFail_idle (hstate : s.bak.power.state = .measure) (hpll : s.bak.power.pll = false)
    (hrun : s.work.cyc.running = false) :
    (pllLockFail s).work.cyc.relockFailed = true ∧ (pllLockFail s).work.aux.due = false := by
  have logged := limM_frame 0x0506 0xFF 0xFF { s with work.aux.due := false }
  have failed : pllLockFail s = leaveMeasure (lockFails (limM 0x0506 0xFF 0xFF { s with work.aux.due := false })) := by
    simp [pllLockFail, hstate, hpll]
  rw [failed]
  generalize limM 0x0506 0xFF 0xFF { s with work.aux.due := false } = u at logged
  rw [lockFails_idle (by rw [logged.work_cyc]; exact hrun)]
  obtain ⟨-, haux, hcyc⟩ := leaveMeasure_work { u with work.cyc.relockFailed := true }
  rw [haux, hcyc]
  exact ⟨rfl, congrArg AuxWork.due logged.work_aux⟩

end

/-- Settles O20: the round keeps its place through the end of a cycle and the results of one (`RoundStands`). -/
theorem fineLockIsTakenAndLost : Obligations.FineLockIsTakenAndLost := by
  unfold Obligations.FineLockIsTakenAndLost
  intro s
  refine ⟨fun hstate hwait => ?_, fun v hstate hwait hrun => ?_, fun hpll hround haux => ?_,
    fun hrun hpll => ⟨fun hwait => ?_, fun hwait => ?_⟩, fun hstate hpll hrun => ?_⟩
  · rw [exec_pllLock, pllLock_idle hstate hwait]
    rfl
  · rw [exec_pllLock, pllLock_waiting hstate hwait hrun]
  · refine ⟨_, exec_pllUnlock s, ?_⟩
    rw [State.up_vol, pllUnlock_round hpll hround haux]
    exact ⟨rfl, rfl, rfl, rfl, rfl, rfl, rfl⟩
  · rw [exec_relockTimeout hrun hpll, lockFails_between hwait]
    rfl
  · refine ⟨_, exec_relockTimeout hrun hpll, ?_⟩
    rw [State.up_vol, lockFails_waiting hrun hwait]
    exact endCycle_ends _ _
  · obtain ⟨hfailed, hdue⟩ := pllLockFail_idle hstate hpll hrun
    exact ⟨_, exec_pllLockFail s, hfailed, hdue, rfl⟩

end Sys2Proof.Machine
end

section
/-! SUPPORT and PROOF of O56. The LINE side (R455 to R487): what its operations on contexts, on the drive FIFO and on the records for
the host can change. -/

namespace Sys2Proof.Machine

/-! ### Contexts and drive records -/

/-- s' differs from s in the contexts and in the drive FIFO at most. -/
structure CtxFrame (s s' : Vol) : Prop where
  only : s' = { s with work.line.ctxs := s'.work.line.ctxs, work.line.drive := s'.work.line.drive }

theorem CtxFrame.refl (s : Vol) : CtxFrame s s := ⟨rfl⟩

theorem CtxFrame.trans {a b c : Vol} (h : CtxFrame a b) (k : CtxFrame b c) : CtxFrame a c :=
  ⟨by rw [k.only, h.only]⟩

theorem CtxFrame.bak {s s' : Vol} (h : CtxFrame s s') : s'.bak = s.bak := by rw [h.only]
theorem CtxFrame.ret {s s' : Vol} (h : CtxFrame s s') : s'.ret = s.ret := by rw [h.only]
theorem CtxFrame.pt {s s' : Vol} (h : CtxFrame s s') : s'.work.pt = s.work.pt := by rw [h.only]
theorem CtxFrame.handback {s s' : Vol} (h : CtxFrame s s') : s'.work.line.handback = s.work.line.handback := by rw [h.only]

theorem ctxFrame_foldl {α : Type} {f : Vol → α → Vol} (h : ∀ s a, CtxFrame s (f s a)) (l : List α) (s : Vol) :
    CtxFrame s (l.foldl f s) := by
  induction l generalizing s with
  | nil => exact .refl s
  | cons a l ih => exact (h s a).trans (ih _)

theorem setCtx_frame (k : Nat) (c : LineCtx) (s : Vol) : CtxFrame s (setCtx k c s) := ⟨rfl⟩

theorem modCtx_frame (k : Nat) (g : LineCtx → LineCtx) (s : Vol) : CtxFrame s (modCtx k g s) := ⟨rfl⟩

theorem voidDrive_frame (gone : LineDrive → Bool) (s : Vol) : CtxFrame s (voidDrive gone s) := ⟨rfl⟩

theorem refresh_frame (k : Nat) (s : Vol) : CtxFrame s (refresh k s) := by
  unfold refresh
  split
  · exact modCtx_frame _ _ _
  · exact .refl s

theorem dropTx_frame (k : Nat) (keepBegun : Bool) (s : Vol) : CtxFrame s (dropTx k keepBegun s) :=
  (setCtx_frame _ _ _).trans (voidDrive_frame _ _)

theorem passOne_frame (s : Vol) (k : Nat) : CtxFrame s (passOne s k) := by
  unfold passOne
  split
  · exact .refl s
  · split
    · exact ⟨rfl⟩
    · exact .refl s

theorem fillDrive_frame (s : Vol) : CtxFrame s (fillDrive s) := ctxFrame_foldl passOne_frame _ _

theorem lctx_setCtx_self {k : Nat} (c : LineCtx) (s : Vol) (hk : k < 3) : lctx (setCtx k c s) k = c := vget_vset_self _ c hk

theorem lctx_setCtx_ne {j k : Nat} (c : LineCtx) (s : Vol) (h : k ≠ j) : lctx (setCtx k c s) j = lctx s j := vget_vset_ne _ c h

/-! ### The drive FIFO takes records (R463) -/

theorem passFirst_length {l l' : List TxSym} {q : TxSym} (h : passFirst l = some (l', q)) : l'.length = l.length := by
  induction l generalizing l' with
  | nil => cases h
  | cons a l ih =>
    unfold passFirst at h
    split at h
    · obtain ⟨⟨r, x⟩, hr, heq⟩ := Option.map_eq_some_iff.mp h
      obtain ⟨rfl, rfl⟩ := Prod.mk.inj heq
      simp [ih hr]
    · cases h
      rfl

/-- A record that enters the FIFO leaves its symbol in the queue. -/
theorem passOne_queue (s : Vol) (k j : Nat) : (lctx (passOne s k) j).queue.length = (lctx s j).queue.length := by
  unfold passOne
  split
  · rfl
  · split
    · next l q hq =>
      change (lctx (setCtx k { lctx s k with queue := l } s) j).queue.length = _
      by_cases hk : k = j
      · subst hk
        by_cases h3 : k < 3
        · rw [lctx_setCtx_self _ _ h3]
          exact passFirst_length hq
        · simp [lctx, setCtx, vget, vset, Vector.getD, h3]
      · rw [lctx_setCtx_ne _ _ hk]
    · rfl

theorem fillDrive_queue (s : Vol) (j : Nat) : (lctx (fillDrive s) j).queue.length = (lctx s j).queue.length := by
  unfold fillDrive
  generalize (List.replicate 8 [0, 1, 2]).flatten = l
  induction l generalizing s with
  | nil => rfl
  | cons k l ih => rw [List.foldl_cons, ih, passOne_queue]

/-- CORE offers the first record of a context: a full FIFO counts it (R65). -/
theorem offerFirst_stands (k : Nat) (s : Vol) :
    (offerFirst k s).bak = s.bak ∧ (offerFirst k s).ret = s.ret ∧ (offerFirst k s).work.pt = s.work.pt ∧
      ∀ j, (lctx (offerFirst k s) j).queue.length = (lctx s j).queue.length := by
  have frame := fillDrive_frame s
  have queue := fillDrive_queue s
  unfold offerFirst
  generalize fillDrive s = u at frame queue ⊢
  dsimp only
  split <;> exact ⟨frame.bak, frame.ret, frame.pt, queue⟩

/-! ### Records for the host (R479) -/

/-- s' differs from s in the contexts, in the records that wait for the host and in whether it may send symbols at most. -/
structure SoftFrame (s s' : Vol) : Prop where
  only : s' = { s with
    work.line.ctxs := s'.work.line.ctxs
    work.line.hostSymbolsOk := s'.work.line.hostSymbolsOk
    work.pt.link.symbols := s'.work.pt.link.symbols }

theorem SoftFrame.refl (s : Vol) : SoftFrame s s := ⟨rfl⟩

theorem SoftFrame.trans {a b c : Vol} (h : SoftFrame a b) (k : SoftFrame b c) : SoftFrame a c :=
  ⟨by rw [k.only, h.only]⟩

theorem softRecord_frame (k : Nat) (s : Vol) : SoftFrame s (softRecord k s) := by
  unfold softRecord
  dsimp only
  split
  · exact .refl s
  · exact ⟨rfl⟩

theorem softRecords_frame (s : Vol) : SoftFrame s (softRecords s) :=
  ((softRecord_frame 0 s).trans (softRecord_frame 1 _)).trans (softRecord_frame 2 _)

theorem SoftFrame.bak {s s' : Vol} (h : SoftFrame s s') : s'.bak = s.bak := by rw [h.only]
theorem SoftFrame.drive {s s' : Vol} (h : SoftFrame s s') : s'.work.line.drive = s.work.line.drive := by rw [h.only]
theorem SoftFrame.handback {s s' : Vol} (h : SoftFrame s s') : s'.work.line.handback = s.work.line.handback := by rw [h.only]
theorem SoftFrame.alive {s s' : Vol} (h : SoftFrame s s') : s'.work.pt.link.alive = s.work.pt.link.alive := by rw [h.only]

end Sys2Proof.Machine
end

section
/-! PROOF. The host loses and regains the line (R67, R446, R478 to R482). -/

namespace Sys2Proof.Machine

/-! ### The symbols of the host (R480) -/

theorem exec_hostSymbols (body : Bytes) (s : State) : exec (.hostSymbols body) s = .next (s.up (hostSymbols body s.vol)) := rfl

theorem hostSymbols_bad {body : Bytes} {s : Vol} (hcore : coreRuns s = true) (hbad : symbolsBad s body = true) :
    hostSymbols body s = discardFrame s := by
  simp [hostSymbols, hcore, hbad]

/-- A record that is not discarded names a context and has as many symbols as it says. -/
theorem symbolsBad_false {body : Bytes} {s : Vol} (h : symbolsBad s body = false) :
    (body.headD 0).toNat % 4 < 3 ∧ (body.drop 4).length = (body.getD 3 0).toNat := by
  simp only [symbolsBad, Bool.or_eq_false_iff, decide_eq_false_iff_not, bne_eq_false_iff_eq] at h
  omega

theorem hostSymbols_queued {body : Bytes} {s : Vol} (hcore : coreRuns s = true) (hgood : symbolsBad s body = false) :
    (hostSymbols body s).bak = s.bak ∧ (hostSymbols body s).ret = s.ret ∧ (hostSymbols body s).work.pt = s.work.pt ∧
      (lctx (hostSymbols body s) ((body.headD 0).toNat % 4)).queue.length =
        (lctx s ((body.headD 0).toNat % 4)).queue.length + (body.getD 3 0).toNat := by
  obtain ⟨hk, hlen⟩ := symbolsBad_false hgood
  unfold hostSymbols
  rw [if_neg (by simp [hcore]), if_neg (by simp [hgood])]
  dsimp only
  generalize hq : List.mapIdx _ (body.drop 4) = q
  have count : q.length = (body.getD 3 0).toNat := by rw [← hq, List.length_mapIdx, hlen]
  have joined : (lctx (modCtx ((body.headD 0).toNat % 4) (fun c => { c with queue := c.queue ++ q }) s)
      ((body.headD 0).toNat % 4)).queue.length = (lctx s ((body.headD 0).toNat % 4)).queue.length + (body.getD 3 0).toNat := by
    rw [modCtx, lctx_setCtx_self _ _ hk, List.length_append, count]
  have frame := modCtx_frame ((body.headD 0).toNat % 4) (fun c => { c with queue := c.queue ++ q }) s
  generalize modCtx _ _ s = u at joined frame ⊢
  split
  · obtain ⟨hbak, hret, hpt, hqueue⟩ := offerFirst_stands ((body.headD 0).toNat % 4) u
    exact ⟨hbak.trans frame.bak, hret.trans frame.ret, hpt.trans frame.pt, (hqueue _).trans joined⟩
  · have filled := frame.trans (fillDrive_frame u)
    exact ⟨filled.bak, filled.ret, filled.pt, (fillDrive_queue u _).trans joined⟩

/-! ### HBEAT (R67, R446) -/

theorem exec_hbeatEdge (s : State) : exec .hbeatEdge s = .next (s.up (hbeatEdge s.vol)) := rfl

theorem hbeatEdge_awake {s : Vol} (hphy : phyForHost s = true) (hcore : coreRuns s = true) : hbeatEdge s = hbeatAlive s := by
  simp [hbeatEdge, hphy, hcore]

theorem hbeatAlive_host (s : Vol) :
    (hbeatAlive s).work.pt.link.alive = true ∧ (hbeatAlive s).work.pt.link.lastEdge = s.bak.count ∧
      (hbeatAlive s).work.line.handback = (s.work.line.handback || s.work.line.deviceService) := by
  unfold hbeatAlive
  dsimp only
  split
  · rw [logG_work_pt, logG_work_line]
    exact ⟨rfl, rfl, rfl⟩
  · exact ⟨rfl, rfl, rfl⟩

theorem hbeatEdge_stopped {s : Vol} (hphy : phyForHost s = true) (hcore : coreRuns s = false) :
    hbeatEdge s = { s with
      work.fab.hbeat := s.work.fab.hbeat.raise.1
      work.fab.toggleOvf :=
        if s.work.fab.hbeat.raise.2 then satInc s.work.fab.toggleOvf else s.work.fab.toggleOvf } := by
  simp [hbeatEdge, hphy, hcore]

theorem raise_first {c : Channel} (h : c.toggled = false) : c.raise = ({ c with toggled := true }, false) := by
  simp [Channel.raise, h]

theorem raise_next {c : Channel} (h : c.toggled = true) (hp : c.pending ≠ 255) :
    c.raise = ({ c with pending := c.pending + 1 }, false) := by
  rw [Channel.raise, h, if_neg (by decide), if_neg hp]

theorem raise_refused {c : Channel} (h : c.toggled = true) (hp : c.pending = 255) : c.raise = (c, true) := by
  simp [Channel.raise, h, hp]

/-! ### The device takes the line over (R481) -/

theorem exec_hostSilent (s : State) : exec .hostSilent s = .next (s.up (hostSilent s.vol)) := rfl

theorem takeOver_line (s : Vol) :
    (takeOver s).bak = s.bak ∧ (takeOver s).work.pt.link.alive = s.work.pt.link.alive ∧
      (takeOver s).work.line.handback = s.work.line.handback ∧ (takeOver s).work.line.deviceService = true := by
  have soft := softRecords_frame s
  unfold takeOver
  generalize softRecords s = u at soft ⊢
  have ctxs : CtxFrame u ([0, 1, 2].foldl (init := u) fun s k =>
      modCtx k (fun c => { c with serviceOn := false, quiet := 0, soft := [], rx := none }) (dropTx k true s)) :=
    ctxFrame_foldl (fun s k => (dropTx_frame k true s).trans (modCtx_frame k _ _)) _ _
  dsimp only
  generalize List.foldl _ u _ = w at ctxs ⊢
  rw [logG_bak, logG_work_pt, logG_work_line]
  exact ⟨ctxs.bak.trans soft.bak, (congrArg (·.link.alive) ctxs.pt).trans soft.alive, ctxs.handback.trans soft.handback, rfl⟩

/-- 640 ticks after the last edge the host is silent, and the line is the device's (R446, R478). -/
theorem hostSilent_takes {s : Vol} (hcore : coreRuns s = true) (hphy : phyForHost s = true)
    (halive : s.work.pt.link.alive = true) (hever : s.work.pt.link.everAlive = true)
    (hlong : 640 ≤ (s.bak.count - s.work.pt.link.lastEdge).toNat) :
    (hostSilent s).bak = s.bak ∧ (hostSilent s).work.pt.link.alive = false ∧ (hostSilent s).work.line.handback = false ∧
      (hostSilent s).work.line.deviceService = true := by
  have soft := softRecords_frame s
  unfold hostSilent
  dsimp only
  rw [if_neg (by simp [-BitVec.toNat_sub, hcore, hphy, halive, hever, hlong])]
  generalize softRecords s = u at soft ⊢
  have logged := logG_frame 0x0605 0xFF { u with work.pt.link.alive := false, work.line.handback := false }
  generalize logG 0x0605 0xFF { u with work.pt.link.alive := false, work.line.handback := false } = w at logged ⊢
  have hbak : w.bak = s.bak := logged.bak.trans soft.bak
  have hsilent : w.work.pt.link.alive = false := congrArg (·.link.alive) logged.work_pt
  have hback : w.work.line.handback = false := congrArg (·.handback) logged.work_line
  split
  · next hdevice => exact ⟨hbak, hsilent, hback, hdevice⟩
  · obtain ⟨htbak, htalive, htback, htdevice⟩ := takeOver_line w
    exact ⟨htbak.trans hbak, htalive.trans hsilent, htback.trans hback, htdevice⟩

/-! ### The device's own service (R481, R482) -/

theorem exec_fallbackStart (k : Fin 3) (s : State) : exec (.fallbackStart k) s = .next (s.up (fallbackStart k.val s.vol)) := rfl

/-- New settings change what is in force on the context alone. -/
theorem lctx_refresh {k : Nat} (s : Vol) (hk : k < 3) :
    lctx (refresh k s) k = { lctx s k with inForce := (lctx (refresh k s) k).inForce } := by
  unfold refresh
  split
  · rw [modCtx, lctx_setCtx_self _ _ hk]
  · rfl

/-- The service of the device begins once GUARD has passed (R481). -/
theorem fallbackStart_serves {k : Nat} {s : Vol} (hk : k < 3) (hup : lineUp (refresh k s) k = true) (hphy : phyForHost s = true)
    (hdevice : s.work.line.deviceService = true) (hback : s.work.line.handback = false)
    (hon : (lctx s k).serviceOn = false) (hidle : (lctx s k).idle = false) (hqueue : (lctx s k).queue = [])
    (hquiet : bitPeriods (refresh k s) k (lineSet (refresh k s) k 8) ≤ (lctx s k).quiet) :
    fallbackStart k s = setCtx k { lctx (refresh k s) k with serviceOn := true } (refresh k s) := by
  have frame := (refresh_frame k s).only
  have ctx := lctx_refresh s hk
  unfold fallbackStart
  generalize refresh k s = u at *
  have hphy' : phyForHost u = true := by rw [frame]; exact hphy
  have hdevice' : u.work.line.deviceService = true := by rw [frame]; exact hdevice
  have hback' : u.work.line.handback = false := by rw [frame]; exact hback
  have hon' : (lctx u k).serviceOn = false := by rw [ctx]; exact hon
  have hidle' : (lctx u k).idle = false := by rw [ctx]; exact hidle
  have hqueue' : (lctx u k).queue = [] := by rw [ctx]; exact hqueue
  have hquiet' : bitPeriods u k (lineSet u k 8) ≤ (lctx u k).quiet := by
    rw [ctx]
    exact hquiet
  exact if_pos (by simp [hup, hphy', hdevice', hback', hon', hidle', hqueue', hquiet'])

theorem exec_lineHandback (s : State) : exec .lineHandback s = .next (s.up (lineHandback s.vol)) := rfl

theorem lineHandback_ends {s : Vol} (hcore : coreRuns s = true) (hback : s.work.line.handback = true)
    (hfree : s.work.line.ctxs.all ctxFree = true) :
    (lineHandback s).bak = s.bak ∧ (lineHandback s).work.line.handback = false ∧
      (lineHandback s).work.line.deviceService = false ∧
      (lineHandback s).work.line.ctxs.all (fun c => !c.serviceOn && c.poll.isNone) = true := by
  have soft := softRecords_frame s
  unfold lineHandback
  rw [if_neg (by simp [hcore, hback, hfree])]
  dsimp only
  rw [logG_bak, logG_work_line]
  exact ⟨soft.bak, rfl, rfl, by simp⟩

/-- Settles O56: the operations of the LINE side write its own fields (`CtxFrame`, `SoftFrame`), so the rest is as the host left it. -/
theorem theHostLosesAndRegainsTheLine : Obligations.TheHostLosesAndRegainsTheLine := by
  unfold Obligations.TheHostLosesAndRegainsTheLine
  intro s
  refine ⟨fun body hcore => ⟨fun hbad => ?_, fun hgood => ?_⟩, fun hphy hcore => ?_,
    fun hphy hcore => ⟨fun h => ?_, fun h hp => ?_, fun h hp => ?_⟩, fun hcore hphy halive hever hlong => ?_,
    fun k hup hphy hdevice hback hon hidle hqueue hquiet => ?_, fun hcore hback hfree => ?_⟩
  · rw [exec_hostSymbols, hostSymbols_bad hcore hbad]
    rfl
  · exact ⟨_, exec_hostSymbols body s, rfl, hostSymbols_queued hcore hgood⟩
  · refine ⟨_, exec_hbeatEdge s, rfl, ?_⟩
    rw [State.up_vol, hbeatEdge_awake hphy hcore]
    exact ⟨hbeatAlive_bak _, hbeatAlive_host _⟩
  · rw [exec_hbeatEdge, hbeatEdge_stopped hphy hcore, raise_first h]
    rfl
  · rw [exec_hbeatEdge, hbeatEdge_stopped hphy hcore, raise_next h hp]
    rfl
  · rw [exec_hbeatEdge, hbeatEdge_stopped hphy hcore, raise_refused h hp]
    rfl
  · exact ⟨_, exec_hostSilent s, rfl, hostSilent_takes hcore hphy halive hever hlong⟩
  · refine ⟨_, exec_fallbackStart k s, rfl, ?_⟩
    rw [State.up_vol, fallbackStart_serves k.isLt hup hphy hdevice hback hon hidle hqueue hquiet, lctx_setCtx_self _ _ k.isLt]
    exact ⟨(refresh_frame _ _).bak, (refresh_frame _ _).ret, rfl⟩
  · exact ⟨_, exec_lineHandback s, rfl, lineHandback_ends hcore hback hfree⟩

end Sys2Proof.Machine
end

section
/-! SUPPORT and PROOF of O19. The clock sources are lost and restored (R57, R58, R60, R246, R297, R531, R611). -/

namespace Sys2Proof.Machine

/-! ### What a wake leaves of the timekeeper -/

/-- Of the backup domain, s' differs from s in POWER, in the last-wake record, in HWM and in the held ticks at most; and CORE's LF
source is the same. -/
structure WakeBak (s s' : Vol) : Prop where
  only : s'.bak = { s.bak with
    power := s'.bak.power
    lastWake := s'.bak.lastWake
    hwm := s'.bak.hwm
    heldTicks := s'.bak.heldTicks }
  lfStandin : s'.bak.power.lfStandin = s.bak.power.lfStandin

theorem WakeBak.of_bak {s s' : Vol} (h : s'.bak = s.bak) : WakeBak s s' := ⟨by rw [h], by rw [h]⟩

theorem WakeBak.trans {a b c : Vol} (h : WakeBak a b) (k : WakeBak b c) : WakeBak a c :=
  ⟨by rw [k.only, h.only], k.lfStandin.trans h.lfStandin⟩

theorem LedgerBak.wakeBak {s s' : Vol} (h : LedgerBak s s') : WakeBak s s' := ⟨by rw [h.only], by rw [h.only]⟩

theorem wakeUp_wakeBak (nv : Nv) (s : Vol) : WakeBak s (wakeUp nv s) := by
  unfold wakeUp
  refine .trans ?_ (wakeTail_ledgerBak nv _).wakeBak
  exact ⟨rfl, rfl⟩

theorem periodicDuties_wakeBak (nv : Nv) (s : Vol) : WakeBak s (periodicDuties nv s) :=
  ⟨by rw [periodicDuties_bak], by rw [periodicDuties_bak]⟩

theorem wakeFor_wakeBak (nv : Nv) (source : WakeSource) (collision : Bool) (s : Vol) :
    WakeBak s (wakeFor nv source collision s) := by
  have recorded : WakeBak s (if source == .supervisor then s else wakeRecord (wakeCode source) collision s) := by
    split
    · exact .of_bak rfl
    · exact ⟨rfl, rfl⟩
  have woken := recorded.trans (wakeUp_wakeBak nv _)
  unfold wakeFor
  dsimp only
  split
  · exact woken.trans (periodicDuties_wakeBak nv _)
  · exact woken

theorem tryWake_wakeBak (nv : Nv) (r : Raised) (collision : Bool) (s : Vol) : WakeBak s (tryWake nv r collision s) := by
  unfold tryWake
  split
  · split
    · exact wakeFor_wakeBak _ _ _ _
    · exact .of_bak rfl
  · exact .of_bak rfl

theorem raiseWake_wakeBak (nv : Nv) (w : WakeSource) (also : List WakeSource) (s : Vol) : WakeBak s (raiseWake nv w also s) := by
  have met : (if s.bak.power.entering = true then freeBit s else (false, s)).2.bak = s.bak := by
    split <;> rfl
  unfold raiseWake
  split
  · exact .trans (.of_bak met) (tryWake_wakeBak nv _ _ _)
  · exact .of_bak rfl

theorem heldWake_wakeBak (nv : Nv) (s : Vol) : WakeBak s (heldWake nv s) := by
  unfold heldWake
  split
  · exact raiseWake_wakeBak _ _ _ _
  · exact .of_bak rfl

/-! ### The LF source (R57, R297, R611) -/

theorem tellOsf_ledgerBak (s : Vol) : LedgerBak s (tellOsf s) := by
  unfold tellOsf
  split
  · exact .of_bak rfl
  · split
    · exact .of_bak ((ledgerOsf_bak _).trans (bookEvent_bak _ _))
    · split
      · exact ⟨rfl⟩
      · exact .of_bak (ledgerOsf_bak _)

/-- OSF set with its cause; the calendar, the count and the LF source stand (R297). -/
theorem setOsf_bak (cause : Nat) (s : Vol) :
    (setOsf cause s).bak.osf = true ∧ (setOsf cause s).bak.osfCause = BitVec.ofNat 4 cause ∧
      (setOsf cause s).bak.cal = s.bak.cal ∧ (setOsf cause s).bak.count = s.bak.count ∧
      (setOsf cause s).bak.power = s.bak.power := by
  have told := (tellOsf_ledgerBak { s with bak.osf := true, bak.osfCause := BitVec.ofNat 4 cause }).only
  unfold setOsf
  generalize tellOsf _ = u at told ⊢
  have left := (logM_bak 0x0201 cause u).trans told
  exact ⟨congrArg Bak.osf left, congrArg Bak.osfCause left, (congrArg Bak.cal left :), (congrArg Bak.count left :),
    (congrArg Bak.power left :)⟩

theorem exec_lfStandin (s : State) : exec .lfStandin s = .next (s.up (heldWake s.nv (lfStandin s.vol))) := rfl

/-- The stand-in runs the timekeeper on: OSF is set, and the calendar and the count stand (R57, R297). -/
theorem heldWake_lfStandin (nv : Nv) {s : Vol} (hlf : s.bak.power.lfStandin = false) (hoff : s.bak.power.state ≠ .off) :
    (heldWake nv (lfStandin s)).bak.power.lfStandin = true ∧ (heldWake nv (lfStandin s)).bak.osf = true ∧
      (heldWake nv (lfStandin s)).bak.osfCause = 2 ∧ (heldWake nv (lfStandin s)).bak.cal = s.bak.cal ∧
      (heldWake nv (lfStandin s)).bak.count = s.bak.count := by
  have logged := logG_bak 0x0205 0xFF { s with bak.power.lfStandin := true }
  obtain ⟨hosf, hcause, hcal, hcount, hpower⟩ := setOsf_bak 2 (logG 0x0205 0xFF { s with bak.power.lfStandin := true })
  have standin : lfStandin s = setOsf 2 (logG 0x0205 0xFF { s with bak.power.lfStandin := true }) := by
    simp [lfStandin, hlf, hoff]
  rw [← standin] at hosf hcause hcal hcount hpower
  rw [logged] at hcal hcount hpower
  have woken := heldWake_wakeBak nv (lfStandin s)
  refine ⟨?_, ?_, ?_, ?_, ?_⟩
  · rw [woken.lfStandin, hpower]
  · rw [woken.only]; exact hosf
  · rw [woken.only]; exact hcause
  · rw [woken.only]; exact hcal
  · rw [woken.only]; exact hcount

theorem exec_lfRestored (m : Nat) (s : State) : exec (.lfRestored m) s = .next (s.up (lfRestored m s.vol)) := rfl

theorem lfRestored_plausible {m : Nat} {s : Vol} (hlf : s.bak.power.lfStandin = true) (hm : lfPlausible s m = true) :
    lfRestored m s =
      if s.bak.power.coldStandin then { s with bak.power.lfStandin := false, bak.power.coldStandin := false }
      else logG 0x0206 0xFF { s with bak.power.lfStandin := false, bak.power.coldStandin := false } := by
  simp [lfRestored, hlf, hm]

/-! ### The LINE clock (R60, R68) -/

theorem vget_map {α β : Type} [Inhabited α] [Inhabited β] {n i : Nat} (f : α → β) (v : Vector α n) (h : i < n) :
    vget (v.map f) i = f (vget v i) := by
  simp [vget, Vector.getD, Array.getD, h]

theorem exec_lineLost (s : State) : exec .lineLost s = .next (s.up (lineLost s.vol)) := rfl

/-- The end of a loop-back leaves the records in their FIFO (R68, R486). -/
theorem lineLoopResult_drive (result : Nat) {s : Vol} (h : s.work.line.lbPending = false) :
    (lineLoopResult result s).work.line.drive.length = s.work.line.drive.length := by
  have dropped : (lineLoopDrop s).work.line.drive.length = s.work.line.drive.length ∧
      (lineLoopDrop s).work.line.lbPending = false := by
    unfold lineLoopDrop
    dsimp only
    split
    · exact ⟨rfl, h⟩
    · exact ⟨List.length_map _, h⟩
  have ended := logG_work_line 0x0619 result
    { lineLoopDrop s with work.line.lbResult := BitVec.ofNat 3 result, work.line.lbSession := 0 }
  unfold lineLoopResult
  dsimp only
  generalize logG 0x0619 result _ = w at ended ⊢
  rw [if_neg (by rw [ended, dropped.2]; decide), ended]
  exact dropped.1

/-- The line as LINE_LOST leaves it: its records stay in their FIFO and fire no more (R60, R68). -/
theorem lineLost_line {s : Vol} (h : lineAbsent s = false) :
    ∃ u : Vol, u.work.line.drive.length = s.work.line.drive.length ∧
      (lineLost s).work.line = { u.work.line with
        running := false
        kept := some (lineWordsLive s)
        ctxs := u.work.line.ctxs.map ctxStops
        drive := u.work.line.drive.map fun d => { d with live := false } } := by
  have soft : (if phyForHost s then softRecords s else s).work.line.drive = s.work.line.drive := by
    split
    · exact (softRecords_frame s).drive
    · rfl
  unfold lineLost
  rw [if_neg (by simp [h])]
  dsimp only
  generalize (if phyForHost s then softRecords s else s) = v at soft ⊢
  rw [limG_work_line]
  refine ⟨if v.work.line.lbResult = 1 then lineLoopResult 4 { v with work.line.lbPending := false } else v, ?_, rfl⟩
  split
  · rw [lineLoopResult_drive 4 rfl, soft]
  · rw [soft]

/-! ### The LINE clock starts (R60, R458, R460) -/

theorem exec_lineRestored (l : List (List Nat)) (s : State) : exec (.lineRestored l) s = .next (s.up (lineRestored l s.vol)) := rfl

/-- The reference is the first input that passes (R60). -/
theorem find_reference {p : Nat → Bool} (ref : Fin 3) (h : p ref.val = true) (hfirst : ∀ i < ref.val, p i = false) :
    [0, 1, 2].find? p = some ref.val := by
  match ref with
  | 0 => exact List.find?_cons_of_pos h
  | 1 => exact (List.find?_cons_of_neg (by rw [hfirst 0 (by decide)]; decide)).trans (List.find?_cons_of_pos h)
  | 2 =>
    refine (List.find?_cons_of_neg (by rw [hfirst 0 (by decide)]; decide)).trans ?_
    exact (List.find?_cons_of_neg (by rw [hfirst 1 (by decide)]; decide)).trans (List.find?_cons_of_pos h)

/-- Context k starts again with its clock. -/
def restartCtx (off : Nat) (s : Vol) (k : Nat) : Vol := refresh k (modCtx k (ctxStarts off) s)

theorem restartCtx_frame (off : Nat) (s : Vol) (k : Nat) : CtxFrame s (restartCtx off s k) :=
  (modCtx_frame _ _ _).trans (refresh_frame _ _)

theorem lctx_restartCtx_self (off : Nat) (s : Vol) {k : Nat} (hk : k < 3) :
    lctx (restartCtx off s k) k = { ctxStarts off (lctx s k) with inForce := (lctx (restartCtx off s k) k).inForce } := by
  have started := lctx_refresh (modCtx k (ctxStarts off) s) hk
  rw [show lctx (modCtx k (ctxStarts off) s) k = _ from lctx_setCtx_self _ _ hk] at started
  exact started

theorem lctx_restartCtx_ne (off : Nat) (s : Vol) {j k : Nat} (h : k ≠ j) : lctx (restartCtx off s k) j = lctx s j := by
  unfold restartCtx refresh
  split
  · rw [modCtx, lctx_setCtx_ne _ _ h, modCtx, lctx_setCtx_ne _ _ h]
  · rw [modCtx, lctx_setCtx_ne _ _ h]

/-- What the start of the LINE clock makes of a context that was c. -/
structure Restarted (off : Nat) (c c' : LineCtx) : Prop where
  hc : c'.hc = 0
  warmup : c'.warmup = 2
  xofs : c'.xofs = (c.xofs + 16384 - off % 16384) % 16384

theorem restartCtx_restarts (off : Nat) (s : Vol) {k : Nat} (hk : k < 3) :
    Restarted off (lctx s k) (lctx (restartCtx off s k) k) := by
  constructor <;> rw [lctx_restartCtx_self off s hk] <;> rfl

/-- The three contexts start, each with its own place against the reference. -/
theorem restartAll_restarts (off : Nat) (s : Vol) {k : Nat} (hk : k < 3) :
    Restarted off (lctx s k) (lctx ([0, 1, 2].foldl (restartCtx off) s) k) := by
  rw [List.foldl_cons, List.foldl_cons, List.foldl_cons, List.foldl_nil]
  match k, hk with
  | 0, _ =>
    rw [lctx_restartCtx_ne _ _ (by decide), lctx_restartCtx_ne _ _ (by decide)]
    exact restartCtx_restarts off s (by decide)
  | 1, _ =>
    have started := restartCtx_restarts off (restartCtx off s 0) (k := 1) (by decide)
    rw [lctx_restartCtx_ne (j := 1) _ s (by decide)] at started
    rw [lctx_restartCtx_ne _ _ (by decide)]
    exact started
  | 2, _ =>
    have started := restartCtx_restarts off (restartCtx off (restartCtx off s 0) 1) (k := 2) (by decide)
    rw [lctx_restartCtx_ne (j := 2) _ _ (by decide), lctx_restartCtx_ne (j := 2) _ s (by decide)] at started
    exact started

/-- The line as LINE_RESTORED leaves it. -/
theorem lineRestored_starts {s : Vol} {l : List (List Nat)} {ref : Fin 3} (hcore : coreRuns s = true) (hth : th s 6 ≠ 15)
    (hstop : s.work.line.running = false)
    (hfind : [0, 1, 2].find? (fun i => crossingsValid s (l.getD i [])) = some ref.val) :
    (lineRestored l s).work.line.running = true ∧ (lineRestored l s).work.line.ref = ref ∧
      ∀ k < 3, Restarted (lctx s ref.val).xofs (lctx s k) (lctx (lineRestored l s) k) := by
  have restarts := fun k (hk : k < 3) => restartAll_restarts (lctx s ref.val).xofs
    { s with work.line.running := true, work.line.ref := Fin.ofNat 3 ref.val, work.line.kept := none } hk
  have frame := ctxFrame_foldl (restartCtx_frame (lctx s ref.val).xofs) [0, 1, 2]
    { s with work.line.running := true, work.line.ref := Fin.ofNat 3 ref.val, work.line.kept := none }
  have each : (fun (v : Vol) (k : Nat) => refresh k (modCtx k (ctxStarts (lctx s ref.val).xofs) v)) =
      restartCtx (lctx s ref.val).xofs := rfl
  unfold lineRestored
  rw [hfind]
  dsimp only
  rw [if_neg (by simp [hcore, hth, hstop]), each]
  generalize List.foldl _ _ _ = u at restarts frame ⊢
  have logged := logG_work_line 0x0611 0xFF u
  refine ⟨by rw [logged, frame.only], by rw [logged, frame.only]; simp, fun k hk => ?_⟩
  have ctx : lctx (logG 0x0611 0xFF u) k = lctx u k := by rw [lctx, logged, lctx]
  rw [ctx]
  exact restarts k hk

/-! ### The crystal (R58, R246, R530, R531) -/

/-- CORE runs on the RC, and step 4 of the wake has ended (R531). -/
def fallToRc (s : Vol) : Vol :=
  { s with bak.power.src := .rc, bak.power.hfxo := false, bak.power.hfxoFailed := true, bak.power.wakeEnd := s.bak.count }

theorem exec_hfxoReady (s : State) : exec .hfxoReady s = .next (s.up (hfxoReady s.vol)) := rfl

theorem exec_hfxoFail (s : State) : exec .hfxoFail s = .next (s.up (hfxoFail s.vol)) := rfl

theorem exec_hfxoRestored (s : State) : exec .hfxoRestored s = .next (s.up (hfxoRestored s.vol)) := rfl

section
variable {s : Vol} (hcore : coreRuns s = true)
include hcore

theorem hfxoReady_taken (hrc : onRc s = true) (hok : s.bak.power.hfxoFailed = false) :
    hfxoReady s = { s with bak.power.src := crystalOf s, bak.power.hfxo := true, bak.power.wakeEnd := s.bak.count } := by
  simp [hfxoReady, hcore, hrc, hok]

theorem hfxoFail_taken (hok : s.bak.power.hfxoFailed = false) :
    hfxoFail s = limM 0x0504 0xFF 0xFF (ranOnRc (fallToRc s)) := by
  simp [hfxoFail, fallToRc, hcore, hok]

theorem hfxoRestored_taken (hfail : s.bak.power.hfxoFailed = true) (hround : s.work.fe.round.running = false) :
    hfxoRestored s = logM 0x0505 0xFF { s with
      bak.power.src := crystalOf s, bak.power.hfxo := true, bak.power.hfxoFailed := false } := by
  simp [hfxoRestored, hcore, hfail, hround]

end

/-- Before its results are formed, a normal cycle is DEGRADED at once (R246). -/
theorem ranOnRc_before {s : Vol} (hkind : s.work.cyc.kind = .normal) (hpairs : s.work.cyc.pairsDone = false) :
    ranOnRc s = { s with
      work.cyc.degraded := s.work.cyc.degraded || s.work.cyc.running
      work.cyc.bloomRc := s.work.cyc.bloomRc || (s.work.fe.powered && !s.work.cyc.running)
      work.aux.degraded := s.work.aux.degraded || s.work.aux.isOpen } := by
  cases hrun : s.work.cyc.running <;> simp [ranOnRc, hrun, hkind, hpairs]

theorem degradeLate_degraded {s : Vol} (h : s.work.cyc.pairsDone = true) :
    (degradeLate s).work.cyc.degraded = true ∧ (degradeLate s).work.aux = s.work.aux ∧ (degradeLate s).bak = s.bak := by
  unfold degradeLate
  split
  · next hstop => exact ⟨by simpa [h] using hstop, rfl, rfl⟩
  · unfold showPaths
    exact ⟨rfl, rfl, rfl⟩

/-- What ran on the RC is DEGRADED, before its results or after them (R246). -/
theorem ranOnRc_degraded (s : Vol) :
    (ranOnRc s).bak = s.bak ∧
      (s.work.cyc.running = true → s.work.cyc.kind = .normal → (ranOnRc s).work.cyc.degraded = true) ∧
      (s.work.aux.isOpen = true → (ranOnRc s).work.aux.degraded = true) := by
  unfold ranOnRc
  dsimp only
  split
  · next hidle => exact ⟨rfl, fun hrun hkind => by simp [hrun, hkind] at hidle, fun hopen => by simp [hopen]⟩
  · split
    · next hpairs =>
      obtain ⟨hdeg, haux, hbak⟩ := degradeLate_degraded (s := { s with
        work.aux.degraded := s.work.aux.degraded || s.work.aux.isOpen
        work.cyc.bloomRc := s.work.cyc.bloomRc || (s.work.fe.powered && !s.work.cyc.running) }) hpairs
      exact ⟨hbak, fun _ _ => hdeg, fun hopen => by rw [haux]; simp [hopen]⟩
    · exact ⟨rfl, fun _ _ => rfl, fun hopen => by simp [hopen]⟩

/-- Settles O19: a wake leaves the calendar and its cause as the LF stand-in set them (`WakeBak`), and the contexts of LINE are started
one by one. -/
theorem clockSourcesAreLostAndRestored : Obligations.ClockSourcesAreLostAndRestored := by
  unfold Obligations.ClockSourcesAreLostAndRestored
  refine ⟨fun s => ⟨fun hlf hoff => ?_, fun m hlf hm => ⟨fun hcold => ?_, fun hcold => ?_⟩, fun habsent => ?_,
      fun l ref hcore hth hstop hvalid hfirst => ?_⟩,
    fun s hcore => ⟨fun hrc hok => ?_, fun hok hkind hpairs => ?_, fun hok => ?_, fun hfail hround => ?_⟩⟩
  · obtain ⟨hstandin, hosf, hcause, hcal, hcount⟩ := heldWake_lfStandin s.nv hlf hoff
    exact ⟨_, exec_lfStandin s, hstandin, hosf, hcause, hcal, hcount, rfl⟩
  · rw [exec_lfRestored, lfRestored_plausible hlf hm, if_pos hcold]
    rfl
  · rw [exec_lfRestored, lfRestored_plausible hlf hm, if_neg (by simp [hcold])]
  · obtain ⟨u, hlen, hline⟩ := lineLost_line habsent
    refine ⟨_, exec_lineLost s, ?_⟩
    rw [State.up_vol, hline]
    refine ⟨rfl, rfl, by simp [hlen], by simp, fun k hk => ?_⟩
    rw [vget_map _ _ hk]
    exact ⟨rfl, rfl⟩
  · obtain ⟨hrun, href, hctx⟩ := lineRestored_starts hcore hth hstop (find_reference ref hvalid hfirst)
    refine ⟨_, exec_lineRestored l s, hrun, href, ?_, fun k hk => ⟨(hctx k hk).hc, (hctx k hk).warmup⟩⟩
    have own := (hctx ref.val ref.isLt).xofs
    change (lctx _ _).xofs = 0
    rw [State.up_vol, own]
    omega
  · rw [exec_hfxoReady, hfxoReady_taken hcore hrc hok]
    rfl
  · rw [exec_hfxoFail, hfxoFail_taken hcore hok, ranOnRc_before (s := fallToRc s.vol) hkind hpairs]
    rfl
  · obtain ⟨hbak, hcyc, haux⟩ := ranOnRc_degraded (fallToRc s.vol)
    refine ⟨_, exec_hfxoFail s, ?_⟩
    rw [State.up_vol, hfxoFail_taken hcore hok, limM_bak, limM_work_cyc, limM_work_aux, hbak]
    exact ⟨rfl, rfl, rfl, hcyc, haux, rfl⟩
  · rw [exec_hfxoRestored, hfxoRestored_taken hcore hfail hround]
    rfl

end Sys2Proof.Machine
end

section
/-! SUPPORT and PROOF of O21. What a read of the engine leaves (R380, R382, R395, R404): the STORE's counters, the logs and the pages
that a repair submits; and what an answer leaves. -/

namespace Sys2Proof.Machine

/-! ### Reads of pages -/

/-- s' differs from s by entries in the logs and pages in the line, and the STORE does not fall absent. -/
structure PageRead (s s' : Vol) : Prop where
  frame : LogFrame s s'
  present : s.work.store.present = true → s'.work.store.present = true

theorem PageRead.refl (s : Vol) : PageRead s s := ⟨.refl s, id⟩

theorem PageRead.trans {a b c : Vol} (h : PageRead a b) (k : PageRead b c) : PageRead a c :=
  ⟨h.frame.trans k.frame, k.present ∘ h.present⟩

theorem PageRead.after {a b c : Vol} (k : PageRead b c) (h : PageRead a b) : PageRead a c := h.trans k

theorem pageRead_foldl {α : Type} {f : Vol → α → Vol} (h : ∀ s a, PageRead s (f s a)) (l : List α) (s : Vol) :
    PageRead s (l.foldl f s) := by
  induction l generalizing s with
  | nil => exact .refl s
  | cons a l ih => exact (h s a).trans (ih _)

theorem addPending_foldl_store (g : Req → Pending) (l : List Req) (s : Vol) :
    (l.foldl (fun s r => addPending (g r) s) s).work.store = s.work.store := by
  induction l generalizing s with
  | nil => rfl
  | cons r l ih => rw [List.foldl_cons, ih, addPending_work]

theorem startHead_present (s : Vol) : (startHead s).work.store.present = s.work.store.present := by
  have ends : (flushEnds s).work.store.present = s.work.store.present := by
    unfold flushEnds
    dsimp only
    rw [addPending_foldl_store]
  unfold startHead
  split
  · rfl
  · split
    · rfl
    · split
      · split
        · rfl
        · exact ends
      · split <;> rfl

theorem submit_pageRead (r : Req) (s : Vol) : PageRead s (submit r s) := by
  refine ⟨submit_frame r s, fun _ => ?_⟩
  unfold submit
  dsimp only
  split
  · rw [startHead_present]
    rfl
  · rfl

theorem submitAll_pageRead (l : List Req) (s : Vol) : PageRead s (submitAll l s) :=
  pageRead_foldl (fun s r => submit_pageRead r s) l s

theorem writeEntry_pageRead (l : LogId) (e : Nat) (s : Vol) : PageRead s (writeEntry l e s) := by
  unfold writeEntry
  cases l
  · exact .after (submit_pageRead _ _) ⟨⟨rfl⟩, id⟩
  · exact .after (submit_pageRead _ _) ⟨⟨rfl⟩, id⟩

theorem logEvent_pageRead (l : LogId) (c d : Nat) (s : Vol) : PageRead s (logEvent l c d s) := by
  unfold logEvent
  dsimp only
  split
  · exact ⟨⟨rfl⟩, id⟩
  · exact writeEntry_pageRead l _ s

theorem logLimited_pageRead (l : LogId) (c k d : Nat) (s : Vol) : PageRead s (logLimited l c k d s) := by
  unfold logLimited
  dsimp only
  split
  · exact ⟨⟨rfl⟩, id⟩
  · exact .after (logEvent_pageRead l c d _) ⟨⟨rfl⟩, id⟩

theorem submitGuarded_pageRead (l : List Req) (s : Vol) : PageRead s (submitGuarded l s) := by
  unfold submitGuarded
  split
  · exact logLimited_pageRead _ _ _ _ _
  · exact submitAll_pageRead _ _

theorem noteRead_pageRead (nv : Nv) (n : Nat) (s : Vol) : PageRead s (noteRead nv n s) := by
  unfold noteRead
  dsimp only
  split
  · exact .refl s
  · split
    · exact .refl s
    · exact .after (logLimited_pageRead _ _ _ _ _) ⟨⟨rfl⟩, id⟩
    · exact .after (logEvent_pageRead _ _ _ _) ⟨⟨rfl⟩, id⟩

theorem readNote_pageRead (nv : Nv) (n : Nat) (s : Vol) : PageRead s (readNote nv n s) := by
  refine (noteRead_pageRead nv n s).trans ?_
  unfold readNote
  generalize noteRead nv n s = u
  dsimp only
  split
  · unfold noteInvalid
    split
    · exact .refl u
    · exact ⟨⟨rfl⟩, id⟩
  · exact .refl u

theorem repairCopy_pageRead (nv : Nv) (base count : Nat) (s : Vol) : PageRead s (repairCopy nv base count s) := by
  unfold repairCopy
  split
  · split
    · exact .refl s
    · exact (submitGuarded_pageRead _ _).trans (logEvent_pageRead _ _ _ _)
  · exact .refl s

theorem readRepairs_pageRead (nv : Nv) (o : Obj) (s : Vol) : PageRead s (readRepairs nv o s) := by
  unfold readRepairs
  split
  · exact pageRead_foldl (fun s i => repairCopy_pageRead nv _ _ s) _ _
  · exact .refl s

/-! ### Answers -/

/-- The engine's hand and queue, the requests that wait in the fabric and the DISPLAY stand, and the STORE does not fall absent. -/
structure EngineStands (s s' : Vol) : Prop where
  inHand : s'.work.ex.inHand = s.work.ex.inHand
  queue : s'.work.ex.queue = s.work.ex.queue
  waiting : s'.work.fab.waiting = s.work.fab.waiting
  disp : s'.work.disp = s.work.disp
  present : s.work.store.present = true → s'.work.store.present = true

theorem EngineStands.trans {a b c : Vol} (h : EngineStands a b) (k : EngineStands b c) : EngineStands a c :=
  ⟨k.inHand.trans h.inHand, k.queue.trans h.queue, k.waiting.trans h.waiting, k.disp.trans h.disp, k.present ∘ h.present⟩

theorem EngineStands.after {a b c : Vol} (k : EngineStands b c) (h : EngineStands a b) : EngineStands a c := h.trans k

theorem PageRead.engineStands {s s' : Vol} (h : PageRead s s') : EngineStands s s' :=
  ⟨by rw [h.frame.work_ex], by rw [h.frame.work_ex], by rw [h.frame.work_fab], h.frame.work_disp, h.present⟩

/-- s' differs from s in the sessions and in the replies that wait at most. -/
structure AnswerFrame (s s' : Vol) : Prop where
  only : s' = { s with
    work.ex.sessions := s'.work.ex.sessions
    work.ex.replies := s'.work.ex.replies
    work.pt.link.graoc := s'.work.pt.link.graoc }

theorem AnswerFrame.trans {a b c : Vol} (h : AnswerFrame a b) (k : AnswerFrame b c) : AnswerFrame a c :=
  ⟨by rw [k.only, h.only]⟩

theorem AnswerFrame.fab {s s' : Vol} (h : AnswerFrame s s') : s'.work.fab = s.work.fab := by rw [h.only]

theorem AnswerFrame.engineStands {s s' : Vol} (h : AnswerFrame s s') : EngineStands s s' :=
  ⟨by rw [h.only], by rw [h.only], by rw [h.only], by rw [h.only], fun p => by rw [h.only]; exact p⟩

theorem modSession_frame (n : Byte) (g : Session → Session) (s : Vol) : AnswerFrame s (modSession n g s) := by
  unfold modSession
  split <;> exact ⟨rfl⟩

theorem putReply_frame (f : Frame) (b : Bytes) (s : Vol) : AnswerFrame s (putReply f b s) := by
  unfold putReply
  split
  · exact ⟨rfl⟩
  · split <;> exact ⟨rfl⟩
  · exact ⟨rfl⟩
  · split <;> exact ⟨rfl⟩
  · exact ⟨rfl⟩

/-- An answer goes to a session and to a port alone (R404). -/
theorem answer_frame (f : Frame) (status : Nat) (payload : Bytes) (s : Vol) : AnswerFrame s (answer f status payload s) := by
  unfold answer
  dsimp only
  split
  · split <;> exact putReply_frame _ _ _
  · exact (modSession_frame _ _ _).trans (putReply_frame _ _ _)

/-- A read is answered and leaves the engine free (R404). -/
theorem readObject_engineStands (nv : Nv) (f : Frame) (o : Obj) (s : Vol) : EngineStands s (readObject nv f o s) := by
  unfold readObject
  extract_lets stale _ _ counted
  have hcounted : EngineStands s counted := by
    unfold counted
    split <;> exact ⟨rfl, rfl, rfl, rfl, id⟩
  refine hcounted.trans ?_
  clear_value counted
  split
  · exact (answer_frame _ _ _ _).engineStands
  · exact (answer_frame _ _ _ _).engineStands
  · refine .after ((answer_frame _ _ _ _).engineStands) (.after (readRepairs_pageRead _ _ _).engineStands ?_)
    exact (pageRead_foldl (fun s p => readNote_pageRead nv p s) _ _).engineStands

theorem pump_idle (nv : Nv) (n : Nat) {s : Vol} (h : s.work.ex.queue = []) : pump nv n s = s := by
  cases n with
  | zero => rfl
  | succ n =>
    rw [pump, h]
    split
    · next heq => cases heq
    · rfl

end Sys2Proof.Machine
end

section
/-! PROOF. The fabric ages requests, retries once and lets blocks fall idle (R51, R53 to R55). -/

namespace Sys2Proof.Machine

/-! ### The order of grants (R51) -/

theorem mem_grantOrder {r : FabReq} {l : List FabReq} (h : r ∈ grantOrder l) : r ∈ l := by
  simp only [grantOrder, List.mem_append, List.mem_flatMap, List.mem_filter] at h
  rcases h with ⟨_, _, hr, _⟩ | ⟨_, _, hr, _⟩ <;> exact hr

/-- Of one request, the fixed order finds it once. -/
theorem fixedOrder_flatMap_single (a : FabReq) :
    (fixedOrder.flatMap fun i => [a].filter fun r => r.who == i) = [a] := by
  obtain ⟨t, w, b⟩ := a
  cases w <;> rfl

/-- The only aged request goes before all others. -/
theorem grantOrder_head {a : FabReq} {l : List FabReq} (ha : a.aged = true) (hl : ∀ r ∈ l, r.aged = false) :
    (grantOrder (a :: l)).head? = some a := by
  have aged : (fixedOrder.flatMap fun i => (a :: l).filter fun r => r.aged && r.who == i) =
      fixedOrder.flatMap fun i => [a].filter fun r => r.who == i := by
    refine List.flatMap_congr fun i _ => ?_
    have others : (l.filter fun r => r.aged && r.who == i) = [] := by
      refine List.filter_eq_nil_iff.mpr fun r hr => ?_
      simp [hl r hr]
    simp [List.filter_cons, ha, others]
  rw [grantOrder, aged, fixedOrder_flatMap_single]
  rfl

theorem waiting_setWaiting (t : Target) (l : List FabReq) (s : Vol) :
    (setWaiting t l s).work.fab.waiting = s.work.fab.waiting.filter (!waitsFor t ·) ++ grantOrder l := rfl

/-- Requests of a target that are replaced are those that wait for it. -/
theorem filter_setWaiting {t : Target} {l : List FabReq} (s : Vol) (hl : ∀ r ∈ l, waitsFor t r = true) :
    (setWaiting t l s).work.fab.waiting.filter (waitsFor t) = grantOrder l ∧
      (setWaiting t l s).work.fab.waiting.filter (!waitsFor t ·) = s.work.fab.waiting.filter (!waitsFor t ·) := by
  have all : ∀ r ∈ grantOrder l, waitsFor t r = true := fun r hr => hl r (mem_grantOrder hr)
  have gone : (s.work.fab.waiting.filter (!waitsFor t ·)).filter (waitsFor t) = [] :=
    List.filter_eq_nil_iff.mpr fun r hr => by simpa using (List.mem_filter.mp hr).2
  have none : (grantOrder l).filter (!waitsFor t ·) = [] :=
    List.filter_eq_nil_iff.mpr fun r hr => by simp [all r hr]
  rw [waiting_setWaiting, List.filter_append, List.filter_append, gone, none, List.filter_eq_self.mpr all, List.filter_filter]
  simp

theorem exec_arbitrationAge {target : Target} {who : Initiator} {s : State} (h : coreRuns s.vol = true) :
    exec (.arbitrationAge target who) s = .next (s.up (arbitrationAge target who s.vol)) := if_pos h

/-- A request that has waited 32 CORE cycles goes before those that have not (R51). -/
theorem arbitrationAge_order {target : Target} (who : Initiator) {s : Vol}
    (h : ∀ r ∈ s.work.fab.waiting, r.target = target → r.aged = false) :
    ((arbitrationAge target who s).work.fab.waiting.filter (waitsFor target)).head? = some { target, who, aged := true } ∧
      (arbitrationAge target who s).work.fab.waiting.filter (!waitsFor target ·) =
        s.work.fab.waiting.filter (!waitsFor target ·) := by
  have young : ∀ r ∈ (s.work.fab.waiting.filter (waitsFor target)).filter (·.who != who),
      waitsFor target r = true ∧ r.aged = false := by
    intro r hr
    obtain ⟨hmem, hwaits⟩ := List.mem_filter.mp (List.mem_filter.mp hr).1
    exact ⟨hwaits, h r hmem (by simpa [waitsFor] using hwaits)⟩
  obtain ⟨own, others⟩ := filter_setWaiting (t := target)
    (l := { target, who, aged := true } :: (s.work.fab.waiting.filter (waitsFor target)).filter (·.who != who)) s
    (fun r hr => by
      rcases List.mem_cons.mp hr with rfl | hr
      · simp [waitsFor]
      · exact (young r hr).1)
  refine ⟨?_, others⟩
  rw [arbitrationAge, own]
  exact grantOrder_head rfl fun r hr => (young r hr).2

/-! ### The engine's retry (R54, R55) -/

theorem exec_fabricRetry (present : Bool) (others : List Initiator) (s : State) :
    exec (.fabricRetry present others) s = .next (s.up (fabricRetry s.nv present others s.vol)) := rfl

/-- The block stays absent: the command is answered UNAVAILABLE. -/
theorem fabricRetry_absent (nv : Nv) {f : Frame} (others : List Initiator) {s : Vol}
    (hand : s.work.ex.inHand = some { frame := f, clamps := [], clamped := false, await := .retry })
    (hqueue : s.work.ex.queue = []) :
    (fabricRetry nv false others s).work.ex.inHand = none ∧
      (fabricRetry nv false others s).work.fab.absent = satInc s.work.fab.absent := by
  have answered := answer_frame f stUnavailable [] { s with
    work.ex.inHand := none, work.fab.absent := satInc s.work.fab.absent }
  have retried : fabricRetry nv false others s = pump nv 8 (answer f stUnavailable [] { s with
      work.ex.inHand := none, work.fab.absent := satInc s.work.fab.absent }) := by
    simp [fabricRetry, hand]
  rw [retried, pump_idle nv 8 (answered.engineStands.queue.trans hqueue)]
  exact ⟨answered.engineStands.inHand, congrArg Fabric.absent answered.fab⟩

/-- The command meets no absent block once the block that it found absent is present. -/
theorem absentTarget_markPresent {f : Frame} {o : Obj} {s x : Vol} (hobj : objOf s f.ident = some o)
    (hsame : blockPresent x = blockPresent s) :
    (absentTarget f o).any (!blockPresent (markPresent (retryTarget s f) x) ·) = false := by
  have woken : ∀ t, blockPresent (markPresent t x) t = true := fun t => by cases t <;> rfl
  have stays : ∀ t a, blockPresent x a = true → blockPresent (markPresent t x) a = true := fun t a h => by
    cases t with
    | store => cases a with
      | store => rfl
      | _ => exact h
    | display => cases a with
      | display => rfl
      | _ => exact h
    | _ => exact h
  unfold retryTarget
  rw [hobj]
  dsimp only
  cases absentTarget f o with
  | none => rfl
  | some a =>
    cases h : blockPresent s a with
    | true => simp [stays _ a (hsame ▸ h)]
    | false =>
      have met : (some a).filter (fun t => !blockPresent s t) = some a := by simp [Option.filter, h]
      rw [met]
      simp [woken]

/-- A GET that meets no absent block, no freeze and a STORE without a write in hand is answered at once. -/
theorem runCommand_get {nv : Nv} {f : Frame} {s : Vol} (r : Role) (hcmd : f.cmd = 3) (hstall : f.stalls = false)
    (hpresent : ∀ o, objOf s f.ident = some o → (absentTarget f o).any (!blockPresent s ·) = false)
    (hwrite : writeRuns s = false) (hline : s.work.store.line.length < 5) (hheld : s.work.store.held = []) :
    EngineStands s (runCommand nv f r s) := by
  unfold runCommand
  split
  · exact (answer_frame _ _ _ _).engineStands
  · next o ho =>
    split
    · exact (answer_frame _ _ _ _).engineStands
    · split
      · exact (answer_frame _ _ _ _).engineStands
      · unfold carryGet
        rw [if_neg (by rw [hpresent o ho]; decide), if_neg (by simp [hstall]), if_neg (by simp [hwrite, hheld]; omega)]
        exact readObject_engineStands _ _ _ _

/-- The state in which the engine repeats its command: the target of it is present and has granted what waited for it. -/
def retryGranted (t : Target) (others : List Initiator) (s : Vol) : Vol :=
  let old := s.work.fab.waiting.filter (waitsFor t)
  let new := (others ++ [Initiator.exchange]).filter fun i => !old.any (·.who == i)
  grantAll t (setWaiting t (old ++ new.map fun i => ({ target := t, who := i, aged := false } : FabReq))
    { s with work.ex.inHand := none })

theorem retryGranted_waiting (t : Target) (others : List Initiator) (s : Vol) :
    ((retryGranted t others s).work.fab.waiting.any fun r => r.target == t) = false := by
  refine List.any_eq_false.mpr fun r hr => ?_
  simpa [waitsFor] using (List.mem_filter.mp hr).2

/-- The state in which the command is repeated. -/
def retryReady (t : Target) (others : List Initiator) (s : Vol) : Vol :=
  { markPresent t (retryGranted t others s) with work.ex.retrying := true }

theorem blockPresent_retryReady (t : Target) (others : List Initiator) (s : Vol) :
    blockPresent (retryReady t others s) = blockPresent (markPresent t (retryGranted t others s)) := by
  funext a
  cases a <;> rfl

theorem blockPresent_retryGranted (t : Target) (others : List Initiator) (s : Vol) :
    blockPresent (retryGranted t others s) = blockPresent s := by
  funext a
  cases a <;> rfl

theorem objOf_retryReady (t : Target) (others : List Initiator) (s : Vol) (ident : BitVec 48) :
    objOf (retryReady t others s) ident = objOf s ident := by cases t <;> rfl

theorem retryReady_engine (t : Target) (others : List Initiator) (s : Vol) :
    (retryReady t others s).work.ex.inHand = none ∧ (retryReady t others s).work.ex.queue = s.work.ex.queue ∧
      (retryReady t others s).work.fab.waiting = (retryGranted t others s).work.fab.waiting := by
  cases t <;> exact ⟨rfl, rfl, rfl⟩

theorem retryReady_line (t : Target) (others : List Initiator) (s : Vol) :
    (retryReady t others s).work.store.line = s.work.store.line ∧ (retryReady t others s).work.store.held = s.work.store.held := by
  cases t <;> exact ⟨rfl, rfl⟩

theorem fabricRetry_repeats (nv : Nv) {f : Frame} (others : List Initiator) {s : Vol}
    (hand : s.work.ex.inHand = some { frame := f, clamps := [], clamped := false, await := .retry }) :
    fabricRetry nv true others s =
      pump nv 8 { runCommand nv f (frameRole (retryGranted (retryTarget s f) others s) f) (retryReady (retryTarget s f) others s) with
        work.ex.retrying := false } := by
  unfold fabricRetry
  rw [hand]
  rfl

/-- The block is present: the command in hand is answered, and its target waits for nobody (R54, R55). -/
theorem fabricRetry_present (nv : Nv) {f : Frame} (others : List Initiator) {s : Vol}
    (hand : s.work.ex.inHand = some { frame := f, clamps := [], clamped := false, await := .retry })
    (hqueue : s.work.ex.queue = []) (hcmd : f.cmd = 3) (hstall : f.stalls = false) (hwrite : writeRuns s = false)
    (hline : s.work.store.line.length < 5) (hheld : s.work.store.held = []) :
    (fabricRetry nv true others s).work.ex.inHand = none ∧
      ((fabricRetry nv true others s).work.fab.waiting.any fun r => r.target == retryTarget s f) = false ∧
      (retryTarget s f = .store → (fabricRetry nv true others s).work.store.present = true) ∧
      (retryTarget s f = .display → (fabricRetry nv true others s).work.disp.present = true) := by
  obtain ⟨hfree, hnext, hwaiting⟩ := retryReady_engine (retryTarget s f) others s
  obtain ⟨hl, hh⟩ := retryReady_line (retryTarget s f) others s
  have reached : ∀ o, objOf (retryReady (retryTarget s f) others s) f.ident = some o →
      (absentTarget f o).any (!blockPresent (retryReady (retryTarget s f) others s) ·) = false := fun o ho => by
    rw [objOf_retryReady] at ho
    rw [blockPresent_retryReady]
    exact absentTarget_markPresent ho (blockPresent_retryGranted _ others s)
  have done := runCommand_get (nv := nv) (frameRole (retryGranted (retryTarget s f) others s) f) hcmd hstall reached
    (by rw [writeRuns, hl]; exact hwrite) (by rw [hl]; exact hline) (by rw [hh]; exact hheld)
  have granted := retryGranted_waiting (retryTarget s f) others s
  have store : retryTarget s f = .store → (retryReady (retryTarget s f) others s).work.store.present = true := fun h => by
    rw [h]
    rfl
  have disp : retryTarget s f = .display → (retryReady (retryTarget s f) others s).work.disp.present = true := fun h => by
    rw [h]
    rfl
  rw [fabricRetry_repeats nv others hand]
  generalize runCommand nv f _ _ = u at done ⊢
  have next : u.work.ex.queue = [] := by rw [done.queue, hnext, hqueue]
  rw [pump_idle (s := { u with work.ex.retrying := false }) nv 8 next]
  refine ⟨done.inHand.trans hfree, ?_, fun h => done.present (store h), fun h => ?_⟩
  · change (u.work.fab.waiting.any fun r => r.target == retryTarget s f) = false
    rw [done.waiting, hwaiting]
    exact granted
  · change u.work.disp.present = true
    rw [done.disp]
    exact disp h

/-! ### A block falls idle (R53) -/

theorem exec_blockIdleTimeout (t : Target) (s : State) :
    exec (.blockIdleTimeout t) s = .next (s.up (blockIdle t s.vol)) := rfl

section
variable {s : Vol}

theorem blockIdle_waits {t : Target} (h : s.work.fab.waiting.any (waitsFor t) = true) : blockIdle t s = grantAll t s := if_pos h

theorem blockIdle_store (h : s.work.fab.waiting.any (waitsFor .store) = false) (hline : s.work.store.line = [])
    (hheld : s.work.store.held = []) : blockIdle .store s = { s with work.store.present := false } := by
  simp [blockIdle, h, hline, hheld]

theorem blockIdle_display (h : s.work.fab.waiting.any (waitsFor .display) = false) (hrun : s.work.disp.running = [])
    (hpmic : s.work.disp.pmic = false) : blockIdle .display s = { s with work.disp.present := false } := by
  simp [blockIdle, h, hrun, hpmic]

end

theorem grantAll_waiting (t : Target) (s : Vol) : ((grantAll t s).work.fab.waiting.any fun r => r.target == t) = false := by
  refine List.any_eq_false.mpr fun r hr => ?_
  simpa [waitsFor] using (List.mem_filter.mp hr).2

/-- Settles O21: a request that aged is granted before the others, and the repeat of a GET whose block is present meets no absent block,
so it is answered and nothing is left in hand. -/
theorem theFabricAgesRetriesAndIdles : Obligations.TheFabricAgesRetriesAndIdles := by
  unfold Obligations.TheFabricAgesRetriesAndIdles
  intro s
  refine ⟨fun target who hcore h => ?_, fun f others hand hqueue => ?_,
    fun f others hand hqueue hcmd hsession hstall hwrite hline hheld => ?_, fun hidle hline hheld => ?_,
    fun hidle hrun hpmic => ?_, fun target hwaits => ?_⟩
  · exact ⟨_, exec_arbitrationAge hcore, rfl, arbitrationAge_order who h⟩
  · obtain ⟨hfree, habsent⟩ := fabricRetry_absent s.nv others hand hqueue
    exact ⟨_, exec_fabricRetry false others s, hfree, habsent, rfl⟩
  · obtain ⟨hfree, hwaiting, hstore, hdisp⟩ := fabricRetry_present s.nv others hand hqueue hcmd hstall hwrite hline hheld
    exact ⟨_, exec_fabricRetry true others s, hfree, hwaiting, hstore, hdisp, rfl⟩
  · refine ⟨_, exec_blockIdleTimeout .store s, ?_⟩
    rw [State.up_vol, blockIdle_store hidle hline hheld]
    exact ⟨rfl, rfl, rfl⟩
  · refine ⟨_, exec_blockIdleTimeout .display s, ?_⟩
    rw [State.up_vol, blockIdle_display hidle hrun hpmic]
    exact ⟨rfl, rfl⟩
  · refine ⟨_, exec_blockIdleTimeout target s, ?_⟩
    rw [State.up_vol, blockIdle_waits hwaits]
    exact ⟨rfl, rfl, grantAll_waiting target s.vol⟩

end Sys2Proof.Machine
end

section
/-! SUPPORT and the refutation of O16: the clause about the periodic wake does not ask that CORE is stopped. -/

namespace Sys2Proof.Machine

theorem exec_periodicWake (s : State) : exec .periodicWake s = .next (s.up (periodicWake s.nv s.vol)) := rfl

/-- While CORE runs, a periodic match has its duties alone: it writes no last-wake record. -/
theorem periodicWake_lastWake_of_coreRuns (nv : Nv) {s : Vol} (hmatch : periodicMatch s = true) (hcore : coreRuns s = true) :
    (periodicWake nv s).bak.lastWake = s.bak.lastWake := by
  have duties : periodicWake nv s = periodicDuties nv s := by simp [periodicWake, hmatch, hcore]
  rw [duties, periodicDuties_bak]

/-- A state whose power state is SLEEP while CORE runs, no wake of which is recorded, on a tick of its periodic wake. -/
def sleepWithCore : State :=
  { State.reset with
    vol.bak.power.state := .sleep
    vol.bak.power.core := true
    vol.bak.pwake.enable := 1 }

/-- Refutes O16: the clause about the periodic wake has no hypothesis that CORE is stopped. In SLEEP with CORE running the device can
wake by `canWake`, and a match has its duties alone, so the last-wake record does not name source 0x01. -/
theorem not_sleepEndsWithThePeriodicWake : ¬ Obligations.SleepEndsWithThePeriodicWake := by
  unfold Obligations.SleepEndsWithThePeriodicWake
  intro h
  obtain ⟨-, -, -, -, -, wakes, -⟩ := h sleepWithCore
  have hmatch : periodicMatch sleepWithCore.vol = true := by decide
  obtain ⟨t, run, -, source, -⟩ := wakes hmatch (by decide) (by decide)
  rw [exec_periodicWake] at run
  cases run
  rw [State.up_vol, periodicWake_lastWake_of_coreRuns _ hmatch (by decide)] at source
  exact absurd source (by decide)

end Sys2Proof.Machine
end

section
/-! SUPPORT. A receive set and a lane under the updates that have a name of their own (R92, R157, R158). -/

namespace Sys2Proof.Machine

section
variable {k : Nat} (e : ESet) (l : Lane) (s : Vol)

theorem lane_setLane_self (hk : k < 6) : lane (setLane k l s) k = l := vget_vset_self _ l hk

@[simp] theorem lane_setEset (j : Nat) : lane (setEset k e s) j = lane s j := rfl

@[simp] theorem eset_setLane (j : Nat) : eset (setLane k l s) j = eset s j := rfl

theorem eset_setEset_self (hk : k < 4) : eset (setEset k e s) k = e := vget_vset_self _ e hk

end

end Sys2Proof.Machine
end

section
/-! PROOF. An arming is confirmed or withdrawn (R92, R117, R158, R173, R176). -/

namespace Sys2Proof.Machine

theorem exec_comparatorArmed (k : Fin 4) (t : Nat) (code : BitVec 10) (s : State) :
    exec (.comparatorArmed k t code) s = .next (s.up (arm k.val t code s.vol)) := rfl

theorem exec_armingConfirmed (k : Fin 4) (t : Nat) (code : BitVec 10) (s : State) :
    exec (.armingConfirmed k t code) s = .next (s.up (confirm k.val t code s.vol)) := rfl

theorem exec_armingWithdrawn (k : Fin 4) (t : Nat) (s : State) :
    exec (.armingWithdrawn k t) s = .next (s.up (withdrawn k.val t s.vol)) := rfl

section
variable {k t : Nat} {code : BitVec 10} {s : Vol}

/-- Three times the floor inside the search window arms the comparator (R92, R173). -/
theorem arm_in_window {p : Fin 16} (hport : (eset s k).port = some p) (hfires : roundFires s = true)
    (hlistens : (eset s k).listening = true) (hshot : (eset s k).slot < s.work.fe.round.shots)
    (hclosed : (eset s k).closed = false) (hfree : (eset s k).armedAt = none) (hended : (eset s k).endedAt = none)
    (hopen : ((searchWindow s p (eset s k).slot).1 : Int) ≤ slotTime s (eset s k).slot t) (hend : t ≤ windowEnd s (eset s k))
    (hcode : 3 * max 4 (eset s k).floor < code.toNat) :
    arm k t code s =
      setLane k { lane s k with lossAtArm := vget (lane s k).loss p.val, gutterAtArm := (lane s k).gutter, tentative := 0 }
        (setEset k { eset s k with armedAt := some t, crossings := 0 } s) := by
  simp [arm, floorUsed, hport, hfires, hlistens, hshot, hclosed, hfree, hended, hopen, hend, hcode]

section
variable {a : Nat} (harmed : (eset s k).armedAt = some a) (hconf : (eset s k).confirmed = false)
  (hclosed : (eset s k).closed = false)
include harmed

/-- No confirmation comes after the window of the reception (R117). -/
theorem confirm_after_window (h : windowEnd s (eset s k) < t) : confirm k t code s = s := by
  have late : ¬ t ≤ windowEnd s (eset s k) := by omega
  simp [confirm, harmed, late]

include hconf hclosed

/-- Six times the floor within sixteen band periods confirms the arming (R92). -/
theorem confirm_in_time (hafter : a ≤ t) (hend : t ≤ windowEnd s (eset s k)) (htime : t ≤ a + confirmT s)
    (hcode : 6 * max 4 (eset s k).floor ≤ code.toNat) :
    confirm k t code s = setLane k { lane s k with tentative := 0 } (setEset k { eset s k with confirmed := true } s) := by
  have time : t - a ≤ confirmT s := by omega
  simp [confirm, floorUsed, harmed, hconf, hclosed, hafter, hend, time, hcode]

/-- An arming that is not confirmed within sixteen band periods is withdrawn (R92, R158). -/
theorem withdrawn_after_time {p : Fin 16} (hport : (eset s k).port = some p) (htime : a + confirmT s ≤ t) :
    withdrawn k t s =
      setLane k (rewindLane p.val (lane s k))
        (setEset k { eset s k with
          armedAt := none, confirmed := false, crossings := 0, endedAt := none, closeWritten := false } s) := by
  simp [withdrawn, withdraw, harmed, hconf, hclosed, hport, htime]

end

end

/-- Settles O24: the comparator arms, is confirmed and is withdrawn by the three rules of the set and of its lane. -/
theorem armingIsConfirmedOrWithdrawn : Obligations.ArmingIsConfirmedOrWithdrawn := by
  unfold Obligations.ArmingIsConfirmedOrWithdrawn
  intro s k t code
  refine ⟨fun p hport hfires hlistens hshot hclosed hfree hended hopen hend hcode => ?_,
    fun a harmed hconf hclosed => ⟨fun hlate => ?_, fun hafter hend htime hcode => ?_, fun p hport htime => ?_⟩⟩
  · rw [exec_comparatorArmed, arm_in_window hport hfires hlistens hshot hclosed hfree hended hopen hend hcode]
    rfl
  · rw [exec_armingConfirmed, confirm_after_window harmed hlate, State.up_self]
  · rw [exec_armingConfirmed, confirm_in_time harmed hconf hclosed hafter hend htime hcode]
    rfl
  · refine ⟨_, exec_armingWithdrawn k t s, ?_⟩
    rw [State.up_vol, withdrawn_after_time harmed hconf hclosed hport htime, eset_setLane, eset_setEset_self _ _ k.isLt,
      lane_setLane_self _ _ (by omega)]
    exact ⟨rfl, rfl, rfl, rfl, rfl, rfl⟩

end Sys2Proof.Machine
end

section
/-! SUPPORT. The words of a lane: what the drain and a new word leave of it (R151, R156 to R159). -/

namespace Sys2Proof.Machine

/-! ### The drain (R159) -/

/-- The drain takes words of a lane and leaves its cells, its epoch and its count of wraps. -/
structure Drained (l l' : Lane) : Prop where
  cells : l'.cells = l.cells
  epoch : l'.epoch = l.epoch
  wraps : l'.wraps = l.wraps
  queue : l'.queue.length ≤ l.queue.length

theorem Drained.refl (l : Lane) : Drained l l := ⟨rfl, rfl, rfl, le_rfl⟩

theorem Drained.trans {a b c : Lane} (h : Drained a b) (k : Drained b c) : Drained a c :=
  ⟨k.cells.trans h.cells, k.epoch.trans h.epoch, k.wraps.trans h.wraps, k.queue.trans h.queue⟩

theorem takeWord_drained (copies : Bool) (l : Lane) : Drained l (takeWord copies l) :=
  ⟨rfl, rfl, rfl, by simp [takeWord]⟩

theorem drainTurns_drained (copies : Bool) (n : Nat) (te : Timing) {k : Nat} (hk : k < 6) :
    Drained (vget te.lanes k) (vget (drainTurns copies n te).lanes k) := by
  induction n generalizing te with
  | zero => exact .refl _
  | succ n ih =>
    unfold drainTurns
    split
    · exact .refl _
    · next j _ =>
      refine Drained.trans ?_ (ih _)
      by_cases hj : j = k
      · subst hj
        rw [vmod, vget_vset_self _ _ hk]
        exact takeWord_drained _ _
      · rw [vmod, vget_vset_ne _ _ hj]
        exact .refl _

theorem drainTo_drained (t : Nat) (s : Vol) {k : Nat} (hk : k < 6) : Drained (lane s k) (lane (drainTo t s) k) :=
  drainTurns_drained _ _ _ hk

@[simp] theorem setLane_ret (k : Nat) (l : Lane) (s : Vol) : (setLane k l s).ret = s.ret := rfl

@[simp] theorem drainTo_ret (t : Nat) (s : Vol) : (drainTo t s).ret = s.ret := rfl

@[simp] theorem clockTo_ret (t : Nat) (s : Vol) : (clockTo t s).ret = s.ret := rfl

@[simp] theorem lane_clockTo (t : Nat) (s : Vol) (k : Nat) : lane (clockTo t s) k = lane s k := rfl

/-- The counter has reached t, and the drain has gone on up to it. -/
theorem drainTo_clockTo_drained (t : Nat) (s : Vol) {k : Nat} (hk : k < 6) :
    Drained (lane s k) (lane (drainTo t (clockTo t s)) k) := drainTo_drained t (clockTo t s) hk

/-! ### A new word (R157) -/

theorem two_le_laneDepth (k : Nat) : 2 ≤ laneDepth k := by
  unfold laneDepth
  split <;> omega

section
variable (k : Nat) (copies : Bool) (w : StampWord) (tentative : Bool) (l : Lane)

theorem pushWord_queue : (pushWord k copies w tentative l).queue =
    (if laneDepth k ≤ l.queue.length then l.queue.drop 1 else l.queue) ++ [w] := by
  unfold pushWord
  split <;> rfl

@[simp] theorem pushWord_cells : (pushWord k copies w tentative l).cells = l.cells := by
  unfold pushWord
  split <;> rfl

@[simp] theorem pushWord_wraps : (pushWord k copies w tentative l).wraps = l.wraps := by
  unfold pushWord
  split <;> rfl

/-- The word is the latest of the queue. -/
theorem getLast?_pushWord : (pushWord k copies w tentative l).queue.getLast? = some w := by
  rw [pushWord_queue, List.getLast?_concat]

variable {l} in
/-- The latest word of a queue stays in it where one more word comes: a full queue gives up its oldest. -/
theorem mem_pushWord_of_getLast? {x : StampWord} (h : l.queue.getLast? = some x) :
    x ∈ (pushWord k copies w tentative l).queue := by
  have depth := two_le_laneDepth k
  obtain ⟨q, hq⟩ := List.getLast?_eq_some_iff.mp h
  rw [pushWord_queue, List.mem_append]
  left
  split
  · next full =>
    rw [hq, List.length_append, List.length_singleton] at full
    rw [hq, List.drop_append_of_le_length (by omega)]
    simp
  · simp [hq]

end

/-! ### The close word (R156) -/

/-- A close word comes into the queue of its lane, or nothing changes. -/
theorem writeClose_cases (k : Nat) (s : Vol) :
    writeClose k s = s ∨
      ∃ w, writeClose k s =
        setLane k (pushWord k (streams s 0) w (isTentative s k) (lane s k))
          (setEset k { eset s k with closeWritten := true } s) := by
  unfold writeClose
  dsimp only
  split
  · exact .inl rfl
  · split
    · split
      · exact .inl rfl
      · exact .inr ⟨_, rfl⟩
    · exact .inl rfl

/-- What the close of a reception leaves of a lane: the cells, and the word that came last. -/
theorem lane_writeClose {k : Nat} (s : Vol) (hk : k < 6) :
    (lane (writeClose k s) k).cells = (lane s k).cells ∧
      ∀ x, (lane s k).queue.getLast? = some x → x ∈ (lane (writeClose k s) k).queue := by
  rcases writeClose_cases k s with same | ⟨w, pushed⟩
  · rw [same]
    exact ⟨rfl, fun x hx => List.mem_of_getLast? hx⟩
  · rw [pushed, lane_setLane_self _ _ hk]
    exact ⟨pushWord_cells _ _ _ _ _, fun x hx => mem_pushWord_of_getLast? _ _ _ _ hx⟩

theorem lane_putLane_self {k : Nat} (l : Lane) (full : Bool) (s : Vol) (hk : k < 6) : lane (putLane k l full s) k = l := by
  have stands : (putLane k l full s).work.te = (setLane k l s).work.te := by
    unfold putLane
    dsimp only
    split <;> split <;> simp
  rw [lane, stands]
  exact lane_setLane_self l s hk

end Sys2Proof.Machine
end

section
/-! PROOF. Crossings and edges go to their lane, and cells and wraps write its words (R92, R140 to R142, R151 to R153, R157, R163,
R257). -/

namespace Sys2Proof.Machine

theorem exec_risingCrossing_path {k : Fin 6} (source : Fin 16) (falling : Bool) (t : Nat) (s : State) (hk : k.val < 4) :
    exec (.risingCrossing k source falling t) s = .next (s.up (acousticEdge k.val source falling t s.vol)) := if_pos hk

theorem exec_risingCrossing_aux {k : Fin 6} (source : Fin 16) (falling : Bool) (t : Nat) (s : State) (hk : 4 ≤ k.val) :
    exec (.risingCrossing k source falling t) s = .next (s.up (auxEdge k.val source.val source falling t s.vol)) :=
  if_neg (by omega)

theorem exec_cellCycleEnd (k : Fin 6) (i : Fin 4) (t : Nat) (v : BitVec 12) (cstop : Nat) (s : State) :
    exec (.cellCycleEnd k i t v cstop) s = .next (s.up (cellCycleEnd s.nv k.val i.val t v cstop s.vol)) := rfl

theorem exec_epochMarker (k : Fin 6) (s : State) : exec (.epochMarker k) s = .next (s.up (epochMarker k.val s.vol)) := rfl

/-! ### Edges (R92, R163, R257) -/

/-- An edge 100 ps before the closing FINE edge, 3 356 TOF units, is let through (R163). -/
theorem beforeClose_of_le {t close : Nat} (h : t + 3356 ≤ close) : beforeClose t close = true := by
  unfold beforeClose
  rw [if_neg (by omega), if_neg (by omega)]

/-- A crossing of an armed chain before the 64th goes to its lane (R92). -/
theorem acousticEdge_presented {k t : Nat} {source : Fin 16} {s : Vol} (hfires : roundFires s = true)
    (hpower : s.work.te.powered = true) (hlock : s.work.fe.round.lostLock = false) (hport : (eset s k).port = some source)
    (harmed : (eset s k).armedAt ≠ none) (hgate : (eset s k).gated = false) (hclosed : (eset s k).closed = false)
    (hcount : (eset s k).crossings < 63) (hend : t + 3356 ≤ ((lane s k).epoch + windowEnd s (eset s k)) * 65536) :
    acousticEdge k source false t s =
      putLane k (presentEdge k source false t (lane s k)) false
        (setEset k { eset s k with crossings := (eset s k).crossings + 1, endedAt := none } (clockTo (t / 65536) s)) := by
  have few : (eset s k).crossings < 64 := by omega
  have notLast : ¬ (eset s k).crossings + 1 = 64 := by omega
  simp [acousticEdge, hfires, hpower, hlock, hport, Option.isSome_iff_ne_none.mpr harmed, hgate, hclosed, few, notLast,
    beforeClose_of_le hend]

/-- Every rising edge of an input without prescaler is presented to its lane (R258). -/
theorem finEdge_presented {s : Vol} {n : Nat} (t : Nat) (hn : n < 4) (hgate : s.work.aux.interval = false)
    (hpresc : (vget s.work.aux.sensors n).presc = 0) : (finEdge s n t).2 = true := by
  simp [finEdge, hn, hgate, hpresc, Nat.mod_one]

/-- An edge of an input of the open slot goes to its lane (R257, R264). -/
theorem lane_auxEdge {k t : Nat} {n : Fin 16} {s : Vol} (hk : k < 6) (hopen : s.work.aux.isOpen = true)
    (hclosing : s.work.aux.closing = none) (hpower : s.work.te.powered = true) (hlane : finLane n.val = k)
    (hgate : s.work.aux.interval = false) (hn : n.val < 4) (hmode : finMode (th s 9) n.val ≠ 0)
    (hlive : s.work.aux.live.contains n.val = true) (hpol : (vget s.work.aux.sensors n.val).pol = 0)
    (hpresc : (vget s.work.aux.sensors n.val).presc = 0) (hepoch : (lane s k).epoch * 65536 ≤ t)
    (hend : t + 3356 ≤ ((lane s k).epoch + slotCloseT s) * 65536) :
    lane (auxEdge k n.val n false t s) k = presentEdge k n false t (lane s k) := by
  have six : ¬ 6 ≤ n.val := by omega
  have inside : inSlot k n.val t s = true := by
    simp only [inSlot, hopen, hclosing, hlive, beforeClose_of_le hend]
    simpa using hepoch
  have edge : auxEdge k n.val n false t s =
      putLane k (presentEdge k n false t (lane s k)) false (setFin n.val (finEdge s n.val t).1 (clockTo (t / 65536) s)) := by
    simp only [auxEdge, hpower, hlane, hpol, inside, six, finEdge_presented t hn hgate hpresc]
    simp [hmode]
    rfl
  rw [edge, lane_putLane_self _ _ _ hk]

/-! ### The end of a cell's cycle (R140, R142, R151) -/

/-- The lane of cell i as its cycle has ended at t, before its word comes. -/
def cellFreed (i t : Nat) (l : Lane) : Lane :=
  { l with cells := vset l.cells i { vget l.cells i with job := none, freeSince := t } }

/-- The state in which the word of a cycle that ends at t comes into the queue: the drain has gone on up to it (R159). -/
def atCellEnd (t : Nat) (s : Vol) : Vol := drainTo (t / 65536) (clockTo (t / 65536) s)

theorem lane_atCellEnd (t : Nat) (s : Vol) {k : Nat} (hk : k < 6) : Drained (lane s k) (lane (atCellEnd t s) k) :=
  drainTo_clockTo_drained _ _ hk

/-- A converted edge writes its stamp. -/
theorem cellEnd_converts (nv : Nv) {k i t : Nat} {v : BitVec 12} {s : Vol} {j : CellJob} {tau : Int} (hk : k < 4)
    (hjob : (vget (lane s k).cells i).job = some j) (harmed : j.armed = true) (hlock : s.work.fe.round.lostLock = false)
    (hends : cycleEnds (lane s k) j t = true)
    (htau : chargeTime (linTable nv k i) (16 * v.toNat) (vget (lane s k).cells i) = some tau)
    (hqueue : (lane s k).queue.length < 512) :
    cellEnd nv k i t v j.cstop s =
      writeClose k (setLane k
        (pushWord k (streams (atCellEnd t s) 0) (dataWord (lane s k).epoch j tau) (isTentative (atCellEnd t s) k)
          (cellFreed i t (lane (atCellEnd t s) k))) (atCellEnd t s)) := by
  obtain ⟨cells, epoch, -, queue⟩ := lane_atCellEnd t s (k := k) (by omega)
  have lock : (atCellEnd t s).work.fe.round.lostLock = false := hlock
  have room : ¬ laneDepth k ≤ (lane (atCellEnd t s) k).queue.length := by
    rw [laneDepth, if_pos hk]
    omega
  unfold atCellEnd at cells epoch lock room
  simp [cellEnd, hjob, hends, harmed, htau, lock, room, atCellEnd, cellFreed, cells, epoch]

theorem cellCycleEnd_path (nv : Nv) {k : Nat} (i t : Nat) (v : BitVec 12) (cstop : Nat) (s : Vol) (hk : k < 4) :
    cellCycleEnd nv k i t v cstop s = cellEnd nv k i t v cstop s := by
  simp [cellCycleEnd, hk]

/-- The cycle of a cell frees it and puts its stamp in the queue, where a close word may follow it (R140, R151, R156). -/
theorem lane_cellCycleEnd (nv : Nv) {k i t : Nat} {v : BitVec 12} {s : Vol} {j : CellJob} {tau : Int} (hk : k < 4) (hi : i < 4)
    (hjob : (vget (lane s k).cells i).job = some j) (harmed : j.armed = true) (hlock : s.work.fe.round.lostLock = false)
    (hends : cycleEnds (lane s k) j t = true)
    (htau : chargeTime (linTable nv k i) (16 * v.toNat) (vget (lane s k).cells i) = some tau)
    (hqueue : (lane s k).queue.length < 512) :
    (vget (lane (cellCycleEnd nv k i t v j.cstop s) k).cells i).job = none ∧
      (vget (lane (cellCycleEnd nv k i t v j.cstop s) k).cells i).freeSince = t ∧
      dataWord (lane s k).epoch j tau ∈ (lane (cellCycleEnd nv k i t v j.cstop s) k).queue := by
  rw [cellCycleEnd_path nv i t v j.cstop s hk, cellEnd_converts nv hk hjob harmed hlock hends htau hqueue]
  generalize hpushed : pushWord k _ (dataWord (lane s k).epoch j tau) _ _ = l
  have hk6 : k < 6 := by omega
  obtain ⟨cells, stays⟩ := lane_writeClose (setLane k l (atCellEnd t s)) hk6
  rw [lane_setLane_self _ _ hk6] at cells stays
  have freed : vget l.cells i = { vget (lane (atCellEnd t s) k).cells i with job := none, freeSince := t } := by
    rw [← hpushed, pushWord_cells, cellFreed, vget_vset_self _ _ hi]
  rw [cells, freed]
  exact ⟨rfl, rfl, stays _ (hpushed ▸ getLast?_pushWord _ _ _ _ _)⟩

/-! ### The marker of a wrap (R152, R153) -/

/-- The time of the next wrap of COARSE on a lane, in T. -/
def nextWrap (l : Lane) : Nat := l.epoch + (l.wraps + 1) * 2 ^ 28

theorem exists_vget_of_mem {α : Type} [Inhabited α] {n : Nat} {v : Vector α n} {x : α} (h : x ∈ v.toList) :
    ∃ i < n, vget v i = x := by
  obtain ⟨i, hi, rfl⟩ := List.mem_iff_getElem.mp h
  have hn : i < n := by simpa using hi
  exact ⟨i, hn, by simp [vget, Vector.getD, Array.getD, hn]⟩

/-- A wrap that no cell's edge precedes writes its marker, which carries the count of wraps and is the latest word of the queue (R152,
R153, R157). -/
theorem lane_epochMarker {k : Nat} {s : Vol} (hk : 4 ≤ k) (hk6 : k < 6) (hopen : s.work.aux.isOpen = true)
    (hcells : ∀ i < 4, ∀ j, (vget (lane s k).cells i).job = some j → j.armed = true → nextWrap (lane s k) * 65536 ≤ j.t) :
    (lane (epochMarker k s) k).wraps = (lane s k).wraps + 1 ∧
      (lane (epochMarker k s) k).queue.getLast? = some (stampWord 0 0 1 0 1 ((lane s k).wraps + 1) 0) := by
  unfold epochMarker
  extract_lets l wrapAt earlier d _ marked
  have none : earlier = false := by
    refine List.any_eq_false.mpr fun c hc => ?_
    obtain ⟨i, hi, rfl⟩ := exists_vget_of_mem hc
    have late : ∀ j, (vget l.cells i).job = some j → j.armed = true → wrapAt * 65536 ≤ j.t := hcells i hi
    clear_value wrapAt
    split
    · next j hj =>
      rw [Bool.and_eq_true, decide_eq_true_eq, not_and, Nat.not_lt]
      exact late j hj
    · decide
  clear_value earlier wrapAt
  rw [none, hopen, if_neg (by simp [hk]), lane_setLane_self _ _ hk6, pushWord_wraps, getLast?_pushWord]
  exact ⟨rfl, rfl⟩

theorem epochMarker_ret (k : Nat) (s : Vol) : (epochMarker k s).ret = s.ret := by
  unfold epochMarker
  extract_lets _ wrapAt
  clear_value wrapAt
  split
  · rfl
  · rw [setLane_ret, drainTo_ret, clockTo_ret]

/-- Settles O27: a crossing and an edge by the lane that they reach, the stamp of a cycle as the word that comes last before a close
word, and the marker as the latest word of its queue. -/
theorem crossingsBecomeStamps : Obligations.CrossingsBecomeStamps := by
  unfold Obligations.CrossingsBecomeStamps
  intro s
  refine ⟨fun k source t hk hfires hpower hlock hport harmed hgate hclosed hcount hend => ?_,
    fun k n t hk hopen hclosing hpower hlane hgate hn hmode hlive hpol hpresc hepoch hend => ?_,
    fun k i t v j tau hk hjob harmed hlock hends htau hqueue => ?_, fun k hk hopen hcells => ?_⟩
  · rw [exec_risingCrossing_path source false t s hk,
      acousticEdge_presented hfires hpower hlock hport harmed hgate hclosed hcount hend]
    rfl
  · exact ⟨_, exec_risingCrossing_aux n false t s hk, rfl,
      lane_auxEdge k.isLt hopen hclosing hpower hlane hgate hn hmode hlive hpol hpresc hepoch hend⟩
  · obtain ⟨freed, since, stamped⟩ := lane_cellCycleEnd s.nv hk i.isLt hjob harmed hlock hends htau hqueue
    exact ⟨_, exec_cellCycleEnd k i t v j.cstop s, rfl, freed, since, stamped⟩
  · obtain ⟨wraps, marker⟩ := lane_epochMarker hk k.isLt hopen hcells
    exact ⟨_, exec_epochMarker k s, wraps, marker, epochMarker_ret _ _, rfl⟩

end Sys2Proof.Machine
end

section
/-! SUPPORT. What the bookings (R217 to R221, R247 to R251) leave of the loop-backs and of the cycles. -/

namespace Sys2Proof.Machine

/-- The acoustic loop-back and the schedule of the cycles stand. -/
structure LoopStands (s s' : Vol) : Prop where
  loop : s'.work.loop = s.work.loop
  cyc : s'.work.cyc = s.work.cyc

theorem LoopStands.refl (s : Vol) : LoopStands s s := ⟨rfl, rfl⟩

theorem LoopStands.trans {a b c : Vol} (h : LoopStands a b) (k : LoopStands b c) : LoopStands a c :=
  ⟨k.loop.trans h.loop, k.cyc.trans h.cyc⟩

theorem LoopStands.after {a b c : Vol} (k : LoopStands b c) (h : LoopStands a b) : LoopStands a c := h.trans k

theorem LogFrame.loopStands {s s' : Vol} (h : LogFrame s s') : LoopStands s s' := ⟨h.work_loop, h.work_cyc⟩

theorem deduct_loopStands (v : Nat) (s : Vol) : LoopStands s (deduct v s) := by
  unfold deduct
  split <;> exact ⟨rfl, rfl⟩

theorem ledgerTakes_loopStands (a b c d : Nat) (s : Vol) : LoopStands s (ledgerTakes a b c d s) := by
  unfold ledgerTakes
  split
  · exact .refl s
  · exact .after (deduct_loopStands _ _) ⟨rfl, rfl⟩

theorem pulseLost_loopStands (o n : Nat) (s : Vol) : LoopStands s (pulseLost o n s) := by
  unfold pulseLost
  split
  · exact .refl s
  · refine .after (logLimitedTimes_frame _ _ _ _ _ _).loopStands ?_
    split <;> exact ⟨rfl, rfl⟩

theorem pulseBook_loopStands (a b : Nat) (f r : Bool) (s : Vol) : LoopStands s (pulseBook a b f r s) := by
  unfold pulseBook
  split
  · exact .refl s
  · exact .after (pulseLost_loopStands _ _ _) (.after (pulseLost_loopStands _ _ _) ⟨rfl, rfl⟩)

theorem endGap_loopStands (n : Nat) (q : Option Int) (s : Vol) : LoopStands s (endGap n q s).1 := by
  have filled : LoopStands s (limM 0x0167 0xFF (ceilDiv n 4) { s with ret.led.interval.gapFilled := true }) :=
    .after (limM_frame _ _ _ _).loopStands ⟨rfl, rfl⟩
  unfold endGap
  split
  · exact .refl s
  · split
    · split
      · split <;> exact ⟨filled.loop, filled.cyc⟩
      · exact (logM_frame _ _ _).loopStands
    · exact (logM_frame _ _ _).loopStands

theorem markUnfilled_loopStands (g : Gap) (s : Vol) : LoopStands s (markUnfilled g s) := by
  unfold markUnfilled
  split <;> exact ⟨rfl, rfl⟩

theorem decideGaps_loopStands (s : Vol) : LoopStands s (decideGaps s).1 := by
  have go : ∀ (l : List Gap) (p : Vol × Nat × Nat), LoopStands s p.1 →
      LoopStands s (l.foldl (fun x g =>
        let (s, e0, e1) := endGap g.ticks g.flow (markUnfilled g x.1)
        (s, x.2.1 + e0, x.2.2 + e1)) p).1 := by
    intro l
    induction l with
    | nil => exact fun _ h => h
    | cons g l ih => exact fun p h => ih _ (.after (endGap_loopStands _ _ _) (.after (markUnfilled_loopStands g p.1) h))
  exact go _ _ ⟨rfl, rfl⟩

theorem addGap_loopStands (c : BitVec 32) (n : Nat) (s : Vol) : LoopStands s (addGap c n s) := by
  unfold addGap
  split <;> exact ⟨rfl, rfl⟩

theorem bookFlow_loopStands (m : Nat) (s : Vol) : LoopStands s (bookFlow m s).1 := by
  unfold bookFlow
  split
  · exact .refl s
  · split
    · exact .refl s
    · dsimp only
      split <;> split <;> exact ⟨rfl, rfl⟩

theorem spanBook_loopStands (a m q : Nat) (s : Vol) : LoopStands s (spanBook a m q s) := ⟨rfl, rfl⟩

theorem bookTo_loopStands (c : BitVec 32) (s : Vol) : LoopStands s (bookTo c s) := by
  unfold bookTo
  dsimp only
  split
  · exact .refl s
  · split
    · exact ⟨rfl, rfl⟩
    · refine .after (pulseBook_loopStands _ _ _ _ _) (.after (ledgerTakes_loopStands _ _ _ _ _) ?_)
      refine .trans (.after (addGap_loopStands _ _ _) (.after (spanBook_loopStands _ _ _ _) (.after (spanBook_loopStands _ _ _ _)
        (.after (bookFlow_loopStands _ _) ?_)))) ⟨rfl, rfl⟩
      split
      · exact .refl s
      · exact decideGaps_loopStands s

theorem bookOutage_loopStands (c : BitVec 32) (s : Vol) : LoopStands s (bookOutage c s) := by
  unfold bookOutage
  split
  · have gap := addGap_loopStands c (c - s.ret.flow.lastBooking).toNat s
    exact ⟨gap.loop, gap.cyc⟩
  · exact .refl s

/-- The booking before a loop-back leaves the request and the schedule as they are (R106). -/
theorem bookBeforeLoop_loopStands (t : BitVec 32) (s : Vol) : LoopStands s (bookBeforeLoop t s) := by
  unfold bookBeforeLoop
  split
  · exact .refl s
  · split
    · exact bookOutage_loopStands t s
    · exact bookTo_loopStands t s

theorem leaveMeasure_loop (s : Vol) : (leaveMeasure s).work.loop = s.work.loop := by
  unfold leaveMeasure
  split <;> rfl

end Sys2Proof.Machine
end

section
/-! SUPPORT. What the loop-back of a line context (R485, R486) and the read-back of the panel (R514) leave. -/

namespace Sys2Proof.Machine

/-! ### A line loop-back -/

/-- What a loop-back has queued leaves, and the rest of the line stands. -/
theorem lineLoopDrop_line (s : Vol) :
    (lineLoopDrop s).work.line = { s.work.line with
      lbFrom := (lineLoopDrop s).work.line.lbFrom
      ctxs := (lineLoopDrop s).work.line.ctxs
      drive := (lineLoopDrop s).work.line.drive } := by
  unfold lineLoopDrop
  dsimp only
  split <;> rfl

theorem lineLoopDrop_led (s : Vol) : (lineLoopDrop s).ret.led = s.ret.led := by
  unfold lineLoopDrop
  dsimp only
  split <;> rfl

theorem lineLoopStart_line (session : Nat) (request : BitVec 32) (s : Vol) :
    (lineLoopStart session request s).work.line = { s.work.line with
      lbRun := request
      lbPending := false
      lbResult := 1
      lbSymbols := 0
      lbErrors := 0
      lbErased := 0
      lbSent := 0
      lbFrom := none
      lbSession := session } := by
  rw [lineLoopStart, logG_work_line]

theorem lineLoopStart_led (session : Nat) (request : BitVec 32) (s : Vol) :
    (lineLoopStart session request s).ret.led = s.ret.led := by
  rw [lineLoopStart, logG_ret_led]

/-- The state in which a line loop-back has ended with a result, before a request that waits begins. -/
def lineLoopEnded (result : Nat) (s : Vol) : Vol :=
  logG 0x0619 result { lineLoopDrop s with work.line.lbResult := BitVec.ofNat 3 result, work.line.lbSession := 0 }

theorem lineLoopEnded_line (result : Nat) (s : Vol) :
    (lineLoopEnded result s).work.line = { s.work.line with
      lbFrom := (lineLoopDrop s).work.line.lbFrom
      ctxs := (lineLoopDrop s).work.line.ctxs
      drive := (lineLoopDrop s).work.line.drive
      lbResult := BitVec.ofNat 3 result
      lbSession := 0 } := by
  rw [lineLoopEnded, logG_work_line]
  dsimp only
  rw [lineLoopDrop_line]

theorem lineLoopEnded_led (result : Nat) (s : Vol) : (lineLoopEnded result s).ret.led = s.ret.led := by
  rw [lineLoopEnded, logG_ret_led]
  exact lineLoopDrop_led s

theorem lineLoopResult_eq (result : Nat) (s : Vol) :
    lineLoopResult result s =
      if s.work.line.lbPending then lineLoopStart s.work.line.lbNextSession s.work.line.lbRequest (lineLoopEnded result s)
      else lineLoopEnded result s := by
  have line := lineLoopEnded_line result s
  change (if (lineLoopEnded result s).work.line.lbPending then
    lineLoopStart (lineLoopEnded result s).work.line.lbNextSession (lineLoopEnded result s).work.line.lbRequest
      (lineLoopEnded result s) else lineLoopEnded result s) = _
  simp only [line]

theorem lineLoopResult_led (result : Nat) (s : Vol) : (lineLoopResult result s).ret.led = s.ret.led := by
  rw [lineLoopResult_eq]
  split
  · rw [lineLoopStart_led, lineLoopEnded_led]
  · exact lineLoopEnded_led result s

/-! ### Requests of the panel -/

/-- s' differs from s in the store's working state, the logs, the pending list and PMIC_EN at most. -/
structure DueFrame (s s' : Vol) : Prop where
  only : s' = { s with
    work.store := s'.work.store
    work.disp.pmic := s'.work.disp.pmic
    ret.logs := s'.ret.logs
    ret.store := s'.ret.store }

theorem DueFrame.refl (s : Vol) : DueFrame s s := ⟨rfl⟩

theorem DueFrame.trans {a b c : Vol} (h : DueFrame a b) (k : DueFrame b c) : DueFrame a c :=
  ⟨by rw [k.only, h.only]⟩

theorem LogFrame.dueFrame {s s' : Vol} (h : LogFrame s s') : DueFrame s s' := ⟨by rw [h.only]⟩

theorem DueFrame.disp {s s' : Vol} (h : DueFrame s s') :
    s'.work.disp = { s.work.disp with pmic := s'.work.disp.pmic } := by rw [h.only]
theorem DueFrame.led {s s' : Vol} (h : DueFrame s s') : s'.ret.led = s.ret.led := by rw [h.only]

/-- A fold of steps that carry further values beside the state stays in the frame of its steps. -/
theorem dueFrame_foldl {α β : Type} {f : Vol × β → α → Vol × β} (h : ∀ p a, DueFrame p.1 (f p a).1) (l : List α)
    (p : Vol × β) : DueFrame p.1 (l.foldl f p).1 := by
  induction l generalizing p with
  | nil => exact .refl p.1
  | cons a l ih => exact (h p a).trans (ih _)

/-- The requests that are due raise PMIC_EN or are logged (R494, R501). -/
theorem dueCheck_frame (s : Vol) : DueFrame s (dueCheck s) := by
  unfold dueCheck
  split
  · exact .refl s
  · refine dueFrame_foldl (fun p r => ?_) _ (s, [])
    dsimp only
    split
    · exact .refl _
    · split
      · exact (limG_frame _ _ _ _).dueFrame
      · exact ⟨rfl⟩

end Sys2Proof.Machine
end

section
/-! PROOF. Loop-backs begin and end, and the panel is read back (R106, R107, R207, R485, R486, R514). -/

namespace Sys2Proof.Machine

theorem exec_loopbackStart (s : State) : exec .loopbackStart s = .next (s.up (loopbackStart s.vol)) := rfl

theorem exec_loopbackEnd (s : State) : exec .loopbackEnd s = .next (s.up (loopbackEnd s.vol)) := rfl

theorem exec_lineLoopbackEnd (aborted : Bool) (s : State) :
    exec (.lineLoopbackEnd aborted) s = .next (s.up (lineLoopEnd aborted s.vol)) := rfl

theorem exec_displayLoopbackStart (failing : BitVec 15) (s : State) :
    exec (.displayLoopbackStart failing) s = .next (s.up (displayLoopback failing s.vol)) := rfl

/-! ### Acoustic loop-backs (R106, R107, R207) -/

theorem exec_loopbackTimeout {s : State} (hrun : s.vol.work.loop.running = true)
    (htime : 38400 ≤ (s.vol.bak.count - s.vol.work.loop.startTick).toNat) :
    exec .loopbackTimeout s = .next (s.up (loopEnds 1 s.vol)) := by
  refine if_pos ?_
  rw [hrun, decide_eq_true htime]
  rfl

/-- The end of 600 s leaves a request that waits (R106). -/
theorem loopEnds_timeout {s : Vol} (hrun : s.work.loop.running = true) :
    loopEnds 1 s = { s with work.loop.ending := some (s.work.loop.ending.getD 1) } := by
  simp [loopEnds, hrun]

section
variable {s : Vol}

/-- A loop-back begins with what the request asks for, and no path holds a PAIR of before it (R106, R107, R207). -/
theorem loopbackStart_begins (hreq : s.work.loop.requested = true) (hrun : s.work.loop.running = false)
    (hbound : atBoundary s = true) :
    (loopbackStart s).work.loop = { s.work.loop with
      requested := false
      running := true
      ending := none
      startTick := s.bak.count
      inForce := s.work.loop.request
      nextSwapped := s.work.cyc.nextSwapped } ∧
      ∀ p ∈ (loopbackStart s).work.paths.toList, p.prev = none := by
  obtain ⟨loop, cyc⟩ := bookBeforeLoop_loopStands s.bak.count s
  have begins : loopbackStart s = logM 0x0113 _ _ := if_neg (by simp [hreq, hrun, hbound])
  rw [begins, logM_work_loop, logM_work_paths]
  dsimp only
  rw [loop, cyc]
  refine ⟨rfl, fun p hp => ?_⟩
  rw [Vector.toList_map, List.mem_map] at hp
  obtain ⟨_, _, rfl⟩ := hp
  rfl

/-- A loop-back that ends gives the front end back (R106). -/
theorem loopbackEnd_ends {r : Byte} (hend : s.work.loop.ending = some r) (hrun : s.work.loop.running = true)
    (hbound : atBoundary s = true) :
    (loopbackEnd s).work.loop.running = false ∧ (loopbackEnd s).work.loop.ending = none ∧
      (loopbackEnd s).work.loop.endTick = some s.bak.count ∧ (loopbackEnd s).work.fe.powered = false ∧
      (loopbackEnd s).work.cyc.kind = .normal ∧ (loopbackEnd s).work.cyc.feHeld = false := by
  have ends : ∃ u : Vol, loopbackEnd s = leaveMeasure (logM 0x0114 r.toNat { u with
      work.loop.running := false
      work.loop.ending := none
      work.fe.powered := false
      work.cyc.feHeld := false
      work.cyc.kind := .normal
      work.loop.endTick := some s.bak.count }) := by
    rw [loopbackEnd, hend]
    exact ⟨_, if_neg (by simp [hrun, hbound])⟩
  obtain ⟨u, ends⟩ := ends
  rw [ends]
  generalize hv : logM 0x0114 r.toNat _ = v
  obtain ⟨stands, -, cyc⟩ := leaveMeasure_work v
  rw [leaveMeasure_loop, stands.fe, cyc, ← hv, logM_work_loop, logM_work_fe, logM_work_cyc]
  exact ⟨rfl, rfl, rfl, rfl, rfl, rfl⟩

/-! ### Line loop-backs (R485, R486) -/

/-- The result with which a loop-back of a line context ends. -/
def lineLoopVerdict (aborted : Bool) (s : Vol) : Nat :=
  if aborted then 4 else if s.work.line.lbErrors = 0 ∧ s.work.line.lbErased.toNat ≤ 4 then 2 else 3

theorem lineLoopEnd_runs {aborted : Bool} (hrun : s.work.line.lbResult = 1)
    (hdone : aborted = true ∨ 64 ≤ s.work.line.lbSymbols.toNat) :
    lineLoopEnd aborted s = lineLoopResult (lineLoopVerdict aborted s) s := by
  cases aborted with
  | true => simp [lineLoopEnd, lineLoopVerdict, hrun]
  | false =>
    have enough : ¬ s.work.line.lbSymbols.toNat < 64 := by simpa using hdone
    simp [lineLoopEnd, lineLoopVerdict, hrun, enough]

theorem lineLoopVerdict_ofNat (aborted : Bool) (s : Vol) :
    BitVec.ofNat 3 (lineLoopVerdict aborted s) =
      if aborted then 4 else if s.work.line.lbErrors = 0 ∧ s.work.line.lbErased.toNat ≤ 4 then 2 else 3 := by
  unfold lineLoopVerdict
  split
  · rfl
  · split <;> rfl

/-! ### The read-back of the panel (R514) -/

theorem displayLoopback_reads {failing : BitVec 15} (hasked : s.work.disp.lbResult = 1) (hidle : s.work.disp.running = [])
    (hpanel : (panel s).isSome = true) (hcore : coreRuns s = true) :
    (displayLoopback failing s).bak = s.bak ∧ (displayLoopback failing s).ret.led = s.ret.led ∧
      (displayLoopback failing s).work.disp.lbMask = failing ∧ (displayLoopback failing s).work.disp.running = [] ∧
      (displayLoopback failing s).work.disp.lbResult = if failing = 0 then 2 else 3 := by
  have reads : displayLoopback failing s = dueCheck (logG 0x0707 _ (logG 0x0706 0xFF _)) :=
    if_neg (by simp [hasked, hidle, Option.isNone_eq_false_iff.mpr hpanel, hcore])
  rw [reads, dueCheck_bak, (dueCheck_frame _).led, (dueCheck_frame _).disp, logG_bak, logG_bak, logG_ret_led, logG_ret_led,
    logG_work_disp, logG_work_disp]
  exact ⟨rfl, rfl, rfl, hidle, rfl⟩

end

/-- Settles O29: an acoustic loop-back by its begin, its limit and its end, a line loop-back by the result that its verdict gives and
by the request that waits, and the read-back by what it leaves on the panel. -/
theorem loopbacksBeginAndEnd : Obligations.LoopbacksBeginAndEnd := by
  unfold Obligations.LoopbacksBeginAndEnd
  refine ⟨fun s => ⟨fun hreq hrun hbound => ?_, fun hrun htime => ?_, fun r hend hrun hbound => ?_⟩,
    fun s => ⟨fun aborted hrun hdone => ?_, fun failing hasked hidle hpanel hcore => ?_⟩⟩
  · obtain ⟨loop, prev⟩ := loopbackStart_begins hreq hrun hbound
    refine ⟨_, exec_loopbackStart s, ?_⟩
    rw [State.up_vol, loop]
    exact ⟨rfl, rfl, rfl, rfl, rfl, rfl, rfl, prev, rfl⟩
  · rw [exec_loopbackTimeout hrun htime, loopEnds_timeout hrun]
    rfl
  · obtain ⟨running, ending, endTick, powered, kind, held⟩ := loopbackEnd_ends hend hrun hbound
    exact ⟨_, exec_loopbackEnd s, running, ending, endTick, powered, kind, held, rfl⟩
  · refine ⟨_, exec_lineLoopbackEnd aborted s, rfl, ?_⟩
    rw [State.up_vol, lineLoopEnd_runs hrun hdone]
    refine ⟨lineLoopResult_bak _ _, lineLoopResult_led _ _, fun hpending => ?_, fun hpending => ?_⟩
    · rw [lineLoopResult_eq, hpending, if_neg Bool.false_ne_true, lineLoopEnded_line, ← lineLoopVerdict_ofNat]
      exact ⟨rfl, rfl, rfl⟩
    · rw [lineLoopResult_eq, hpending, if_pos rfl, lineLoopStart_line]
      exact ⟨rfl, rfl, rfl, rfl, rfl⟩
  · exact ⟨_, exec_displayLoopbackStart failing s, rfl, displayLoopback_reads hasked hidle hpanel hcore⟩

end Sys2Proof.Machine
end

section
/-! SUPPORT. The way of a valid frame of an open session to the command that it carries (R398 to R409, R415). -/

namespace Sys2Proof.Machine

/-! ### Its row and its port -/

theorem exec_instr_row (r : Row) (f : Frame) (s : State) : exec (r.instr f) s = frameRow r f s := by
  cases r <;> rfl

/-- Under its own row a frame reaches its port. -/
theorem exec_instr_rowOf (f : Frame) (s : State) :
    exec ((rowOf s.vol f).instr f) s = .next (s.up (receive s.nv f s.vol)) := by
  rw [exec_instr_row, frameRow, if_pos (by simp)]

/-- What a port that has heard a frame has changed: the time of its traffic, the optical rate and the tunnel of M-Bus. -/
theorem heard_only (f : Frame) (s : Vol) :
    heard f s = { s with
      work.ex.lastTraffic := (heard f s).work.ex.lastTraffic
      work.pt.optRate := (heard f s).work.pt.optRate
      work.pt.mbus.tunnel := (heard f s).work.pt.mbus.tunnel } := by
  unfold heard takeOptRate
  dsimp only
  split <;> split <;> rfl

theorem heard_eq_noteTraffic (f : Frame) (s : Vol) :
    heard f s =
      let u := takeOptRate f (noteTraffic f.port s)
      if f.port = .mbus then { u with work.pt.mbus.tunnel := true } else u := by
  unfold heard noteTraffic takeOptRate
  dsimp only
  split <;> split <;> rfl

/-- A frame that is taken at once is executed as its port has heard it (R400, R405). -/
theorem receive_taken (nv : Nv) {f : Frame} {s : Vol} (h : frameTaken s f = true) :
    receive nv f s = process nv f (heard f s) := by
  simp only [frameTaken, Bool.and_eq_true, Bool.not_eq_true', Option.isNone_iff_eq_none] at h
  obtain ⟨⟨⟨⟨⟨⟨⟨core, port⟩, addr⟩, valid⟩, hears⟩, looped⟩, busy⟩, hand⟩ := h
  have own : (f.port == .rs485 && (f.addr.toNat : Int) != s.work.pt.rsAddr) = false := by
    simp only [bne_iff_ne, Bool.or_eq_true, beq_iff_eq] at addr
    rcases addr with other | same
    · simp [other]
    · simp [same]
  have kept : (frameBad f || portLooped (noteTraffic f.port s) f.port || portBusy (noteTraffic f.port s) f.port) = false := by
    rw [valid]
    change (false || portLooped s f.port || portBusy s f.port) = false
    rw [looped, busy]
    rfl
  have free : (heard f s).work.ex.inHand.isSome = false := by
    rw [heard_only]
    simp [hand]
  rw [heard_eq_noteTraffic] at free ⊢
  unfold receive
  rw [if_neg (by simp [core, port, hears])]
  dsimp only at free ⊢
  rw [if_neg (by simpa [noteTraffic] using own), if_neg (by rw [kept]; decide), if_neg (by rw [free]; decide)]

/-! ### Its session -/

/-- The state in which a command of a session runs differs in the sessions and in what its port has heard. -/
theorem inSession_only (f : Frame) (x : Session) (s : Vol) :
    inSession f x s = { s with
      work.ex.sessions := (inSession f x s).work.ex.sessions
      work.ex.lastTraffic := (heard f s).work.ex.lastTraffic
      work.pt.optRate := (heard f s).work.pt.optRate
      work.pt.mbus.tunnel := (heard f s).work.pt.mbus.tunnel } := by
  rw [inSession, heard_only]
  rfl

theorem objOf_inSession (f : Frame) (x : Session) (s : Vol) (ident : BitVec 48) :
    objOf (inSession f x s) ident = objOf s ident := by
  rw [inSession_only]
  rfl

theorem vset_vset {α : Type} {n : Nat} (v : Vector α n) (i : Nat) (x y : α) : vset (vset v i x) i y = vset v i y := by
  ext j hj
  simp [vset, Vector.getElem_setIfInBounds]

theorem putSlot_putSlot (n : Nat) (x y : Option Session) (s : Vol) : putSlot n y (putSlot n x s) = putSlot n y s := by
  simp [putSlot, vset_vset]

theorem slotAt_putSlot {n : Nat} (x : Option Session) (s : Vol) (h : n < 4) : slotAt (putSlot n x s) n = x :=
  vget_vset_self _ x h

/-- The next frame of an open session, a GET, a SET or an ACTION, comes to its object (R408, R409, R415). -/
theorem process_session (nv : Nv) {f : Frame} {s : Vol} {x : Session} (h : sessionTaken s f x = true)
    (hcmd : f.cmd = 3 ∨ f.cmd = 4 ∨ f.cmd = 5) :
    process nv f (heard f s) = runCommand nv f x.role (inSession f x s) := by
  simp only [sessionTaken, Bool.and_eq_true, Bool.not_eq_true', beq_iff_eq] at h
  obtain ⟨⟨⟨⟨⟨hmac, hslot⟩, hport⟩, hopen⟩, hsigned⟩, hseq⟩ := h
  obtain ⟨low, high⟩ : 1 ≤ f.session.toNat ∧ f.session.toNat ≤ 4 := by simpa [hasMac] using hmac
  have session : f.session ≠ 0 := by
    intro h0
    rw [h0] at low
    exact absurd low (by decide)
  have slot : sessionOf (heard f s) f.session f.port = some x := by
    have stands : slotAt (heard f s) = slotAt s := by
      rw [heard_only]
      rfl
    simp [sessionOf, hmac, stands, hslot, hport]
  have count : (heard f s).bak.count = s.bak.count := by rw [heard_only]
  have new : f.seq ≠ x.seq := by
    rw [hseq]
    bv_omega
  have dispatched : ∀ u, dispatchCmd nv f x.role u =
      runCommand nv f x.role (modSession f.session (fun y => { y with blocks := [], block := 1 }) u) := by
    intro u
    rcases hcmd with hc | hc | hc <;> simp [dispatchCmd, hc]
  rw [process, if_neg session, slot]
  simp only [hopen, Bool.false_eq_true, if_false]
  rw [sessionFrame, if_neg (by simp [hsigned])]
  refine (if_neg new).trans ?_
  refine (if_neg (not_not.mpr hseq)).trans ?_
  rw [dispatched, modSession, if_pos hmac, slotAt_putSlot _ _ (by omega), putSlot_putSlot, count]
  rfl

/-- A SET that passes every check comes to its object (R415). -/
theorem runCommand_set (nv : Nv) {f : Frame} {r : Role} {o : Obj} {s : Vol} (hcmd : f.cmd = 4) (hobj : objOf s f.ident = some o)
    (hattr : attrExists nv s o f.attr.toNat = true) (hset : setStatus s r o = none) :
    runCommand nv f r s = carrySet nv f r o s := by
  simp [runCommand, hcmd, hobj, hattr, hset]

/-- A SET of an open session that passes every check is carried out under its own row. -/
theorem exec_set_taken {s : State} {f : Frame} {x : Session} {o : Obj} (hframe : frameTaken s.vol f = true)
    (hsession : sessionTaken s.vol f x = true) (hcmd : f.cmd = 4) (hobj : objOf (inSession f x s.vol) f.ident = some o)
    (hattr : attrExists s.nv (inSession f x s.vol) o f.attr.toNat = true)
    (hset : setStatus (inSession f x s.vol) x.role o = none) :
    exec ((rowOf s.vol f).instr f) s = .next (s.up (carrySet s.nv f x.role o (inSession f x s.vol))) := by
  rw [exec_instr_rowOf, receive_taken _ hframe, process_session _ hsession (.inr (.inl hcmd)), runCommand_set _ hcmd hobj hattr hset]

end Sys2Proof.Machine
end

section
/-! SUPPORT. What a request of the control object leaves where it is taken (R104, R105, R452, R485, R514). -/

namespace Sys2Proof.Machine

/-! ### Its answer -/

theorem AnswerFrame.bak {s s' : Vol} (h : AnswerFrame s s') : s'.bak = s.bak := by rw [h.only]
theorem AnswerFrame.loop {s s' : Vol} (h : AnswerFrame s s') : s'.work.loop = s.work.loop := by rw [h.only]
theorem AnswerFrame.line {s s' : Vol} (h : AnswerFrame s s') : s'.work.line = s.work.line := by rw [h.only]
theorem AnswerFrame.disp {s s' : Vol} (h : AnswerFrame s s') : s'.work.disp = s.work.disp := by rw [h.only]
theorem AnswerFrame.pt {s s' : Vol} (h : AnswerFrame s s') :
    s'.work.pt = { s.work.pt with link.graoc := s'.work.pt.link.graoc } := by rw [h.only]

@[simp] theorem reportClamps_work (l : List (BitVec 64)) (s : Vol) : (reportClamps l s).work = s.work := rfl
@[simp] theorem reportClamps_bak (l : List (BitVec 64)) (s : Vol) : (reportClamps l s).bak = s.bak := rfl

/-- The elements of the control object that take four bytes. -/
theorem controlParts_four {attr : Nat} {d : Bytes} (hd : d.length = 4) :
    controlParts attr d = if attr = 0 ∨ attr = 1 ∨ attr = 3 ∨ attr = 5 then some [(attr, beNat d)] else none := by
  generalize hn : beNat d = n
  unfold controlParts
  rw [hd, hn]
  by_cases listed : attr < 7
  · interval_cases attr <;> rfl
  · have past : controlLayout.find? (·.1 == attr) = none := by
      simp [controlLayout]
      omega
    rw [past, if_neg (by omega : ¬ (attr = 0 ∨ attr = 1 ∨ attr = 3 ∨ attr = 5))]
    simp

/-- A request that its element admits is taken and answered. -/
theorem setControl_takes {f : Frame} {s : Vol} {e n : Nat} (hparts : controlParts f.attr.toNat f.data = some [(e, n)])
    (hok : controlStatus s e n = stOk) :
    ∃ clamps, AnswerFrame (reportClamps clamps (controlAccept f e n s)) (setControl f s) := by
  unfold setControl
  rw [hparts]
  simp only [List.map_cons, List.map_nil, hok, List.find?_cons, List.find?_nil, bne_self_eq_false]
  split
  · exact ⟨_, answer_frame _ _ _ _⟩
  · exact ⟨_, answer_frame _ _ _ _⟩

/-- A SET of another length is refused. -/
theorem setControl_refused {f : Frame} {s : Vol} (hparts : controlParts f.attr.toNat f.data = none) :
    AnswerFrame s (setControl f s) := by
  unfold setControl
  rw [hparts]
  exact answer_frame _ _ _ _

/-! ### Elements

KIND stands as a variable in these proofs: the kernel would otherwise unfold its division on the way to an equation. -/

section
variable (f : Frame) {n : Nat} (s : Vol)

/-- Only DELAY is clamped, and KIND stands (R105). -/
theorem acousticClamp_kind : (acousticClamp s n).1 / 2 ^ 28 = n / 2 ^ 28 := by
  have delay : min (n % 65536) (min 65535 (tofMaxUs (th s 3) * 4)) ≤ n % 65536 := min_le_left _ _
  unfold acousticClamp
  dsimp only
  generalize min (n % 65536) _ = d at delay
  omega

theorem acousticAccept_stop {x : Nat} (h : x / 2 ^ 28 = 0) :
    (acousticAccept f x s).work.loop = { s.work.loop with
      request := BitVec.ofNat 32 x
      requested := false
      ending := if s.work.loop.running then some (s.work.loop.ending.getD 0) else s.work.loop.ending } := by
  unfold acousticAccept
  rw [if_pos h]
  generalize BitVec.ofNat 32 x = request
  simp [loopEnds]

theorem acousticAccept_run {x : Nat} (h : x / 2 ^ 28 ≠ 0) :
    acousticAccept f x s = { s with
      work.loop.request := BitVec.ofNat 32 x
      work.loop.requested := !s.work.loop.running || s.work.loop.ending.isSome
      work.loop.session := f.session.toNat } := by
  unfold acousticAccept
  rw [if_neg h, slotNo]

theorem controlAccept_acoustic (n : Nat) : controlAccept f 0 n s = acousticAccept f (acousticClamp s n).1 s := by
  unfold controlAccept
  simp only

theorem controlAccept_acoustic_stop (h : n / 2 ^ 28 = 0) :
    (controlAccept f 0 n s).work.loop = { s.work.loop with
      request := BitVec.ofNat 32 (acousticClamp s n).1
      requested := false
      ending := if s.work.loop.running then some (s.work.loop.ending.getD 0) else s.work.loop.ending } := by
  rw [controlAccept_acoustic, acousticAccept_stop f s ((acousticClamp_kind s).trans h)]

theorem controlAccept_acoustic_run (h : n / 2 ^ 28 ≠ 0) :
    (controlAccept f 0 n s).work.loop = { s.work.loop with
      request := BitVec.ofNat 32 (acousticClamp s n).1
      requested := !s.work.loop.running || s.work.loop.ending.isSome
      session := f.session.toNat } := by
  rw [controlAccept_acoustic, acousticAccept_run f s ((acousticClamp_kind s).symm ▸ h)]

theorem controlAccept_acoustic_request :
    (controlAccept f 0 n s).work.loop.request = BitVec.ofNat 32 (acousticClamp s n).1 := by
  by_cases h : n / 2 ^ 28 = 0
  · rw [controlAccept_acoustic_stop f s h]
  · rw [controlAccept_acoustic_run f s h]

theorem controlAccept_port :
    (controlAccept f 1 n s).work.pt = { s.work.pt with
      lbRequest := BitVec.ofNat 32 n
      lbPending := decide (n / 2 ^ 28 ≠ 0)
      lbNextSession := if n / 2 ^ 28 = 0 then s.work.pt.lbNextSession else f.session.toNat } := by
  unfold controlAccept
  generalize n / 2 ^ 28 = kind
  by_cases h : kind = 0
  · simp [h]
  · simp [h, slotNo]

theorem controlAccept_line_begins (h : n / 2 ^ 28 ≠ 0) (hidle : s.work.line.lbResult ≠ 1) :
    (controlAccept f 3 n s).work.line = { s.work.line with
      lbRequest := BitVec.ofNat 32 n
      lbRun := BitVec.ofNat 32 n
      lbPending := false
      lbResult := 1
      lbSymbols := 0
      lbErrors := 0
      lbErased := 0
      lbSent := 0
      lbFrom := none
      lbSession := f.session.toNat } := by
  unfold controlAccept
  generalize n / 2 ^ 28 = kind at h
  simp only [if_neg h, if_neg hidle, lineLoopStart_line, slotNo]

theorem controlAccept_line_waits (h : n / 2 ^ 28 = 0 ∨ s.work.line.lbResult = 1) :
    (controlAccept f 3 n s).work.line = { s.work.line with
      lbRequest := BitVec.ofNat 32 n
      lbPending := decide (n / 2 ^ 28 ≠ 0)
      lbNextSession := if n / 2 ^ 28 = 0 then s.work.line.lbNextSession else f.session.toNat } := by
  unfold controlAccept
  generalize n / 2 ^ 28 = kind at h
  by_cases stop : kind = 0
  · simp [stop]
  · simp [stop, h.resolve_left stop, slotNo]

theorem controlAccept_line_request : (controlAccept f 3 n s).work.line.lbRequest = BitVec.ofNat 32 n := by
  by_cases h : n / 2 ^ 28 = 0 ∨ s.work.line.lbResult = 1
  · rw [controlAccept_line_waits f s h]
  · obtain ⟨run, idle⟩ := not_or.mp h
    rw [controlAccept_line_begins f s run idle]

theorem controlAccept_display (h : n / 2 ^ 28 ≠ 0) :
    (controlAccept f 5 n s).work.disp = { s.work.disp with lbRequest := BitVec.ofNat 32 n, lbResult := 1 } := by
  unfold controlAccept
  generalize n / 2 ^ 28 = kind at h
  simp [h]

theorem acousticAccept_bak (x : Nat) : (acousticAccept f x s).bak = s.bak := by
  unfold acousticAccept
  generalize x / 2 ^ 28 = kind
  dsimp only
  split
  · exact loopEnds_bak _ _
  · rfl

variable (n) in
theorem controlAccept_bak (e : Nat) : (controlAccept f e n s).bak = s.bak := by
  unfold controlAccept
  generalize n / 2 ^ 28 = kind
  split
  · exact acousticAccept_bak f s _
  · split <;> rfl
  · dsimp only
    split
    · rfl
    · split
      · rfl
      · rw [lineLoopStart, logG_bak]
  · dsimp only
    split <;> rfl
  · rfl

end

/-! ### The SET -/

section
variable {f : Frame} {s : Vol} {n : Nat} (hlen : f.data.length = 4) (hn : n = beNat f.data)
  (hok : controlStatus s f.attr.toNat n = stOk)
include hlen hn hok

/-- A SET of one of the requests takes it and answers (R104, R452, R485, R514). -/
theorem setControl_request {e : Nat} (he : e = 0 ∨ e = 1 ∨ e = 3 ∨ e = 5) (hattr : f.attr.toNat = e) :
    ∃ clamps, AnswerFrame (reportClamps clamps (controlAccept f e n s)) (setControl f s) := by
  refine setControl_takes ?_ (hattr ▸ hok)
  rw [hattr, controlParts_four hlen, if_pos he, hn]

theorem setControl_bak : (setControl f s).bak = s.bak := by
  by_cases he : f.attr.toNat = 0 ∨ f.attr.toNat = 1 ∨ f.attr.toNat = 3 ∨ f.attr.toNat = 5
  · obtain ⟨clamps, answered⟩ := setControl_request hlen hn hok he rfl
    rw [answered.bak, reportClamps_bak, controlAccept_bak]
  · refine (setControl_refused ?_).bak
    rw [controlParts_four hlen, if_neg he]

theorem setControl_loop (hattr : f.attr.toNat = 0) : (setControl f s).work.loop = (controlAccept f 0 n s).work.loop := by
  obtain ⟨clamps, answered⟩ := setControl_request hlen hn hok (.inl rfl) hattr
  rw [answered.loop, reportClamps_work]

theorem setControl_pt (hattr : f.attr.toNat = 1) :
    (setControl f s).work.pt = { (controlAccept f 1 n s).work.pt with link.graoc := (setControl f s).work.pt.link.graoc } := by
  obtain ⟨clamps, answered⟩ := setControl_request hlen hn hok (.inr (.inl rfl)) hattr
  rw [answered.pt, reportClamps_work]

theorem setControl_line (hattr : f.attr.toNat = 3) : (setControl f s).work.line = (controlAccept f 3 n s).work.line := by
  obtain ⟨clamps, answered⟩ := setControl_request hlen hn hok (.inr (.inr (.inl rfl))) hattr
  rw [answered.line, reportClamps_work]

theorem setControl_disp (hattr : f.attr.toNat = 5) : (setControl f s).work.disp = (controlAccept f 5 n s).work.disp := by
  obtain ⟨clamps, answered⟩ := setControl_request hlen hn hok (.inr (.inr (.inr rfl))) hattr
  rw [answered.disp, reportClamps_work]

end

/-! ### The clock (R291) -/

/-- A valid time is staged with the weekday of its date and waits for the tick boundary. -/
theorem setClock_stages {f : Frame} (r : Role) {s : Vol} (hlen : f.data.length = 16) (hvalid : (stagedCal f.data).valid = true)
    (hstalls : f.stalls = false) :
    (setClock f r s).bak = { s.bak with
      stage := some
        { time := { stagedCal f.data with wday := toBcd (weekdayOf (stagedCal f.data).days) }
          since := s.bak.count
          committed := true
          role := r
          clamped := toBcd (weekdayOf (stagedCal f.data).days) != (stagedCal f.data).wday } } ∧
      (setClock f r s).work.ex.inHand.any (fun h => h.frame == f && h.await == .clock) = true := by
  unfold setClock
  simp [hlen, hvalid, hstalls]

end Sys2Proof.Machine
end

section
/-! PROOF. A SET of the control object and of the clock (R104, R105, R291, R452, R485, R514). -/

namespace Sys2Proof.Machine

section
variable (f : Frame) (x : Session) (s : Vol)

theorem inSession_bak : (inSession f x s).bak = s.bak := by rw [inSession_only]
theorem inSession_loop : (inSession f x s).work.loop = s.work.loop := by rw [inSession_only]
theorem inSession_line : (inSession f x s).work.line = s.work.line := by rw [inSession_only]

theorem inSession_lb : (inSession f x s).work.pt.lbRun = s.work.pt.lbRun ∧
    (inSession f x s).work.pt.lbResult = s.work.pt.lbResult := by
  rw [inSession_only]
  exact ⟨rfl, rfl⟩

theorem acousticClamp_inSession (n : Nat) : acousticClamp (inSession f x s) n = acousticClamp s n := by
  have pins : th (inSession f x s) 3 = th s 3 := by
    rw [inSession_only]
    rfl
  unfold acousticClamp
  rw [pins]

end

theorem carrySet_control (nv : Nv) (f : Frame) (r : Role) (s : Vol) : carrySet nv f r .control s = setControl f s := rfl

theorem carrySet_clock (nv : Nv) (f : Frame) (r : Role) (s : Vol) : carrySet nv f r .clock s = setClock f r s := rfl

theorem rowOf_set {f : Frame} {s : Vol} (hcmd : f.cmd = 4) : rowOf s f = setRow s f := by
  rw [rowOf, hcmd]
  rfl

/-- Settles O47: a SET that passes every check comes to its object (`exec_set_taken`), and each element takes its request. -/
theorem requestsOfTheControlObjectAreTaken : Obligations.RequestsOfTheControlObjectAreTaken := by
  unfold Obligations.RequestsOfTheControlObjectAreTaken
  intro s f x o n hframe hsession hcmd hobj hattr hset
  have taken := exec_set_taken hframe hsession hcmd hobj hattr hset
  refine ⟨?_, ?_⟩
  · rintro rfl hlen hn hok
    rw [carrySet_control] at taken
    refine ⟨_, taken, rfl, (setControl_bak hlen hn hok).trans (inSession_bak f x s.vol), fun h0 => ?_, fun h0 hstop => ?_,
      fun h0 hrun => ?_, fun h1 => ?_, fun h3 => ⟨?_, fun hrun hidle => ?_, fun hwait => ?_⟩, fun h5 hrun => ?_⟩ <;>
      rw [State.up_vol]
    · rw [setControl_loop hlen hn hok (by rw [h0]; rfl), controlAccept_acoustic_request, acousticClamp_inSession]
    · rw [setControl_loop hlen hn hok (by rw [h0]; rfl), controlAccept_acoustic_stop f _ hstop, inSession_loop]
      exact ⟨rfl, fun hruns => if_pos hruns⟩
    · rw [setControl_loop hlen hn hok (by rw [h0]; rfl), controlAccept_acoustic_run f _ hrun, inSession_loop]
      exact ⟨rfl, rfl⟩
    · rw [setControl_pt hlen hn hok (by rw [h1]; rfl), controlAccept_port]
      obtain ⟨lbRun, lbResult⟩ := inSession_lb f x s.vol
      exact ⟨rfl, lbRun, lbResult, rfl, fun hrun => if_neg hrun⟩
    · rw [setControl_line hlen hn hok (by rw [h3]; rfl), controlAccept_line_request]
    · rw [← inSession_line f x s.vol] at hidle
      rw [setControl_line hlen hn hok (by rw [h3]; rfl), controlAccept_line_begins f _ hrun hidle]
      exact ⟨rfl, rfl, rfl, rfl⟩
    · rw [← inSession_line f x s.vol] at hwait ⊢
      rw [setControl_line hlen hn hok (by rw [h3]; rfl), controlAccept_line_waits f _ hwait]
      exact ⟨rfl, rfl, rfl, rfl⟩
    · rw [setControl_disp hlen hn hok (by rw [h5]; rfl), controlAccept_display f _ hrun]
      exact ⟨rfl, rfl⟩
  · rintro rfl hlen hvalid hstalls
    have row : (rowOf s.vol f).instr f = .clockSet f := by
      rw [rowOf_set hcmd, setRow, ← objOf_inSession f x s.vol, hobj]
      rfl
    obtain ⟨staged, waits⟩ := setClock_stages x.role (s := inSession f x s.vol) hlen hvalid hstalls
    rw [row, carrySet_clock] at taken
    rw [inSession_bak] at staged
    refine ⟨_, taken, rfl, ?_, ?_, waits⟩ <;> rw [State.up_vol, staged]

end Sys2Proof.Machine
end

section
/-! SUPPORT. What a booking (R217 to R221, R247 to R251) with the objects that a cycle takes (R216) can change: those objects, the
flow, the ports, the store's working state and retained RAM. -/

namespace Sys2Proof.Machine

/-- s' differs from s in the objects, the flow, the ports, the store's working state and retained RAM at most. -/
structure BookFrame (s s' : Vol) : Prop where
  only : s' = { s with
    work.flow := s'.work.flow
    work.obj := s'.work.obj
    work.store := s'.work.store
    work.pt := s'.work.pt
    ret := s'.ret }

theorem BookFrame.refl (s : Vol) : BookFrame s s := ⟨rfl⟩

theorem BookFrame.trans {a b c : Vol} (h : BookFrame a b) (k : BookFrame b c) : BookFrame a c :=
  ⟨by rw [k.only, h.only]⟩

theorem BookFrame.after {a b c : Vol} (k : BookFrame b c) (h : BookFrame a b) : BookFrame a c := h.trans k

theorem BookFrame.bak {s s' : Vol} (h : BookFrame s s') : s'.bak = s.bak := by rw [h.only]
theorem BookFrame.th {s s' : Vol} (h : BookFrame s s') : s'.work.th = s.work.th := by rw [h.only]
theorem BookFrame.cyc {s s' : Vol} (h : BookFrame s s') : s'.work.cyc = s.work.cyc := by rw [h.only]
theorem BookFrame.loop {s s' : Vol} (h : BookFrame s s') : s'.work.loop = s.work.loop := by rw [h.only]
theorem BookFrame.chain {s s' : Vol} (h : BookFrame s s') : s'.work.chain = s.work.chain := by rw [h.only]

theorem LogFrame.bookFrame {s s' : Vol} (h : LogFrame s s') : BookFrame s s' := ⟨by rw [h.only]⟩

theorem countUnmetered_bookFrame (n : Nat) (s : Vol) : BookFrame s (countUnmetered n s) := ⟨rfl⟩

theorem spanBook_bookFrame (a m q : Nat) (s : Vol) : BookFrame s (spanBook a m q s) := ⟨rfl⟩

theorem deduct_bookFrame (v : Nat) (s : Vol) : BookFrame s (deduct v s) := by
  unfold deduct
  split <;> exact ⟨rfl⟩

theorem ledgerTakes_bookFrame (a b c d : Nat) (s : Vol) : BookFrame s (ledgerTakes a b c d s) := by
  unfold ledgerTakes
  split
  · exact .refl s
  · exact .after (deduct_bookFrame _ _) ⟨rfl⟩

theorem pulseLost_bookFrame (o n : Nat) (s : Vol) : BookFrame s (pulseLost o n s) := by
  unfold pulseLost
  split
  · exact .refl s
  · refine .after (logLimitedTimes_frame _ _ _ _ _ _).bookFrame ?_
    split <;> exact ⟨rfl⟩

theorem pulseBook_bookFrame (a b : Nat) (f r : Bool) (s : Vol) : BookFrame s (pulseBook a b f r s) := by
  unfold pulseBook
  split
  · exact .refl s
  · exact .after (pulseLost_bookFrame _ _ _) (.after (pulseLost_bookFrame _ _ _) ⟨rfl⟩)

theorem endGap_bookFrame (n : Nat) (q : Option Int) (s : Vol) : BookFrame s (endGap n q s).1 := by
  unfold endGap
  split
  · exact .refl s
  · split
    · split
      · split <;> exact .trans (.after (limM_frame _ _ _ _).bookFrame ⟨rfl⟩) ⟨rfl⟩
      · exact (logM_frame _ _ _).bookFrame
    · exact (logM_frame _ _ _).bookFrame

theorem markUnfilled_bookFrame (g : Gap) (s : Vol) : BookFrame s (markUnfilled g s) := by
  unfold markUnfilled
  split <;> exact ⟨rfl⟩

/-- A fold of steps that carry further values beside the state and stay inside the frame. -/
theorem foldl_fst_bookFrame {α β : Type} {f : Vol × β → α → Vol × β} (h : ∀ p a, BookFrame p.1 (f p a).1) (l : List α)
    (p : Vol × β) : BookFrame p.1 (l.foldl f p).1 := by
  induction l generalizing p with
  | nil => exact .refl _
  | cons a l ih => exact (h p a).trans (ih _)

theorem decideGaps_bookFrame (s : Vol) : BookFrame s (decideGaps s).1 := by
  unfold decideGaps
  refine .after (foldl_fst_bookFrame (fun p g => ?_) _ _) ⟨rfl⟩
  exact .after (endGap_bookFrame _ _ _) (markUnfilled_bookFrame g p.1)

theorem addGap_bookFrame (c : BitVec 32) (n : Nat) (s : Vol) : BookFrame s (addGap c n s) := by
  unfold addGap
  split
  · exact .refl s
  · exact .after (countUnmetered_bookFrame _ _) ⟨rfl⟩

theorem bookFlow_bookFrame (m : Nat) (s : Vol) : BookFrame s (bookFlow m s).1 := by
  unfold bookFlow
  split
  · exact .refl s
  · split
    · exact .refl s
    · dsimp only
      split <;> split <;> exact ⟨rfl⟩

theorem bookTo_bookFrame (c : BitVec 32) (s : Vol) : BookFrame s (bookTo c s) := by
  unfold bookTo
  dsimp only
  split
  · exact .refl s
  · split
    · exact ⟨rfl⟩
    · refine .after (pulseBook_bookFrame _ _ _ _ _) (.after (ledgerTakes_bookFrame _ _ _ _ _) ?_)
      refine .trans (.after (addGap_bookFrame _ _ _) (.after (spanBook_bookFrame _ _ _ _) (.after (spanBook_bookFrame _ _ _ _)
        (.after (bookFlow_bookFrame _ _) ?_)))) ⟨rfl⟩
      split
      · exact .refl s
      · exact decideGaps_bookFrame s

theorem bookOutage_bookFrame (c : BitVec 32) (s : Vol) : BookFrame s (bookOutage c s) := by
  unfold bookOutage
  split
  · exact .trans (addGap_bookFrame _ _ s) ⟨rfl⟩
  · exact .refl s

theorem bookRestart_bookFrame (c : BitVec 32) (s : Vol) : BookFrame s (bookRestart c s) := by
  unfold bookRestart
  refine .trans (b := if s.ret.flow.booked then _ else s) ?_ ⟨rfl⟩
  split
  · exact .after (ledgerTakes_bookFrame _ _ _ _ _) (.after (decideGaps_bookFrame _) (bookOutage_bookFrame c s))
  · exact .refl s

theorem bookCycle_bookFrame (c : BitVec 32) (s : Vol) : BookFrame s (bookCycle c s) := by
  unfold bookCycle
  split
  · exact .refl s
  · split
    · exact bookRestart_bookFrame c s
    · exact bookTo_bookFrame c s

theorem takeCalib_bookFrame (s : Vol) : BookFrame s (takeCalib s) := by
  unfold takeCalib
  split <;> dsimp only <;> split
  · exact .after (logM_frame _ _ _).bookFrame (.trans (.after (logM_frame 0x0154 0 _).bookFrame ⟨rfl⟩) ⟨rfl⟩)
  · exact .after (logM_frame _ _ _).bookFrame ⟨rfl⟩
  · exact .after (logM_frame _ _ _).bookFrame ⟨rfl⟩
  · exact .refl s

end Sys2Proof.Machine
end

section
/-! SUPPORT. The start of a round and of a cycle of normal service (R99, R112, R116, R123, R216, R246, R564). -/

namespace Sys2Proof.Machine

/-! ### Rounds -/

/-- What the begin of round `ix` leaves: the round with nothing of it fired, and the front end powered as before. -/
structure RoundBegun (ix vdrv : Nat) (s t : Vol) : Prop where
  round : t.work.fe.round =
    { running := true, index := ix, slots := (roundsOf (th s 0)).getD ix [], shots := 0, windows := 0, gap := vdrvLow vdrv,
      unfired := vdrvLow vdrv, lostLock := false, settling := false, waiting := none, vdrv }
  powered : t.work.fe.powered = s.work.fe.powered
  cyc : t.work.cyc = { s.work.cyc with relockFailed := false }
  chain : t.work.chain = s.work.chain
  obj : t.work.obj = s.work.obj

theorem roundStart_begun (ix vdrv : Nat) (s : Vol) :
    RoundBegun ix vdrv s (roundStart ix vdrv { s with work.cyc.relockFailed := false }) := by
  unfold roundStart
  dsimp only
  split
  · exact ⟨by rw [logVdrv, limM_work_fe]; rfl, by rw [logVdrv, limM_work_fe], by rw [logVdrv, limM_work_cyc],
      by rw [logVdrv, limM_work_chain], by rw [logVdrv, limM_work_obj]⟩
  · exact ⟨rfl, rfl, rfl, rfl, rfl⟩

section
variable {ix vdrv : Nat} {s : Vol}

/-- A round of the plan begins where FINE is locked and nothing has ended the cycle (R116). -/
theorem nextRound_begun (hix : ix < (roundsOf (th s 0)).length) (habandon : s.work.cyc.abandon = false)
    (hpll : s.bak.power.pll = true) (href : referenceLoop s = false) :
    RoundBegun ix vdrv s (nextRound ix vdrv s) := by
  have begins : nextRound ix vdrv s = startRound ix vdrv { s with work.cyc.relockFailed := false } := by
    simp [nextRound, Nat.not_le.mpr hix, habandon, hpll]
  have standalone : referenceLoop { s with work.cyc.relockFailed := false } = false := href
  rw [begins, startRound, standalone]
  exact roundStart_begun ix vdrv s

/-- After the last round of the plan the cycle ends (R115). -/
theorem nextRound_past_plan (hix : (roundsOf (th s 0)).length ≤ ix) : nextRound ix vdrv s = endCycle ix s := if_pos hix

end

/-! ### What comes before the first round -/

/-- The calibration that waits is taken (R216). -/
theorem takeCalib_calibNew (s : Vol) : (takeCalib s).work.obj.calibNew = none := by
  unfold takeCalib
  split
  · dsimp only
    split <;> simp
  · next hc =>
    dsimp only
    split <;> simp [hc]

/-- The TOKEN of a primary touches the chain's queue alone (R568). -/
theorem sendToken_frame (s : Vol) :
    sendToken s = { s with
      work.chain.tokenOut := (sendToken s).work.chain.tokenOut
      work.chain.chout := (sendToken s).work.chain.chout } := by
  unfold sendToken
  split
  · unfold chainSend
    split <;> rfl
  · rfl

/-! ### The cycle -/

/-- What the start of a cycle of normal service leaves ahead of its first round, from the state before it. -/
structure CycleOpened (tick : BitVec 32) (s t : Vol) : Prop where
  th : t.work.th = s.work.th
  pll : t.bak.power.pll = s.bak.power.pll
  loop : t.work.loop = s.work.loop
  cyc : t.work.cyc = { s.work.cyc with
    running := true
    kind := .normal
    swapped := s.work.cyc.nextSwapped
    count := s.work.cyc.count + 1
    startTick := tick
    executed := true
    degraded := t.work.cyc.degraded
    elapsed := t.work.cyc.elapsed
    pairsDone := false }
  degraded : onRc s = true → t.work.cyc.degraded = true
  powered : t.work.fe.powered = true
  calib : t.work.obj.calibNew = none
  inCycle : t.work.chain.inCycle = s.work.chain.takesPart
  syncLow : t.work.chain.syncLow = s.work.chain.syncLow

/-- The booking, the objects taken and the TOKEN leave the schedule of the cycle as its start sets it (R123, R216, R246). -/
theorem beginCycle_opens (tick : BitVec 32) (vdrv : Nat) (s : Vol) :
    ∃ opened, CycleOpened tick s opened ∧ beginCycle tick vdrv s = nextRound 0 vdrv opened := by
  unfold beginCycle
  extract_lets bloomed taken cleared _ _ begun
  have booked : BookFrame s taken := .after (takeCalib_bookFrame _) (bookCycle_bookFrame tick s)
  have calib : taken.work.obj.calibNew = none := takeCalib_calibNew _
  have rc : onRc cleared = onRc s := congrArg (fun b : Bak => b.power.src == .rc) booked.bak
  have frame := sendToken_frame (enterMeasure begun)
  generalize hopened : sendToken (enterMeasure begun) = opened at frame
  have cyc : opened.work.cyc = begun.work.cyc := by rw [frame]; rfl
  refine ⟨opened, ⟨?_, ?_, ?_, ?_, fun hrc => ?_, ?_, ?_, ?_, ?_⟩, rfl⟩
  · rw [frame]; exact booked.th
  · rw [frame]; exact congrArg (·.power.pll) booked.bak
  · rw [frame]; exact booked.loop
  · rw [cyc, ← booked.cyc]; rfl
  · rw [cyc]; simp [begun, rc, hrc]
  · rw [frame]; rfl
  · rw [frame]; exact calib
  · rw [frame]; exact (congrArg Chain.takesPart booked.chain :)
  · rw [frame]; exact (congrArg Chain.syncLow booked.chain :)

section
variable {tick : BitVec 32} {vdrv : Nat} {s : Vol}

/-- A cycle begins with its first round where FINE is locked. -/
theorem beginCycle_begins (hpll : s.bak.power.pll = true) (hloop : s.work.loop.running = false)
    (habandon : s.work.cyc.abandon = false) (hplan : roundsOf (th s 0) ≠ []) :
    ∃ opened, CycleOpened tick s opened ∧ RoundBegun 0 vdrv opened (beginCycle tick vdrv s) := by
  obtain ⟨u, opened, begins⟩ := beginCycle_opens tick vdrv s
  have plan : th u 0 = th s 0 := by rw [th, opened.th]; rfl
  refine ⟨u, opened, ?_⟩
  rw [begins]
  refine nextRound_begun ?_ ?_ (opened.pll.trans hpll) ?_
  · rw [plan]; exact List.length_pos_iff.mpr hplan
  · rw [opened.cyc]; exact habandon
  · rw [referenceLoop, opened.loop, hloop]; rfl

/-! ### The start tick -/

/-- No rate is taken where none is to come (R130). -/
theorem takeRate_same (h : s.work.cyc.nextRate = s.work.cyc.rate) : takeRate s = s := by
  simp [takeRate, rateStarts, h]

/-- A start tick begins a cycle where none runs and no loop-back does (R123). -/
theorem takeStart_begins (homit : s.work.th.omitCycle = false) (hrun : s.work.cyc.running = false)
    (hloop : s.work.loop.running = false) :
    takeStart tick vdrv s = beginCycle tick vdrv { s with work.cyc.seen := some tick } := by
  simp [takeStart, homit, hrun, hloop]

/-- A start tick during a cycle of normal service is an overrun (R127). -/
theorem takeStart_overruns (homit : s.work.th.omitCycle = false) (hrun : s.work.cyc.running = true)
    (hkind : s.work.cyc.kind = .normal) :
    takeStart tick vdrv s = limM 0x0120 0xFF 0xFF
      { s with work.cyc.seen := some tick, work.cyc.overruns := satInc s.work.cyc.overruns } := by
  simp [takeStart, overrun, inLoop, homit, hrun, hkind]

end

end Sys2Proof.Machine
end

section
/-! PROOF of O22. A start tick begins a cycle (R106, R123, R127, R216, R246, R533). -/

namespace Sys2Proof.Machine

theorem exec_measureEntry (s : State) : exec .measureEntry s = .next (s.up (measureEntry s.vol)) := rfl

section
variable {vdrv : Nat} {s : State}

theorem exec_cycleStart_standalone (hprimary : isPrimary s.vol = false) (hsecondary : isSecondary s.vol = false) :
    exec (.cycleStart vdrv) s = .next (s.up (cycleStart vdrv s.vol)) := by
  refine if_neg ?_
  simp [onChain, hprimary, hsecondary]

/-- The boundary at which a loop-back has ended starts no cycle (R106). -/
theorem exec_cycleStart_at_loopEnd (hend : s.vol.work.loop.endTick = some s.vol.bak.count) :
    exec (.cycleStart vdrv) s = .next s := by
  have unchanged : cycleStart vdrv s.vol = s.vol := if_pos (by simp [hend])
  by_cases hchain : onChain s.vol = true
  · exact if_pos hchain
  · exact (if_neg hchain).trans (by rw [unchanged, State.up_self])

end

section
variable {vdrv : Nat} {s : Vol}

/-- The front end is powered for a cycle that is due (R533). -/
theorem measureEntry_due (hcycles : cyclesRun s = true) (hdue : measureDue s = true)
    (hidle : s.bak.power.state = .doze ∨ s.bak.power.state = .measure ∧ s.work.fe.powered = false) :
    measureEntry s = enterMeasure { s with work.cyc.bloomRc := onRc s, work.cyc.relockFailed := false } := by
  refine if_neg ?_
  rcases hidle with hdoze | ⟨hmeasure, hpowered⟩
  · simp [hcycles, hdue, hdoze]
  · simp [hcycles, hdue, hmeasure, hpowered]

theorem measureEntry_not_due (h : cyclesRun s = false ∨ measureDue s = false) : measureEntry s = s := by
  refine if_pos ?_
  rcases h with h | h <;> simp [h]

/-- A standalone device takes a start tick of its schedule that it has not taken yet (R123). -/
theorem cycleStart_standalone (hend : s.work.loop.endTick ≠ some s.bak.count) (hprimary : isPrimary s = false)
    (hsecondary : isSecondary s = false) (hcycles : cyclesRun s = true) (hrate : s.work.cyc.nextRate = s.work.cyc.rate)
    (hseen : s.work.cyc.seen ≠ some (startTickOf s)) (hmay : mayStart (startTickOf s) s = true) :
    cycleStart vdrv s = takeStart (startTickOf s) vdrv s := by
  simp [cycleStart, takeRate_same hrate, onChain, hend, hprimary, hsecondary, hcycles, hseen, hmay]

end

/-- Settles O22: MEASURE_ENTRY by its guard, and a start tick by what the start of the cycle leaves ahead of its first round
(`CycleOpened`) and by that round (`RoundBegun`). -/
theorem aStartTickBeginsACycle : Obligations.AStartTickBeginsACycle := by
  unfold Obligations.AStartTickBeginsACycle
  intro s
  refine ⟨fun hcycles hdue hidle => ?_, fun hnot => ?_, fun vdrv hend => exec_cycleStart_at_loopEnd hend,
    fun vdrv hend hprimary hsecondary hcycles hrate hseen hmay homit => ?_⟩
  · rw [exec_measureEntry, measureEntry_due hcycles hdue hidle]
    rfl
  · rw [exec_measureEntry, measureEntry_not_due hnot, State.up_self]
  rw [exec_cycleStart_standalone hprimary hsecondary,
    cycleStart_standalone hend hprimary hsecondary hcycles hrate hseen hmay]
  refine ⟨fun hrun hloop hpll habandon hplan => ?_, fun hrun hkind => ?_⟩
  · rw [takeStart_begins homit hrun hloop]
    obtain ⟨u, opened, round⟩ := beginCycle_begins (tick := startTickOf s.vol) (vdrv := vdrv)
      (s := { s.vol with work.cyc.seen := some (startTickOf s.vol) }) hpll hloop habandon hplan
    refine ⟨_, rfl, ?_⟩
    rw [State.up_vol, round.cyc, round.powered, round.round, round.obj, opened.cyc]
    refine ⟨rfl, rfl, rfl, rfl, rfl, rfl, rfl, opened.powered, rfl, rfl, ?_, rfl, opened.calib, opened.degraded,
      State.up_nv s _⟩
    rw [th, opened.th]
    exact List.headD_eq_getD.symm
  · rw [takeStart_overruns homit hrun hkind]

end Sys2Proof.Machine
end

section
/-! PROOF of O59. SYNC starts the cycles of a chain, and CLKO stops (R124, R127, R246, R563 to R566). -/

namespace Sys2Proof.Machine

theorem exec_syncLead (s : State) : exec .syncLead s = .next (s.up (syncLead s.nv s.vol)) := rfl

theorem exec_syncFall (s : State) : exec .syncFall s = .next (s.up (syncFall s.nv s.vol)) := rfl

theorem exec_syncRelease (s : State) : exec .syncRelease s = .next { s with vol.work.chain.syncHeld := false } := rfl

theorem exec_syncRise (vdrv : Nat) (s : State) : exec (.syncRise vdrv) s = .next (s.up (syncRise vdrv s.vol)) := rfl

theorem exec_chainSyncStuck (vdrv : Nat) (s : State) :
    exec (.chainSyncStuck vdrv) s = .next (s.up (chainSyncStuck vdrv s.vol)) := rfl

theorem exec_clkoStop (s : State) : exec .clkoStop s = .next (s.up (clkoStop s.vol)) := rfl

section
variable {vdrv : Nat} {s : Vol}

/-- Cycles run where CORE does (R520). -/
theorem coreRuns_of_cyclesRun (h : cyclesRun s = true) : coreRuns s = true := by
  simp only [cyclesRun, Bool.and_eq_true] at h
  obtain ⟨⟨⟨hcore, -⟩, -⟩, -⟩ := h
  exact hcore

theorem not_isPrimary_of_isSecondary (h : isSecondary s = true) : isPrimary s = false := by
  have role : s.work.th.roleTaken = 1 := of_decide_eq_true h
  simp [isPrimary, role]

/-! ### SYNC goes low (R563, R564) -/

/-- No wake comes to a device that is not asleep. -/
theorem raiseWake_awake (nv : Nv) (w : WakeSource) (also : List WakeSource) (h : canWake s = false) :
    raiseWake nv w also s = s :=
  if_neg (by simp [h])

theorem syncLead_awake (nv : Nv) (hprimary : isPrimary s = true) (hactive : sourceActive s .cycle = true)
    (hcore : coreRuns s = true) (hwake : canWake s = false) :
    syncLead nv s = { s with work.chain.syncLow := true, work.chain.syncHeld := true } := by
  simp [syncLead, raiseWake_awake, hprimary, hactive, hcore, hwake]

theorem syncFall_idle (nv : Nv) (hsecondary : isSecondary s = true) (hcore : coreRuns s = true) (hwake : canWake s = false)
    (hrun : s.work.cyc.running = false) :
    syncFall nv s = { s with
      work.chain.syncLow := true
      work.chain.syncHeld := !s.bak.power.warning
      work.chain.takesPart := !s.bak.power.warning } := by
  simp [syncFall, raiseWake_awake, hsecondary, hcore, hwake, hrun]

/-- A secondary in its previous cycle counts the next one as an overrun (R127). -/
theorem syncFall_busy (nv : Nv) (hsecondary : isSecondary s = true) (hcore : coreRuns s = true) (hwake : canWake s = false)
    (hrun : s.work.cyc.running = true) :
    syncFall nv s =
      overrun { s with work.chain.syncLow := true, work.chain.syncHeld := false, work.chain.takesPart := false } := by
  simp [syncFall, raiseWake_awake, hsecondary, hcore, hwake, hrun]

theorem overrun_cyc (s : Vol) : (overrun s).work.cyc = { s.work.cyc with overruns := satInc s.work.cyc.overruns } := by
  unfold overrun
  dsimp only
  split
  · exact limM_work_cyc _ _ _ _
  · rfl

theorem overrun_chain (s : Vol) : (overrun s).work.chain = s.work.chain := by
  unfold overrun
  dsimp only
  split
  · exact limM_work_chain _ _ _ _
  · rfl

/-! ### SYNC rises, or stays low (R124, R564, R565) -/

/-- The schedule that a start of a cycle in a chain leaves, from the state in which SYNC starts it. -/
structure ChainCycleBegun (s t : Vol) : Prop where
  syncLow : t.work.chain.syncLow = s.work.chain.syncLow
  inCycle : t.work.chain.inCycle = s.work.chain.takesPart
  running : t.work.cyc.running = true
  count : t.work.cyc.count = s.work.cyc.count + 1
  startTick : t.work.cyc.startTick = s.bak.count

theorem takeRate_frame (s : Vol) : takeRate s = { s with work.cyc.rate := (takeRate s).work.cyc.rate } := by
  unfold takeRate
  split <;> rfl

section
variable (hchain : onChain s = true) (hcycles : cyclesRun s = true) (homit : s.work.th.omitCycle = false)
  (hrun : s.work.cyc.running = false) (hloop : s.work.loop.running = false)
  (hend : s.work.loop.endTick ≠ some s.bak.count)
include hchain hcycles homit hrun hloop hend

/-- In a chain the tick of SYNC is the start tick (R124, R564). -/
theorem cycleStart_chain :
    cycleStart vdrv s = beginCycle s.bak.count vdrv { takeRate s with work.cyc.seen := some s.bak.count } := by
  have rate := takeRate_frame s
  generalize hu : takeRate s = u at rate
  have chained : onChain u = true := by rw [rate]; exact hchain
  have tick : startTickOf u = s.bak.count := by
    rw [startTickOf, chained, if_pos rfl, rate]
  have now : mayStart s.bak.count u = true := by
    rw [mayStart, rate, beq_self_eq_true, Bool.true_or]
  have begins : takeStart s.bak.count vdrv u = beginCycle s.bak.count vdrv { u with work.cyc.seen := some s.bak.count } :=
    takeStart_begins (by rw [rate]; exact homit) (by rw [rate]; exact hrun) (by rw [rate]; exact hloop)
  rw [← begins]
  simp [cycleStart, hu, tick, chained, now, hcycles, hend]

theorem cycleStart_chain_begins (hpll : s.bak.power.pll = true) (habandon : s.work.cyc.abandon = false)
    (hplan : roundsOf (th s 0) ≠ []) : ChainCycleBegun s (cycleStart vdrv s) := by
  have rate := takeRate_frame s
  rw [cycleStart_chain hchain hcycles homit hrun hloop hend]
  generalize takeRate s = u at rate
  have plan : th u 0 = th s 0 := by rw [rate]; rfl
  obtain ⟨v, opened, round⟩ := beginCycle_begins (tick := s.bak.count) (vdrv := vdrv)
    (s := { u with work.cyc.seen := some s.bak.count }) (by rw [rate]; exact hpll) (by rw [rate]; exact hloop)
    (by rw [rate]; exact habandon) (by rw [← plan] at hplan; exact hplan)
  refine ⟨?_, ?_, ?_, ?_, ?_⟩
  · rw [round.chain, opened.syncLow, rate]
  · rw [round.chain, opened.inCycle, rate]
  all_goals rw [round.cyc, opened.cyc]
  rw [rate]

end

/-- The rise of SYNC is a cycle start for each device that takes part (R564). -/
theorem syncRise_takesPart (hlow : s.work.chain.syncLow = true) (hheld : s.work.chain.syncHeld = false)
    (hpart : isPrimary s = true ∨ (isSecondary s = true ∧ s.work.chain.takesPart = true)) :
    syncRise vdrv s = cycleStart vdrv { s with work.chain.syncLow := false, work.chain.takesPart := true } := by
  have rises : syncRise vdrv s =
      if isPrimary s then cycleStart vdrv { s with work.chain.syncLow := false, work.chain.takesPart := true }
      else if s.work.chain.takesPart then cycleStart vdrv { s with work.chain.syncLow := false }
      else { s with work.chain.syncLow := false } := if_neg (by simp [hlow, hheld])
  rcases hpart with hprimary | ⟨hsecondary, htakes⟩
  · rw [rises, if_pos hprimary]
  · rw [rises, not_isPrimary_of_isSecondary hsecondary, if_neg Bool.false_ne_true, if_pos htakes, ← htakes]

/-- The state from which a primary starts alone: it has let SYNC go, and takes part in no cycle of the chain (R565). -/
def aloneInChain (s : Vol) : Vol :=
  { s with work.chain.syncLow := false, work.chain.syncHeld := false, work.chain.takesPart := false }

theorem chainSyncStuck_starts (hprimary : isPrimary s = true) (hlow : s.work.chain.syncLow = true)
    (hcore : coreRuns s = true) (hrun : s.work.cyc.running = false)
    (hbegun : (cycleStart vdrv (aloneInChain s)).work.cyc.running = true) :
    chainSyncStuck vdrv s = logM 0x0183 0xFF (cycleStart vdrv (aloneInChain s)) := by
  unfold aloneInChain at hbegun ⊢
  simp [chainSyncStuck, hprimary, hlow, hcore, hrun, hbegun]

theorem chainSyncStuck_no_cycle (hprimary : isPrimary s = true) (hlow : s.work.chain.syncLow = true)
    (hcore : coreRuns s = true) (hcycles : cyclesRun s = false) : chainSyncStuck vdrv s = aloneInChain s := by
  have alone : cyclesRun (aloneInChain s) = false := hcycles
  have unchanged : cycleStart vdrv (aloneInChain s) = aloneInChain s := if_pos (by simp [alone])
  unfold aloneInChain at unchanged ⊢
  simp [chainSyncStuck, hprimary, hlow, hcore, unchanged]

/-! ### CLKO stops (R566) -/

/-- CORE runs on the RC of the device itself. -/
def changedToRc (s : Vol) : Vol := { s with bak.power.src := .rc, bak.power.hfxo := false }

theorem clkoStop_runs (hcore : coreRuns s = true) (hsrc : s.bak.power.src = .clko) : clkoStop s = ranOnRc (changedToRc s) :=
  if_pos (by simp [hcore, hsrc])

/-- Between cycles, or in a loop-back, the bloom and the open slot alone are DEGRADED (R246). -/
theorem ranOnRc_between (h : s.work.cyc.running = false ∨ s.work.cyc.kind = .loopback) :
    ranOnRc s = { s with
      work.aux.degraded := s.work.aux.degraded || s.work.aux.isOpen
      work.cyc.bloomRc := s.work.cyc.bloomRc || (s.work.fe.powered && !s.work.cyc.running) } := by
  refine if_pos ?_
  rcases h with h | h <;> simp [h]

/-- The cycle in progress is DEGRADED, before its results or after them (R246). -/
theorem ranOnRc_in_cycle (hrun : s.work.cyc.running = true) (hkind : s.work.cyc.kind = .normal) :
    ranOnRc s =
      if s.work.cyc.pairsDone then degradeLate { s with work.aux.degraded := s.work.aux.degraded || s.work.aux.isOpen }
      else { s with
        work.aux.degraded := s.work.aux.degraded || s.work.aux.isOpen
        work.cyc.degraded := true } := by
  have bloom : (s.work.cyc.bloomRc || (s.work.fe.powered && !s.work.cyc.running)) = s.work.cyc.bloomRc := by simp [hrun]
  unfold ranOnRc
  dsimp only
  rw [bloom]
  exact if_neg (by simp [hrun, hkind])

/-- After its results a cycle is DEGRADED all the same, and with it the flow that it gave (R246). -/
theorem degradeLate_degrades (hpairs : s.work.cyc.pairsDone = true) :
    (degradeLate s).bak = s.bak ∧ (degradeLate s).work.cyc.degraded = true ∧
      (s.work.cyc.degraded = false → (degradeLate s).work.flow.degraded = true) := by
  cases hd : s.work.cyc.degraded with
  | true =>
    have same : degradeLate s = s := if_pos (by simp [hd])
    rw [same]
    exact ⟨rfl, hd, nofun⟩
  | false =>
    have late : degradeLate s = showPaths _ := if_neg (by simp [hpairs, hd])
    rw [late]
    exact ⟨rfl, rfl, fun _ => rfl⟩

end

/-- Settles O59: the fall of SYNC by what a busy secondary counts, its rise and its absence by the one start of a cycle in a chain
(`ChainCycleBegun`), and CLKO by what a run on the RC makes DEGRADED. -/
theorem syncStartsTheCyclesOfAChain : Obligations.SyncStartsTheCyclesOfAChain := by
  unfold Obligations.SyncStartsTheCyclesOfAChain
  intro s
  refine ⟨fun hprimary hactive hcore hwake => ?_, fun hsecondary hcore hwake hrun => ?_,
    fun hsecondary hcore hwake hrun => ?_, exec_syncRelease s,
    fun vdrv hlow hcycles homit hrun hloop hpll habandon hplan hend => ⟨fun hheld hpart => ?_, fun hprimary => ?_⟩,
    fun vdrv hprimary hlow hcore hcycles => ?_,
    fun hcore hsrc => ⟨fun hbetween => ?_, fun hrun hkind hpairs => ?_, fun hrun hkind hpairs => ?_⟩⟩
  · rw [exec_syncLead, syncLead_awake _ hprimary hactive hcore hwake]
    rfl
  · rw [exec_syncFall, syncFall_idle _ hsecondary hcore hwake hrun]
    rfl
  · refine ⟨_, exec_syncFall s, State.up_nv s _, ?_⟩
    rw [State.up_vol, syncFall_busy _ hsecondary hcore hwake hrun, overrun_chain, overrun_cyc]
    exact ⟨rfl, rfl, rfl, rfl⟩
  · have begun : ChainCycleBegun _ _ :=
      cycleStart_chain_begins (vdrv := vdrv)
        (s := { s.vol with work.chain.syncLow := false, work.chain.takesPart := true }) ?_ hcycles homit hrun hloop hend hpll
        habandon hplan
    · rw [exec_syncRise, syncRise_takesPart hlow hheld hpart]
      exact ⟨_, rfl, State.up_nv s _, begun.syncLow, begun.inCycle, begun.running, begun.count, begun.startTick⟩
    · have role : isPrimary s.vol = true ∨ isSecondary s.vol = true := hpart.imp_right And.left
      exact (Bool.or_eq_true _ _).mpr role
  · have hcore : coreRuns s.vol = true := coreRuns_of_cyclesRun hcycles
    have begun : ChainCycleBegun (aloneInChain s.vol) (cycleStart vdrv (aloneInChain s.vol)) :=
      cycleStart_chain_begins ((Bool.or_eq_true _ _).mpr (.inl hprimary)) hcycles homit hrun hloop hend hpll habandon hplan
    refine ⟨_, exec_chainSyncStuck vdrv s, State.up_nv s _, ?_⟩
    rw [State.up_vol, chainSyncStuck_starts hprimary hlow hcore hrun begun.running, logM_work_chain, logM_work_cyc]
    exact ⟨begun.syncLow, begun.inCycle, begun.running, begun.count, begun.startTick⟩
  · rw [exec_chainSyncStuck, chainSyncStuck_no_cycle hprimary hlow hcore hcycles]
    rfl
  · rw [exec_clkoStop, clkoStop_runs hcore hsrc, ranOnRc_between (s := changedToRc s.vol) hbetween]
    rfl
  · have pairs : ¬(changedToRc s.vol).work.cyc.pairsDone = true := Bool.eq_false_iff.mp hpairs
    rw [exec_clkoStop, clkoStop_runs hcore hsrc, ranOnRc_in_cycle (s := changedToRc s.vol) hrun hkind, if_neg pairs]
    rfl
  · have pairs : (changedToRc s.vol).work.cyc.pairsDone = true := hpairs
    refine ⟨_, exec_clkoStop s, State.up_nv s _, ?_⟩
    rw [State.up_vol, clkoStop_runs hcore hsrc, ranOnRc_in_cycle (s := changedToRc s.vol) hrun hkind, if_pos pairs]
    obtain ⟨bak, cyc, flow⟩ := degradeLate_degrades (s := { changedToRc s.vol with
      work.aux.degraded := (changedToRc s.vol).work.aux.degraded || (changedToRc s.vol).work.aux.isOpen }) pairs
    exact ⟨congrArg (·.power.src) bak, congrArg (·.power.hfxo) bak, cyc, flow⟩

end Sys2Proof.Machine
end

section
/-! SUPPORT. What the results of a cycle (R195 to R256) leave beside its round (`RoundStands`): the words of the lanes, the upstream
reception of each path, and the orientation of the next cycle. -/

namespace Sys2Proof.Machine

/-! ### The relation -/

/-- The words of the lanes, the upstream receptions and the next orientation stand. -/
structure ReceptionsStand (s s' : Vol) : Prop where
  te : s'.work.te = s.work.te
  nextSwapped : s'.work.cyc.nextSwapped = s.work.cyc.nextSwapped
  up : ∀ j, (pathW s' j).up = (pathW s j).up

theorem ReceptionsStand.refl (s : Vol) : ReceptionsStand s s := ⟨rfl, rfl, fun _ => rfl⟩

theorem ReceptionsStand.trans {a b c : Vol} (h : ReceptionsStand a b) (k : ReceptionsStand b c) : ReceptionsStand a c :=
  ⟨k.te.trans h.te, k.nextSwapped.trans h.nextSwapped, fun j => (k.up j).trans (h.up j)⟩

theorem ReceptionsStand.after {a b c : Vol} (k : ReceptionsStand b c) (h : ReceptionsStand a b) : ReceptionsStand a c :=
  h.trans k

theorem ReceptionsStand.ite {c : Prop} [Decidable c] {s a b : Vol} (ha : ReceptionsStand s a) (hb : ReceptionsStand s b) :
    ReceptionsStand s (if c then a else b) := by
  split
  · exact ha
  · exact hb

/-- A step that leaves the lanes, the paths and the next orientation leaves the receptions. -/
theorem ReceptionsStand.of_eq {s s' : Vol} (te : s'.work.te = s.work.te)
    (nextSwapped : s'.work.cyc.nextSwapped = s.work.cyc.nextSwapped) (paths : s'.work.paths = s.work.paths) :
    ReceptionsStand s s' :=
  ⟨te, nextSwapped, fun j => congrArg (fun v => (vget v j).up) paths⟩

theorem LogFrame.receptionsStand {s s' : Vol} (h : LogFrame s s') : ReceptionsStand s s' :=
  .of_eq h.work_te (congrArg Cycle.nextSwapped h.work_cyc) h.work_paths

theorem receptionsStand_foldl {α : Type} {f : Vol → α → Vol} (h : ∀ s a, ReceptionsStand s (f s a)) (l : List α) (s : Vol) :
    ReceptionsStand s (l.foldl f s) := by
  induction l generalizing s with
  | nil => exact .refl s
  | cons a l ih => exact (h s a).trans (ih _)

/-- A path that is written with the upstream reception it has. -/
theorem setPathW_receptionsStand {j : Nat} {p : PathWork} {s : Vol} (h : p.up = (pathW s j).up) :
    ReceptionsStand s (setPathW j p s) := by
  refine ⟨rfl, rfl, fun i => ?_⟩
  by_cases hij : j = i
  · subst hij
    by_cases hj : j < 33
    · rw [← h]
      exact congrArg PathWork.up (vget_vset_self _ _ hj)
    · have same : vset s.work.paths j p = s.work.paths := by simp [vset, Vector.setIfInBounds_eq_of_size_le, Nat.not_lt.mp hj]
      exact congrArg (fun v => (vget v j).up) same
  · exact congrArg PathWork.up (vget_vset_ne _ _ hij)

theorem setPathR_receptionsStand (j : Nat) (p : PathRet) (s : Vol) : ReceptionsStand s (setPathR j p s) :=
  .of_eq rfl rfl rfl

/-! ### The stream of LINK and the chain -/

theorem streamPut_receptionsStand (bit type : Nat) (body : Bytes) (s : Vol) :
    ReceptionsStand s (streamPut bit type body s) := by
  unfold streamPut
  split
  · exact .refl s
  · dsimp only
    split <;> exact .of_eq rfl rfl rfl

theorem chainSend_receptionsStand (b : Bytes) (s : Vol) : ReceptionsStand s (chainSend b s) := by
  unfold chainSend
  split <;> exact .of_eq rfl rfl rfl

theorem sendResults_receptionsStand (s : Vol) : ReceptionsStand s (sendResults s) := by
  unfold sendResults
  exact (receptionsStand_foldl (fun s _ => chainSend_receptionsStand _ s) _ _).trans (chainSend_receptionsStand _ _)

theorem countMissing_receptionsStand (k : Nat) (s : Vol) : ReceptionsStand s (countMissing k s) := by
  unfold countMissing
  dsimp only
  split_ifs
  · exact .refl s
  · exact .of_eq rfl rfl rfl
  · exact .after (logM_frame _ _ _).receptionsStand (.of_eq rfl rfl rfl)
  · exact .of_eq rfl rfl rfl

/-! ### Pairs (R195, R204 to R209) -/

theorem countDiscard_up (s : Vol) (p : PathWork) : (countDiscard s p).up = p.up := by
  unfold countDiscard
  split <;> rfl

theorem gapPair_receptionsStand (j : Nat) (s : Vol) : ReceptionsStand s (gapPair j s) := by
  unfold gapPair
  dsimp only
  split
  · exact .refl s
  · exact setPathW_receptionsStand (countDiscard_up _ _)

theorem leadUpdate_receptionsStand (x : RxEval) (s : Vol) : ReceptionsStand s (leadUpdate x s) := by
  unfold leadUpdate
  dsimp only
  split_ifs
  · exact .refl s
  · exact .after (limM_frame _ _ _ _).receptionsStand (.of_eq rfl rfl rfl)
  all_goals exact .of_eq rfl rfl rfl

theorem offsetSample_receptionsStand (j : Nat) (d : Int) (s : Vol) : ReceptionsStand s (offsetSample j d s) := by
  unfold offsetSample
  extract_lets r w delta upd
  have put : ∀ (x : PathRet) (y : PathWork), y.up = w.up → ReceptionsStand s (setPathW j y (setPathR j x s)) :=
    fun x y h => .after (setPathW_receptionsStand h) (setPathR_receptionsStand j x s)
  have updated : ∀ x n, ReceptionsStand s (upd x n s) := by
    intro x n
    dsimp only [upd]
    generalize ht : setPathW j _ _ = t
    have moved : ReceptionsStand s t := by
      rw [← ht]
      exact put _ _ rfl
    have logged := ReceptionsStand.ite (c := r.n < 64 ∧ n = 64)
      (.after (logM_frame 0x0150 j t).receptionsStand moved) moved
    exact .ite (.after (limM_frame _ _ _ _).receptionsStand logged) logged
  refine .ite (updated _ _) (.ite (.ite ?_ ?_) (updated _ _))
  · exact .after (logM_frame _ _ _).receptionsStand (put _ _ rfl)
  · exact setPathW_receptionsStand rfl

/-- A saturated value is logged (R234). -/
theorem satLogged_receptionsStand {c : Prop} [Decidable c] (data : Nat) {s t : Vol} (h : ReceptionsStand s t) :
    ReceptionsStand s (if c then logSat data { t with work.flow.satNow := true } else t) :=
  .ite (.after (limM_frame _ _ _ _).receptionsStand (h.trans (.of_eq rfl rfl rfl))) h

/-- Two KEPT pairs that follow one another give a sample (R207). -/
theorem sampled_receptionsStand (j : Nat) (prev : Option (Int × Bool)) (d : Int → Bool → Int) {s t : Vol}
    (h : ReceptionsStand s t) :
    ReceptionsStand s (match prev with
      | some (raw, swapped) => offsetSample j (d raw swapped) t
      | none => t) := by
  split
  · exact h.trans (offsetSample_receptionsStand _ _ _)
  · exact h

theorem decidePair_receptionsStand (j : Nat) (s : Vol) : ReceptionsStand s (decidePair j s) := by
  unfold decidePair
  dsimp only
  split
  · refine .ite (.refl s) (.ite (.ite (.after (limM_frame _ _ _ _).receptionsStand ?_) ?_) (.ite ?_ ?_))
    · exact setPathW_receptionsStand (countDiscard_up _ _)
    · exact setPathW_receptionsStand (countDiscard_up _ _)
    · refine .after (limM_frame _ _ _ _).receptionsStand (sampled_receptionsStand j _ _ (satLogged_receptionsStand j ?_))
      exact .after (.ite (setPathR_receptionsStand _ _ _) (.refl _)) (setPathW_receptionsStand rfl)
    · refine .after (leadUpdate_receptionsStand _ _) (.after (leadUpdate_receptionsStand _ _) ?_)
      refine sampled_receptionsStand j _ _ (satLogged_receptionsStand j ?_)
      exact .after (.ite (setPathR_receptionsStand _ _ _) (.refl _)) (setPathW_receptionsStand rfl)
  · exact .refl s

/-! ### Path states and the empty pipe (R237 to R244) -/

theorem receivePath_receptionsStand (j w : Nat) (s : Vol) : ReceptionsStand s (receivePath j w s) :=
  .after (setPathR_receptionsStand _ _ _) (setPathW_receptionsStand rfl)

theorem jointVerdict_receptionsStand (j : Nat) (s : Vol) : ReceptionsStand s (jointVerdict j s) := by
  unfold jointVerdict
  dsimp only
  split
  · refine .ite (gapPair_receptionsStand j s) (.trans (receivePath_receptionsStand j _ s) (.ite (.refl _) ?_))
    exact setPathW_receptionsStand (countDiscard_up _ _)
  · exact gapPair_receptionsStand j s

theorem dropPath_receptionsStand (j : Nat) (s : Vol) : ReceptionsStand s (dropPath j s) :=
  .after (limM_frame _ _ _ _).receptionsStand (setPathW_receptionsStand rfl)

theorem holdPath_receptionsStand (j : Nat) (s : Vol) : ReceptionsStand s (holdPath j s) := by
  have put : ∀ (w : PathWork) (r : PathRet), w.up = (pathW s j).up → ReceptionsStand s (setPathW j w (setPathR j r s)) :=
    fun w r h => .after (setPathW_receptionsStand h) (setPathR_receptionsStand j r s)
  unfold holdPath
  dsimp only
  split
  · refine .ite (.ite (.after (limM_frame _ _ _ _).receptionsStand ?_) ?_) ?_ <;> exact put _ _ rfl
  · split_ifs
    · exact put _ _ rfl
    · exact .after (dropPath_receptionsStand _ _) (put _ _ rfl)
    · exact .after (dropPath_receptionsStand _ _) (put _ _ rfl)
    · exact put _ _ rfl

theorem pathSos_receptionsStand (j : Nat) (s : Vol) : ReceptionsStand s (pathSos j s) := by
  unfold pathSos
  dsimp only
  split
  · split <;> exact setPathW_receptionsStand rfl
  · exact setPathW_receptionsStand rfl

theorem unlockPort_receptionsStand (p : Nat) (s : Vol) : ReceptionsStand s (unlockPort p s) := .of_eq rfl rfl rfl

theorem setEmpty_receptionsStand (js : List Nat) (s : Vol) : ReceptionsStand s (setEmpty js s) := by
  unfold setEmpty
  refine .after (receptionsStand_foldl (fun s j => ?_) _ _) (.after (receptionsStand_foldl (fun s j => ?_) _ _) ?_)
  · exact .after (unlockPort_receptionsStand _ _) (unlockPort_receptionsStand _ _)
  · exact setPathR_receptionsStand _ _ _
  · exact .after (logM_frame _ _ _).receptionsStand (.of_eq rfl rfl rfl)

theorem clearEmpty_receptionsStand (js : List Nat) (s : Vol) : ReceptionsStand s (clearEmpty js s) := by
  unfold clearEmpty
  refine .after (receptionsStand_foldl (fun s j => ?_) _ _) (.after (logM_frame _ _ _).receptionsStand (.of_eq rfl rfl rfl))
  exact .ite (.refl s) (.after (dropPath_receptionsStand _ _) (setPathR_receptionsStand _ _ _))

theorem emptyRun_receptionsStand (js : List Nat) (s : Vol) : ReceptionsStand s (emptyRun js s) := by
  unfold emptyRun
  dsimp only
  split_ifs
  · exact .refl s
  · exact setEmpty_receptionsStand js s
  · exact .of_eq rfl rfl rfl
  · exact .refl s
  · exact .of_eq rfl rfl rfl
  · exact clearEmpty_receptionsStand js s
  · exact .of_eq rfl rfl rfl
  · exact .refl s
  · exact .of_eq rfl rfl rfl

/-! ### The result of a cycle (R130, R216 to R229) -/

theorem tempResult_receptionsStand (js : List Nat) (s : Vol) : ReceptionsStand s (tempResult js s) := by
  unfold tempResult
  dsimp only
  split <;> exact .of_eq rfl rfl rfl

theorem degradedEvents_receptionsStand (s : Vol) : ReceptionsStand s (degradedEvents s) := by
  unfold degradedEvents
  refine .ite (.refl s) (.ite ?_ (.ite ?_ (.of_eq rfl rfl rfl)))
  · exact .after (logM_frame _ _ _).receptionsStand (.of_eq rfl rfl rfl)
  · exact .after (logM_frame _ _ _).receptionsStand (.of_eq rfl rfl rfl)

theorem setNextRate_receptionsStand (r : Nat) (s : Vol) : ReceptionsStand s (setNextRate r s) := by
  unfold setNextRate
  split <;> exact .of_eq rfl rfl rfl

theorem adaptRate_receptionsStand (v : Option Int) (s : Vol) : ReceptionsStand s (adaptRate v s) := by
  unfold adaptRate
  dsimp only
  split_ifs
  · exact .of_eq rfl rfl rfl
  · exact .after (setNextRate_receptionsStand _ _) (.of_eq rfl rfl rfl)
  · exact .after (setNextRate_receptionsStand _ _) (.of_eq rfl rfl rfl)
  · exact .after (setNextRate_receptionsStand _ _) (.of_eq rfl rfl rfl)
  · exact .of_eq rfl rfl rfl

theorem pathResults_receptionsStand (js : List Nat) (vel : Nat → Int × Bool) (flowSat : Bool) (s : Vol) :
    ReceptionsStand s (pathResults js vel flowSat s) := by
  unfold pathResults
  refine receptionsStand_foldl (fun s j => ?_) _ _
  exact satLogged_receptionsStand j (setPathW_receptionsStand rfl)

theorem takeFlow_receptionsStand (q : Int) (cutoff subst : Bool) (valid : Nat) (s : Vol) :
    ReceptionsStand s (takeFlow q cutoff subst valid s) := .of_eq rfl rfl rfl

theorem noResult_receptionsStand (js : List Nat) (s : Vol) : ReceptionsStand s (noResult js s) := by
  unfold noResult
  refine .after (adaptRate_receptionsStand _ _) (.after (limM_frame _ _ _ _).receptionsStand ?_)
  exact (pathResults_receptionsStand js (fun _ => (0, false)) false s).trans (.of_eq rfl rfl rfl)

theorem flowResult_receptionsStand (js : List Nat) (s : Vol) : ReceptionsStand s (flowResult js s) := by
  unfold flowResult
  dsimp only
  refine .ite ?_ (.after (adaptRate_receptionsStand _ _) (.after (takeFlow_receptionsStand _ _ _ _ _) ?_))
  · exact .after (adaptRate_receptionsStand _ _)
      (.after (takeFlow_receptionsStand _ _ _ _ _) (pathResults_receptionsStand _ _ _ s))
  · exact .after (pathResults_receptionsStand _ _ _ _) (satLogged_receptionsStand _ (.refl s))

theorem streamPaths_receptionsStand (js : List Nat) (s : Vol) : ReceptionsStand s (streamPaths js s) :=
  receptionsStand_foldl (fun s _ => streamPut_receptionsStand _ _ _ s) _ _

theorem showPaths_receptionsStand (s : Vol) : ReceptionsStand s (showPaths s) := by
  unfold showPaths
  exact .of_eq rfl rfl rfl

theorem markNoFlow_receptionsStand (s : Vol) : ReceptionsStand s (markNoFlow s) := .of_eq rfl rfl rfl

theorem cycleResult_receptionsStand (s : Vol) : ReceptionsStand s (cycleResult s) := by
  unfold cycleResult
  split
  · exact .refl s
  · extract_lets js joint anchored _ _ emptied held sos temp none_ shown
    have hanchored : ReceptionsStand s anchored :=
      (receptionsStand_foldl (fun s j => jointVerdict_receptionsStand j s) _ _).trans
        (receptionsStand_foldl (fun s j => .ite (setPathR_receptionsStand _ _ s) (.refl s)) _ _)
    have hemptied : ReceptionsStand s emptied :=
      .after (emptyRun_receptionsStand _ _) (hanchored.trans (.of_eq rfl rfl rfl))
    have hheld : ReceptionsStand s held := by
      refine hemptied.trans (.ite (receptionsStand_foldl (fun s j => ?_) _ _) (receptionsStand_foldl (fun s j => ?_) _ _))
      · exact setPathW_receptionsStand rfl
      · exact holdPath_receptionsStand j s
    have htemp : ReceptionsStand s temp :=
      hheld.trans ((receptionsStand_foldl (fun s j => pathSos_receptionsStand j s) _ _).trans (tempResult_receptionsStand _ _))
    have hshown : ReceptionsStand s shown :=
      htemp.trans (.after (showPaths_receptionsStand _) (.ite (noResult_receptionsStand _ _) (flowResult_receptionsStand _ _)))
    refine .after (degradedEvents_receptionsStand _) (.after (markNoFlow_receptionsStand _) ?_)
    exact .after (streamPut_receptionsStand _ _ _ _) (hshown.trans (streamPaths_receptionsStand _ _))

theorem jointSecondaryResult_receptionsStand (s : Vol) : ReceptionsStand s (jointSecondaryResult s) := by
  unfold jointSecondaryResult
  refine .ite (.refl s) (.after (showPaths_receptionsStand _) (.after (tempResult_receptionsStand _ _) ?_))
  refine .trans (b := { s with work.cyc.pairsDone := true }) (.of_eq rfl rfl rfl) (receptionsStand_foldl (fun s j => ?_) _ _)
  exact .after (setPathW_receptionsStand rfl) (.after (pathSos_receptionsStand _ _) (setPathW_receptionsStand rfl))

/-! ### Levels (R230 to R233, R245) -/

theorem levelEmpty_receptionsStand (n : Nat) (x : RxEval) (used : Bool) (s : Vol) :
    ReceptionsStand s (levelEmpty n x used s) := by
  unfold levelEmpty
  dsimp only
  refine .ite (.refl s) ?_
  split
  · exact .ite (.after (limM_frame _ _ _ _).receptionsStand (.of_eq rfl rfl rfl)) (.of_eq rfl rfl rfl)
  · exact .refl s
  · exact .ite (.after (limM_frame _ _ _ _).receptionsStand (.of_eq rfl rfl rfl)) (.of_eq rfl rfl rfl)

theorem levelResult_receptionsStand (ref : Option Int) (n : Nat) (s : Vol) : ReceptionsStand s (levelResult ref n s) := by
  unfold levelResult
  dsimp only
  split
  · exact .refl s
  · refine .after (levelEmpty_receptionsStand _ _ _ _) (.ite ?_ (.of_eq rfl rfl rfl))
    exact .after (logM_frame _ _ _).receptionsStand (.of_eq rfl rfl rfl)

theorem tryLevels_receptionsStand (s : Vol) : ReceptionsStand s (tryLevels s) := by
  unfold tryLevels
  extract_lets ns r ref _ _ taken levels
  split
  · have htaken : ReceptionsStand s taken := by
      unfold taken
      clear_value ref
      split
      · exact .of_eq rfl rfl rfl
      · exact .refl s
    have hlevels : ReceptionsStand s levels :=
      htaken.trans (receptionsStand_foldl (fun s n => levelResult_receptionsStand ref n s) _ _)
    exact .after (receptionsStand_foldl (fun s _ => streamPut_receptionsStand _ _ _ s) _ _) (hlevels.trans (.of_eq rfl rfl rfl))
  · exact .refl s

/-! ### What follows the last own pair (R188, R216, R571) -/

theorem primaryDecides_receptionsStand (s : Vol) : ReceptionsStand s (primaryDecides s) := by
  unfold primaryDecides
  refine .ite (.refl s) (.after (tryLevels_receptionsStand _) (.after (cycleResult_receptionsStand _) ?_))
  refine .after (receptionsStand_foldl (fun s k => countMissing_receptionsStand k s) _ _) ?_
  exact .ite (limM_frame _ _ _ _).receptionsStand (.refl s)

theorem ownFinished_receptionsStand (s : Vol) : ReceptionsStand s (ownFinished s) := by
  unfold ownFinished
  refine .ite (tryLevels_receptionsStand s) (.trans (b := { s with work.chain.ownDone := true }) (.of_eq rfl rfl rfl) ?_)
  refine .ite (.after (tryLevels_receptionsStand _) (.ite (.after (sendResults_receptionsStand _) ?_) ?_)) (.ite (.ite ?_ ?_) ?_)
  · exact .ite (jointSecondaryResult_receptionsStand _) (cycleResult_receptionsStand _)
  · exact .ite (jointSecondaryResult_receptionsStand _) (cycleResult_receptionsStand _)
  · exact primaryDecides_receptionsStand _
  · exact tryLevels_receptionsStand _
  · exact .after (tryLevels_receptionsStand _) (cycleResult_receptionsStand _)

end Sys2Proof.Machine
end

section
/-! SUPPORT. What the receive sets, the words that CORE takes and an evaluated reception leave (R117, R156, R159, R160, R186, R198). -/

namespace Sys2Proof.Machine

/-! ### The windows of the sets (R117) -/

/-- The round stands, every set serves its slot, and no closed window opens again. -/
structure SetsServe (s s' : Vol) : Prop where
  round : s'.work.fe.round = s.work.fe.round
  port : ∀ k, k < 4 → (eset s' k).port = (eset s k).port
  slot : ∀ k, k < 4 → (eset s' k).slot = (eset s k).slot
  closed : ∀ k, k < 4 → (eset s k).closed = true → (eset s' k).closed = true

theorem SetsServe.refl (s : Vol) : SetsServe s s := ⟨rfl, fun _ _ => rfl, fun _ _ => rfl, fun _ _ => id⟩

theorem SetsServe.trans {a b c : Vol} (h : SetsServe a b) (l : SetsServe b c) : SetsServe a c :=
  ⟨l.round.trans h.round, fun k hk => (l.port k hk).trans (h.port k hk), fun k hk => (l.slot k hk).trans (h.slot k hk),
    fun k hk => l.closed k hk ∘ h.closed k hk⟩

theorem SetsServe.after {a b c : Vol} (l : SetsServe b c) (h : SetsServe a b) : SetsServe a c := h.trans l

theorem eset_setEset_ne {j k : Nat} (e : ESet) (s : Vol) (h : k ≠ j) : eset (setEset k e s) j = eset s j :=
  vget_vset_ne _ e h

theorem setLane_setsServe (k : Nat) (l : Lane) (s : Vol) : SetsServe s (setLane k l s) :=
  ⟨rfl, fun _ _ => rfl, fun _ _ => rfl, fun _ _ => id⟩

theorem setEset_setsServe {k : Nat} {e : ESet} {s : Vol} (hport : e.port = (eset s k).port) (hslot : e.slot = (eset s k).slot)
    (hclosed : (eset s k).closed = true → e.closed = true) : SetsServe s (setEset k e s) := by
  have set : ∀ i, i < 4 → (i = k ∧ eset (setEset k e s) i = e) ∨ eset (setEset k e s) i = eset s i := by
    intro i hi
    by_cases hik : k = i
    · subst hik
      exact .inl ⟨rfl, eset_setEset_self e s hi⟩
    · exact .inr (eset_setEset_ne e s hik)
  refine ⟨rfl, fun i hi => ?_, fun i hi => ?_, fun i hi => ?_⟩ <;> rcases set i hi with ⟨rfl, here⟩ | there
  · rw [here, hport]
  · rw [there]
  · rw [here, hslot]
  · rw [there]
  · rw [here]
    exact hclosed
  · rw [there]
    exact id

theorem withdraw_setsServe (k : Nat) (s : Vol) : SetsServe s (withdraw k s) := by
  unfold withdraw
  dsimp only
  split
  · exact .after (setLane_setsServe _ _ _) (setEset_setsServe rfl rfl id)
  · exact .refl s

theorem writeClose_setsServe (k : Nat) (s : Vol) : SetsServe s (writeClose k s) := by
  rcases writeClose_cases k s with same | ⟨w, pushed⟩
  · rw [same]
    exact .refl s
  · rw [pushed]
    exact .after (setLane_setsServe _ _ _) (setEset_setsServe rfl rfl id)

/-- A set whose window closes has served its slot, and is closed; its close word follows (R117, R156). -/
theorem closeSet_serves (j k : Nat) (s : Vol) :
    SetsServe s (closeSet j k s) ∧
      (k < 4 → (eset s k).port ≠ none → (eset s k).slot = j → (eset (closeSet j k s) k).closed = true) := by
  unfold closeSet
  extract_lets e u e' endAt
  split
  · next h =>
    refine ⟨.refl s, fun _ hport hslot => ?_⟩
    simpa [e, hport, hslot] using h
  · have withdraws : SetsServe s u := by
      unfold u
      split
      · exact withdraw_setsServe k s
      · exact .refl s
    have ends := writeClose_setsServe k (setEset k { e' with closed := true, endedAt := some (e'.endedAt.getD endAt) } u)
    refine ⟨withdraws.trans (.after ends (setEset_setsServe rfl rfl fun _ => rfl)), fun hk _ _ => ends.closed k hk ?_⟩
    rw [eset_setEset_self _ _ hk]

/-- The windows of some sets close, and each of them that serves the slot is closed after them. -/
theorem closeSets_close (j : Nat) (ks : List Nat) (s : Vol) :
    SetsServe s (ks.foldl (fun s k => closeSet j k s) s) ∧
      ∀ k ∈ ks, k < 4 → (eset s k).port ≠ none → (eset s k).slot = j →
        (eset (ks.foldl (fun s k => closeSet j k s) s) k).closed = true := by
  induction ks generalizing s with
  | nil => exact ⟨.refl s, nofun⟩
  | cons a ks ih =>
    obtain ⟨serves, closes⟩ := ih (closeSet j a s)
    obtain ⟨first, closed⟩ := closeSet_serves j a s
    refine ⟨first.trans serves, fun k hmem hk hport hslot => ?_⟩
    rcases List.mem_cons.mp hmem with rfl | hrest
    · exact serves.closed k hk (closed hk hport hslot)
    · exact closes k hrest hk (by rwa [first.port k hk]) (by rwa [first.slot k hk])

/-! ### The words that CORE takes (R159, R160) -/

/-- s' differs from s in the words of the TIMING ENGINE, their copy and what the stream of LINK takes of them. -/
structure WordsFrame (s s' : Vol) : Prop where
  only : s' = { s with
    work.te := s'.work.te
    work.laneCopy := s'.work.laneCopy
    work.pt := s'.work.pt
    work.streamWords := s'.work.streamWords }

theorem WordsFrame.refl (s : Vol) : WordsFrame s s := ⟨rfl⟩

theorem WordsFrame.trans {a b c : Vol} (h : WordsFrame a b) (k : WordsFrame b c) : WordsFrame a c :=
  ⟨by rw [k.only, h.only]⟩

theorem WordsFrame.after {a b c : Vol} (k : WordsFrame b c) (h : WordsFrame a b) : WordsFrame a c := h.trans k

theorem WordsFrame.bak {s s' : Vol} (h : WordsFrame s s') : s'.bak = s.bak := by rw [h.only]
theorem WordsFrame.th {s s' : Vol} (h : WordsFrame s s') : s'.work.th = s.work.th := by rw [h.only]
theorem WordsFrame.fe {s s' : Vol} (h : WordsFrame s s') : s'.work.fe = s.work.fe := by rw [h.only]
theorem WordsFrame.cyc {s s' : Vol} (h : WordsFrame s s') : s'.work.cyc = s.work.cyc := by rw [h.only]
theorem WordsFrame.loop {s s' : Vol} (h : WordsFrame s s') : s'.work.loop = s.work.loop := by rw [h.only]

theorem wordsFrame_foldl {α : Type} {f : Vol → α → Vol} (h : ∀ s a, WordsFrame s (f s a)) (l : List α) (s : Vol) :
    WordsFrame s (l.foldl f s) := by
  induction l generalizing s with
  | nil => exact .refl s
  | cons a l ih => exact (h s a).trans (ih _)

theorem setLane_wordsFrame (k : Nat) (l : Lane) (s : Vol) : WordsFrame s (setLane k l s) := ⟨rfl⟩

theorem drainAll_wordsFrame (s : Vol) : WordsFrame s (drainAll s) := ⟨rfl⟩

theorem streamBlock_wordsFrame (lane round cycle : Nat) (words : List StampWord) (s : Vol) :
    WordsFrame s (streamBlock lane round cycle words s) := by
  unfold streamBlock
  split_ifs <;> exact ⟨rfl⟩

theorem streamBlock_te (lane round cycle : Nat) (words : List StampWord) (s : Vol) :
    (streamBlock lane round cycle words s).work.te = s.work.te := by
  unfold streamBlock
  split_ifs <;> rfl

theorem streamReception_wordsFrame (k port : Nat) (s : Vol) : WordsFrame s (streamReception k port s) := by
  unfold streamReception
  split
  · exact .refl s
  · exact .after (streamBlock_wordsFrame _ _ _ _ _) (setLane_wordsFrame _ _ _)

/-- A raw block is a copy: the words that CORE has taken stay (R160). -/
theorem streamReception_taken {k : Nat} (port : Nat) (s : Vol) (hk : k < 6) :
    (lane (streamReception k port s) k).taken = (lane s k).taken := by
  unfold streamReception
  split
  · rfl
  · rw [lane, streamBlock_te, ← lane, lane_setLane_self _ _ hk]

theorem streamUnused_wordsFrame (ix : Nat) (s : Vol) : WordsFrame s (streamUnused ix s) := by
  unfold streamUnused
  refine wordsFrame_foldl (fun s k => ?_) _ _
  split
  · exact .refl s
  · exact .after (streamBlock_wordsFrame _ _ _ _ _) (setLane_wordsFrame _ _ _)

/-! ### An evaluated reception (R186, R198) -/

/-- s' differs from s in the trackers of the ports, the stream, the logs and retained RAM at most. -/
structure TrackFrame (s s' : Vol) : Prop where
  only : s' = { s with
    work.ports := s'.work.ports
    work.store := s'.work.store
    work.pt := s'.work.pt
    ret := s'.ret }

theorem TrackFrame.refl (s : Vol) : TrackFrame s s := ⟨rfl⟩

theorem TrackFrame.trans {a b c : Vol} (h : TrackFrame a b) (k : TrackFrame b c) : TrackFrame a c :=
  ⟨by rw [k.only, h.only]⟩

theorem TrackFrame.after {a b c : Vol} (k : TrackFrame b c) (h : TrackFrame a b) : TrackFrame a c := h.trans k

theorem LogFrame.trackFrame {s s' : Vol} (h : LogFrame s s') : TrackFrame s s' := ⟨by rw [h.only]⟩

theorem streamRx_trackFrame (x : RxRec) (s : Vol) : TrackFrame s (streamRx x s) := by
  unfold streamRx streamPut
  split
  · exact .refl s
  · dsimp only
    split <;> exact ⟨rfl⟩

theorem countGain_trackFrame (r : RxRec) (s : Vol) : TrackFrame s (countGain r s) := by
  unfold countGain
  dsimp only
  split
  · exact .after (logM_frame _ _ _).trackFrame ⟨rfl⟩
  · exact ⟨rfl⟩

theorem trackersAfter_trackFrame (x : RxEval) (s : Vol) : TrackFrame s (trackersAfter x s) := by
  unfold trackersAfter
  extract_lets r p t
  split
  split
  extract_lets u v
  have reseats : TrackFrame s v := by
    unfold v
    split
    · exact .after (limM_frame _ _ _ _).trackFrame ⟨rfl⟩
    · exact ⟨rfl⟩
  split
  · exact .after (limM_frame _ _ _ _).trackFrame reseats
  · exact reseats

theorem evalEave_port (s : Vol) (x : RxIn) (r : RxRec) : (evalEave s x r).port = r.port := by
  unfold evalEave
  dsimp only
  split
  · rfl
  · split_ifs <;> rfl

theorem evalFit_port (s : Vol) (x : RxIn) (r : RxRec) (lvl : Int) (run : List Int) :
    (evalFit s x r lvl run).record.port = r.port := by
  unfold evalFit
  dsimp only
  split_ifs <;> rfl

/-- The record of an evaluation is that of the port of its reception (R202). -/
theorem evalReception_port (s : Vol) (x : RxIn) : (evalReception s x).record.port = x.port := by
  unfold evalReception
  dsimp only
  split_ifs
  · rfl
  · rfl
  · rfl
  · exact evalEave_port _ _ _
  · rfl
  · split
    · rfl
    · split
      · rfl
      · split_ifs
        · rfl
        · rfl
        · exact evalFit_port _ _ _ _ _

end Sys2Proof.Machine
end

section
/-! PROOF of O25. Rounds close and follow one another (R115, R117, R126, R156, R186, R227). -/

namespace Sys2Proof.Machine

theorem exec_searchWindowClose (j : Fin 4) (s : State) :
    exec (.searchWindowClose j) s = .next (s.up (windowClose j.val s.vol)) := rfl

theorem exec_settleEnd (vdrv : Nat) (s : State) : exec (.settleEnd vdrv) s = .next (s.up (settleEnd vdrv s.vol)) := rfl

theorem exec_receptionClose (k : Fin 4) (t0 : Nat) (env : List (BitVec 10)) (s : State) :
    exec (.receptionClose k t0 env) s = .next (s.up (receptionClose k.val t0 env s.vol)) := rfl

/-- A flow in force beyond its age is stale (R220, R227). -/
theorem exec_flowStale {f : FlowInForce} {s : State} (hflow : s.vol.ret.flow.inForce = some f)
    (hage : ageLimit s.vol < (s.vol.bak.count - f.startTick).toNat) :
    exec .flowStale s = .next { s with vol.work.flow.stale := true } := by
  have stale : exec .flowStale s = execFlowStale s := rfl
  rw [stale, execFlowStale, hflow]
  exact if_pos hage

/-! ### The last window of a round (R115, R117) -/

/-- The settle begins after n windows: the receive switches open (R115). -/
def settleBegun (n : Nat) (s : Vol) : Vol :=
  { s with
    work.fe.round.windows := n
    work.fe.round.settling := true
    work.fe.sets := s.work.fe.sets.map fun e => { e with listening := false, drive := .off } }

theorem eset_settleBegun (n : Nat) (s : Vol) {k : Nat} (hk : k < 4) :
    eset (settleBegun n s) k = { eset s k with listening := false, drive := .off } := vget_map _ _ hk

/-- A calibration run begins on the lanes alone (R147). -/
theorem beginCal_fe (ks : List Nat) (s : Vol) : (beginCal ks s).work.fe = s.work.fe := by
  unfold beginCal
  induction ks generalizing s with
  | nil => rfl
  | cons k ks ih => exact (ih _).trans rfl

/-- The sets that serve slot j. -/
def serving (j : Nat) (s : Vol) : List Nat :=
  (List.range 4).filter fun k => (eset s k).port.isSome && (eset s k).slot == j

theorem mem_serving {j k : Nat} {s : Vol} :
    k ∈ serving j s ↔ k < 4 ∧ (eset s k).port ≠ none ∧ (eset s k).slot = j := by
  simp [serving, Option.isSome_iff_ne_none]

section
variable {s : Vol}

/-- The last window closes the sets of its slot, and the settle begins, with a calibration run where FINE has kept its lock. -/
theorem windowClose_last {j : Nat} (hrun : s.work.fe.round.running = true) (hsettle : s.work.fe.round.settling = false)
    (hfired : s.work.fe.round.unfired = false) (hshot : j < s.work.fe.round.shots)
    (hlast : s.work.fe.round.slots.length ≤ s.work.fe.round.windows + 1)
    (hopen : ∃ k ∈ serving j s, (eset s k).closed = false) :
    (windowClose j s).work.fe =
      (settleBegun (s.work.fe.round.windows + 1) ((serving j s).foldl (fun s k => closeSet j k s) s)).work.fe := by
  obtain ⟨k, hk, hclosed⟩ := hopen
  have serves : (serving j s).isEmpty = false := List.isEmpty_eq_false_iff.mpr (List.ne_nil_of_mem hk)
  have someOpen : (serving j s).all (fun k => (eset s k).closed) = false := List.all_eq_false.mpr ⟨k, hk, by simp [hclosed]⟩
  have guard : (!s.work.fe.round.running || s.work.fe.round.settling || decide (s.work.fe.round.shots ≤ j) ||
      (serving j s).isEmpty || (serving j s).all fun k => (eset s k).closed) = false := by
    rw [hrun, hsettle, serves, someOpen, decide_eq_false (Nat.not_le.mpr hshot)]
    rfl
  have closes : windowClose j s = _ := if_neg (Bool.eq_false_iff.mp guard)
  rw [closes]
  dsimp only
  rw [hfired, if_neg Bool.false_ne_true, if_pos hlast]
  split
  · rfl
  · exact beginCal_fe _ _

/-- The settle is followed by the next round of the plan, once CORE has taken the words of the lanes (R115, R159). -/
theorem settleEnd_next {vdrv : Nat} (hrun : s.work.fe.round.running = true) (hsettle : s.work.fe.round.settling = true) :
    ∃ u, WordsFrame s u ∧ settleEnd vdrv s = nextRound (s.work.fe.round.index + 1) vdrv u := by
  refine ⟨_, ?_, if_neg (by simp [hrun, hsettle])⟩
  exact .after (streamUnused_wordsFrame _ _) (.after (b := drainAll s) ⟨rfl⟩ (drainAll_wordsFrame s))

/-- A cycle of normal service without rounds left turns the orientation of the next one (R78). -/
theorem endCycle_turns {first : Nat} (hplan : (roundsOf (th s 0)).length ≤ first) (hloop : inLoop s = false) :
    (endCycle first s).work.cyc.nextSwapped = !s.work.cyc.swapped := by
  have noUses : usesFrom s first = [] := by rw [usesFrom, List.drop_eq_nil_of_le hplan]; rfl
  unfold endCycle
  extract_lets loop unfired held _ _ _ _ cleared stopped
  have same : unfired = s := by simp [unfired, loop, hloop, noUses]
  have stands : ReceptionsStand cleared (if loop then cleared else degradedEvents (ownFinished cleared)) :=
    .ite (.refl _) (.after (degradedEvents_receptionsStand _) (ownFinished_receptionsStand _))
  have cyc : stopped.work.cyc = _ := (leaveMeasure_work _).2.2
  calc stopped.work.cyc.nextSwapped = cleared.work.cyc.nextSwapped := by rw [cyc]; exact stands.nextSwapped
    _ = !s.work.cyc.swapped := by simp [cleared, loop, hloop, same]

end

/-! ### A reception (R156, R186) -/

/-- The slot's use stands where a set is marked as done. -/
theorem setUse_done {k : Nat} (s : Vol) (hk : k < 4) : setUse (setEset k { eset s k with done := true } s) k = setUse s k := by
  unfold setUse
  rw [eset_setEset_self _ _ hk]
  rfl

theorem TrackFrame.fe {s s' : Vol} (h : TrackFrame s s') : s'.work.fe = s.work.fe := by rw [h.only]
theorem TrackFrame.te {s s' : Vol} (h : TrackFrame s s') : s'.work.te = s.work.te := by rw [h.only]
theorem TrackFrame.cyc {s s' : Vol} (h : TrackFrame s s') : s'.work.cyc = s.work.cyc := by rw [h.only]

section
variable {k p : Nat} {s : Vol}

theorem storeRx_up {x : RxEval} (huse : setUse s k = some (.path p)) (hport : x.record.port = upPort p) :
    storeRx k x s = decidePair p (setPathW p { pathW s p with up := some x } s) := by
  simp [storeRx, huse, hport]

/-- The evaluated upstream reception of a path is kept with it (R188). -/
theorem finishRx_keeps_up {x : RxEval} (hk : k < 4) (hloop : inLoop s = false) (huse : setUse s k = some (.path p))
    (hp : p < 33) (hport : x.record.port = upPort p) :
    (pathW (finishRx k x s) p).up ≠ none ∧ (finishRx k x s).work.te = s.work.te := by
  unfold finishRx
  extract_lets _ u
  have counted : TrackFrame (setEset k { eset s k with done := true } s) u :=
    .after (countGain_trackFrame _ _) (streamRx_trackFrame _ _)
  have normal : inLoop u = false := by rw [inLoop, counted.cyc]; exact hloop
  rw [normal, if_neg Bool.false_ne_true]
  have tracked := counted.trans (trackersAfter_trackFrame x u)
  generalize trackersAfter x u = v at tracked
  have use : setUse v k = some (.path p) := by
    rw [← huse, ← setUse_done s hk, setUse, setUse, eset, eset, tracked.fe]
  rw [storeRx_up use hport]
  have stands := (decidePair_receptionsStand p (setPathW p { pathW v p with up := some x } v)).trans (ownFinished_receptionsStand _)
  refine ⟨?_, stands.te.trans tracked.te⟩
  rw [stands.up p, pathW, setPathW, vget_vset_self _ _ hp]
  exact nofun

/-- An upstream reception with its close word is evaluated and kept with its path, and its words leave the lane. -/
theorem receptionClose_keeps_up {t0 : Nat} {env : List (BitVec 10)} {port : Fin 16} {words : List StampWord}
    {close : StampWord} {rest : List StampWord} (hk : k < 4) (hport : (eset s k).port = some port)
    (hsplit : splitClose port.val [] (lane (drainAll s) k).taken = some (words, close, rest)) (hloop : inLoop s = false)
    (huse : setUse s k = some (.path p)) (hp : p < 33) (hup : port = upPort p) (hdone : (eset s k).done = false) :
    (pathW (receptionClose k t0 env s) p).up ≠ none ∧ (lane (receptionClose k t0 env s) k).taken = rest := by
  unfold receptionClose
  rw [hport]
  dsimp only
  rw [hsplit]
  dsimp only
  have taken := streamReception_taken port.val (setLane k { lane (drainAll s) k with taken := rest } (drainAll s))
    (show k < 6 by omega)
  have frame := (drainAll_wordsFrame s).trans ((setLane_wordsFrame k { lane (drainAll s) k with taken := rest } _).trans
    (streamReception_wordsFrame k port.val _))
  rw [lane_setLane_self _ _ (by omega)] at taken
  generalize streamReception k port.val _ = u at taken frame
  have sets : eset u k = eset s k := by rw [eset, frame.fe, eset]
  have use : setUse u k = some (.path p) := by rw [← huse, setUse, setUse, sets, frame.fe]
  have normal : inLoop u = false := by rw [inLoop, frame.cyc]; exact hloop
  have waits : rxDone u k = false := by rw [rxDone, sets, hdone, use]; rfl
  rw [waits, if_neg Bool.false_ne_true]
  have evaluated : (evalReception u (receptionIn u k words t0 env)).record.port = upPort p := by
    rw [evalReception_port, ← hup, receptionIn, sets, hport]
    rfl
  obtain ⟨up, te⟩ := finishRx_keeps_up hk normal use hp evaluated
  refine ⟨up, ?_⟩
  rw [lane, te]
  exact taken

end

/-- Settles O25: a last window by the sets that serve its slot, the settle by the round that follows or the end of the cycle, and a
reception by what its evaluation keeps (`ReceptionsStand`). -/
theorem roundsCloseAndFollowOneAnother : Obligations.RoundsCloseAndFollowOneAnother := by
  unfold Obligations.RoundsCloseAndFollowOneAnother
  intro s
  refine ⟨fun j hrun hsettle hfired hshot hlast hopen => ?_,
    fun vdrv hrun hsettle href habandon => ⟨fun hnext hpll => ?_, fun hpast => ?_⟩,
    fun k t0 env port p words close rest hport hsplit hloop huse hp hup _ hdone => ?_,
    fun f hflow hage => exec_flowStale hflow hage⟩
  · obtain ⟨k, hk, hport, hslot, hclosed⟩ := hopen
    have closes := windowClose_last hrun hsettle hfired hshot hlast ⟨k, mem_serving.mpr ⟨hk, hport, hslot⟩, hclosed⟩
    obtain ⟨-, closed⟩ := closeSets_close j.val (serving j.val s.vol) s.vol
    refine ⟨_, exec_searchWindowClose j s, ?_⟩
    rw [State.up_vol, closes]
    refine ⟨rfl, rfl, State.up_nv s _, fun k hk hport hslot => ?_⟩
    rw [eset, closes, ← eset, eset_settleBegun _ _ hk]
    exact closed k (mem_serving.mpr ⟨hk, hport, hslot⟩) hk hport hslot
  · obtain ⟨u, words, next⟩ := settleEnd_next (vdrv := vdrv) hrun hsettle
    have plan : th u 0 = th s.vol 0 := by rw [th, words.th]; rfl
    have round := nextRound_begun (vdrv := vdrv) (s := u) (by rw [plan]; exact hnext) (by rw [words.cyc]; exact habandon)
      (by rw [words.bak]; exact hpll) (by rw [← href, referenceLoop, loopKind, words.loop, words.cyc]; rfl)
    refine ⟨_, exec_settleEnd vdrv s, ?_⟩
    rw [State.up_vol, next, round.round]
    exact ⟨rfl, rfl, rfl, rfl, State.up_nv s _⟩
  · obtain ⟨u, words, next⟩ := settleEnd_next (vdrv := vdrv) hrun hsettle
    have plan : th u 0 = th s.vol 0 := by rw [th, words.th]; rfl
    refine ⟨_, exec_settleEnd vdrv s, ?_⟩
    rw [State.up_vol, next, nextRound_past_plan (by rw [plan]; exact hpast)]
    obtain ⟨running, round⟩ := endCycle_ends (s.vol.work.fe.round.index + 1) u
    refine ⟨running, round, fun hloop => ?_, State.up_nv s _⟩
    rw [endCycle_turns (by rw [plan]; exact hpast) (by rw [inLoop, words.cyc]; exact hloop), words.cyc]
  · obtain ⟨up, taken⟩ := receptionClose_keeps_up (t0 := t0) (env := env) k.isLt hport hsplit hloop huse hp hup hdone
    exact ⟨_, exec_receptionClose k t0 env s, up, taken, State.up_nv s _⟩

end Sys2Proof.Machine
end

section
/-! PROOF of O26. An edge starts the free cell that has been free longest (R140, R141, R161). -/

namespace Sys2Proof.Machine

/-! ### The choice of the cell (R141) -/

/-- Cell i of a lane has been free longer than cell j, or as long with a number that is not higher. -/
def FreeBefore (l : Lane) (i j : Nat) : Prop :=
  (vget l.cells i).freeSince < (vget l.cells j).freeSince ∨
    ((vget l.cells i).freeSince = (vget l.cells j).freeSince ∧ i ≤ j)

theorem FreeBefore.antisymm {l : Lane} {i j : Nat} (h : FreeBefore l i j) (h' : FreeBefore l j i) : i = j := by
  unfold FreeBefore at h h'
  omega

/-- Cell i is the one of the first n cells of a lane that has been free longest at t. -/
structure LongestFree (t n : Nat) (l : Lane) (i : Nat) : Prop where
  lt : i < n
  free : cellFree t (vget l.cells i) = true
  before : ∀ j < n, cellFree t (vget l.cells j) = true → FreeBefore l i j

theorem LongestFree.unique {t n : Nat} {l : Lane} {i j : Nat} (hi : LongestFree t n l i) (hj : LongestFree t n l j) : i = j :=
  (hi.before j hj.lt hj.free).antisymm (hj.before i hi.lt hi.free)

/-- The better of the cell chosen so far and cell i. -/
def betterCell (t : Nat) (l : Lane) (b : Option Nat) (i : Nat) : Option Nat :=
  if cellFree t (vget l.cells i) then
    match b with
    | some j => if (vget l.cells i).freeSince < (vget l.cells j).freeSince then some i else b
    | none => some i
  else b

/-- The choice among the first n cells; `pickCell` is the one among all four. -/
def pickAmong (t : Nat) (l : Lane) (n : Nat) : Option Nat := (List.range n).foldl (betterCell t l) none

theorem pickCell_eq (t : Nat) (l : Lane) : pickCell t l = pickAmong t l 4 := rfl

theorem pickAmong_succ (t : Nat) (l : Lane) (n : Nat) : pickAmong t l (n + 1) = betterCell t l (pickAmong t l n) n := by
  rw [pickAmong, List.range_succ, List.foldl_append]
  rfl

section
variable {t n : Nat} {l : Lane}

/-- A free cell whose number is higher takes the place of the chosen one only where it has been free longer. -/
theorem LongestFree.step {j : Nat} (h : LongestFree t n l j) (hfree : cellFree t (vget l.cells n) = true) :
    LongestFree t (n + 1) l (if (vget l.cells n).freeSince < (vget l.cells j).freeSince then n else j) := by
  obtain ⟨hlt, hj, before⟩ := h
  split
  · next longer =>
    refine ⟨by omega, hfree, fun m hm hmfree => ?_⟩
    rcases Nat.lt_succ_iff_lt_or_eq.mp hm with hm | rfl
    · have := before m hm hmfree
      unfold FreeBefore at this ⊢
      omega
    · exact .inr ⟨rfl, le_rfl⟩
  · next notLonger =>
    refine ⟨by omega, hj, fun m hm hmfree => ?_⟩
    rcases Nat.lt_succ_iff_lt_or_eq.mp hm with hm | rfl
    · exact before m hm hmfree
    · unfold FreeBefore
      omega

/-- The choice among the first n cells is the one that has been free longest, or none of them is free. -/
theorem pickAmong_cases (t n : Nat) (l : Lane) :
    (∃ i, pickAmong t l n = some i ∧ LongestFree t n l i) ∨
      (pickAmong t l n = none ∧ ∀ i < n, cellFree t (vget l.cells i) = false) := by
  induction n with
  | zero => exact .inr ⟨rfl, fun i hi => absurd hi (Nat.not_lt_zero i)⟩
  | succ n ih =>
    rw [pickAmong_succ]
    cases hfree : cellFree t (vget l.cells n) with
    | false =>
      have same (b : Option Nat) : betterCell t l b n = b := by simp [betterCell, hfree]
      rw [same]
      refine ih.imp (fun ⟨i, pick, hlt, hi, before⟩ => ⟨i, pick, by omega, hi, fun j hj hjfree => before j ?_ hjfree⟩)
        (fun ⟨pick, busy⟩ => ⟨pick, fun j hj => ?_⟩)
      · rcases Nat.lt_succ_iff_lt_or_eq.mp hj with hj | rfl
        · exact hj
        · exact absurd hjfree (by simp [hfree])
      · rcases Nat.lt_succ_iff_lt_or_eq.mp hj with hj | rfl
        · exact busy j hj
        · exact hfree
    | true =>
      refine .inl ?_
      rcases ih with ⟨j, pick, longest⟩ | ⟨pick, busy⟩
      · refine ⟨_, ?_, longest.step hfree⟩
        rw [pick]
        simp only [betterCell, hfree, if_true]
        split <;> rfl
      · refine ⟨n, by simp [pick, betterCell, hfree], by omega, hfree, fun j hj hjfree => ?_⟩
        rcases Nat.lt_succ_iff_lt_or_eq.mp hj with hj | rfl
        · exact absurd hjfree (by simp [busy j hj])
        · exact .inr ⟨rfl, le_rfl⟩

theorem pickCell_of_longestFree {i : Nat} (h : LongestFree t 4 l i) : pickCell t l = some i := by
  rw [pickCell_eq]
  rcases pickAmong_cases t 4 l with ⟨j, pick, longest⟩ | ⟨-, busy⟩
  · rw [pick, longest.unique h]
  · exact absurd h.free (by simp [busy i h.lt])

theorem pickCell_of_no_free (h : ∀ i < 4, cellFree t (vget l.cells i) = false) : pickCell t l = none := by
  rw [pickCell_eq]
  rcases pickAmong_cases t 4 l with ⟨j, -, longest⟩ | ⟨pick, -⟩
  · exact absurd longest.free (by simp [h j longest.lt])
  · exact pick

end

/-! ### The edge (R140, R141, R161) -/

section
variable {k t : Nat} {source : Fin 16} {falling : Bool} {l : Lane} (hk : k < 4)
  (hspaced : ∀ u, l.lastStart = some u → ¬ (t - u) * 1953125 < 40000000 * 65536)
include hk hspaced

/-- An edge of an acoustic lane, 40 ns after the last one that started a cell, goes to the cell that is picked or is lost. -/
theorem presentEdge_spaced : presentEdge k source falling t l =
    (pickCell t l).elim (loseStamp source.val t l) fun i => startCell i source falling t l := by
  rw [presentEdge, outranked, if_pos hk]
  cases hlast : l.lastStart with
  | none => cases pickCell t l <;> rfl
  | some u =>
    have far : tooClose u t = false := decide_eq_false (hspaced u hlast)
    refine (if_neg (ne_true_of_eq_false far)).trans ?_
    cases pickCell t l <;> rfl

theorem presentEdge_of_longestFree {i : Nat} (h : LongestFree t 4 l i) :
    presentEdge k source falling t l = startCell i source falling t l := by
  rw [presentEdge_spaced hk hspaced, pickCell_of_longestFree h, Option.elim_some]

theorem presentEdge_of_no_free (h : ∀ i < 4, cellFree t (vget l.cells i) = false) :
    presentEdge k source falling t l = loseStamp source.val t l := by
  rw [presentEdge_spaced hk hspaced, pickCell_of_no_free h, Option.elim_none]

end

/-- Settles O26: the edge goes to the cell that is picked, and the picked cell is the one that has been free longest. -/
theorem theLongestFreeCellTakesTheEdge : Obligations.TheLongestFreeCellTakesTheEdge := by
  unfold Obligations.TheLongestFreeCellTakesTheEdge
  intro k source falling t l hk hspaced
  refine ⟨fun i hi hfree before => ?_, presentEdge_of_no_free hk hspaced⟩
  rw [presentEdge_of_longestFree hk hspaced ⟨hi, hfree, before⟩]
  rfl

end Sys2Proof.Machine
end

section
/-! SUPPORT. What a calibration run leaves of the cells of the lanes and of CALFAIL (R146 to R150). -/

namespace Sys2Proof.Machine

/-! ### Words and logs -/

/-- The drain takes words of a lane and leaves CALFAIL. -/
theorem drainTurns_calFail (copies : Bool) (n : Nat) (te : Timing) {k : Nat} (hk : k < 6) :
    (vget (drainTurns copies n te).lanes k).calFail = (vget te.lanes k).calFail := by
  induction n generalizing te with
  | zero => rfl
  | succ n ih =>
    unfold drainTurns
    split
    · rfl
    · next j _ =>
      refine (ih _).trans ?_
      by_cases hj : j = k
      · subst hj
        rw [vmod, vget_vset_self _ _ hk]
        rfl
      · rw [vmod, vget_vset_ne _ _ hj]

theorem drainTo_calFail (t : Nat) (s : Vol) {k : Nat} (hk : k < 6) :
    (lane (drainTo t s) k).calFail = (lane s k).calFail := drainTurns_calFail _ _ _ hk

@[simp] theorem pushWord_calFail (k : Nat) (copies : Bool) (w : StampWord) (tentative : Bool) (l : Lane) :
    (pushWord k copies w tentative l).calFail = l.calFail := by
  unfold pushWord
  split <;> rfl

@[simp] theorem lane_logM (c d : Nat) (s : Vol) (j : Nat) : lane (logM c d s) j = lane s j := by
  rw [lane, logM_work_te, lane]

theorem lane_logM_if (p : Prop) [Decidable p] (c d : Nat) (s : Vol) (j : Nat) :
    lane (if p then logM c d s else s) j = lane s j := by
  split
  · exact lane_logM c d s j
  · rfl

@[simp] theorem lane_calibrated (b : Bool) (s : Vol) (j : Nat) : lane { s with work.te.calibrated := b } j = lane s j := rfl

theorem lane_setLane_ne {j k : Nat} (h : k ≠ j) (l : Lane) (s : Vol) : lane (setLane k l s) j = lane s j :=
  vget_vset_ne _ l h

/-! ### One cell (R146, R147, R149, R150) -/

/-- An accepted coefficient: the mean of the start-up calibration, or a quarter of the way to the mean of a later run. -/
def movedCoefficient (startup : Bool) (old : BitVec 16) (m : Nat) : BitVec 16 :=
  if startup then BitVec.ofNat 16 m else ofInt 16 ((old.toNat : Int) + roundUp ((m : Int) - old.toNat) 4)

/-- A cell as a run leaves it. -/
def cellAfterRun (startup : Bool) (mT m2T : Nat) (c : Cell) : Cell :=
  if runRejected c startup mT m2T then
    { c with rejects := c.rejects + 1, out := c.out || startup || decide (16 ≤ c.rejects + 1), calibrating := false }
  else
    { c with
      vT := movedCoefficient startup c.vT mT
      v2T := movedCoefficient startup c.v2T m2T
      rejects := 0
      out := if startup then false else c.out
      calibrating := false }

section
variable {startup : Bool} {mT m2T : Nat} {c : Cell}

theorem cellAfterRun_accepted (h : runRejected c startup mT m2T = false) :
    cellAfterRun startup mT m2T c =
      { c with
        vT := movedCoefficient startup c.vT mT
        v2T := movedCoefficient startup c.v2T m2T
        rejects := 0
        out := if startup then false else c.out
        calibrating := false } := if_neg (ne_true_of_eq_false h)

theorem cellAfterRun_rejected (h : runRejected c startup mT m2T = true) :
    cellAfterRun startup mT m2T c =
      { c with rejects := c.rejects + 1, out := c.out || startup || decide (16 ≤ c.rejects + 1), calibrating := false } :=
  if_pos h

end

section
variable (nv : Nv) {k : Nat} (i : Nat) (startup : Bool) (mT m2T : Nat) (s : Vol)

/-- A run writes its cell in its own lane, and counts in CALFAIL where it is rejected. -/
theorem lane_calCell (hk : k < 6) :
    (lane (calCell nv k i startup mT m2T s) k).cells =
        vset (lane s k).cells i (cellAfterRun startup mT m2T (vget (lane s k).cells i)) ∧
      (lane (calCell nv k i startup mT m2T s) k).calFail =
        if runRejected (vget (lane s k).cells i) startup mT m2T then satInc (lane s k).calFail else (lane s k).calFail := by
  unfold calCell
  dsimp only
  cases hrun : runRejected (vget (lane s k).cells i) startup mT m2T with
  | true =>
    rw [if_pos rfl, if_pos rfl, lane_logM_if, lane_setLane_self _ _ hk, cellAfterRun_rejected hrun, pushWord_cells,
      pushWord_calFail]
    exact ⟨rfl, rfl⟩
  | false =>
    rw [if_neg Bool.false_ne_true, if_neg Bool.false_ne_true, lane_logM_if, lane_setLane_self _ _ hk,
      cellAfterRun_accepted hrun]
    dsimp only
    rw [pushWord_cells, pushWord_calFail]
    exact ⟨rfl, rfl⟩

theorem lane_calCell_ne {j : Nat} (h : k ≠ j) : lane (calCell nv k i startup mT m2T s) j = lane s j := by
  unfold calCell
  dsimp only
  split <;> rw [lane_logM_if, lane_setLane_ne h]

/-! ### The lane (R150) -/

/-- The state of a lane follows its cells and leaves them, as it leaves CALFAIL. -/
theorem lane_laneCheck (j : Nat) (hk : k < 6) :
    (lane (laneCheck k s) j).cells = (lane s j).cells ∧ (lane (laneCheck k s) j).calFail = (lane s j).calFail := by
  rw [laneCheck, lane_logM_if]
  by_cases hj : k = j
  · subst hj
    rw [lane_setLane_self _ _ hk]
    exact ⟨rfl, rfl⟩
  · rw [lane_setLane_ne hj]
    exact ⟨rfl, rfl⟩

/-- A run with what it makes of its lane. -/
theorem lane_calRun (hk : k < 6) :
    (lane (calRun nv k i mT m2T s) k).cells =
        vset (lane s k).cells i (cellAfterRun false mT m2T (vget (lane s k).cells i)) ∧
      (lane (calRun nv k i mT m2T s) k).calFail =
        if runRejected (vget (lane s k).cells i) false mT m2T then satInc (lane s k).calFail else (lane s k).calFail := by
  obtain ⟨cells, calFail⟩ := lane_laneCheck (calCell nv k i false mT m2T s) k hk
  rw [calRun, cells, calFail]
  exact lane_calCell nv i false mT m2T s hk

end

end Sys2Proof.Machine
end

section
/-! PROOF of O28. Calibration runs move the coefficients (R146 to R150). -/

namespace Sys2Proof.Machine

theorem exec_calRunDone (k : Fin 6) (i : Fin 4) (t : Nat) (m : CalCodes) (s : State) :
    exec (.calRunDone k i t m) s = .next (s.up (calRunDone s.nv k.val i.val t m.ofT m.of2T s.vol)) := rfl

theorem exec_startupCalibration (m : Vector (Vector CalCodes 4) 6) (s : State) :
    exec (.startupCalibration m) s = .next (s.up (startupCal s.nv m s.vol)) := rfl

theorem exec_auxCellRecal (k : Fin 6) (i : Fin 4) (t : Nat) (s : State) :
    exec (.auxCellRecal k i t) s = .next (s.up (auxRecal k.val i.val t s.vol)) := rfl

/-! ### A settle run (R147, R149) -/

section
variable (nv : Nv) {k i t : Nat} {mT m2T : List (BitVec 12)} {s : Vol}

/-- The state in which the words of a run that ends at t come into the queue: the drain has gone on up to it (R159). -/
def atRunEnd (t : Nat) (s : Vol) : Vol := drainTo t (clockTo t s)

/-- A run of eight measurements moves its cell by their means, and the cell is free from its end on. -/
theorem calRunDone_of_eight (hpower : s.work.te.powered = true) (hT : mT.length = 8) (h2T : m2T.length = 8)
    (hout : (vget (lane s k).cells i).out = false) (hcal : (vget (lane s k).cells i).calibrating = true)
    (hloop : referenceLoop s = false ∨ 4 ≤ k) :
    calRunDone nv k i t mT m2T s =
      let u := calRun nv k i (meanCode mT) (meanCode m2T) (atRunEnd t s)
      setLane k { lane u k with cells := vmod (lane u k).cells i fun c => { c with freeSince := t * 65536 } } u := by
  have normal : (referenceLoop s && decide (k < 4)) = false := by
    rcases hloop with h | h
    · rw [h, Bool.false_and]
    · rw [decide_eq_false (Nat.not_lt.mpr h), Bool.and_false]
  simp [calRunDone, atRunEnd, hpower, hT, h2T, hout, hcal, normal]

/-- The cell and CALFAIL as a settle run leaves them. -/
theorem lane_calRunDone_of_eight (hk : k < 6) (hi : i < 4) (hpower : s.work.te.powered = true) (hT : mT.length = 8)
    (h2T : m2T.length = 8) (hout : (vget (lane s k).cells i).out = false)
    (hcal : (vget (lane s k).cells i).calibrating = true) (hloop : referenceLoop s = false ∨ 4 ≤ k) :
    vget (lane (calRunDone nv k i t mT m2T s) k).cells i =
        { cellAfterRun false (meanCode mT) (meanCode m2T) (vget (lane s k).cells i) with freeSince := t * 65536 } ∧
      (lane (calRunDone nv k i t mT m2T s) k).calFail =
        if runRejected (vget (lane s k).cells i) false (meanCode mT) (meanCode m2T) then satInc (lane s k).calFail
        else (lane s k).calFail := by
  have before : (lane (atRunEnd t s) k).cells = (lane s k).cells := (drainTo_clockTo_drained t s hk).cells
  have fails : (lane (atRunEnd t s) k).calFail = (lane s k).calFail := drainTo_calFail t (clockTo t s) hk
  obtain ⟨cells, calFail⟩ := lane_calRun nv i (meanCode mT) (meanCode m2T) (atRunEnd t s) hk
  rw [before] at cells calFail
  rw [fails] at calFail
  rw [calRunDone_of_eight nv hpower hT h2T hout hcal hloop]
  dsimp only
  rw [lane_setLane_self _ _ hk]
  refine ⟨?_, calFail⟩
  dsimp only
  rw [cells, vmod, vget_vset_self _ _ hi, vget_vset_self _ _ hi]

end

/-! ### The start-up calibration (R146, R150) -/

/-- Cell n of the 24, counted over the lanes. -/
def cellAt (n : Nat) (s : Vol) : Cell := vget (lane s (n / 4)).cells (n % 4)

/-- The start-up run of cell n of the 24. -/
def startupRun (nv : Nv) (m : Vector (Vector CalCodes 4) 6) (s : Vol) (n : Nat) : Vol :=
  calCell nv (n / 4) (n % 4) true (meanCode (vget (vget m (n / 4)) (n % 4)).ofT)
    (meanCode (vget (vget m (n / 4)) (n % 4)).of2T) s

/-- The check of lane k that follows the start-up runs, with its span. -/
def startupCheck (s : Vol) (k : Nat) : Vol :=
  laneCheck k (setLane k
    { lane s k with span := if (lane s k).cells.toList.all (·.out) then (lane s k).span else spanOf (lane s k) } s)

/-- The 24 runs, and then the checks of the lanes. -/
def startupRuns (nv : Nv) (m : Vector (Vector CalCodes 4) 6) (s : Vol) : Vol :=
  (List.range 6).foldl startupCheck ((List.range 24).foldl (startupRun nv m) s)

section
variable (nv : Nv) (m : Vector (Vector CalCodes 4) 6)

theorem cellAt_startupRun_self {n : Nat} (hn : n < 24) (s : Vol) :
    cellAt n (startupRun nv m s n) =
      cellAfterRun true (meanCode (vget (vget m (n / 4)) (n % 4)).ofT)
        (meanCode (vget (vget m (n / 4)) (n % 4)).of2T) (cellAt n s) := by
  rw [cellAt, startupRun, (lane_calCell nv _ _ _ _ s (by omega)).1, vget_vset_self _ _ (by omega), cellAt]

theorem cellAt_startupRun_ne {a n : Nat} (hn : n < 24) (h : a ≠ n) (s : Vol) :
    cellAt n (startupRun nv m s a) = cellAt n s := by
  by_cases hlane : a / 4 = n / 4
  · rw [cellAt, startupRun, ← hlane, (lane_calCell nv _ _ _ _ s (by omega)).1, vget_vset_ne _ _ (by omega), cellAt, hlane]
  · rw [cellAt, startupRun, lane_calCell_ne _ _ _ _ _ _ hlane, cellAt]

theorem cellAt_startupRuns_of_notMem {l : List Nat} {n : Nat} (hn : n < 24) (h : n ∉ l) (s : Vol) :
    cellAt n (l.foldl (startupRun nv m) s) = cellAt n s := by
  induction l generalizing s with
  | nil => rfl
  | cons a l ih =>
    rw [List.mem_cons, not_or] at h
    exact (ih h.2 _).trans (cellAt_startupRun_ne nv m hn (Ne.symm h.1) s)

/-- A cell that stands once in the list has had one run. -/
theorem cellAt_startupRuns_of_mem {l : List Nat} {n : Nat} (hl : l.Nodup) (hmem : n ∈ l) (hn : n < 24) (s : Vol) :
    cellAt n (l.foldl (startupRun nv m) s) =
      cellAfterRun true (meanCode (vget (vget m (n / 4)) (n % 4)).ofT)
        (meanCode (vget (vget m (n / 4)) (n % 4)).of2T) (cellAt n s) := by
  induction l generalizing s with
  | nil => exact absurd hmem List.not_mem_nil
  | cons a l ih =>
    obtain ⟨ha, hl⟩ := List.nodup_cons.mp hl
    rw [List.foldl_cons]
    by_cases h : a = n
    · subst h
      rw [cellAt_startupRuns_of_notMem nv m hn ha, cellAt_startupRun_self nv m hn]
    · rw [ih hl ((List.mem_cons.mp hmem).resolve_left (Ne.symm h)), cellAt_startupRun_ne nv m hn h]

theorem startupCheck_cells (s : Vol) {k : Nat} (hk : k < 6) (j : Nat) :
    (lane (startupCheck s k) j).cells = (lane s j).cells := by
  rw [startupCheck, (lane_laneCheck _ j hk).1]
  by_cases h : k = j
  · subst h
    rw [lane_setLane_self _ _ hk]
  · rw [lane_setLane_ne h]

theorem startupChecks_cells (l : List Nat) (hl : ∀ k ∈ l, k < 6) (s : Vol) (j : Nat) :
    (lane (l.foldl startupCheck s) j).cells = (lane s j).cells := by
  induction l generalizing s with
  | nil => rfl
  | cons k l ih =>
    obtain ⟨hk, hl⟩ := List.forall_mem_cons.mp hl
    exact (ih hl _).trans (startupCheck_cells s hk j)

variable {m} in
/-- With sixteen measurements of each reference for every cell, the 24 runs come first and the lanes after them. -/
theorem startupCal_of_sixteen {s : Vol} (hpower : s.work.te.powered = true) (hcal : s.work.te.calibrated = false)
    (hm : ∀ k i : Nat, k < 6 → i < 4 → (vget (vget m k) i).ofT.length = 16 ∧ (vget (vget m k) i).of2T.length = 16) :
    startupCal nv m s = { startupRuns nv m s with work.te.calibrated := true } := by
  have whole : (m.toList.all fun l => l.toList.all fun x => x.ofT.length == 16 && x.of2T.length == 16) = true := by
    refine List.all_eq_true.mpr fun l hl => List.all_eq_true.mpr fun x hx => ?_
    obtain ⟨k, hk, rfl⟩ := exists_vget_of_mem hl
    obtain ⟨i, hi, rfl⟩ := exists_vget_of_mem hx
    obtain ⟨ofT, of2T⟩ := hm k i hk hi
    rw [ofT, of2T]
    rfl
  delta startupCal startupRuns startupRun startupCheck
  dsimp only
  rw [whole, hpower, hcal, if_neg (by decide)]

end

/-- Each of the 24 cells as its start-up run leaves it. -/
theorem cell_startupCal (nv : Nv) {m : Vector (Vector CalCodes 4) 6} {s : Vol} {k i : Nat} (hk : k < 6) (hi : i < 4)
    (hpower : s.work.te.powered = true) (hcal : s.work.te.calibrated = false)
    (hm : ∀ k i : Nat, k < 6 → i < 4 → (vget (vget m k) i).ofT.length = 16 ∧ (vget (vget m k) i).of2T.length = 16) :
    vget (lane (startupCal nv m s) k).cells i =
      cellAfterRun true (meanCode (vget (vget m k) i).ofT) (meanCode (vget (vget m k) i).of2T)
        (vget (lane s k).cells i) := by
  have mem : 4 * k + i ∈ List.range 24 := List.mem_range.mpr (by omega)
  have run := cellAt_startupRuns_of_mem nv m List.nodup_range mem (by omega) s
  have number : (4 * k + i) / 4 = k ∧ (4 * k + i) % 4 = i := by omega
  rw [cellAt, cellAt, number.1, number.2] at run
  rw [startupCal_of_sixteen nv hpower hcal hm, lane_calibrated, startupRuns,
    startupChecks_cells (List.range 6) (fun j hj => List.mem_range.mp hj), run]

/-! ### The rotation of an AUX lane (R148) -/

/-- Every 2^25 T of an open slot the cell whose turn it is begins a run. -/
theorem auxRecal_due {k i t : Nat} {s : Vol} (hk : 4 ≤ k) (hturn : i = (lane s k).recals % 4)
    (hopen : s.work.aux.isOpen = true) (hclosing : s.work.aux.closing = none)
    (hdue : (lane s k).epoch + ((lane s k).recals + 1) * 2 ^ 25 ≤ t) (hout : (vget (lane s k).cells i).out = false) :
    auxRecal k i t s =
      setLane k { lane s k with
        recals := (lane s k).recals + 1
        cells := vset (lane s k).cells i { vget (lane s k).cells i with calibrating := true } } (clockTo t s) := by
  have aux : ¬ k < 4 := by omega
  have due : ¬ t < (lane s k).epoch + ((lane s k).recals + 1) * 2 ^ 25 := by omega
  simp [auxRecal, aux, ← hturn, hopen, hclosing, due, vmod, hout, -Nat.reducePow]

/-- Settles O28: a settle run and the start-up calibration by what a run leaves of its cell (`cellAfterRun`), and the rotation of an
AUX lane by the lane that it leaves. -/
theorem calibrationRunsMoveTheCoefficients : Obligations.CalibrationRunsMoveTheCoefficients := by
  unfold Obligations.CalibrationRunsMoveTheCoefficients
  intro s
  refine ⟨fun k i t mT m2T hpower hT h2T hout hcal hloop => ?_, fun m hpower hcal hm => ?_,
    fun k i t hk hturn hopen hclosing hdue hout => ?_⟩
  · obtain ⟨cell, calFail⟩ := lane_calRunDone_of_eight s.nv (t := t) k.isLt i.isLt hpower hT h2T hout hcal hloop
    refine ⟨fun accepted => ⟨_, exec_calRunDone k i t ⟨mT, m2T⟩ s, rfl, ?_⟩,
      fun rejected => ⟨_, exec_calRunDone k i t ⟨mT, m2T⟩ s, rfl, ?_⟩⟩
    · rw [cellAfterRun_accepted accepted] at cell
      rw [accepted] at calFail
      rw [State.up_vol, cell, calFail]
      exact ⟨rfl, rfl, rfl, rfl, rfl, rfl⟩
    · rw [cellAfterRun_rejected rejected] at cell
      rw [rejected] at calFail
      rw [State.up_vol, cell, calFail]
      exact ⟨rfl, rfl, rfl, rfl, rfl⟩
  · refine ⟨_, exec_startupCalibration m s, rfl, ?_, fun k i hk hi => ?_⟩
    · rw [State.up_vol, startupCal_of_sixteen s.nv hpower hcal hm]
    · intro mT m2T accepted
      rw [State.up_vol, cell_startupCal s.nv hk hi hpower hcal hm, cellAfterRun_accepted accepted]
      exact ⟨rfl, rfl, rfl⟩
  · rw [exec_auxCellRecal, auxRecal_due hk hturn hopen hclosing hdue hout]
    rfl

end Sys2Proof.Machine
end

section
/-! SUPPORT. What the saturation of a signed number answers (R8), and what the result of a cycle leaves of the flow rate record
(R130, R225, R227). -/

namespace Sys2Proof.Machine

/-! ### Saturation at the limits of an s-type (R8) -/

section
variable {w : Nat} {x : Int}

theorem fitsSigned_iff : fitsSigned w x = true ↔ -(2 ^ (w - 1)) ≤ x ∧ x < 2 ^ (w - 1) := by
  simp [fitsSigned]

theorem satSigned_of_fits (h : fitsSigned w x = true) : satSigned w x = x := by
  obtain ⟨low, high⟩ := fitsSigned_iff.mp h
  rw [satSigned, clampInt, if_neg (by omega), if_neg (by omega)]

theorem satSigned_of_above (h : 2 ^ (w - 1) ≤ x) : satSigned w x = 2 ^ (w - 1) - 1 := by
  have : (0 : Int) < 2 ^ (w - 1) := by positivity
  rw [satSigned, clampInt, if_neg (by omega), if_pos (by omega)]

theorem satSigned_of_below (h : x < -(2 ^ (w - 1))) : satSigned w x = -(2 ^ (w - 1)) := by
  rw [satSigned, clampInt, if_pos h]

theorem fitsSigned_of_above (h : 2 ^ (w - 1) ≤ x) : fitsSigned w x = false :=
  Bool.eq_false_iff.mpr fun fits => (fitsSigned_iff.mp fits).2.not_ge h

theorem fitsSigned_of_below (h : x < -(2 ^ (w - 1))) : fitsSigned w x = false :=
  Bool.eq_false_iff.mpr fun fits => (fitsSigned_iff.mp fits).1.not_gt h

end

/-! ### The steps after the flow is formed -/

theorem setNextRate_work_flow (r : Nat) (s : Vol) : (setNextRate r s).work.flow = s.work.flow := by
  unfold setNextRate
  split <;> rfl

theorem setNextRate_ret (r : Nat) (s : Vol) : (setNextRate r s).ret = s.ret := by
  unfold setNextRate
  split <;> rfl

theorem adaptRate_work_flow (v : Option Int) (s : Vol) : (adaptRate v s).work.flow = s.work.flow := by
  unfold adaptRate
  dsimp only
  split_ifs
  · rfl
  · exact setNextRate_work_flow _ _
  · exact setNextRate_work_flow _ _
  · exact setNextRate_work_flow _ _
  · rfl

theorem adaptRate_ret (v : Option Int) (s : Vol) : (adaptRate v s).ret = s.ret := by
  unfold adaptRate
  dsimp only
  split_ifs
  · rfl
  · exact setNextRate_ret _ _
  · exact setNextRate_ret _ _
  · exact setNextRate_ret _ _
  · rfl

theorem logSat_work_flow (data : Nat) (s : Vol) : (logSat data s).work.flow = s.work.flow := (limM_frame _ _ _ _).work_flow

/-- A saturation that is logged is marked in the cycle (R234). -/
theorem satNow_logSat (data : Nat) (s : Vol) : (logSat data { s with work.flow.satNow := true }).work.flow.satNow = true := by
  rw [logSat_work_flow]

/-- A saturation that the cycle has seen is not lost while the result words of its paths are formed (R234). -/
theorem pathResults_satNow (js : List Nat) (vel : Nat → Int × Bool) (flowSat : Bool) {s : Vol}
    (h : s.work.flow.satNow = true) : (pathResults js vel flowSat s).work.flow.satNow = true := by
  unfold pathResults
  induction js generalizing s with
  | nil => exact h
  | cons j js ih =>
    rw [List.foldl_cons]
    refine ih ?_
    dsimp only
    split
    · exact satNow_logSat _ _
    · exact h

end Sys2Proof.Machine
end

section
/-! PROOF of O57. The flow follows the mean velocity (R213 to R215). -/

namespace Sys2Proof.Machine

/-! ### The flow of a cycle -/

/-- The mean velocity (R213). -/
def meanVelocity (js : List Nat) (s : Vol) : Int :=
  roundAway (sumInt (js.map fun j => lget s.work.obj.calib.w (j - 1) * (pathVelocity s (goodMean s js) j).1)) (2 ^ 30)

/-- The flow of a mean velocity before it is cut off or saturates (R214, R215). -/
def flowOf (s : Vol) (vbar : Int) : Int :=
  roundAway (s.work.obj.calib.area * profileFactor s.work.obj.prof vbar * vbar) (2 ^ 30 * 10 ^ 9)

/-- CUTOFF of a cycle (R215). -/
def belowCutoff (js : List Nat) (s : Vol) : Bool := decide ((meanVelocity js s).natAbs < s.work.obj.calib.cutoff)

/-- The flow of a cycle before it saturates (R215). -/
def cycleFlow (js : List Nat) (s : Vol) : Int :=
  if belowCutoff js s then 0 else flowOf s (meanVelocity js s)

section
variable (js : List Nat) {s : Vol} (filled : s.ret.flow.empty = false)
include filled

/-- The cycle takes its flow saturated, in a state that has seen the saturation, and its rate moves afterwards. -/
theorem flowResult_of_filled :
    ∃ subst valid t, (fitsSigned 48 (cycleFlow js s) = false → t.work.flow.satNow = true) ∧
      flowResult js s =
        adaptRate (some (meanVelocity js s))
          (takeFlow (satSigned 48 (cycleFlow js s)) (belowCutoff js s) subst valid t) := by
  unfold flowResult
  rw [if_neg (by simp [filled])]
  refine ⟨_, _, _, fun beyond => pathResults_satNow _ _ _ ?_, rfl⟩
  have marked : (!fitsSigned 48 (cycleFlow js s)) = true := by rw [beyond]; rfl
  exact (congrArg (fun v : Vol => v.work.flow.satNow) (if_pos marked)).trans (satNow_logSat _ _)

theorem flowResult_inForce :
    (flowResult js s).ret.flow.inForce.map (·.q) = some (satSigned 48 (cycleFlow js s)) := by
  obtain ⟨subst, valid, t, -, taken⟩ := flowResult_of_filled js filled
  rw [taken, adaptRate_ret]
  rfl

theorem flowResult_flow : (flowResult js s).work.flow.flow = ofInt 48 (satSigned 48 (cycleFlow js s)) := by
  obtain ⟨subst, valid, t, -, taken⟩ := flowResult_of_filled js filled
  rw [taken, adaptRate_work_flow]
  rfl

theorem flowResult_cutoff : (flowResult js s).work.flow.cutoff = belowCutoff js s := by
  obtain ⟨subst, valid, t, -, taken⟩ := flowResult_of_filled js filled
  rw [taken, adaptRate_work_flow]
  rfl

theorem flowResult_sat (beyond : fitsSigned 48 (cycleFlow js s) = false) : (flowResult js s).work.flow.sat = true := by
  obtain ⟨subst, valid, t, seen, taken⟩ := flowResult_of_filled js filled
  rw [taken, adaptRate_work_flow]
  exact seen beyond

end

/-- Settles O57: the cycle takes its flow saturated (`flowResult_of_filled`); the flow is 0 below CUTOFF, and from there on stands
within the limits of s48, above them or below them. -/
theorem theFlowFollowsTheMeanVelocity : Obligations.TheFlowFollowsTheMeanVelocity := by
  unfold Obligations.TheFlowFollowsTheMeanVelocity
  intro js s filled
  have inForce := flowResult_inForce js filled
  have flow := flowResult_flow js filled
  have cutoff := flowResult_cutoff js filled
  refine ⟨fun below => ?_, fun above => ?_⟩
  · have cut : belowCutoff js s = true := decide_eq_true below
    have zero : cycleFlow js s = 0 := if_pos cut
    rw [zero] at inForce flow
    exact ⟨inForce, flow, cutoff.trans cut⟩
  · have uncut : belowCutoff js s = false := decide_eq_false above.not_gt
    have formed : cycleFlow js s = flowOf s (meanVelocity js s) := if_neg (Bool.eq_false_iff.mp uncut)
    rw [formed] at inForce flow
    have sat := flowResult_sat js filled
    rw [formed] at sat
    refine ⟨cutoff.trans uncut, fun low high => ?_, fun beyond => ?_, fun beyond => ?_⟩
    · have high := Int.lt_of_le_sub_one high
      rw [satSigned_of_fits (fitsSigned_iff.mpr ⟨low, high⟩)] at inForce flow
      exact ⟨inForce, (congrArg BitVec.toInt flow).trans (BitVec.toInt_ofInt_eq_self (by decide) low high)⟩
    · rw [satSigned_of_above beyond] at inForce
      exact ⟨inForce, sat (fitsSigned_of_above beyond)⟩
    · rw [satSigned_of_below beyond] at inForce
      exact ⟨inForce, sat (fitsSigned_of_below beyond)⟩

end Sys2Proof.Machine
end

section
/-! SUPPORT. The results of the frequency and interval inputs (R265 to R271): what the result of one input leaves, and what a slot
makes of an input that gives no result. -/

namespace Sys2Proof.Machine

/-! ### Folds -/

/-- What a step for `a` makes of a state with I stands after a fold over `a`, where I stands and every step keeps it. -/
theorem foldl_of_mem {α σ : Type} {f : σ → α → σ} {I P : σ → Prop} {a : α} {l : List α} (ha : a ∈ l)
    (stands : ∀ s b, I s → I (f s b)) (makes : ∀ s, I s → P (f s a)) (keeps : ∀ s b, I s → P s → P (f s b)) {s : σ} (hs : I s) :
    P (l.foldl f s) := by
  have kept : ∀ (l : List α) (s : σ), I s → P s → P (l.foldl f s) := by
    intro l
    induction l with
    | nil => exact fun _ _ hP => hP
    | cons b l ih => exact fun s hI hP => ih _ (stands s b hI) (keeps s b hI hP)
  induction l generalizing s with
  | nil => cases ha
  | cons b l ih =>
    rcases List.mem_cons.mp ha with rfl | rest
    · exact kept l _ (stands s a hs) (makes s hs)
    · exact ih rest (stands s b hs)

/-! ### Frames -/

/-- s' differs from s in the results of the inputs, in the logs and in the STORE's working state at most. -/
structure FinsFrame (s s' : Vol) : Prop where
  only : s' = { s with
    work.aux.fins := s'.work.aux.fins
    work.store := s'.work.store
    ret.logs := s'.ret.logs
    ret.store := s'.ret.store }

/-- A step for input n: the results of the other inputs stand. -/
structure FinFrame (n : Nat) (s s' : Vol) : Prop where
  frame : FinsFrame s s'
  others : ∀ m, m ≠ n → fin s' m = fin s m

theorem FinsFrame.refl (s : Vol) : FinsFrame s s := ⟨rfl⟩

theorem FinsFrame.trans {a b c : Vol} (h : FinsFrame a b) (k : FinsFrame b c) : FinsFrame a c := ⟨by rw [k.only, h.only]⟩

theorem FinsFrame.bak {s s' : Vol} (h : FinsFrame s s') : s'.bak = s.bak := by rw [h.only]
theorem FinsFrame.te {s s' : Vol} (h : FinsFrame s s') : s'.work.te = s.work.te := by rw [h.only]

theorem FinsFrame.aux {s s' : Vol} (h : FinsFrame s s') :
    s'.work.aux = { s.work.aux with fins := s'.work.aux.fins } := by rw [h.only]

theorem finsFrame_foldl {α : Type} {f : Vol → α → Vol} (h : ∀ s a, FinsFrame s (f s a)) (l : List α) (s : Vol) :
    FinsFrame s (l.foldl f s) := by
  induction l generalizing s with
  | nil => exact .refl s
  | cons a l ih => exact (h s a).trans (ih _)

theorem FinFrame.refl (n : Nat) (s : Vol) : FinFrame n s s := ⟨.refl s, fun _ _ => rfl⟩

theorem FinFrame.trans {n : Nat} {a b c : Vol} (h : FinFrame n a b) (k : FinFrame n b c) : FinFrame n a c :=
  ⟨h.frame.trans k.frame, fun m hm => (k.others m hm).trans (h.others m hm)⟩

theorem LogFrame.fin {s s' : Vol} (h : LogFrame s s') (n : Nat) : fin s' n = fin s n := by rw [Machine.fin, h.work_aux]; rfl

theorem LogFrame.finFrame {s s' : Vol} (h : LogFrame s s') (n : Nat) : FinFrame n s s' :=
  ⟨⟨by rw [h.only]⟩, fun m _ => h.fin m⟩

/-! ### The result of one input -/

theorem fin_setFin_self {n : Nat} (f : FinWork) (s : Vol) (hn : n < 6) : fin (setFin n f s) n = f := vget_vset_self _ f hn

theorem setFin_frame (n : Nat) (f : FinWork) (s : Vol) : FinFrame n s (setFin n f s) :=
  ⟨⟨rfl⟩, fun _ hm => vget_vset_ne _ f hm.symm⟩

/-- The status of an input and FIN_NOSIGNAL change, and the change is logged (R267, R281). -/
theorem finStatus_cases (n status : Nat) (s : Vol) :
    ∃ noSignal, LogFrame (setFin n { fin s n with status := BitVec.ofNat 3 status, noSignal } s) (finStatus n status s) := by
  unfold finStatus
  dsimp only
  split_ifs
  · exact ⟨_, logG_frame _ _ _⟩
  · exact ⟨_, logG_frame _ _ _⟩
  · exact ⟨_, .refl _⟩

theorem finStatus_frame (n status : Nat) (s : Vol) : FinFrame n s (finStatus n status s) := by
  obtain ⟨_, logged⟩ := finStatus_cases n status s
  exact (setFin_frame n _ s).trans (logged.finFrame n)

theorem finHeld_frame (n status : Nat) (s : Vol) : FinFrame n s (finHeld n status s) :=
  (finStatus_frame n status s).trans (setFin_frame n _ _)

/-- An input without a result takes its status, and its earlier values stand (R267, R271). -/
theorem fin_finHeld {n : Nat} (status : Nat) (s : Vol) (hn : n < 6) :
    (fin (finHeld n status s) n).held = true ∧ (fin (finHeld n status s) n).status = BitVec.ofNat 3 status ∧
      (fin (finHeld n status s) n).freq = (fin s n).freq := by
  obtain ⟨_, logged⟩ := finStatus_cases n status s
  rw [finHeld, fin_setFin_self _ _ hn, logged.fin, fin_setFin_self _ _ hn]
  exact ⟨rfl, rfl, rfl⟩

theorem freqResult_frame (n : Nat) (lost : Bool) (stamps : List (Bool × Nat)) (s : Vol) :
    FinFrame n s (freqResult n lost stamps s) := by
  unfold freqResult
  extract_lets _ _ _ _ _ _ _ _ _ named _ taken
  have result : FinFrame n s taken := (finStatus_frame n 0 s).trans (setFin_frame n _ named)
  split
  · exact result.trans ((limG_frame _ _ _ _).finFrame n)
  · exact result

theorem freqInput_frame (n : Nat) (unlock : Bool) (words : List StampWord) (s : Vol) :
    FinFrame n s (freqInput n unlock words s) := by
  unfold freqInput
  dsimp only
  split_ifs
  · exact finHeld_frame _ _ _
  · exact finHeld_frame _ _ _
  · exact finHeld_frame _ _ _
  · exact freqResult_frame _ _ _ _

/-- Without eight stamps an input in service gives no result (R267). -/
theorem freqInput_few {n : Nat} {words : List StampWord} {s : Vol} (hout : finLaneOut s n = false)
    (hfew : (finStamps n words).length < 8) : freqInput n false words s = finHeld n 1 s := by
  simp [freqInput, hout, hfew]

end Sys2Proof.Machine
end

section
/-! SUPPORT. The words of an AUX lane as its slot closes (R153, R156, R159): the drain and the close words keep the stamps. -/

namespace Sys2Proof.Machine

/-! ### Words that CORE has taken or will take -/

/-- What holds of a lane and stands where CORE takes a word of it holds after any turns of the drain (R159). -/
theorem drainTurns_induct {P : Lane → Prop} {copies : Bool} (h : ∀ l, P l → P (takeWord copies l)) (n : Nat) {te : Timing}
    {k : Nat} (hk : k < 6) (hP : P (vget te.lanes k)) : P (vget (drainTurns copies n te).lanes k) := by
  induction n generalizing te with
  | zero => exact hP
  | succ n ih =>
    unfold drainTurns
    split
    · exact hP
    · next j _ =>
      refine ih ?_
      by_cases hj : j = k
      · subst hj
        rw [vmod, vget_vset_self _ _ hk]
        exact h _ hP
      · rwa [vmod, vget_vset_ne _ _ hj]

/-- The words that CORE has taken of the lane and those that wait in it, and whether it is out of service. -/
structure Holds (words : List StampWord) (out : Bool) (l : Lane) : Prop where
  words : l.taken ++ l.queue = words
  out : l.out = out

theorem takeWord_holds {words : List StampWord} {out : Bool} (copies : Bool) (l : Lane) (h : Holds words out l) :
    Holds words out (takeWord copies l) :=
  ⟨by rw [← h.words, takeWord, List.append_assoc, List.take_append_drop], h.out⟩

theorem drainAll_holds {words : List StampWord} {out : Bool} {s : Vol} {k : Nat} (hk : k < 6)
    (h : Holds words out (lane s k)) : Holds words out (lane (drainAll s) k) :=
  drainTurns_induct (takeWord_holds _) _ hk h

theorem pushWord_holds {words : List StampWord} {out : Bool} (k : Nat) (copies : Bool) (w : StampWord) (tentative : Bool) {l : Lane}
    (h : Holds words out l) : Holds (words ++ [w]) out (pushWord k copies w tentative l) := by
  have room : Holds words out (if laneDepth k ≤ l.queue.length then takeWord copies l else l) := by
    split
    · exact takeWord_holds copies l h
    · exact h
  exact ⟨by rw [← room.words, List.append_assoc]; rfl, room.out⟩

/-! ### Close words (R156) -/

theorem isClose_stampWord (source gap ovr coarse fine : Nat) : isClose (stampWord source gap 1 1 ovr coarse fine) = true := by
  simp only [isClose, wordCal, wordEdge, stampWord, pack, List.foldl, BitVec.getLsbD_ofNat, Nat.testBit_eq_decide_div_mod_eq,
    Bool.and_eq_true, decide_eq_true_eq]
  omega

/-- The close words of a slot come after the words of their lane. -/
theorem closeWords_holds {words : List StampWord} {out : Bool} (k : Nat) (copies unlock : Bool) (coarse : Nat) (ns : List Nat)
    {l : Lane} (h : Holds words out l) :
    ∃ closes : List StampWord, (∀ w ∈ closes, isClose w = true) ∧ Holds (words ++ closes) out (closeWords k copies unlock coarse ns l) := by
  unfold closeWords
  generalize ns.filter _ = own
  induction own generalizing l words with
  | nil => exact ⟨[], nofun, by simpa using h⟩
  | cons n own ih =>
    rw [List.foldl_cons]
    extract_lets x ovr w
    have closes : isClose w = true := by
      unfold w
      split <;> exact isClose_stampWord _ _ _ _ _
    obtain ⟨rest, hrest, holds⟩ := ih (pushWord_holds k copies w false h)
    refine ⟨w :: rest, List.forall_mem_cons.mpr ⟨closes, hrest⟩, ?_⟩
    rwa [List.append_assoc] at holds

/-! ### Stamps (R153) -/

/-- The stamps of the first words come first. -/
theorem stampTimes_prefix (a b : List StampWord) (w0 : Nat) : stampTimes w0 a <+: stampTimes w0 (a ++ b) := by
  induction a generalizing w0 with
  | nil => exact List.nil_prefix
  | cons w a ih =>
    rw [List.cons_append, stampTimes, stampTimes]
    split_ifs
    · exact ih _
    · exact (List.prefix_cons_inj _).mpr (ih _)
    · exact ih _

/-- Close words are no stamps. -/
theorem stampTimes_closes {closes : List StampWord} (h : ∀ w ∈ closes, isClose w = true) (a : List StampWord) (w0 : Nat) :
    stampTimes w0 (a ++ closes) = stampTimes w0 a := by
  have none : ∀ w0, stampTimes w0 closes = [] := by
    induction closes with
    | nil => exact fun _ => rfl
    | cons w closes ih =>
      obtain ⟨hw, rest⟩ := List.forall_mem_cons.mp h
      obtain ⟨cal, edge⟩ : wordCal w = true ∧ wordEdge w = true := by simpa [isClose] using hw
      intro w0
      simp [stampTimes, isMarker, isData, cal, edge, ih rest]
  induction a generalizing w0 with
  | nil => exact none w0
  | cons w a ih => simp only [List.cons_append, stampTimes, ih]

/-- CORE has no more stamps of an input than its lane held as the slot closed. -/
theorem length_finStamps_taken_le {n : Nat} {words closes : List StampWord} {out : Bool} {l : Lane}
    (hclose : ∀ w ∈ closes, isClose w = true) (h : Holds (words ++ closes) out l) :
    (finStamps n l.taken).length ≤ (finStamps n words).length := by
  have first : stampTimes 0 l.taken <+: stampTimes 0 words := by
    rw [← stampTimes_closes hclose words, ← h.words]
    exact stampTimes_prefix _ _ _
  exact ((first.filter _).map _).length_le

end Sys2Proof.Machine
end

section
/-! PROOF of O30. A slot falls due, and its epoch opens (R261, R262, R264, R278). -/

namespace Sys2Proof.Machine

theorem exec_auxSlotDue (s : State) : exec .auxSlotDue s = .next (s.up (auxSlotDue s.vol)) := rfl

theorem exec_auxSlotOpen (coarse : Nat) (s : State) : exec (.auxSlotOpen coarse) s = .next (s.up (auxSlotOpen coarse s.vol)) := rfl

/-! ### A slot falls due (R261, R262, R278) -/

/-- The slot takes the values then written, its kind and its turn. -/
def slotTaken (interval : Bool) (s : Vol) : Vol :=
  { s with
    work.aux.dueTick := some s.bak.count
    work.aux.sched := s.work.obj.aux
    work.aux.sensors := s.work.obj.sensors
    work.aux.interval := interval
    work.aux.nextInterval := if th s 9 = 7 then !interval else s.work.aux.nextInterval }

/-- The inputs that the slot cannot stamp are LANE_OUT (R264). -/
def slotOuts (interval : Bool) (s : Vol) : Vol :=
  ((slotInputs s interval).filter fun n => !(liveInputs s interval).contains n).foldl (init := slotTaken interval s)
    fun s n => finHeld n 5 s

/-- The slot is due with the inputs that it can stamp. -/
def slotWaits (interval : Bool) (s : Vol) : Vol :=
  { slotOuts interval s with work.aux.due := true, work.aux.live := liveInputs s interval }

theorem slotOuts_frame (interval : Bool) (s : Vol) : FinsFrame (slotTaken interval s) (slotOuts interval s) :=
  finsFrame_foldl (fun s n => (finHeld_frame n 5 s).frame) _ _

theorem slotWaits_aux (interval : Bool) (s : Vol) : (slotWaits interval s).work.aux =
    { (slotTaken interval s).work.aux with
      due := true, live := liveInputs s interval, fins := (slotOuts interval s).work.aux.fins } := by
  rw [slotWaits]
  dsimp only
  rw [(slotOuts_frame interval s).aux]

/-- The TIMING ENGINE has its power, and the slot waits for its calibration (R147, R148). -/
theorem slotCal_powerTiming (s : Vol) :
    (slotCal (powerTiming s)).work.aux = s.work.aux ∧ (slotCal (powerTiming s)).bak.power.state = .measure ∧
      (slotCal (powerTiming s)).work.te.powered = true := by
  unfold slotCal
  split <;> exact ⟨rfl, rfl, rfl⟩

section
variable {interval : Bool} {s : Vol} (hkind : nextSlotKind s = some interval) (hcore : coreRuns s = true)
  (hwarn : s.bak.power.warning = false) (hlife : retired s = false) (hdue : slotDue s = true)
include hkind hcore hwarn hlife hdue

/-- A slot that meets no other is due with the inputs that it can stamp. -/
theorem auxSlotDue_alone (hopen : s.work.aux.isOpen = false) (hfree : s.work.aux.due = false)
    (hlive : liveInputs s interval ≠ []) :
    auxSlotDue s = slotCal (powerTiming (slotWaits interval s)) := by
  simp only [auxSlotDue, hkind]
  rw [if_neg (by simp [hcore, hwarn, hlife, hdue])]
  refine (if_neg (by simp [hopen, hfree])).trans ?_
  exact if_neg fun none => hlive (List.isEmpty_iff.mp none)

/-- A slot that meets another is skipped. -/
theorem auxSlotDue_meets (h : s.work.aux.isOpen = true ∨ s.work.aux.due = true) :
    auxSlotDue s = limG 0x0173 0xFF 0xFF
      { s with work.aux.dueTick := some s.bak.count, work.aux.skipped := satInc s.work.aux.skipped } := by
  simp only [auxSlotDue, hkind]
  rw [if_neg (by simp [hcore, hwarn, hlife, hdue])]
  exact if_pos (by simpa using h)

end

/-! ### Its epoch opens (R137, R262, R264) -/

/-- The epoch of the due slot opens on both AUX lanes. -/
def slotOpened (coarse : Nat) (s : Vol) : Vol :=
  let u := clockTo coarse (drainAll s)
  { u with
    work.te.lanes :=
      Vector.ofFn fun (k : Fin 6) => if 4 ≤ k.val then laneAtOpen coarse (lane u k.val) else lane u k.val
    work.aux.due := false
    work.aux.isOpen := true
    work.aux.closing := none
    work.aux.degraded := onRc u
    work.aux.slotCount := s.work.aux.slotCount + 1
    work.aux.fins := s.work.aux.fins.map fun f => { f with prescCount := 0 } }

theorem lane_slotOpened_aux (coarse : Nat) (s : Vol) {k : Nat} (hk : 4 ≤ k) (hk6 : k < 6) :
    lane (slotOpened coarse s) k = laneAtOpen coarse (lane (drainAll s) k) :=
  (vget_ofFn _ hk6).trans (if_pos hk)

theorem lane_slotOpened_path (coarse : Nat) (s : Vol) {k : Nat} (hk : k < 4) :
    lane (slotOpened coarse s) k = lane (drainAll s) k :=
  (vget_ofFn _ (by omega)).trans (if_neg (Nat.not_le.mpr hk))

/-- The inputs of the due slot are LANE_OUT. -/
def slotLost (s : Vol) : Vol := s.work.aux.live.foldl (fun s n => finHeld n 5 s) s

theorem slotLost_frame (s : Vol) : FinsFrame s (slotLost s) := finsFrame_foldl (fun s n => (finHeld_frame n 5 s).frame) _ s

/-- The result of the input is LANE_OUT. -/
def LaneOut (n : Nat) (s : Vol) : Prop := (fin s n).status = 5 ∧ (fin s n).held = true

/-- Each input of the slot is LANE_OUT then, and its earlier values are held. -/
theorem slotLost_out {s : Vol} {n : Nat} (hmem : n ∈ s.work.aux.live) (hn : n < 6) : LaneOut n (slotLost s) := by
  have result : ∀ s, LaneOut n (finHeld n 5 s) := by
    intro s
    obtain ⟨held, status, -⟩ := fin_finHeld 5 s hn
    exact ⟨status, held⟩
  refine foldl_of_mem (f := fun s n => finHeld n 5 s) (I := fun _ => True) (P := LaneOut n) hmem (fun _ _ _ => trivial)
    (fun v _ => result v) (fun v m _ hv => ?_) trivial
  by_cases hm : n = m
  · exact hm ▸ result v
  · rwa [LaneOut, (finHeld_frame m 5 v).others n hm]

/-- The due slot is given up. -/
def slotDropped (s : Vol) : Vol := { slotLost s with work.aux.due := false, work.aux.live := [] }

theorem slotDropped_aux (s : Vol) : (slotDropped s).work.aux =
    { s.work.aux with due := false, live := [], fins := (slotLost s).work.aux.fins } := by
  rw [slotDropped]
  dsimp only
  rw [(slotLost_frame s).aux]

section
variable {coarse : Nat} {s : Vol} (hdue : s.work.aux.due = true) (hcal : s.work.te.calibrated = true)
  (hrun : calibrates [4, 5] s = false) (hpll : s.bak.power.pll = true) (hpower : s.work.te.powered = true)
  (hcoarse : s.work.te.coarse ≤ coarse)
include hdue hcal hrun hpll hpower hcoarse

/-- A slot whose inputs are all in service opens. -/
theorem auxSlotOpen_opens (hlive : s.work.aux.live ≠ [])
    (hin : ∀ n ∈ s.work.aux.live, (liveInputs s s.work.aux.interval).contains n = true) :
    auxSlotOpen coarse s = slotOpened coarse s := by
  have gone : (s.work.aux.live.filter fun n => !(liveInputs s s.work.aux.interval).contains n) = [] :=
    List.filter_eq_nil_iff.mpr fun n hn => by rw [hin n hn]; decide
  have live : s.work.aux.live.filter (liveInputs s s.work.aux.interval).contains = s.work.aux.live :=
    List.filter_eq_self.mpr hin
  unfold auxSlotOpen
  rw [if_neg (by simp [hdue, hcal, hrun, hpll, hpower, hcoarse])]
  dsimp only
  rw [gone, List.foldl_nil, live]
  exact if_neg (by simpa using hlive)

/-- A slot without an input in service is not opened. -/
theorem auxSlotOpen_drops
    (hout : ∀ n ∈ s.work.aux.live, (liveInputs s s.work.aux.interval).contains n = false) :
    auxSlotOpen coarse s = leaveMeasure (slotDropped s) := by
  have gone : (s.work.aux.live.filter fun n => !(liveInputs s s.work.aux.interval).contains n) = s.work.aux.live :=
    List.filter_eq_self.mpr fun n hn => by rw [hout n hn]; rfl
  have live : s.work.aux.live.filter (liveInputs s s.work.aux.interval).contains = [] :=
    List.filter_eq_nil_iff.mpr fun n hn => by rw [hout n hn]; decide
  unfold auxSlotOpen
  rw [if_neg (by simp [hdue, hcal, hrun, hpll, hpower, hcoarse])]
  dsimp only
  rw [gone, ← slotLost, congrArg AuxWork.live (slotLost_frame s).aux, live]
  exact if_pos rfl

end

/-- Settles O30: a slot that falls due meets another or takes its values and its inputs, and its epoch opens on the AUX lanes, or,
without an input in service, not at all. -/
theorem slotsFallDueAndOpen : Obligations.SlotsFallDueAndOpen := by
  unfold Obligations.SlotsFallDueAndOpen
  intro s
  refine ⟨fun interval hkind hcore hwarn hlife hdue => ⟨fun hopen hfree hlive => ?_, fun h => ?_⟩,
    fun coarse hdue hcal hrun hpll hpower hcoarse => ⟨fun hlive hin => ?_, fun hout => ?_⟩⟩
  · refine ⟨_, exec_auxSlotDue s, ?_⟩
    rw [State.up_vol, auxSlotDue_alone hkind hcore hwarn hlife hdue hopen hfree hlive]
    obtain ⟨aux, power, powered⟩ := slotCal_powerTiming (slotWaits interval s.vol)
    rw [aux, slotWaits_aux]
    exact ⟨rfl, rfl, rfl, rfl, rfl, fun h7 => if_pos h7, power, powered, rfl⟩
  · rw [exec_auxSlotDue, auxSlotDue_meets hkind hcore hwarn hlife hdue h]
  · refine ⟨_, exec_auxSlotOpen coarse s, ?_⟩
    rw [State.up_vol, auxSlotOpen_opens hdue hcal hrun hpll hpower hcoarse hlive hin]
    refine ⟨rfl, rfl, rfl, rfl, rfl, rfl, rfl, rfl, rfl, fun k hk hk6 => ?_, fun k hk => ?_⟩
    · rw [lane_slotOpened_aux coarse s.vol hk hk6]
      exact ⟨rfl, rfl⟩
    · have drained : Drained (lane s.vol k) (lane (drainAll s.vol) k) := drainTurns_drained _ _ _ (by omega)
      rw [lane_slotOpened_path coarse s.vol hk]
      exact ⟨drained.epoch, drained.cells⟩
  · refine ⟨_, exec_auxSlotOpen coarse s, ?_⟩
    rw [State.up_vol, auxSlotOpen_drops hdue hcal hrun hpll hpower hcoarse hout]
    obtain ⟨-, aux, -⟩ := leaveMeasure_work (slotDropped s.vol)
    have dropped := aux.trans (slotDropped_aux s.vol)
    refine ⟨by rw [dropped], by rw [dropped], by rw [dropped], fun n hmem hn => ?_⟩
    rw [fin, dropped]
    exact slotLost_out hmem hn

end Sys2Proof.Machine
end

section
/-! SUPPORT. What a page that the guard passes leaves (R372), and what the count ring takes (R274, R384). -/

namespace Sys2Proof.Machine

/-- The guard refuses a write with an entry in a log, or lets it into the line (R372, R373). -/
theorem submitGuarded_frame (l : List Req) (s : Vol) : LogFrame s (submitGuarded l s) := by
  unfold submitGuarded
  split
  · exact logLimited_frame _ _ _ _ _
  · exact submitAll_frame _ _

theorem writeCounts_frame (nv : Nv) (s : Vol) : LogFrame s (writeCounts nv s) := submitGuarded_frame _ _

/-- A ring is written within its pages (R384). -/
theorem ringReq_page (nv : Nv) (s : Vol) (base : Nat) {count : Nat} (hcount : 0 < count) (payload : Bytes) (job : Job) :
    base ≤ (ringReq nv s base count payload job).page ∧ (ringReq nv s base count payload job).page < base + count := by
  have next : base ≤ (ringNext nv s base count).1 ∧ (ringNext nv s base count).1 < base + count := by
    unfold ringNext
    split
    · exact ⟨Nat.le_add_right _ _, Nat.add_lt_add_left (Nat.mod_lt _ hcount) _⟩
    · exact ⟨le_rfl, Nat.lt_add_of_pos_right hcount⟩
  exact next

/-- The pages of the count ring are neither reserved nor of the LEGAL partition (R365). -/
theorem guardPasses_countRing {r : Req} {s : Vol} (low : 4228 ≤ r.page) (high : r.page < 4236) : guardPasses s r = true := by
  have legal : legalPage r.page = false := decide_eq_false (by omega)
  have region : regionOf r.page = 0x13 := by
    generalize r.page = page at low high
    interval_cases page <;> rfl
  simp [guardPasses, legal, reservedPage, region]

/-- The counts come into the line of the STORE (R274). -/
theorem writeCounts_submits (nv : Nv) (s : Vol) :
    writeCounts nv s = submit (ringReq nv s 4228 8 (countPayload s) .countRing) s := by
  obtain ⟨low, high⟩ := ringReq_page nv s 4228 (count := 8) (by decide) (countPayload s) .countRing
  rw [writeCounts, submitGuarded, List.find?_cons_of_neg (by simp [guardPasses_countRing low high])]
  rfl

end Sys2Proof.Machine
end

section
/-! PROOF of O31. Slots close on their results, and pulses are counted (R266 to R274). -/

namespace Sys2Proof.Machine

theorem exec_intervalClose (s : State) : exec .intervalClose s = .next (s.up (intervalClose s.vol)) := rfl

theorem exec_intervalTimeout (s : State) : exec .intervalTimeout s = .next (s.up (intervalTimeout s.vol)) := rfl

theorem exec_finPulse (n : Fin 4) (high : Bool) (s : State) :
    exec (.finPulse ⟨n, high⟩) s = .next (s.up (finPulse n.val high s.vol)) := rfl

theorem exec_gateClose {s : State} (hopen : s.vol.work.aux.isOpen = true) (hgate : s.vol.work.aux.interval = false)
    (hclosing : s.vol.work.aux.closing = none) :
    exec .gateClose s = .next (s.up (closeSlot (slotCloseT s.vol) s.vol)) :=
  if_pos (by rw [hopen, hgate, hclosing]; rfl)

theorem exec_pulseCountCopy_due {s : State} (hdue : pulseCopyDue s.vol = true) (hcore : coreRuns s.vol = true) :
    exec .pulseCountCopy s = .next (s.up (writeCounts s.nv { s.vol with bak.pulseCopy := s.vol.bak.count })) :=
  if_pos (by rw [hdue, hcore]; rfl)

theorem exec_pulseCountCopy_early {s : State} (hdue : pulseCopyDue s.vol = false) : exec .pulseCountCopy s = .next s :=
  if_neg (by simp [hdue])

/-! ### The end of a slot (R156, R160, R265 to R267) -/

theorem closeSlot_busy {s : Vol} (coarse : Nat) (h : auxBusy s = true) :
    closeSlot coarse s = { s with work.aux.closing := some coarse } := if_pos h

theorem closeSlot_idle {s : Vol} (coarse : Nat) (h : auxBusy s = false) : closeSlot coarse s = finishSlot false coarse s :=
  if_neg (by rw [h]; decide)

/-- A slot that has its results is closed, and none waits for its cells. -/
theorem finishSlot_closes (unlock : Bool) (coarse : Nat) (s : Vol) :
    (finishSlot unlock coarse s).work.aux.isOpen = false ∧ (finishSlot unlock coarse s).work.aux.closing = none := by
  unfold finishSlot
  extract_lets
  rw [(leaveMeasure_work _).2.1]
  exact ⟨rfl, rfl⟩

theorem closeSlot_closes {s : Vol} (coarse : Nat) (h : auxBusy s = false) :
    (closeSlot coarse s).work.aux.isOpen = false ∧ (closeSlot coarse s).work.aux.closing = none := by
  rw [closeSlot_idle coarse h]
  exact finishSlot_closes false coarse s

theorem WordsFrame.aux {s s' : Vol} (h : WordsFrame s s') : s'.work.aux = s.work.aux := by rw [h.only]

theorem streamAux_wordsFrame (k : Nat) (s : Vol) : WordsFrame s (streamAux k s) :=
  .trans (setLane_wordsFrame k _ s) (wordsFrame_foldl (fun s b => streamBlock_wordsFrame _ _ _ b s) _ _)

/-- The close words are in, and CORE has taken what it may (R156, R159). -/
def slotWords (coarse : Nat) (s : Vol) : Vol :=
  drainAll ([4, 5].foldl (init := s) fun u k =>
    setLane k (closeWords k (streams u 0) false coarse s.work.aux.live (lane u k)) u)

/-- The words of input n's lane that CORE has then. -/
def inputWords (coarse : Nat) (s : Vol) (n : Nat) : List StampWord :=
  if finLane n = 4 then (lane (slotWords coarse s) 4).taken else (lane (slotWords coarse s) 5).taken

/-- The results of a gate (R265 to R267). -/
def gateResults (coarse : Nat) (s : Vol) : Vol :=
  s.work.aux.live.foldl (init := slotWords coarse s) fun u n => freqInput n false (inputWords coarse s n) u

theorem fin_finishSlot_gate (coarse : Nat) {s : Vol} (hgate : s.work.aux.interval = false) (n : Nat) :
    fin (finishSlot false coarse s) n = fin (gateResults coarse s) n := by
  unfold finishSlot
  extract_lets live words a b results decided streamed emptied
  have gate : ¬words.work.aux.interval = true := by
    change ¬s.work.aux.interval = true
    rw [hgate]
    decide
  have formed : decided = gateResults coarse s := (if_neg Bool.false_ne_true).trans (if_neg gate)
  have kept : WordsFrame decided emptied :=
    ((streamAux_wordsFrame 4 decided).trans (streamAux_wordsFrame 5 _)).trans
      (wordsFrame_foldl (fun u k => setLane_wordsFrame k _ u) [4, 5] streamed)
  clear_value emptied decided
  rw [fin, (leaveMeasure_work _).2.1, fin, ← formed, ← kept.aux]
  rfl

/-- The lane of an input in a slot that closes: its words, then close words, and its service. -/
theorem slotWords_holds (coarse : Nat) (s : Vol) {k : Nat} (hk : k = 4 ∨ k = 5) :
    ∃ closes : List StampWord, (∀ w ∈ closes, isClose w = true) ∧
      Holds (auxWords s k ++ closes) (lane s k).out (lane (slotWords coarse s) k) := by
  obtain ⟨closes, hclose, holds⟩ := closeWords_holds k (streams s 0) false coarse s.work.aux.live
    (l := lane s k) (words := auxWords s k) (out := (lane s k).out) ⟨rfl, rfl⟩
  refine ⟨closes, hclose, drainAll_holds (by omega) ?_⟩
  rcases hk with rfl | rfl
  · rwa [List.foldl_cons, List.foldl_cons, List.foldl_nil, lane_setLane_ne (by decide), lane_setLane_self _ _ (by decide)]
  · rwa [List.foldl_cons, List.foldl_cons, List.foldl_nil, lane_setLane_self _ _ (by decide), lane_setLane_ne (by decide)]

/-- Input n is in service, and its result has the frequency. -/
structure InService (n : Nat) (freq : BitVec 48) (s : Vol) : Prop where
  serves : finLaneOut s n = false
  freq : (fin s n).freq = freq

/-- The result of input n holds the frequency that it had, as NO_SIGNAL. -/
def HeldAt (n : Nat) (freq : BitVec 48) (s : Vol) : Prop :=
  (fin s n).held = true ∧ (fin s n).status = 1 ∧ (fin s n).freq = freq

theorem finLane_aux (n : Nat) : finLane n = 4 ∨ finLane n = 5 := by
  unfold finLane
  omega

/-- CORE has no more stamps of an input than its lane held. -/
theorem length_finStamps_inputWords_le (coarse : Nat) (s : Vol) (n : Nat) :
    (finStamps n (inputWords coarse s n)).length ≤ (finStamps n (auxWords s (finLane n))).length := by
  have own : inputWords coarse s n = (lane (slotWords coarse s) (finLane n)).taken := by
    rcases finLane_aux n with h | h <;> rw [inputWords, h] <;> rfl
  obtain ⟨closes, hclose, holds⟩ := slotWords_holds coarse s (finLane_aux n)
  rw [own]
  exact length_finStamps_taken_le hclose holds

/-- In a gate an input in service without eight stamps keeps its earlier values (R267). -/
theorem gateResults_few (coarse : Nat) {s : Vol} {n : Nat} (hn : n < 6) (hmem : n ∈ s.work.aux.live)
    (hout : finLaneOut s n = false) (hfew : (finStamps n (auxWords s (finLane n))).length < 8) :
    HeldAt n (fin s n).freq (gateResults coarse s) := by
  have held : ∀ u, InService n (fin s n).freq u →
      HeldAt n (fin s n).freq (freqInput n false (inputWords coarse s n) u) := by
    rintro u ⟨serves, freq⟩
    obtain ⟨held, status, stands⟩ := fin_finHeld 1 u hn
    rw [freqInput_few serves ((length_finStamps_inputWords_le coarse s n).trans_lt hfew)]
    exact ⟨held, status, stands.trans freq⟩
  refine foldl_of_mem (f := fun u m => freqInput m false (inputWords coarse s m) u) (I := InService n (fin s n).freq)
    (P := HeldAt n (fin s n).freq) hmem (fun u m hu => ⟨?_, ?_⟩) held (fun u m hu hP => ?_) ⟨?_, rfl⟩
  · rw [finLaneOut, lane, (freqInput_frame m false _ u).frame.te]
    exact hu.serves
  · by_cases hm : n = m
    · subst hm
      obtain ⟨-, -, freq⟩ := held u hu
      exact freq
    · rw [(freqInput_frame m false _ u).others n hm]
      exact hu.freq
  · by_cases hm : n = m
    · exact hm ▸ held u hu
    · rwa [HeldAt, (freqInput_frame m false _ u).others n hm]
  · obtain ⟨_, _, holds⟩ := slotWords_holds coarse s (finLane_aux n)
    exact holds.out.trans hout

/-! ### Interval slots (R156, R269, R270) -/

theorem intervalClose_stamped {s : Vol} {a b : Nat} (hopen : s.work.aux.isOpen = true) (hinterval : s.work.aux.interval = true)
    (hclosing : s.work.aux.closing = none) (hstamps : intervalStamps s (auxWords s 4) (auxWords s 5) = (some a, some b)) :
    intervalClose s = closeSlot (s.work.te.coarse + 1 - (lane s 4).epoch) (clockTo (s.work.te.coarse + 1) s) := by
  unfold intervalClose
  rw [if_neg (by simp [hopen, hinterval, hclosing]), hstamps]

theorem intervalTimeout_closes {s : Vol} (hopen : s.work.aux.isOpen = true) (hinterval : s.work.aux.interval = true)
    (hclosing : s.work.aux.closing = none) : ∃ coarse, intervalTimeout s = closeSlot coarse s :=
  ⟨_, if_neg (by simp [hopen, hinterval, hclosing])⟩

/-! ### Pulses (R273) -/

section
variable {n : Nat} {high : Bool} {s : Vol} (hcount : pulseCounting s = true)
  (hstate : s.bak.power.state = .sleep ∨ s.bak.power.state = .doze ∨ s.bak.power.state = .measure)
include hcount hstate

/-- A sample moves the sampler of its input, and the count with a pulse. -/
theorem finPulse_samples {active : Bool} (hactive : (high == ((vget s.work.obj.sensors n).pol == 1)) = active) :
    finPulse n high s =
      { s with
        bak.pulses := vset s.bak.pulses n (pulseStep active (vget s.bak.pulses n)).1
        ret.count := if (pulseStep active (vget s.bak.pulses n)).2 then vset s.ret.count n (vget s.ret.count n + 1)
          else s.ret.count } := by
  have sampled : [PState.sleep, .doze, .measure].contains s.bak.power.state = true := by simpa using hstate
  unfold finPulse
  rw [if_pos (by rw [hcount, sampled]; rfl)]
  dsimp only
  rw [hactive]
  rfl

end

theorem pulseCopyDue_eq {s : Vol} (hcount : pulseCounting s = true) :
    pulseCopyDue s = decide (230400 ≤ (s.bak.count - s.bak.pulseCopy).toNat) := by
  rw [pulseCopyDue, hcount, Bool.true_and]

/-- Settles O31: the end of a slot takes its results (`finishSlot_closes`, `gateResults_few`) or waits for its cells, a sample of a pulse
input is one step of its sampler, and the guard passes the pages of the count ring. -/
theorem slotsCloseOnTheirResults : Obligations.SlotsCloseOnTheirResults := by
  unfold Obligations.SlotsCloseOnTheirResults
  intro s
  refine ⟨fun hopen hgate hclosing => ⟨fun busy => ?_, fun idle => ?_⟩,
    fun hopen hinterval hclosing => ⟨fun a b hstamps => ⟨fun idle => ?_, fun busy => ?_⟩, fun idle => ?_⟩,
    fun n high hcount hstate => ⟨fun hactive => ?_, fun hactive => ?_⟩, fun hcount hcore => ⟨fun hdue => ?_, fun hearly => ?_⟩⟩
  · rw [exec_gateClose hopen hgate hclosing, closeSlot_busy _ busy]
    rfl
  · obtain ⟨shut, done⟩ := closeSlot_closes (slotCloseT s.vol) idle
    refine ⟨_, exec_gateClose hopen hgate hclosing, shut, done, rfl, fun n hn hlive hout hfew => ?_⟩
    rw [State.up_vol, closeSlot_idle _ idle, fin_finishSlot_gate _ hgate]
    exact gateResults_few _ hn (List.contains_iff_mem.mp hlive) hout hfew
  · obtain ⟨shut, done⟩ := closeSlot_closes (s := clockTo (s.vol.work.te.coarse + 1) s.vol)
      (s.vol.work.te.coarse + 1 - (lane s.vol 4).epoch) idle
    refine ⟨_, exec_intervalClose s, ?_⟩
    rw [State.up_vol, intervalClose_stamped hopen hinterval hclosing hstamps]
    exact ⟨shut, done, rfl⟩
  · rw [exec_intervalClose, intervalClose_stamped hopen hinterval hclosing hstamps,
      closeSlot_busy (s := clockTo (s.vol.work.te.coarse + 1) s.vol) _ busy, clockTo, Nat.max_eq_right (Nat.le_succ _)]
    rfl
  · obtain ⟨coarse, closes⟩ := intervalTimeout_closes hopen hinterval hclosing
    obtain ⟨shut, done⟩ := closeSlot_closes coarse idle
    refine ⟨_, exec_intervalTimeout s, ?_⟩
    rw [State.up_vol, closes]
    exact ⟨shut, done, rfl⟩
  · rw [exec_finPulse, finPulse_samples hcount hstate hactive]
    simp only [pulseStep, if_true, decide_eq_true_eq]
    rfl
  · rw [exec_finPulse, finPulse_samples hcount hstate hactive]
    rfl
  · rw [exec_pulseCountCopy_due ((pulseCopyDue_eq hcount).trans (decide_eq_true hdue)) hcore, writeCounts_submits]
  · rw [exec_pulseCountCopy_early ((pulseCopyDue_eq hcount).trans (decide_eq_false hearly.not_ge))]

end Sys2Proof.Machine
end

section
/-! SUPPORT. An ACTION of an open session comes to its object (R415), and what a request of the DISPLAY leaves (R499). -/

namespace Sys2Proof.Machine

/-! ### The way of an ACTION -/

/-- An ACTION that passes every check comes to its object (R415). -/
theorem runCommand_act (nv : Nv) {f : Frame} {r : Role} {o : Obj} {s : Vol} (hcmd : f.cmd = 5) (hobj : objOf s f.ident = some o)
    (hattr : attrExists nv s o f.attr.toNat = true) (hact : actStatus s r o (f.data.headD 0).toNat = none) :
    runCommand nv f r s = carryAct nv f r o s := by
  rw [runCommand, hobj]
  dsimp only
  rw [if_neg (by simp [hattr]), if_neg (by rw [hcmd]; decide), if_neg (by rw [hcmd]; decide), hact]

/-- An ACTION of an open session that passes every check is carried out under its own row. -/
theorem exec_act_taken {s : State} {f : Frame} {x : Session} {o : Obj} (hframe : frameTaken s.vol f = true)
    (hsession : sessionTaken s.vol f x = true) (hcmd : f.cmd = 5) (hobj : objOf (inSession f x s.vol) f.ident = some o)
    (hattr : attrExists s.nv (inSession f x s.vol) o f.attr.toNat = true)
    (hact : actStatus (inSession f x s.vol) x.role o (f.data.headD 0).toNat = none) :
    exec ((actRow s.vol f).instr f) s = .next (s.up (carryAct s.nv f x.role o (inSession f x s.vol))) := by
  have row : rowOf s.vol f = actRow s.vol f := by
    rw [rowOf, hcmd]
    rfl
  rw [← row, exec_instr_rowOf, receive_taken _ hframe, process_session _ hsession (.inr (.inr hcmd)),
    runCommand_act _ hcmd hobj hattr hact]

theorem inHand_of_frameTaken {s : Vol} {f : Frame} (h : frameTaken s f = true) : s.work.ex.inHand = none := by
  simp only [frameTaken, Bool.and_eq_true, Option.isNone_iff_eq_none] at h
  exact h.2

section
variable (f : Frame) (x : Session) (s : Vol)

theorem inSession_ret : (inSession f x s).ret = s.ret := by rw [inSession_only]
theorem inSession_life : (inSession f x s).work.life = s.work.life := by rw [inSession_only]
theorem inSession_obj : (inSession f x s).work.obj = s.work.obj := by rw [inSession_only]
theorem inSession_th : (inSession f x s).work.th = s.work.th := by rw [inSession_only]
theorem inSession_inHand : (inSession f x s).work.ex.inHand = s.work.ex.inHand := by rw [inSession_only]

theorem tokenResult_inSession (nv : Nv) (n : Nat) : tokenResult nv (inSession f x s) n = tokenResult nv s n := by
  rw [inSession_only]
  rfl

end

theorem AnswerFrame.ret {s s' : Vol} (h : AnswerFrame s s') : s'.ret = s.ret := by rw [h.only]
theorem AnswerFrame.life {s s' : Vol} (h : AnswerFrame s s') : s'.work.life = s.work.life := by rw [h.only]
theorem AnswerFrame.pre {s s' : Vol} (h : AnswerFrame s s') : s'.work.pre = s.work.pre := by rw [h.only]
theorem AnswerFrame.inHand {s s' : Vol} (h : AnswerFrame s s') : s'.work.ex.inHand = s.work.ex.inHand := by rw [h.only]

/-! ### A request of the DISPLAY (R499) -/

/-- s' differs from s in the DISPLAY, in the counters of the fabric, in the logs and in the STORE's working state at most. -/
structure DrawFrame (s s' : Vol) : Prop where
  only : s' = { s with
    work.disp := s'.work.disp
    work.fab := s'.work.fab
    work.store := s'.work.store
    ret.logs := s'.ret.logs
    ret.store := s'.ret.store }

theorem DrawFrame.refl (s : Vol) : DrawFrame s s := ⟨rfl⟩

theorem DrawFrame.trans {a b c : Vol} (h : DrawFrame a b) (k : DrawFrame b c) : DrawFrame a c := ⟨by rw [k.only, h.only]⟩

theorem DrawFrame.pre {s s' : Vol} (h : DrawFrame s s') : s'.work.pre = s.work.pre := by rw [h.only]

theorem LogFrame.drawFrame {s s' : Vol} (h : LogFrame s s') : DrawFrame s s' := ⟨by rw [h.only]⟩
theorem DueFrame.drawFrame {s s' : Vol} (h : DueFrame s s') : DrawFrame s s' := ⟨by rw [h.only]⟩

theorem collapse_drawFrame (r : Rect) (s : Vol) : DrawFrame s (collapse r s) :=
  .trans ⟨rfl⟩ (limG_frame _ _ _ _).drawFrame

theorem request_drawFrame (r : Rect) (s : Vol) : DrawFrame s (request r s) := by
  have checked : ∀ {u v : Vol}, DrawFrame u v → DrawFrame u (if v.work.disp.pmic then v else dueCheck v) := by
    intro u v h
    split
    · exact h
    · exact h.trans (dueCheck_frame v).drawFrame
  have met : DrawFrame s (displayMet s) := ⟨rfl⟩
  unfold request
  split
  · exact .refl s
  · refine checked (met.trans ?_)
    split_ifs
    · exact ⟨rfl⟩
    · exact .refl _
    · exact collapse_drawFrame r _
    · exact ⟨rfl⟩

theorem fullDraw_drawFrame (s : Vol) : DrawFrame s (fullDraw s) := request_drawFrame _ s

end Sys2Proof.Machine
end

section
/-! SUPPORT. What the evaluation of a submitted token leaves (R344, R347, R350). -/

namespace Sys2Proof.Machine

/-- The backup domain, the command in hand, CREDIT, IDHWM and the accepted tokens stand. -/
structure TokensStand (s s' : Vol) : Prop where
  bak : s'.bak = s.bak
  inHand : s'.work.ex.inHand = s.work.ex.inHand
  credit : s'.ret.pre.credit = s.ret.pre.credit
  idhwm : s'.ret.pre.idhwm = s.ret.pre.idhwm
  tokens : s'.ret.pre.tokens = s.ret.pre.tokens

theorem TokensStand.refl (s : Vol) : TokensStand s s := ⟨rfl, rfl, rfl, rfl, rfl⟩

theorem TokensStand.trans {a b c : Vol} (h : TokensStand a b) (k : TokensStand b c) : TokensStand a c :=
  ⟨k.bak.trans h.bak, k.inHand.trans h.inHand, k.credit.trans h.credit, k.idhwm.trans h.idhwm, k.tokens.trans h.tokens⟩

theorem TokensStand.after {a b c : Vol} (k : TokensStand b c) (h : TokensStand a b) : TokensStand a c := h.trans k

theorem LogFrame.tokensStand {s s' : Vol} (h : LogFrame s s') : TokensStand s s' := by
  rw [h.only]
  exact ⟨rfl, rfl, rfl, rfl, rfl⟩

theorem DrawFrame.tokensStand {s s' : Vol} (h : DrawFrame s s') : TokensStand s s' := by
  rw [h.only]
  exact ⟨rfl, rfl, rfl, rfl, rfl⟩

theorem AnswerFrame.tokensStand {s s' : Vol} (h : AnswerFrame s s') : TokensStand s s' := by
  rw [h.only]
  exact ⟨rfl, rfl, rfl, rfl, rfl⟩

theorem logRefused_tokensStand (result n : Nat) (s : Vol) : TokensStand s (logRefused result n s) :=
  .after (submit_frame _ _).tokensStand ⟨rfl, rfl, rfl, rfl, rfl⟩

theorem startLockout_tokensStand (nv : Nv) (s : Vol) : TokensStand s (startLockout nv s) :=
  .after (writeCounts_frame nv _).tokensStand (.after (logG_frame _ _ _).tokensStand ⟨rfl, rfl, rfl, rfl, rfl⟩)

theorem countWrong_tokensStand (nv : Nv) (result : Nat) (s : Vol) : TokensStand s (countWrong nv result s) := by
  have counted : TokensStand s (limG 0x0901 0xFF result { s with ret.pre.wrong := s.ret.pre.wrong + 1 }) :=
    .after (limG_frame _ _ _ _).tokensStand ⟨rfl, rfl, rfl, rfl, rfl⟩
  unfold countWrong
  dsimp only
  split
  · exact counted.trans (startLockout_tokensStand nv _)
  · exact counted

theorem showResult_tokensStand (result : Nat) (s : Vol) : TokensStand s (showResult result s) := ⟨rfl, rfl, rfl, rfl, rfl⟩

/-- A refused token has its result at once, and no token is added (R347, R349). -/
theorem submitToken_refused (nv : Nv) (byAction : Bool) (ds : List Nat) {s : Vol} (h : tokenResult nv s (tokenNumber ds) ≠ 0) :
    ∃ u, TokensStand s u ∧ u.work.pre.result = some (tokenResult nv s (tokenNumber ds)) ∧
      submitToken nv byAction ds s = (u, some (tokenResult nv s (tokenNumber ds))) := by
  obtain ⟨n, hn⟩ : ∃ n, tokenNumber ds = n := ⟨_, rfl⟩
  rw [hn] at h ⊢
  have logged : TokensStand s
      (if tokenResult nv s n = 8 ∨ tokenResult nv s n = 9 then s else logRefused (tokenResult nv s n) n s) := by
    split
    · exact .refl s
    · exact logRefused_tokensStand _ _ s
  have counted : ∀ u, TokensStand u
      (if tokenResult nv s n = 1 ∨ tokenResult nv s n = 2 then countWrong nv (tokenResult nv s n) u else u) := by
    intro u
    split
    · exact countWrong_tokensStand nv _ u
    · exact .refl u
  refine ⟨_, (logged.trans (counted _)).trans (showResult_tokensStand _ _), rfl, ?_⟩
  rw [submitToken, hn]
  exact if_neg h

/-- An acceptance waits for its log write with one token more (R348). -/
theorem logAccepted_adds (byAction : Bool) (n : Nat) (s : Vol) :
    (logAccepted byAction n s).bak = s.bak ∧ (logAccepted byAction n s).ret.pre.credit = s.ret.pre.credit ∧
      (logAccepted byAction n s).ret.pre.idhwm = s.ret.pre.idhwm ∧
      (logAccepted byAction n s).ret.pre.tokens.length = s.ret.pre.tokens.length + 1 := by
  unfold logAccepted
  extract_lets id c e r t
  rw [submit_bak, submit_ret_pre]
  exact ⟨rfl, rfl, rfl, List.length_append⟩

/-! ### The action (R344) -/

section
variable {nv : Nv} {f : Frame} {s : Vol} {ds : List Nat} (hhead : f.data.head? = some 1)
  (hdigits : tokenDigits f.data.tail = some ds)
include hhead hdigits

theorem tokenAct_accepted (h : tokenResult nv s (tokenNumber ds) = 0) :
    tokenAct nv f s =
      { logAccepted true (tokenNumber ds) s with
        work.ex.inHand := some { frame := f, clamps := [], clamped := false, await := .token } } := by
  obtain ⟨rest, hdata⟩ : ∃ rest, f.data = 1 :: rest := List.head?_eq_some_iff.mp hhead
  rw [hdata, List.tail_cons] at hdigits
  have known : submitToken nv true ds s = (logAccepted true (tokenNumber ds) s, none) := if_pos h
  unfold tokenAct
  simp only [hdata, if_true, hdigits, known]

theorem tokenAct_refused (h : tokenResult nv s (tokenNumber ds) ≠ 0) :
    TokensStand s (tokenAct nv f s) ∧
      (tokenAct nv f s).work.pre.result = some (tokenResult nv s (tokenNumber ds)) := by
  obtain ⟨rest, hdata⟩ : ∃ rest, f.data = 1 :: rest := List.head?_eq_some_iff.mp hhead
  rw [hdata, List.tail_cons] at hdigits
  obtain ⟨u, stands, result, known⟩ := submitToken_refused nv true ds h
  have shown : ∀ p : Prop, [Decidable p] → DrawFrame u (if p then u else fullDraw u) := by
    intro p _
    split
    · exact .refl u
    · exact fullDraw_drawFrame u
  unfold tokenAct
  simp only [hdata, if_true, hdigits, known]
  have answered := answer_frame f stOk [BitVec.ofNat 8 (tokenResult nv s (tokenNumber ds))]
    (if templateToShow u = templateToShow s then u else fullDraw u)
  exact ⟨stands.trans ((shown _).tokensStand.trans answered.tokensStand),
    by rw [answered.pre, (shown _).pre, result]⟩

end

end Sys2Proof.Machine
end

section
/-! PROOF of O48. The actions are carried out (R274, R344, R548, R549). -/

namespace Sys2Proof.Machine

/-! ### Seal and retire (R548, R549) -/

/-- A change to the target is ordered, which the reply on port p precedes (R551). -/
def Ordered (p : Port) (target : LState) (op : Nat) (since : BitVec 32) (s : Vol) : Prop :=
  s.work.life.change.any (fun c => !c.begun && c.op == op && c.target == target && c.via == some p && c.since == since) = true

/-- What an order with its answer leaves. -/
theorem orderChange_answer (f : Frame) (target : LState) (op : Nat) (s : Vol) :
    let t := orderChange f.port target op (answer f stOk [] s)
    t.bak = s.bak ∧ t.work.life.state = s.work.life.state ∧ t.work.life.pending = s.work.life.pending ∧
      Ordered f.port target op s.bak.count t := by
  have answered := answer_frame f stOk [] s
  refine ⟨answered.bak, (congrArg Life.state answered.life :), (congrArg Life.pending answered.life :), ?_⟩
  simp [Ordered, orderChange, answered.bak]

theorem sealAct_orders {f : Frame} {s : Vol} (hlife : sealable s = true) (hseal : s.bak.sealOpen = false)
    (hchange : s.work.life.change = none) (hdata : f.data.length = 1)
    (hcalib : pathCount (th s 0) = 0 ∨ (calibWritten s).area ≠ 0) (hkey : s.work.life.keyset.getLsbD 2 = true) :
    sealAct f .metrology s = orderChange f.port .sealed 2 (answer f stOk [] s) := by
  have written : ¬(f.data.length ≠ 1 ∨ (pathCount (th s 0) ≠ 0 ∧ (calibWritten s).area = 0)
      ∨ s.work.life.keyset.getLsbD 2 = false) := by
    rw [hdata, hkey]
    tauto
  rw [sealAct, if_neg (by decide), if_neg (by simp [hlife, hseal, hchange]), if_neg written]

theorem retireAct_orders {f : Frame} {s : Vol} (hlife : sealable s = true) (hseal : s.bak.sealOpen = true)
    (hchange : s.work.life.change = none) (hdata : f.data.length = 1) :
    retireAct f .operator s = orderChange f.port .retired 1 (answer f stOk [] s) := by
  rw [retireAct, if_neg (by decide), if_neg (by simp [hlife, hseal, hchange]), if_neg (by simp [hdata])]

theorem carryAct_seal (nv : Nv) {f : Frame} (r : Role) (s : Vol) (h : f.data = [1]) : carryAct nv f r .life s = sealAct f r s := by
  simp [carryAct, h]

theorem carryAct_retire (nv : Nv) {f : Frame} (r : Role) (s : Vol) (h : f.data = [2]) :
    carryAct nv f r .life s = retireAct f r s := by
  simp [carryAct, h]

theorem carryAct_fin (nv : Nv) (f : Frame) (r : Role) (n : Nat) (s : Vol) : carryAct nv f r (.fin n) s = countClear nv f n s := rfl

theorem carryAct_credit (nv : Nv) (f : Frame) (r : Role) (s : Vol) : carryAct nv f r .credit s = tokenAct nv f s := rfl

/-! ### The count clear (R274) -/

theorem countClear_clears (nv : Nv) {f : Frame} {n : Nat} {s : Vol} (hmode : finMode (th s 9) n = 3) (hdata : f.data = [1]) :
    (countClear nv f n s).bak = s.bak ∧ (countClear nv f n s).ret.count = vset s.ret.count n 0 := by
  have cleared : countClear nv f n s =
      answer f stOk [] (logG 0x0175 n (writeCounts nv { s with ret.count := vset s.ret.count n 0 })) :=
    if_neg (by simp [hmode, hdata])
  have answered := answer_frame f stOk [] (logG 0x0175 n (writeCounts nv { s with ret.count := vset s.ret.count n 0 }))
  have logged := (writeCounts_frame nv { s with ret.count := vset s.ret.count n 0 }).trans (logG_frame 0x0175 n _)
  rw [cleared, answered.bak, answered.ret, logged.bak, logged.ret_count]
  exact ⟨rfl, rfl⟩

/-- Settles O48: an ACTION that passes every check comes to its object (`exec_act_taken`), where the life cycle orders its change, the
input's count goes to 0, and the token has its result or waits for its log write. -/
theorem actionsAreCarriedOut : Obligations.ActionsAreCarriedOut := by
  unfold Obligations.ActionsAreCarriedOut
  intro s f x o hframe hsession hcmd hobj hattr hact
  have taken := exec_act_taken hframe hsession hcmd hobj hattr hact
  rw [objOf_inSession] at hobj
  have bak := inSession_bak f x s.vol
  have life := inSession_life f x s.vol
  have ret := inSession_ret f x s.vol
  refine ⟨?_, fun n => ?_, fun ds => ?_⟩
  · rintro n hn rfl hdata hsealable hseal hrole hchange hready
    rw [sealable, ← life] at hsealable
    rw [← life] at hchange
    rw [← bak] at hseal
    rcases hn with rfl | rfl
    · obtain ⟨hcalib, hkey⟩ := hready rfl
      have row : (actRow s.vol f).instr f = .sealAction f := by
        rw [actRow, hobj, hdata]
        rfl
      rw [th, ← inSession_th f x s.vol, calibWritten, ← inSession_obj f x s.vol] at hcalib
      rw [← life] at hkey
      have role : x.role = .metrology := hrole
      rw [row, carryAct_seal _ _ _ hdata, role, sealAct_orders hsealable hseal hchange (by rw [hdata]; rfl) hcalib hkey] at taken
      obtain ⟨stands, state, pending, ordered⟩ := orderChange_answer f .sealed 2 (inSession f x s.vol)
      rw [bak] at stands ordered
      rw [life] at state pending
      exact ⟨_, taken, rfl, stands, state, pending, ordered⟩
    · have row : (actRow s.vol f).instr f = .retireAction f := by
        rw [actRow, hobj, hdata]
        rfl
      have role : x.role = .operator := hrole
      rw [row, carryAct_retire _ _ _ hdata, role, retireAct_orders hsealable hseal hchange (by rw [hdata]; rfl)] at taken
      obtain ⟨stands, state, pending, ordered⟩ := orderChange_answer f .retired 1 (inSession f x s.vol)
      rw [bak] at stands ordered
      rw [life] at state pending
      exact ⟨_, taken, rfl, stands, state, pending, ordered⟩
  · rintro rfl hmode hdata
    have row : (actRow s.vol f).instr f = .countClear f := by
      rw [actRow, hobj]
      rfl
    obtain ⟨stands, cleared⟩ := countClear_clears s.nv (f := f) (n := n.val) (s := inSession f x s.vol)
      (by rwa [th, inSession_th]) hdata
    rw [row, carryAct_fin] at taken
    exact ⟨_, taken, rfl, stands.trans bak, cleared.trans (by rw [ret])⟩
  · rintro rfl hhead hdigits
    have row : (actRow s.vol f).instr f = .tokenSubmit f := by
      rw [actRow, hobj]
      rfl
    have free : (inSession f x s.vol).work.ex.inHand = none := (inSession_inHand f x s.vol).trans (inHand_of_frameTaken hframe)
    rw [row, carryAct_credit] at taken
    refine ⟨_, taken, rfl, ?_⟩
    rw [← tokenResult_inSession f x s.vol, ← bak, ← ret, State.up_vol]
    by_cases h : tokenResult s.nv (inSession f x s.vol) (tokenNumber ds) = 0
    · obtain ⟨stands, credit, idhwm, tokens⟩ := logAccepted_adds true (tokenNumber ds) (inSession f x s.vol)
      rw [tokenAct_accepted hhead hdigits h]
      exact ⟨stands, credit, idhwm, fun _ => ⟨rfl, tokens⟩, fun h' => absurd h h'⟩
    · obtain ⟨stands, result⟩ := tokenAct_refused (f := f) hhead hdigits h
      exact ⟨stands.bak, stands.credit, stands.idhwm, fun h' => absurd h' h,
        fun _ => ⟨stands.inHand.trans free, stands.tokens, result⟩⟩

end Sys2Proof.Machine
end

section
/-! SUPPORT and PROOF of O32. The calendar (R282, R286, R287): BCD registers, the days of months and years, and the next second. -/

namespace Sys2Proof.Machine

/-! ### BCD -/

theorem toNat_toBcd (n : Nat) : (toBcd n).toNat = n / 10 % 10 * 16 + n % 10 := by
  simp only [toBcd, BitVec.toNat_ofNat]
  omega

theorem ofBcd_toBcd {n : Nat} (h : n < 100) : ofBcd (toBcd n) = n := by
  rw [ofBcd, toNat_toBcd]
  omega

@[simp] theorem bcdOk_toBcd (n : Nat) : bcdOk (toBcd n) = true := by
  rw [bcdOk, toNat_toBcd, decide_eq_true_eq]
  omega

theorem ofBcd_lt {b : Byte} (h : bcdOk b = true) : ofBcd b < 100 := by
  simp only [bcdOk, decide_eq_true_eq] at h
  unfold ofBcd
  omega

@[simp] theorem bcdOk_zero : bcdOk 0 = true := by decide
@[simp] theorem bcdOk_one : bcdOk 1 = true := by decide
@[simp] theorem ofBcd_zero : ofBcd 0 = 0 := by decide
@[simp] theorem ofBcd_one : ofBcd 1 = 1 := by decide

/-! ### Months and years -/

/-- The days of a year. -/
def daysInYear (y : Nat) : Nat := if isLeap y then 366 else 365

theorem daysInMonth_bounds (y m : Nat) : 1 ≤ daysInMonth y m ∧ daysInMonth y m ≤ 31 := by
  unfold daysInMonth
  split
  · split <;> decide
  · generalize m - 1 = k
    rcases lt_or_ge k 12 with h | h
    · interval_cases k <;> decide
    · rw [List.getD_eq_default _ _ h]
      decide

theorem daysToMonth_one (y : Nat) : daysToMonth y 1 = 0 := rfl

theorem daysToMonth_succ (y : Nat) {m : Nat} (h : 1 ≤ m) : daysToMonth y (m + 1) = daysToMonth y m + daysInMonth y m := by
  obtain ⟨k, rfl⟩ := Nat.exists_eq_add_of_le' h
  simp only [daysToMonth, Nat.add_sub_cancel, List.range_succ, List.map_append, List.sum_append, List.map_singleton,
    List.sum_singleton]

/-- A year is its twelve months. -/
theorem daysToMonth_december (y : Nat) : daysToMonth y 12 + daysInMonth y 12 = daysInYear y := by
  rw [← daysToMonth_succ y (by decide)]
  unfold daysInYear daysToMonth daysInMonth
  cases isLeap y <;> decide

theorem daysToYear_first : daysToYear 2000 = 0 := rfl

theorem isLeap_add (k : Nat) : isLeap (2000 + k) = true ↔ k % 4 = 0 ∧ k % 100 ≠ 0 ∨ k % 400 = 0 := by
  simp only [isLeap, Bool.or_eq_true, Bool.and_eq_true, beq_iff_eq, bne_iff_ne]
  omega

theorem daysToYear_add (k : Nat) : daysToYear (2000 + k) = 365 * k + (k + 3) / 4 - (k + 99) / 100 + (k + 399) / 400 := by
  rw [daysToYear, Nat.add_sub_cancel_left]

/-- The quotient by n, rounded up, rises after the multiples of n. -/
theorem div_step (k n : Nat) : (k + 1 + n) / (n + 1) = (k + n) / (n + 1) + if k % (n + 1) = 0 then 1 else 0 := by
  have dvd : n + 1 ∣ k + (n + 1) ↔ k % (n + 1) = 0 := by rw [Nat.dvd_add_self_right, Nat.dvd_iff_mod_eq_zero]
  rw [Nat.add_right_comm, Nat.succ_div, Nat.add_assoc k n 1]
  simp only [dvd]

/-- The leap years of R287 are those that `daysToYear` counts. -/
theorem daysToYear_succ {y : Nat} (h : 2000 ≤ y) : daysToYear (y + 1) = daysToYear y + daysInYear y := by
  obtain ⟨k, rfl⟩ := Nat.exists_eq_add_of_le h
  have few : (k + 99) / 100 ≤ 365 * k + (k + 3) / 4 := by omega
  have leap : daysInYear (2000 + k) + (if k % 100 = 0 then 1 else 0) =
      365 + (if k % 4 = 0 then 1 else 0) + (if k % 400 = 0 then 1 else 0) := by
    simp only [daysInYear, isLeap_add]
    split_ifs <;> omega
  rw [Nat.add_assoc, daysToYear_add, daysToYear_add, div_step k 3, div_step k 99, div_step k 399]
  simp only [Nat.reduceAdd]
  generalize (k + 3) / 4 = fours at *
  generalize (k + 99) / 100 = centuries at *
  generalize (k + 399) / 400 = eras
  split_ifs at * <;> omega

/-! ### A valid calendar -/

/-- What R292 asks of the date. -/
structure Cal.DateOk (c : Cal) : Prop where
  dayBcd : bcdOk c.day = true
  monthBcd : bcdOk c.month = true
  yearBcd : bcdOk c.year = true
  centuryBcd : bcdOk c.century = true
  century : 0x20 ≤ c.century.toNat ∧ c.century.toNat ≤ 0x23
  month : 1 ≤ ofBcd c.month ∧ ofBcd c.month ≤ 12
  day : 1 ≤ ofBcd c.day ∧ ofBcd c.day ≤ daysInMonth c.fullYear (ofBcd c.month)

/-- What R292 asks of the time of day and the weekday. -/
structure Cal.TimeOk (c : Cal) : Prop where
  secBcd : bcdOk c.sec = true
  minBcd : bcdOk c.min = true
  hourBcd : bcdOk c.hour = true
  wdayBcd : bcdOk c.wday = true
  hour : ofBcd c.hour ≤ 23
  min : ofBcd c.min ≤ 59
  sec : ofBcd c.sec ≤ 59

theorem Cal.valid_iff (c : Cal) : c.valid = true ↔ c.DateOk ∧ c.TimeOk := by
  simp only [Cal.valid, List.all_cons, List.all_nil, Bool.and_true, Bool.and_eq_true, decide_eq_true_eq]
  constructor
  · rintro ⟨⟨⟨⟨⟨sec, min, hour, day, wday, month, year, century⟩, hcentury⟩, hmonth⟩, hday⟩, hhour, hmin, hsec⟩
    exact ⟨⟨day, month, year, century, hcentury, hmonth, hday⟩, ⟨sec, min, hour, wday, hhour, hmin, hsec⟩⟩
  · rintro ⟨⟨day, month, year, century, hcentury, hmonth, hday⟩, ⟨sec, min, hour, wday, hhour, hmin, hsec⟩⟩
    exact ⟨⟨⟨⟨⟨sec, min, hour, day, wday, month, year, century⟩, hcentury⟩, hmonth⟩, hday⟩, hhour, hmin, hsec⟩

theorem Cal.DateOk.fullYear {c : Cal} (h : c.DateOk) : 2000 ≤ c.fullYear ∧ c.fullYear ≤ 2399 := by
  have year := ofBcd_lt h.yearBcd
  obtain ⟨lo, hi⟩ := h.century
  unfold Cal.fullYear
  have : 20 ≤ ofBcd c.century ∧ ofBcd c.century ≤ 23 := by
    unfold ofBcd
    omega
  omega

/-! ### The next date -/

/-- The registers hold a year of the calendar as BCD (R286). -/
theorem Cal.fullYear_of_toBcd {c : Cal} {y : Nat} (h : y < 10000) (hyear : c.year = toBcd (y % 100))
    (hcentury : c.century = toBcd (y / 100)) : c.fullYear = y := by
  rw [Cal.fullYear, hyear, hcentury, ofBcd_toBcd (by omega), ofBcd_toBcd (by omega)]
  omega

/-- The part of `Cal.nextSecond` that moves the date. -/
def Cal.nextDate (c : Cal) : Cal × Bool :=
  if ofBcd c.day < daysInMonth c.fullYear (ofBcd c.month) then ({ c with day := toBcd (ofBcd c.day + 1) }, false)
  else if ofBcd c.month < 12 then ({ c with day := 1, month := toBcd (ofBcd c.month + 1) }, false)
  else if c.fullYear = 2399 then ({ c with day := 1, month := 1, year := 0, century := 0x20 }, true)
  else
    ({ c with day := 1, month := 1, year := toBcd ((c.fullYear + 1) % 100), century := toBcd ((c.fullYear + 1) / 100) }, false)

theorem Cal.nextDate_rest (c : Cal) :
    c.nextDate.1 = { c with
      day := c.nextDate.1.day, month := c.nextDate.1.month, year := c.nextDate.1.year, century := c.nextDate.1.century } := by
  unfold Cal.nextDate
  split_ifs <;> rfl

/-- The first of a month counts as the days before the month. -/
theorem Cal.days_first {c : Cal} (h : c.day = 1) : c.days = daysToYear c.fullYear + daysToMonth c.fullYear (ofBcd c.month) := by
  rw [Cal.days, h, ofBcd_one, Nat.add_sub_cancel]

theorem january_isMonth : 1 ≤ ofBcd 1 ∧ ofBcd 1 ≤ 12 := by decide

/-- The first of a month is one of its days. -/
theorem first_ofMonth (y m : Nat) : 1 ≤ ofBcd 1 ∧ ofBcd 1 ≤ daysInMonth y m := by
  rw [ofBcd_one]
  exact ⟨le_rfl, (daysInMonth_bounds y m).1⟩

theorem Cal.DateOk.nextDay {c : Cal} (h : c.DateOk) (within : ofBcd c.day < daysInMonth c.fullYear (ofBcd c.month)) :
    Cal.DateOk { c with day := toBcd (ofBcd c.day + 1) } ∧
      Cal.days { c with day := toBcd (ofBcd c.day + 1) } = c.days + 1 := by
  obtain ⟨first, last⟩ := h.day
  have long := (daysInMonth_bounds c.fullYear (ofBcd c.month)).2
  have day : ofBcd (toBcd (ofBcd c.day + 1)) = ofBcd c.day + 1 := ofBcd_toBcd (by omega)
  refine ⟨{ h with dayBcd := bcdOk_toBcd _, day := ?_ }, ?_⟩
  · rw [day]
    exact ⟨by omega, within⟩
  · dsimp only [Cal.days, Cal.fullYear]
    rw [day]
    omega

theorem Cal.DateOk.nextMonth {c : Cal} (h : c.DateOk) (ends : ofBcd c.day = daysInMonth c.fullYear (ofBcd c.month))
    (within : ofBcd c.month < 12) :
    Cal.DateOk { c with day := 1, month := toBcd (ofBcd c.month + 1) } ∧
      Cal.days { c with day := 1, month := toBcd (ofBcd c.month + 1) } = c.days + 1 := by
  have month : ofBcd (toBcd (ofBcd c.month + 1)) = ofBcd c.month + 1 := ofBcd_toBcd (by omega)
  have some : 1 ≤ daysInMonth c.fullYear (ofBcd c.month) := (daysInMonth_bounds _ _).1
  refine ⟨{ h with dayBcd := bcdOk_one, monthBcd := bcdOk_toBcd _, month := ?_, day := first_ofMonth _ _ }, ?_⟩
  · rw [month]
    omega
  · rw [Cal.days_first rfl, Cal.days, ends]
    change daysToYear c.fullYear + daysToMonth c.fullYear (ofBcd (toBcd _)) = _
    rw [month, daysToMonth_succ _ h.month.1]
    omega

theorem Cal.DateOk.nextYear {c : Cal} (h : c.DateOk) (ends : ofBcd c.day = daysInMonth c.fullYear (ofBcd c.month))
    (december : ofBcd c.month = 12) (notLast : c.fullYear < 2399) :
    let d : Cal := { c with
      day := 1, month := 1, year := toBcd ((c.fullYear + 1) % 100), century := toBcd ((c.fullYear + 1) / 100) }
    d.DateOk ∧ d.days = c.days + 1 := by
  intro d
  have year : d.fullYear = c.fullYear + 1 := Cal.fullYear_of_toBcd (by omega) rfl rfl
  have lo := h.fullYear.1
  have some : 1 ≤ daysInMonth c.fullYear 12 := (daysInMonth_bounds _ _).1
  have months := daysToMonth_december c.fullYear
  refine ⟨⟨bcdOk_one, bcdOk_one, bcdOk_toBcd _, bcdOk_toBcd _, ?_, january_isMonth, first_ofMonth _ _⟩, ?_⟩
  · rw [toNat_toBcd]
    omega
  · rw [Cal.days_first rfl, Cal.days, ends, december, year, ofBcd_one, daysToMonth_one, daysToYear_succ lo]
    omega

/-- The calendar begins with the first of January 2000 (R287). -/
theorem Cal.firstDate (c : Cal) :
    Cal.DateOk { c with day := 1, month := 1, year := 0, century := 0x20 } ∧
      Cal.days { c with day := 1, month := 1, year := 0, century := 0x20 } = 0 := by
  have bcd : bcdOk 0x20 = true := by decide
  have century : 0x20 ≤ (0x20 : Byte).toNat ∧ (0x20 : Byte).toNat ≤ 0x23 := by decide
  refine ⟨⟨bcdOk_one, bcdOk_one, bcdOk_zero, bcd, century, january_isMonth, first_ofMonth _ _⟩, ?_⟩
  rw [Cal.days_first rfl, Cal.fullYear_of_toBcd (y := 2000) (by decide) rfl rfl, ofBcd_one, daysToMonth_one, daysToYear_first]

/-- The date after a valid one is valid and a day later, over the ends of months and years; the last wraps to the first (R287). -/
theorem Cal.DateOk.nextDate {c : Cal} (h : c.DateOk) :
    c.nextDate.1.DateOk ∧ (c.nextDate.2 = false → c.nextDate.1.days = c.days + 1) ∧
      (c.nextDate.2 = true → c.nextDate.1.days = 0) := by
  have last := h.day.2
  have december := h.month.2
  have years := h.fullYear.2
  unfold Cal.nextDate
  split_ifs with within inYear wraps
  · obtain ⟨ok, later⟩ := h.nextDay within
    exact ⟨ok, fun _ => later, nofun⟩
  · obtain ⟨ok, later⟩ := h.nextMonth (by omega) inYear
    exact ⟨ok, fun _ => later, nofun⟩
  · obtain ⟨ok, first⟩ := c.firstDate
    exact ⟨ok, nofun, fun _ => first⟩
  · obtain ⟨ok, later⟩ := h.nextYear (by omega) (by omega) (by omega)
    exact ⟨ok, fun _ => later, nofun⟩

/-! ### The next second and the next tick -/

/-- The weekday of the next day (R287). -/
def nextWday (w : Byte) : Byte := toBcd (if ofBcd w ≥ 7 then 1 else ofBcd w + 1)

theorem Cal.nextSecond_eq (c : Cal) :
    c.nextSecond =
      if ofBcd c.sec < 59 then ({ c with subsec := 0, sec := toBcd (ofBcd c.sec + 1) }, false)
      else if ofBcd c.min < 59 then ({ c with subsec := 0, sec := 0, min := toBcd (ofBcd c.min + 1) }, false)
      else if ofBcd c.hour < 23 then ({ c with subsec := 0, sec := 0, min := 0, hour := toBcd (ofBcd c.hour + 1) }, false)
      else Cal.nextDate { c with subsec := 0, sec := 0, min := 0, hour := 0, wday := nextWday c.wday } := rfl

/-- The seconds since midnight. -/
def Cal.clock (c : Cal) : Nat := ofBcd c.hour * 3600 + ofBcd c.min * 60 + ofBcd c.sec

theorem Cal.seconds_eq (c : Cal) : c.seconds = c.days * 86400 + c.clock := by
  rw [Cal.seconds, Cal.clock, Nat.add_assoc, Nat.add_assoc, ← Nat.add_assoc (ofBcd c.hour * 3600)]

theorem Cal.seconds_succ {c d : Cal} (days : d.days = c.days) (clock : d.clock = c.clock + 1) : d.seconds = c.seconds + 1 := by
  rw [Cal.seconds_eq, Cal.seconds_eq, days, clock, Nat.add_assoc]

/-- The second after a valid one is valid and a second later, and the calendar wraps to its first second (R287). -/
theorem Cal.nextSecond_ok {c : Cal} (date : c.DateOk) (time : c.TimeOk) :
    (c.nextSecond.1.DateOk ∧ c.nextSecond.1.TimeOk) ∧ c.nextSecond.1.subsec = 0 ∧
      (c.nextSecond.2 = false → c.nextSecond.1.seconds = c.seconds + 1) ∧
      (c.nextSecond.2 = true → c.nextSecond.1.seconds = 0) := by
  have hhour := time.hour
  have hmin := time.min
  have hsec := time.sec
  have zero : ofBcd 0 = 0 := ofBcd_zero
  have lowest : ∀ n, ofBcd 0 ≤ n := fun n => by rw [zero]; exact Nat.zero_le n
  rw [Cal.nextSecond_eq]
  split_ifs with secs mins hours
  · have sec : ofBcd (toBcd (ofBcd c.sec + 1)) = ofBcd c.sec + 1 := ofBcd_toBcd (by omega)
    refine ⟨⟨{ date with }, { time with secBcd := bcdOk_toBcd _, sec := ?_ }⟩, rfl, fun _ => Cal.seconds_succ rfl ?_, nofun⟩
    · rw [sec]
      exact secs
    · dsimp only [Cal.clock]
      rw [sec]
      omega
  · have min : ofBcd (toBcd (ofBcd c.min + 1)) = ofBcd c.min + 1 := ofBcd_toBcd (by omega)
    refine ⟨⟨{ date with }, { time with secBcd := bcdOk_zero, sec := lowest _, minBcd := bcdOk_toBcd _, min := ?_ }⟩, rfl,
      fun _ => Cal.seconds_succ rfl ?_, nofun⟩
    · rw [min]
      exact mins
    · dsimp only [Cal.clock]
      rw [min, zero]
      omega
  · have hour : ofBcd (toBcd (ofBcd c.hour + 1)) = ofBcd c.hour + 1 := ofBcd_toBcd (by omega)
    refine ⟨⟨{ date with }, { time with
      secBcd := bcdOk_zero, sec := lowest _, minBcd := bcdOk_zero, min := lowest _, hourBcd := bcdOk_toBcd _, hour := ?_ }⟩, rfl,
      fun _ => Cal.seconds_succ rfl ?_, nofun⟩
    · rw [hour]
      exact hours
    · dsimp only [Cal.clock]
      rw [hour, zero]
      omega
  · have midnight : c.clock = 86399 := by
      unfold Cal.clock
      omega
    generalize hm : ({ c with subsec := 0, sec := 0, min := 0, hour := 0, wday := nextWday c.wday } : Cal) = m
    have mdate : m.DateOk := by subst hm; exact { date with }
    have mdays : m.days = c.days := by subst hm; rfl
    obtain ⟨ok, later, wrapped⟩ := mdate.nextDate
    have rest := m.nextDate_rest
    have clock : m.nextDate.1.clock = 0 := by
      subst hm
      rw [rest]
      simp only [Cal.clock, ofBcd_zero]
    rw [mdays] at later
    refine ⟨⟨ok, ?_⟩, by subst hm; rw [rest], fun h => ?_, fun h => ?_⟩
    · subst hm
      rw [rest]
      exact ⟨bcdOk_zero, bcdOk_zero, bcdOk_zero, bcdOk_toBcd _, lowest _, lowest _, lowest _⟩
    · rw [Cal.seconds_eq, Cal.seconds_eq, clock, midnight, later h]
      omega
    · rw [Cal.seconds_eq, clock, wrapped h]

/-- Settles O32: within a second SUBSEC counts the tick, and at its end the next second follows. -/
theorem aTickMovesAValidCalendarByOneTick : Obligations.ATickMovesAValidCalendarByOneTick := by
  unfold Obligations.ATickMovesAValidCalendarByOneTick
  intro c hvalid hsub
  obtain ⟨date, time⟩ := c.valid_iff.mp hvalid
  unfold Cal.nextTick
  split
  next within =>
    have subsec : (c.subsec + 1).toNat = c.subsec.toNat + 1 := by bv_omega
    refine ⟨hvalid, ?_, fun _ => ?_, nofun⟩
    · dsimp only
      omega
    · dsimp only [Cal.ticks]
      rw [subsec]
      rfl
  next last =>
    obtain ⟨ok, subsec, later, wrapped⟩ := Cal.nextSecond_ok date time
    have begins : c.nextSecond.1.subsec.toNat = 0 := congrArg BitVec.toNat subsec
    refine ⟨(Cal.valid_iff _).mpr ok, by omega, fun h => ?_, fun h => ?_⟩
    · rw [Cal.ticks, Cal.ticks, begins, later h]
      omega
    · rw [Cal.ticks, begins, wrapped h]

end Sys2Proof.Machine
end

section
/-! SUPPORT and PROOF of O15. A wake: the source of the lowest code among those raised together, CORE on the internal RC, and the
last-wake record (R303, R304, R528 to R530). -/

namespace Sys2Proof.Machine

/-! ### The lowest code (R304) -/

theorem wakeRank_succ {w : WakeSource} (h : w ≠ .supervisor) : wakeRank w + 1 = wakeCode w := by
  cases w
  case supervisor => exact absurd rfl h
  all_goals rfl

theorem wakeRank_lt_supervisor {w : WakeSource} (h : w ≠ .supervisor) : wakeRank w < wakeRank .supervisor := by
  cases w
  case supervisor => exact absurd rfl h
  all_goals decide

theorem lowestSource_spec {l : List WakeSource} (h : l ≠ []) :
    ∃ u, lowestSource l = some u ∧ u ∈ l ∧ ∀ v ∈ l, wakeRank u ≤ wakeRank v := by
  induction l with
  | nil => exact absurd rfl h
  | cons w l ih =>
    rcases eq_or_ne l [] with rfl | hl
    · exact ⟨w, rfl, by simp, by simp⟩
    · obtain ⟨u, hu, hmem, hlow⟩ := ih hl
      refine ⟨if wakeRank u < wakeRank w then u else w, by rw [lowestSource, hu], ?_⟩
      split_ifs with lower
      · exact ⟨List.mem_cons_of_mem _ hmem, fun v hv => by rcases List.mem_cons.mp hv with rfl | hv; exacts [lower.le, hlow v hv]⟩
      · refine ⟨List.mem_cons_self, fun v hv => ?_⟩
        rcases List.mem_cons.mp hv with rfl | hv
        · exact le_rfl
        · exact (not_lt.mp lower).trans (hlow v hv)

theorem mem_raisedWith {s : Vol} {w : WakeSource} (also : List WakeSource) (h : sourceActive s w = true) :
    w ∈ raisedWith s (w :: also) := by
  have named : w ∈ (w :: also).filter (sourceActive s) := List.mem_filter.mpr ⟨List.mem_cons_self, h⟩
  unfold raisedWith
  dsimp only
  split
  · exact List.mem_append_left _ named
  · exact named

/-- u has the lowest code among the sources l, and is none of the supervisor's own wakes. -/
structure LowestOf (l : List WakeSource) (u : WakeSource) : Prop where
  mem : u ∈ l
  ne : u ≠ .supervisor
  le : ∀ v ∈ l, v ≠ .supervisor → wakeCode u ≤ wakeCode v

/-- The supervisor's own wakes come last, so a wake with a source has the lowest code of its sources. -/
theorem lowestSource_lowestOf {l : List WakeSource} {w : WakeSource} (hw : w ∈ l) (hne : w ≠ .supervisor) :
    ∃ u, lowestSource l = some u ∧ LowestOf l u := by
  obtain ⟨u, hu, hmem, hlow⟩ := lowestSource_spec (List.ne_nil_of_mem hw)
  have hsup : u ≠ .supervisor := by
    rintro rfl
    exact absurd (hlow w hw) (not_le.mpr (wakeRank_lt_supervisor hne))
  refine ⟨u, hu, hmem, hsup, fun v hv hv' => ?_⟩
  rw [← wakeRank_succ hsup, ← wakeRank_succ hv']
  exact Nat.succ_le_succ (hlow v hv)

/-! ### A wake (R530) -/

/-- The state with the last-wake record rewritten, for a wake source (R303, R529). -/
def recorded (source : WakeSource) (collision : Bool) (s : Vol) : Vol :=
  if source == .supervisor then s else wakeRecord (wakeCode source) collision s

theorem recorded_count (source : WakeSource) (collision : Bool) (s : Vol) : (recorded source collision s).bak.count = s.bak.count := by
  unfold recorded
  split <;> rfl

theorem recorded_of_ne {source : WakeSource} (h : source ≠ .supervisor) (collision : Bool) (s : Vol) :
    recorded source collision s = wakeRecord (wakeCode source) collision s := by
  unfold recorded
  rw [if_neg (by simpa using h)]

/-- CORE runs on the internal RC, and the record is the source's. -/
structure Woken (source : WakeSource) (collision : Bool) (s t : Vol) : Prop where
  state : t.bak.power.state = .doze
  core : t.bak.power.core = true
  full : t.bak.power.full = true
  src : t.bak.power.src = .rc
  attempts : t.bak.power.attempts = 0
  lastWake : t.bak.lastWake = (recorded source collision s).bak.lastWake
  count : t.bak.count = s.bak.count

theorem wakeFor_woken (nv : Nv) (source : WakeSource) (collision : Bool) (s : Vol) :
    Woken source collision s (wakeFor nv source collision s) := by
  have power := wakeUp_power nv (recorded source collision s)
  obtain ⟨-, count, lastWake, -, -⟩ := wakeUp_rest nv (recorded source collision s)
  have up : Woken source collision s (wakeUp nv (recorded source collision s)) :=
    ⟨by rw [power], by rw [power], by rw [power], by rw [power], by rw [power], lastWake, count.trans (recorded_count _ _ s)⟩
  change Woken source collision s (if source == .periodic then periodicDuties nv (wakeUp nv (recorded source collision s)) else _)
  split
  · have duties := periodicDuties_bak nv (wakeUp nv (recorded source collision s))
    constructor <;> rw [duties]
    exacts [up.state, up.core, up.full, up.src, up.attempts, up.lastWake, up.count]
  · exact up

/-! ### The sources of a wake (R528, R529) -/

/-- v is the state s with pins seen and a free value taken: what the sources of a wake read is as before. -/
structure PinsSeen (s v : Vol) : Prop where
  bak : v.bak = { s.bak with power.wakeNIsLow := v.bak.power.wakeNIsLow, power.wakeNLow := v.bak.power.wakeNLow }
  active : sourceActive v = sourceActive s

theorem PinsSeen.canWake {s v : Vol} (h : PinsSeen s v) : canWake v = canWake s := by
  rw [Machine.canWake, h.bak, Machine.canWake]

theorem PinsSeen.raisedWith {s v : Vol} (h : PinsSeen s v) (l : List WakeSource) : raisedWith v l = raisedWith s l := by
  unfold Machine.raisedWith
  rw [h.active]

theorem PinsSeen.refl (s : Vol) : PinsSeen s s := ⟨rfl, rfl⟩

theorem seePins_pinsSeen (r : Raised) (s : Vol) : PinsSeen s (seePins r s) := ⟨rfl, rfl⟩

theorem freeBit_pinsSeen (s : Vol) : PinsSeen s (freeBit s).2 := ⟨rfl, rfl⟩

theorem tryWake_wakeFor (nv : Nv) {s : Vol} {w : WakeSource} (also : List WakeSource) (low collision : Bool)
    (hcan : canWake s = true) (hactive : sourceActive s w = true) (hne : w ≠ .supervisor) :
    ∃ u, LowestOf (raisedWith s (w :: also)) u ∧
      tryWake nv ⟨w, also, low⟩ collision s = wakeFor nv u (collision && s.bak.power.entering) s := by
  obtain ⟨u, hu, lowest⟩ := lowestSource_lowestOf (mem_raisedWith also hactive) hne
  refine ⟨u, lowest, ?_⟩
  simp only [tryWake, hcan, hactive, hu, Bool.and_self, if_true]

theorem raiseWake_tryWake (nv : Nv) {s : Vol} {w : WakeSource} (also : List WakeSource) (hcan : canWake s = true)
    (hactive : sourceActive s w = true) :
    ∃ met v, PinsSeen s v ∧ raiseWake nv w also s = tryWake nv ⟨w, also, false⟩ met v := by
  cases h : s.bak.power.entering
  · exact ⟨false, s, .refl s, by simp [raiseWake, hcan, hactive, h]⟩
  · exact ⟨(freeBit s).1, (freeBit s).2, freeBit_pinsSeen s, by simp [raiseWake, hcan, hactive, h]⟩

/-- The command c raises the source w, with the sources `also` (R533). -/
def Raises (s : Vol) (c : Instr) (w : WakeSource) (also : List WakeSource) : Prop :=
  (c = .cycleWakeLead ∧ w = .cycle ∧ also = [] ∧ isPrimary s = false) ∨
    (c = .auxSlotWakeLead ∧ w = .auxSlot ∧ also = [.cycle]) ∨
    (c = .alarmMatch false ∧ w = .alarmA ∧ also = []) ∨ (c = .alarmMatch true ∧ w = .alarmB ∧ also = [])

theorem exec_raises {s : State} {c : Instr} {w : WakeSource} {also : List WakeSource} (h : Raises s.vol c w also) :
    exec c s = .next (s.up (raiseWake s.nv w also s.vol)) ∧ ∀ r collision, c ≠ .wake r collision := by
  rcases h with ⟨rfl, rfl, rfl, hprimary⟩ | ⟨rfl, rfl, rfl⟩ | ⟨rfl, rfl, rfl⟩ | ⟨rfl, rfl, rfl⟩
  · refine ⟨?_, nofun⟩
    change execCycleWakeLead s = _
    rw [execCycleWakeLead, hprimary]
    rfl
  all_goals exact ⟨rfl, nofun⟩

/-- A command that names a source, or raises one, tries its wake. -/
theorem exec_tryWake {s : State} {c : Instr} {w : WakeSource} {also : List WakeSource} (hcan : canWake s.vol = true)
    (hactive : sourceActive s.vol w = true)
    (h : (∃ low collision, c = .wake ⟨w, also, low⟩ collision) ∨ Raises s.vol c w also) :
    ∃ low met v, PinsSeen s.vol v ∧ exec c s = .next (s.up (tryWake s.nv ⟨w, also, low⟩ met v)) ∧
      ∀ low' collision, c = .wake ⟨w, also, low'⟩ collision → met = collision := by
  rcases h with ⟨low, collision, rfl⟩ | h
  · exact ⟨low, collision, _, seePins_pinsSeen _ _, rfl, by rintro _ _ ⟨⟩; rfl⟩
  · obtain ⟨hexec, hnone⟩ := exec_raises h
    obtain ⟨met, v, seen, hraise⟩ := raiseWake_tryWake s.nv also hcan hactive
    exact ⟨false, met, v, seen, by rw [hexec, hraise], fun _ _ hc => absurd hc (hnone _ _)⟩

/-- Settles O15: the command tries the wake, the lowest source has it, and the record is rewritten before CORE runs. -/
theorem aWakeRunsCoreAndRecordsItsSource : Obligations.AWakeRunsCoreAndRecordsItsSource := by
  unfold Obligations.AWakeRunsCoreAndRecordsItsSource
  intro s c w also hcan hactive hne hcommand
  obtain ⟨low, met, v, seen, hexec, hmet⟩ := exec_tryWake hcan hactive hcommand
  obtain ⟨u, lowest, hwake⟩ := tryWake_wakeFor s.nv also low met (seen.canWake.trans hcan) (by rw [seen.active, hactive]) hne
  rw [seen.raisedWith] at lowest
  rw [hwake] at hexec
  have woken := wakeFor_woken s.nv u (met && v.bak.power.entering) v
  have record := woken.lastWake
  rw [recorded_of_ne lowest.ne] at record
  have entering : v.bak.power.entering = s.vol.bak.power.entering := by rw [seen.bak]
  have before : v.bak.osf = s.vol.bak.osf ∧ v.bak.cal = s.vol.bak.cal ∧ v.bak.lastWake = s.vol.bak.lastWake ∧
      v.bak.count = s.vol.bak.count := by
    rw [seen.bak]
    exact ⟨rfl, rfl, rfl, rfl⟩
  obtain ⟨osf, cal, lastWake, count⟩ := before
  refine ⟨_, u, hexec, woken.state, woken.core, woken.full, woken.src, woken.attempts, lowest.mem, lowest.ne, lowest.le, ?_⟩
  rw [State.up_vol, record, woken.count]
  refine ⟨rfl, fun h => ?_, fun _ _ hc h => ?_, osf, congrArg Cal.subsec cal, by rw [← lastWake]; rfl, count, rfl⟩
  · simp [wakeRecord, entering, h]
  · simp [wakeRecord, entering, h, hmet _ _ hc]

end Sys2Proof.Machine
end

section
/-! SUPPORT. What the LEDGER's steps (R311 to R336) can change: HWM, the objects that wait for an interval, the flow, the ports, the
store's working state and retained RAM. `LedgerBak` leaves the held ticks open; a step on a tick leaves them as they are. -/

namespace Sys2Proof.Machine

/-- s' differs from s in HWM, the objects, the flow, the ports, the store's working state and retained RAM at most. -/
structure LedgerFrame (s s' : Vol) : Prop where
  only : s' = { s with
    bak.hwm := s'.bak.hwm
    work.flow := s'.work.flow
    work.obj := s'.work.obj
    work.store := s'.work.store
    work.pt := s'.work.pt
    ret := s'.ret }

theorem LedgerFrame.refl (s : Vol) : LedgerFrame s s := ⟨rfl⟩

theorem LedgerFrame.trans {a b c : Vol} (h : LedgerFrame a b) (k : LedgerFrame b c) : LedgerFrame a c :=
  ⟨by rw [k.only, h.only]⟩

theorem LedgerFrame.after {a b c : Vol} (k : LedgerFrame b c) (h : LedgerFrame a b) : LedgerFrame a c := h.trans k

theorem LedgerFrame.bak {s s' : Vol} (h : LedgerFrame s s') : s'.bak = { s.bak with hwm := s'.bak.hwm } := by rw [h.only]
theorem LedgerFrame.ex {s s' : Vol} (h : LedgerFrame s s') : s'.work.ex = s.work.ex := by rw [h.only]

theorem BookFrame.ledgerFrame {s s' : Vol} (h : BookFrame s s') : LedgerFrame s s' := ⟨by rw [h.only]⟩

theorem LogFrame.ledgerFrame {s s' : Vol} (h : LogFrame s s') : LedgerFrame s s' := h.bookFrame.ledgerFrame

theorem ledgerFrame_foldl {α : Type} {f : Vol → α → Vol} (h : ∀ s a, LedgerFrame s (f s a)) (l : List α) (s : Vol) :
    LedgerFrame s (l.foldl f s) := by
  induction l generalizing s with
  | nil => exact .refl s
  | cons a l ih => exact (h s a).trans (ih _)

/-! ### Bookings and pages -/

theorem bookLoop_bookFrame (c : BitVec 32) (s : Vol) : BookFrame s (bookLoop c s) := by
  unfold bookLoop
  dsimp only
  split
  · exact .refl s
  · split <;> exact ⟨rfl⟩

theorem bookEvent_ledgerFrame (c : BitVec 32) (s : Vol) : LedgerFrame s (bookEvent c s) := by
  unfold bookEvent
  split
  · exact .refl s
  · split
    · exact (bookLoop_bookFrame c s).ledgerFrame
    · split
      · exact .refl s
      · exact (bookTo_bookFrame c s).ledgerFrame

theorem writeRec_ledgerFrame (nv : Nv) (r : Rec) (change : Bool) (s : Vol) : LedgerFrame s (writeRec nv r change s) := by
  unfold writeRec drainRecord
  refine .after (submitGuarded_frame _ _).ledgerFrame (.after (ledgerFrame_foldl (fun s p => ?_) _ _) ⟨rfl⟩)
  exact (submit_frame _ s).ledgerFrame

theorem writeRingA_ledgerFrame (nv : Nv) (s : Vol) : LedgerFrame s (writeRingA nv s) := by
  unfold writeRingA
  split
  · exact (submitGuarded_frame _ s).ledgerFrame
  · exact .refl s

theorem writeRingB_ledgerFrame (nv : Nv) (s : Vol) : LedgerFrame s (writeRingB nv s) := by
  unfold writeRingB
  split
  · exact (submitGuarded_frame _ s).ledgerFrame
  · exact .refl s

theorem writeRings_ledgerFrame (nv : Nv) (s : Vol) : LedgerFrame s (writeRings nv s) :=
  (writeRingA_ledgerFrame nv s).trans (writeRingB_ledgerFrame nv _)

theorem appendProfile_ledgerFrame (r : Nat) (s : Vol) : LedgerFrame s (appendProfile r s) := by
  unfold appendProfile
  dsimp only
  split
  · exact .after (submitGuarded_frame _ _).ledgerFrame (.after (submitGuarded_frame _ _).ledgerFrame ⟨rfl⟩)
  · exact .after (submitGuarded_frame _ _).ledgerFrame ⟨rfl⟩

theorem appendAnchor_ledgerFrame (ticks kind : Nat) (untrusted clockSet : Bool) (s : Vol) :
    LedgerFrame s (appendAnchor ticks kind untrusted clockSet s) := appendProfile_ledgerFrame _ s

/-! ### Intervals, tokens and tariffs -/

theorem takeTariff_ledgerFrame (t : Nat) (s : Vol) : LedgerFrame s (takeTariff t s) := by
  unfold takeTariff
  dsimp only
  split
  · exact .after (logG_frame _ _ _).ledgerFrame ⟨rfl⟩
  · exact ⟨rfl⟩

theorem closeGaps_ledgerFrame (s : Vol) : LedgerFrame s (closeGaps s) := by
  have marked : ∀ g (s : Vol), LedgerFrame s (markUnfilled g s) := fun g s => (markUnfilled_bookFrame g s).ledgerFrame
  unfold closeGaps
  refine .trans (.after (ledgerFrame_foldl (fun s g => marked g s) _ _) ?_) ⟨rfl⟩
  split
  · exact .refl s
  · split <;> exact marked _ s

theorem closeInterval_ledgerFrame (nv : Nv) (s : Vol) : LedgerFrame s (closeInterval nv s) := by
  have closed := (closeGaps_ledgerFrame s).trans
    (appendProfile_ledgerFrame (intervalRecord (closeGaps s).ret.led.interval (prevTariffOf (closeGaps s))) _)
  unfold closeInterval
  dsimp only
  generalize appendProfile _ (closeGaps s) = u at closed ⊢
  split
  · exact .refl s
  · split
    · exact .after (writeRec_ledgerFrame nv _ _ _) (closed.trans ⟨rfl⟩)
    · exact closed.trans ⟨rfl⟩

theorem closeSpan_ledgerFrame (now : Nat) (s : Vol) : LedgerFrame s (closeSpan now s) := by
  unfold closeSpan
  dsimp only
  split <;> exact ⟨rfl⟩

theorem openInterval_ledgerFrame (ticks : Nat) (clockSet powerDown : Bool) (s : Vol) :
    LedgerFrame s (openInterval ticks clockSet powerDown s) := ⟨rfl⟩

theorem applyTokens_ledgerFrame (nv : Nv) (s : Vol) : LedgerFrame s (applyTokens nv s) := by
  unfold applyTokens
  dsimp only
  split
  · exact .refl s
  · refine .after (writeRingB_ledgerFrame nv _) (.trans ?_ ⟨rfl⟩)
    exact .after (ledgerFrame_foldl (fun s t => ⟨rfl⟩) _ _) (bookEvent_ledgerFrame _ s)

/-! ### HWM and billing periods -/

theorem hwmTakes_ledgerFrame (t : Nat) (s : Vol) : LedgerFrame s (hwmTakes t s) := by
  unfold hwmTakes
  split <;> exact ⟨rfl⟩

theorem advanceHwm_ledgerFrame (t : Nat) (s : Vol) : LedgerFrame s (advanceHwm t s) := by
  unfold advanceHwm
  dsimp only
  split
  · split
    · exact .after (logM_frame _ _ _).ledgerFrame ⟨rfl⟩
    · exact ⟨rfl⟩
  · exact .refl s

theorem billingClose_ledgerFrame (nv : Nv) (t b l : Nat) (x y z : Bool) (s : Vol) :
    LedgerFrame s (billingClose nv t b l x y z s) := by
  unfold billingClose
  refine .after (logM_frame _ _ _).ledgerFrame (.after (writeRingB_ledgerFrame nv _) (.after (writeRec_ledgerFrame nv _ _ _) ?_))
  exact .after (submitAll_frame _ _).ledgerFrame ⟨rfl⟩

theorem billingTest_ledgerFrame (nv : Nv) (before t : Nat) (x y z : Bool) (s : Vol) :
    LedgerFrame s (billingTest nv before t x y z s) := by
  have suppressed := (logLimitedTimes_frame .metrology 0x0305 0xFF 0xFF (boundsPassed s before t) s).ledgerFrame
  unfold billingTest
  dsimp only
  generalize logLimitedTimes .metrology 0x0305 0xFF 0xFF (boundsPassed s before t) s = u at suppressed ⊢
  refine .after (advanceHwm_ledgerFrame t _) (suppressed.trans ?_)
  split
  · refine .after (billingClose_ledgerFrame nv _ _ _ _ _ _ _) ?_
    split
    · exact .after (logM_frame _ _ _).ledgerFrame ⟨rfl⟩
    · exact .refl u
  · exact .refl u

theorem billingStep_ledgerFrame (nv : Nv) (before t : Nat) (x y z : Bool) (s : Vol) :
    LedgerFrame s (billingStep nv before t x y z s) := by
  unfold billingStep
  dsimp only
  split
  · exact ⟨rfl⟩
  · exact .after (billingTest_ledgerFrame nv _ _ _ _ _ _) ⟨rfl⟩

/-! ### Held ticks (R335, R336) -/

theorem quarterTick_ledgerFrame (nv : Nv) (t : Nat) (c : BitVec 32) (s : Vol) : LedgerFrame s (quarterTick nv t c s) := by
  have closed : LedgerFrame s (closeInterval nv (closeSpan t (applyTokens nv (bookEvent c s)))) :=
    .after (closeInterval_ledgerFrame nv _) (.after (closeSpan_ledgerFrame t _)
      (.after (applyTokens_ledgerFrame nv _) (bookEvent_ledgerFrame c s)))
  unfold quarterTick
  dsimp only
  generalize closeInterval nv _ = u at closed ⊢
  refine .after (writeRings_ledgerFrame nv _) (.after (takeTariff_ledgerFrame t _) (.after (hwmTakes_ledgerFrame t _)
    (.after (openInterval_ledgerFrame t _ _ _) (closed.trans ?_))))
  split
  · exact appendAnchor_ledgerFrame _ _ _ _ u
  · exact .refl u

theorem ledgerOsf_ledgerFrame (s : Vol) : LedgerFrame s (ledgerOsf s) := by
  unfold ledgerOsf
  split <;> exact ⟨rfl⟩

theorem heldSteps_ledgerFrame (nv : Nv) (t : HeldTick) (s : Vol) : LedgerFrame s (heldSteps nv t s) := by
  have booked : LedgerFrame s (if t.osf then ledgerOsf (bookEvent t.count s) else bookEvent t.count s) := by
    split
    · exact .after (ledgerOsf_ledgerFrame _) (bookEvent_ledgerFrame _ s)
    · exact bookEvent_ledgerFrame _ s
  unfold heldSteps
  dsimp only
  generalize (if t.osf then ledgerOsf (bookEvent t.count s) else bookEvent t.count s) = u at booked ⊢
  have closed : LedgerFrame u (if intervalDue u then quarterTick nv t.ticks t.count u else u) := by
    split
    · exact quarterTick_ledgerFrame nv _ _ u
    · exact .refl u
  exact (booked.trans closed).trans (billingStep_ledgerFrame nv _ _ _ _ _ _)

theorem heldTick_heldTicks (nv : Nv) (t : HeldTick) (s : Vol) : (heldTick nv t s).bak.heldTicks = s.bak.heldTicks := by
  have steps := (heldSteps_ledgerFrame nv t { s with bak := atTick t s.bak }).bak
  simp only [heldTick]
  rw [steps]
  rfl

/-- The held ticks are taken off their list as they are processed (R335). -/
theorem processHeld_heldTicks (nv : Nv) (s : Vol) : (processHeld nv s).bak.heldTicks = [] := by
  have stands : ∀ (l : List HeldTick) (s : Vol), (l.foldl (fun s t => heldTick nv t s) s).bak.heldTicks = s.bak.heldTicks := by
    intro l
    induction l with
    | nil => exact fun _ => rfl
    | cons t l ih => exact fun s => (ih _).trans (heldTick_heldTicks nv t s)
  unfold processHeld
  dsimp only
  split
  · rfl
  · exact stands _ _

/-! ### A step of the clock (R331, R333) -/

theorem LedgerFrame.setOsf {s s' : Vol} (b : Bool) (h : LedgerFrame s s') :
    LedgerFrame { s with bak.osf := b } { s' with bak.osf := b } := ⟨by rw [h.only]⟩

/-- OSF as a commit leaves it, over what the LEDGER does to its state before. -/
theorem LedgerFrame.clearOsf {s s' : Vol} (clears : Bool) (h : LedgerFrame s s') :
    LedgerFrame { s with bak.osf := !clears && s.bak.osf } (if clears then { s' with bak.osf := false } else s') := by
  cases clears
  · exact h
  · exact h.setOsf false

/-- A step of the clock clears OSF where the commit does, and leaves the engine and the rest of the timekeeper but for HWM. -/
theorem ledgerStep_ledgerFrame (nv : Nv) (old new : Nat) (clears : Bool) (s : Vol) :
    LedgerFrame { s with bak.osf := !clears && s.bak.osf } (ledgerStep nv old new clears s) := by
  have closed : ∀ u, LedgerFrame s u →
      LedgerFrame s (closeInterval nv (closeSpan old { u with ret.led.interval.clockSet := true })) :=
    fun u h => .after (closeInterval_ledgerFrame nv _) (.after (closeSpan_ledgerFrame old _) (h.trans ⟨rfl⟩))
  have before := closed _ (.after (applyTokens_ledgerFrame nv _) (bookEvent_ledgerFrame s.bak.count s))
  unfold ledgerStep
  dsimp only
  generalize closeInterval nv _ = u at before ⊢
  split
  · exact (LedgerFrame.refl s).clearOsf clears
  · have cleared := (before.trans (appendAnchor_ledgerFrame old 2 u.bak.osf true u)).clearOsf clears
    generalize (if clears = true then _ else appendAnchor old 2 u.bak.osf true u) = v at cleared ⊢
    refine .after (writeRings_ledgerFrame nv _) (.after (takeTariff_ledgerFrame new _)
      (.after (billingStep_ledgerFrame nv _ _ _ _ _ _) (cleared.trans ?_)))
    have opened : LedgerFrame v (openInterval new true false (appendAnchor new 3 v.bak.osf true v)) :=
      (appendAnchor_ledgerFrame new 3 _ true v).trans (openInterval_ledgerFrame new true false _)
    generalize openInterval new true false _ = w at opened ⊢
    split
    · exact .after (logM_frame _ _ _).ledgerFrame (opened.trans ⟨rfl⟩)
    · exact opened

end Sys2Proof.Machine
end

section
/-! SUPPORT and PROOF of O2. One LF tick (R282, R287, R294): what it makes of the timekeeper, with the wakes before and after it. -/

namespace Sys2Proof.Machine

/-! ### Before and after the count moves -/

/-- Of the timekeeper s' differs from s in HWM, the periodic wake and PWRON at most, and of the LEDGER in the time of the tick that has
been processed. -/
structure TimeStands (s s' : Vol) : Prop where
  bak : s'.bak = { s.bak with
    hwm := s'.bak.hwm
    pwake := s'.bak.pwake
    pwronTick := s'.bak.pwronTick
    pwronLevel := s'.bak.pwronLevel }
  led : s'.ret.led = { s.ret.led with seen := s'.ret.led.seen }

theorem TimeStands.refl (s : Vol) : TimeStands s s := ⟨rfl, rfl⟩

theorem TimeStands.trans {a b c : Vol} (h : TimeStands a b) (k : TimeStands b c) : TimeStands a c :=
  ⟨by rw [k.bak, h.bak], by rw [k.led, h.led]⟩

theorem TimeStands.osf {s s' : Vol} (h : TimeStands s s') : s'.bak.osf = s.bak.osf := by rw [h.bak]
theorem TimeStands.osfCause {s s' : Vol} (h : TimeStands s s') : s'.bak.osfCause = s.bak.osfCause := by rw [h.bak]

theorem hwmTakes_timeStands (t : Nat) (s : Vol) : TimeStands s (hwmTakes t s) := by
  unfold hwmTakes
  split <;> exact ⟨rfl, rfl⟩

theorem endTick_timeStands (s : Vol) : TimeStands s (endTick s) := by
  unfold endTick
  split
  · exact .trans (b := { s with ret.led.seen := s.bak.cal.ticks }) ⟨rfl, rfl⟩ (hwmTakes_timeStands _ _)
  · exact .refl s

theorem plainTick_timeStands (s : Vol) : TimeStands s (plainTick s) := by
  unfold plainTick
  split
  · exact hwmTakes_timeStands _ s
  · exact .refl s

theorem setPwron_timeStands (s : Vol) : TimeStands s (setPwron s) := ⟨rfl, rfl⟩

theorem putNext_timeStands (s : Vol) (v : ObjVal) : TimeStands s (putNext s v) := by
  cases v <;> exact ⟨rfl, rfl⟩

theorem takeNext_timeStands (s : Vol) : TimeStands s (takeNext s) := by
  have put : ∀ (l : List ObjVal) (s : Vol), TimeStands s (l.foldl putNext s) := by
    intro l
    induction l with
    | nil => exact .refl
    | cons v l ih => exact fun s => (putNext_timeStands s v).trans (ih _)
  exact (put s.work.obj.nextTick s).trans ⟨rfl, rfl⟩

/-! ### The count moves -/

/-- The calendar's next tick under the slew in force. -/
def calNext (s : Vol) : Cal × Int × Bool × Bool := slewTick s.bak.cal s.bak.slewLeft s.bak.slewHeld

/-- The state with the tick that ends processed and the values that waited for the next one. -/
def tickEnded (s : Vol) : Vol := takeNext (endTick s)

theorem tickEnded_timeStands (s : Vol) : TimeStands s (tickEnded s) := (endTick_timeStands s).trans (takeNext_timeStands _)

theorem calNext_tickEnded (s : Vol) : calNext (tickEnded s) = calNext s := by
  rw [calNext, (tickEnded_timeStands s).bak, calNext]

/-- The free-running count, the calendar and the slew of the next tick. -/
def tickCounted (s : Vol) : Vol :=
  let b := { lfTick s.bak with pwronTick := false, power := { s.bak.power with entering := false } }
  { s with
    bak := { b with
      count := b.count + 1, cal := (calNext s).1, slewLeft := (calNext s).2.1, slewHeld := (calNext s).2.2.1,
      secTick := (calNext s).1.sec != b.cal.sec }
    work.fab := if coreRuns s then { s.work.fab with tick := default } else fabTick s.work.fab
    work.store.scrubDue := s.work.store.scrubDue || scrubTick (b.count + 1)
    ret.avail.elapsed := if availRuns s then satInc s.ret.avail.elapsed else s.ret.avail.elapsed }

/-- OSF where the calendar has wrapped (R287, R297). -/
def wrapTaken (wrap : Bool) (s : Vol) : Vol := if wrap then setOsf 4 (logM 0x0208 0xFF s) else s

/-- A tick: the one that ends, the next count, and what it calls for. -/
theorem tickAdvance_eq {s : Vol} (h : s.bak.power.state ≠ .off) :
    tickAdvance s =
      plainTick (if (calNext (tickEnded s)).1.min != (tickEnded s).bak.cal.min
        then setPwron (wrapTaken (calNext (tickEnded s)).2.2.2 (tickCounted (tickEnded s)))
        else wrapTaken (calNext (tickEnded s)).2.2.2 (tickCounted (tickEnded s))) := by
  unfold tickAdvance
  rw [if_neg (by simpa using h)]
  rfl

theorem tickAdvance_timeStands {s : Vol} (h : s.bak.power.state ≠ .off) :
    TimeStands (wrapTaken (calNext s).2.2.2 (tickCounted (tickEnded s))) (tickAdvance s) := by
  rw [tickAdvance_eq h, calNext_tickEnded]
  generalize wrapTaken _ _ = u
  refine .trans ?_ (plainTick_timeStands _)
  split
  · exact setPwron_timeStands u
  · exact .refl u

theorem lfTick_rest (b : Bak) :
    lfTick b = { b with
      tcAcc := (lfTick b).tcAcc, lfPeriods := (lfTick b).lfPeriods, tcAdded := (lfTick b).tcAdded } := by
  unfold lfTick
  dsimp only
  split
  · rfl
  · split <;> rfl

/-- t is a tick later than s. -/
structure Ticked (s t : Vol) : Prop where
  count : t.bak.count = s.bak.count + 1
  cal : t.bak.cal = (calNext s).1
  state : t.bak.power.state = s.bak.power.state

/-- A tick that ends no calendar leaves OSF and the LEDGER, and takes its part of the slew. -/
structure Slewed (s t : Vol) : Prop where
  slewLeft : t.bak.slewLeft = (calNext s).2.1
  slewHeld : t.bak.slewHeld = (calNext s).2.2.1
  osf : t.bak.osf = s.bak.osf
  led : t.ret.led = { s.ret.led with seen := t.ret.led.seen }

theorem tickCounted_ticked (s : Vol) : Ticked s (tickCounted (tickEnded s)) := by
  have ended := (tickEnded_timeStands s).bak
  refine ⟨?_, congrArg (·.1) (calNext_tickEnded s), ?_⟩
  · change (lfTick (tickEnded s).bak).count + 1 = _
    rw [lfTick_rest, ended]
  · change (tickEnded s).bak.power.state = _
    rw [ended]

theorem tickCounted_slewed (s : Vol) : Slewed s (tickCounted (tickEnded s)) := by
  have ended := tickEnded_timeStands s
  have next := calNext_tickEnded s
  refine ⟨congrArg (·.2.1) next, congrArg (·.2.2.1) next, ?_, ended.led⟩
  change (lfTick (tickEnded s).bak).osf = _
  rw [lfTick_rest, ended.bak]

theorem tickAdvance_ticked {s : Vol} (h : s.bak.power.state ≠ .off) : Ticked s (tickAdvance s) := by
  obtain ⟨count, cal, state⟩ := tickCounted_ticked s
  obtain ⟨-, -, hcal, hcount, hpower⟩ := setOsf_bak 4 (logM 0x0208 0xFF (tickCounted (tickEnded s)))
  rw [logM_bak] at hcal hcount hpower
  have wrapped : Ticked s (wrapTaken (calNext s).2.2.2 (tickCounted (tickEnded s))) := by
    unfold wrapTaken
    split
    · exact ⟨hcount.trans count, hcal.trans cal, (congrArg Power.state hpower).trans state⟩
    · exact ⟨count, cal, state⟩
  constructor <;> rw [(tickAdvance_timeStands h).bak]
  exacts [wrapped.count, wrapped.cal, wrapped.state]

theorem tickAdvance_slewed {s : Vol} (h : s.bak.power.state ≠ .off) (hwrap : (calNext s).2.2.2 = false) :
    Slewed s (tickAdvance s) := by
  have stands := tickAdvance_timeStands h
  obtain ⟨left, held, osf, led⟩ := tickCounted_slewed s
  rw [hwrap, wrapTaken, if_neg (by decide)] at stands
  exact ⟨by rw [stands.bak, left], by rw [stands.bak, held], by rw [stands.bak, osf], by rw [stands.led, led]⟩

/-- The wrap of the calendar sets OSF with cause 4 (R297). -/
theorem tickAdvance_wraps {s : Vol} (h : s.bak.power.state ≠ .off) (hwrap : (calNext s).2.2.2 = true) :
    (tickAdvance s).bak.osf = true ∧ (tickAdvance s).bak.osfCause = 4 := by
  have stands := tickAdvance_timeStands h
  obtain ⟨hosf, hcause, -⟩ := setOsf_bak 4 (logM 0x0208 0xFF (tickCounted (tickEnded s)))
  rw [hwrap, wrapTaken, if_pos rfl] at stands
  exact ⟨stands.osf.trans hosf, stands.osfCause.trans hcause⟩

/-! ### With the wakes -/

theorem WakeBak.timekeeper {s t : Vol} (h : WakeBak s t) :
    t.bak.count = s.bak.count ∧ t.bak.osf = s.bak.osf ∧ t.bak.osfCause = s.bak.osfCause ∧ t.bak.cal = s.bak.cal ∧
      t.bak.slewLeft = s.bak.slewLeft ∧ t.bak.slewHeld = s.bak.slewHeld := by
  rw [h.only]
  exact ⟨rfl, rfl, rfl, rfl, rfl, rfl⟩

theorem WakeBak.calNext {s t : Vol} (h : WakeBak s t) : calNext t = calNext s := by
  rw [Machine.calNext, h.only, Machine.calNext]

theorem tryWake_state (nv : Nv) (r : Raised) (collision : Bool) (s : Vol) :
    (tryWake nv r collision s).bak.power.state = s.bak.power.state ∨ (tryWake nv r collision s).bak.power.state = .doze := by
  unfold tryWake
  split
  · split
    · exact .inr (wakeFor_woken nv _ _ s).state
    · exact .inl rfl
  · exact .inl rfl

theorem raiseWake_not_off (nv : Nv) (w : WakeSource) (also : List WakeSource) {s : Vol} (h : s.bak.power.state ≠ .off) :
    (raiseWake nv w also s).bak.power.state ≠ .off := by
  unfold raiseWake
  split
  · have seen : (if s.bak.power.entering = true then freeBit s else (false, s)).2.bak = s.bak := by split <;> rfl
    rcases tryWake_state nv ⟨w, also, false⟩ _ _ with stays | wakes
    · rw [stays, seen]
      exact h
    · rw [wakes]
      decide
  · exact h

theorem canWake_eq_false {s : Vol} (h : s.bak.power.state ≠ .sleep) : canWake s = false := by
  simp [canWake, h]

theorem heldWake_awake (nv : Nv) {s : Vol} (h : s.bak.power.state ≠ .sleep) : heldWake nv s = s := by
  unfold heldWake
  rw [raiseWake_awake nv _ _ (canWake_eq_false h), ite_self]

/-- An idle tick runs from the state in which a change of the tariff inputs has been served. -/
theorem idleTick_wakeBak (nv : Nv) (s : Vol) : WakeBak (tickAdvance (raiseWake nv .tariff [] s)) (idleTick nv s) :=
  heldWake_wakeBak nv _

theorem idleTick_awake (nv : Nv) {s : Vol} (hoff : s.bak.power.state ≠ .off) (h : s.bak.power.state ≠ .sleep) :
    idleTick nv s = tickAdvance s := by
  rw [idleTick, raiseWake_awake nv _ _ (canWake_eq_false h), heldWake_awake]
  rw [(tickAdvance_ticked hoff).state]
  exact h

theorem idleTick_off (nv : Nv) {s : Vol} (h : s.bak.power.state = .off) : idleTick nv s = s := by
  have awake : s.bak.power.state ≠ .sleep := by rw [h]; decide
  have still : tickAdvance s = s := if_pos (by rw [h]; rfl)
  rw [idleTick, raiseWake_awake nv _ _ (canWake_eq_false awake), still, heldWake_awake nv awake]

theorem idleTick_clock (nv : Nv) {s : Vol} (h : s.bak.power.state ≠ .off) :
    (idleTick nv s).bak.count = s.bak.count + 1 ∧ (idleTick nv s).bak.cal = (calNext s).1 := by
  have first := raiseWake_wakeBak nv .tariff [] s
  obtain ⟨count, -, -, cal, -⟩ := (idleTick_wakeBak nv s).timekeeper
  have ticked := tickAdvance_ticked (raiseWake_not_off nv .tariff [] h)
  exact ⟨by rw [count, ticked.count, first.timekeeper.1], by rw [cal, ticked.cal, first.calNext]⟩

theorem idleTick_slew (nv : Nv) {s : Vol} (h : s.bak.power.state ≠ .off) (hwrap : (calNext s).2.2.2 = false) :
    (idleTick nv s).bak.slewLeft = (calNext s).2.1 ∧ (idleTick nv s).bak.slewHeld = (calNext s).2.2.1 ∧
      (idleTick nv s).bak.osf = s.bak.osf := by
  have first := raiseWake_wakeBak nv .tariff [] s
  obtain ⟨-, before, -⟩ := first.timekeeper
  obtain ⟨-, osf, -, -, left, held⟩ := (idleTick_wakeBak nv s).timekeeper
  have slewed := tickAdvance_slewed (raiseWake_not_off nv .tariff [] h) (by rw [first.calNext]; exact hwrap)
  rw [left, held, osf, slewed.slewLeft, slewed.slewHeld, slewed.osf, first.calNext]
  exact ⟨rfl, rfl, before⟩

theorem idleTick_wraps (nv : Nv) {s : Vol} (h : s.bak.power.state ≠ .off) (hwrap : (calNext s).2.2.2 = true) :
    (idleTick nv s).bak.osf = true ∧ (idleTick nv s).bak.osfCause = 4 := by
  have first := raiseWake_wakeBak nv .tariff [] s
  obtain ⟨-, osf, cause, -⟩ := (idleTick_wakeBak nv s).timekeeper
  rw [osf, cause]
  exact tickAdvance_wraps (raiseWake_not_off nv .tariff [] h) (by rw [first.calNext]; exact hwrap)

theorem step_idle {s : State} (h : s.pending = []) : step s = .next (s.up (idleTick s.nv s.vol)) := by
  rw [step, h]

/-- Settles O2: an idle step is the tick of `idleTick`, which OFF leaves out. -/
theorem emptyQueueAdvancesOneTick : Obligations.EmptyQueueAdvancesOneTick := by
  unfold Obligations.EmptyQueueAdvancesOneTick
  intro s hempty
  rw [step_idle hempty]
  refine ⟨fun h => ⟨_, rfl, (idleTick_clock s.nv h).1, rfl, hempty⟩, fun h => ?_⟩
  rw [idleTick_off s.nv h, State.up_self]

end Sys2Proof.Machine
end

section
/-! PROOF of O34. The wrap, the slew, PWRON and the held ticks (R287, R294, R297, R302, R335). -/

namespace Sys2Proof.Machine

/-! ### The calendar under a slew (R287, R294) -/

theorem slewTick_plain (c : Cal) (held : Bool) : slewTick c 0 held = (c.nextTick.1, 0, false, c.nextTick.2) := rfl

theorem slewTick_shorter {c : Cal} {left : Int} (held : Bool) (hleft : 0 < left) (hsub : c.subsec = 31) :
    slewTick c left held = ({ c with subsec := 33 }, left - 1, false, false) :=
  if_pos ⟨hleft, hsub⟩

theorem slewTick_longer {c : Cal} {left : Int} (hleft : left < 0) (hsub : c.subsec = 32) :
    slewTick c left false = (c, left + 1, true, false) := by
  unfold slewTick
  rw [if_neg (fun h => absurd h.1 (by omega)), if_pos ⟨hleft, hsub, rfl⟩]

theorem exec_calendarWrap {s : State} (h : atWrap s.vol.bak.cal = true) :
    exec .calendarWrap s = .next (s.up (idleTick s.nv s.vol)) := if_pos h

theorem exec_slewTick {s : State} (h : s.vol.bak.slewLeft ≠ 0) : exec .slewTick s = .next (s.up (idleTick s.nv s.vol)) :=
  if_neg h

theorem calendarWrap_setsOsf {s : State} (hoff : s.vol.bak.power.state ≠ .off) (hleft : s.vol.bak.slewLeft = 0)
    (hwrap : atWrap s.vol.bak.cal = true) :
    ∃ t, exec .calendarWrap s = .next t ∧ t.vol.bak.cal = s.vol.bak.cal.nextTick.1 ∧ t.vol.bak.osf = true ∧
      t.vol.bak.osfCause = 4 ∧ t.vol.bak.count = s.vol.bak.count + 1 ∧ t.nv = s.nv := by
  have next : calNext s.vol = (s.vol.bak.cal.nextTick.1, 0, false, s.vol.bak.cal.nextTick.2) := by
    rw [calNext, hleft, slewTick_plain]
  obtain ⟨count, cal⟩ := idleTick_clock s.nv hoff
  obtain ⟨osf, cause⟩ := idleTick_wraps s.nv hoff (by rw [next]; exact hwrap)
  exact ⟨_, exec_calendarWrap hwrap, cal.trans (congrArg (·.1) next), osf, cause, count, rfl⟩

theorem slewTick_shortens {s : State} (hoff : s.vol.bak.power.state ≠ .off) (hleft : 0 < s.vol.bak.slewLeft)
    (hsub : s.vol.bak.cal.subsec = 31) :
    ∃ t, exec .slewTick s = .next t ∧ t.vol.bak.cal = { s.vol.bak.cal with subsec := 33 } ∧
      t.vol.bak.slewLeft = s.vol.bak.slewLeft - 1 ∧ t.vol.bak.count = s.vol.bak.count + 1 ∧
      t.vol.bak.osf = s.vol.bak.osf ∧ t.nv = s.nv ∧
      (s.vol.bak.power.state ≠ .sleep → t.vol.ret.led = { s.vol.ret.led with seen := t.vol.ret.led.seen }) := by
  have next : calNext s.vol = ({ s.vol.bak.cal with subsec := 33 }, s.vol.bak.slewLeft - 1, false, false) :=
    slewTick_shorter _ hleft hsub
  have nowrap : (calNext s.vol).2.2.2 = false := by rw [next]
  obtain ⟨count, cal⟩ := idleTick_clock s.nv hoff
  obtain ⟨left, -, osf⟩ := idleTick_slew s.nv hoff nowrap
  refine ⟨_, exec_slewTick hleft.ne', cal.trans (congrArg (·.1) next), left.trans (congrArg (·.2.1) next), count, osf, rfl,
    fun awake => ?_⟩
  rw [State.up_vol, idleTick_awake s.nv hoff awake]
  exact (tickAdvance_slewed hoff nowrap).led

theorem slewTick_lengthens {s : State} (hoff : s.vol.bak.power.state ≠ .off) (hleft : s.vol.bak.slewLeft < 0)
    (hsub : s.vol.bak.cal.subsec = 32) (hheld : s.vol.bak.slewHeld = false) :
    ∃ t, exec .slewTick s = .next t ∧ t.vol.bak.cal = s.vol.bak.cal ∧ t.vol.bak.slewHeld = true ∧
      t.vol.bak.slewLeft = s.vol.bak.slewLeft + 1 ∧ t.vol.bak.count = s.vol.bak.count + 1 ∧ t.nv = s.nv := by
  have next : calNext s.vol = (s.vol.bak.cal, s.vol.bak.slewLeft + 1, true, false) := by
    rw [calNext, hheld, slewTick_longer hleft hsub]
  obtain ⟨count, cal⟩ := idleTick_clock s.nv hoff
  obtain ⟨left, held, -⟩ := idleTick_slew s.nv hoff (by rw [next])
  exact ⟨_, exec_slewTick hleft.ne, cal.trans (congrArg (·.1) next), held.trans (congrArg (·.2.2.1) next),
    left.trans (congrArg (·.2.1) next), count, rfl⟩

/-! ### PWRON (R302) -/

/-- On a tick that calls for it PWRON takes its level and nothing else changes. -/
theorem setPwron_of_pwronTick {s : Vol} (h : s.bak.pwronTick = true) :
    setPwron s = { s with bak.pwronLevel := pwronEval s.bak && s.bak.power.state != .off && !isSecondary s } := by
  unfold setPwron
  rw [← h]

/-! ### Held ticks (R335) -/

theorem exec_eventTickHeld {s : State} (hsleep : s.vol.bak.power.state = .sleep) (hled : noLedger s.vol = false)
    (hevent : isEventTick s.vol = true) : exec .eventTickHeld s = .next (s.up (heldWake s.nv (holdTick s.vol))) := by
  change Host.Outcome.next (s.up (eventTickHeld s.nv s.vol)) = _
  rw [eventTickHeld, if_neg (by simp [hsleep, hled, hevent])]

theorem holdTick_of_new {s : Vol} (h : ∀ t ∈ s.bak.heldTicks, t.count ≠ s.bak.count) :
    holdTick s = { s with
      bak.heldTicks := s.bak.heldTicks ++
        [{ ticks := s.bak.cal.ticks, count := s.bak.count, osf := s.bak.osf, accepted := s.bak.accepted,
           inFault := s.bak.inFault }] } := by
  unfold holdTick
  dsimp only
  rw [List.filter_eq_self.mpr fun t ht => by simpa using h t ht]

theorem wakeTail_bak (nv : Nv) (s : Vol) : (wakeTail nv s).bak = (processHeld nv s).bak := by
  unfold wakeTail
  dsimp only
  split <;> simp

theorem wakeUp_heldTicks (nv : Nv) (s : Vol) : (wakeUp nv s).bak.heldTicks = [] := by
  unfold wakeUp
  rw [wakeTail_bak, processHeld_heldTicks]

/-- A wake of the supervisor alone has no source. -/
theorem tryWake_supervisor (nv : Nv) (collision : Bool) {s : Vol} (hcan : canWake s = true)
    (hactive : sourceActive s .supervisor = true) : tryWake nv ⟨.supervisor, [], false⟩ collision s = wakeUp nv s := by
  have alone : raisedWith s [.supervisor] = [.supervisor] := by
    unfold raisedWith
    rw [List.filter_cons_of_pos hactive, List.filter_nil]
    rfl
  unfold tryWake
  rw [if_pos (by rw [hcan, hactive]; rfl)]
  dsimp only
  rw [alone]
  rfl

/-- Four held ticks wake the device, and that wake leaves the last-wake record. -/
theorem heldWake_wakes (nv : Nv) {s : Vol} (hsleep : s.bak.power.state = .sleep) (hfour : 4 ≤ s.bak.heldTicks.length)
    (hretry : s.bak.power.retrying = none) (hwarn : s.bak.power.warning = false) :
    (heldWake nv s).bak.power.core = true ∧ (heldWake nv s).bak.heldTicks = [] ∧
      (heldWake nv s).bak.lastWake = s.bak.lastWake := by
  have hcan : canWake s = true := by simp [canWake, hsleep, hretry]
  have hactive : sourceActive s .supervisor = true := by simp [sourceActive, warningAllows, hwarn]
  obtain ⟨met, v, seen, raised⟩ := raiseWake_tryWake nv [] hcan hactive
  have woken : heldWake nv s = wakeUp nv v := by
    rw [heldWake, if_pos hfour, raised]
    exact tryWake_supervisor nv met (seen.canWake.trans hcan) (by rw [seen.active, hactive])
  obtain ⟨-, -, record, -⟩ := wakeUp_rest nv v
  rw [woken]
  exact ⟨by rw [wakeUp_power], wakeUp_heldTicks nv v, by rw [record, seen.bak]⟩

theorem eventTickHeld_holds {s : State} (hsleep : s.vol.bak.power.state = .sleep) (hled : noLedger s.vol = false)
    (hevent : isEventTick s.vol = true) (hnew : ∀ h ∈ s.vol.bak.heldTicks, h.count ≠ s.vol.bak.count) :
    (s.vol.bak.heldTicks.length < 3 → exec .eventTickHeld s = .next (s.up (holdTick s.vol))) ∧
      (s.vol.bak.heldTicks.length = 3 → s.vol.bak.power.retrying = none → s.vol.bak.power.warning = false →
        ∃ t, exec .eventTickHeld s = .next t ∧ t.vol.bak.power.core = true ∧ t.vol.bak.heldTicks = [] ∧
          t.vol.bak.lastWake = s.vol.bak.lastWake ∧ t.nv = s.nv) := by
  have held := holdTick_of_new hnew
  have length : (holdTick s.vol).bak.heldTicks.length = s.vol.bak.heldTicks.length + 1 := by
    rw [held]
    exact List.length_append
  rw [exec_eventTickHeld hsleep hled hevent]
  refine ⟨fun few => ?_, fun three hretry hwarn => ?_⟩
  · rw [heldWake, if_neg (by omega)]
  · obtain ⟨core, none, record⟩ := heldWake_wakes s.nv (s := holdTick s.vol) hsleep (by omega) hretry hwarn
    exact ⟨_, rfl, core, none, record, rfl⟩

/-- Settles O34: the idle tick under its slew, the level of PWRON, and the ticks held until the fourth. -/
theorem theCalendarWrapsSlewsAndHoldsTicks : Obligations.TheCalendarWrapsSlewsAndHoldsTicks := by
  unfold Obligations.TheCalendarWrapsSlewsAndHoldsTicks
  refine ⟨fun s => ⟨calendarWrap_setsOsf, slewTick_shortens, slewTick_lengthens, fun h => ?_, fun h => if_neg (by simp [h])⟩,
    fun s hsleep hled hevent hnew => ?_⟩
  · change execPwronEvaluate s = _
    rw [execPwronEvaluate, if_pos h, setPwron_of_pwronTick h]
    rfl
  · obtain ⟨few, fourth⟩ := eventTickHeld_holds hsleep hled hevent hnew
    refine ⟨fun h => (few h).trans ?_, fourth⟩
    rw [holdTick_of_new hnew]
    rfl

end Sys2Proof.Machine
end

section
/-! PROOF of O33. Readings of the die temperature and the windows of the correction (R283, R284). -/

namespace Sys2Proof.Machine

/-! ### Readings (R283) -/

/-- The state that a due reading leaves, with the requests of the panel examined again (R501). -/
def readingTaken (r : Int) (s : Vol) : Vol := if (tempRead r s).work.disp.pmic then tempRead r s else dueCheck (tempRead r s)

theorem exec_tempRead_early {r : Int} {s : State} (h : readingDue s.vol.bak = false) : exec (.tempRead r) s = .next s :=
  if_pos (by simp [h])

theorem exec_tempRead_due {r : Int} {s : State} (hoff : s.vol.bak.power.state ≠ .off) (h : readingDue s.vol.bak = true) :
    exec (.tempRead r) s = .next (s.up (readingTaken r s.vol)) :=
  if_neg (by simp [hoff, h])

theorem readingTaken_bak (r : Int) (s : Vol) : (readingTaken r s).bak = (tempRead r s).bak := by
  unfold readingTaken
  split
  · rfl
  · exact dueCheck_bak _

theorem readingTaken_led (r : Int) (s : Vol) : (readingTaken r s).ret.led = (tempRead r s).ret.led := by
  unfold readingTaken
  split
  · rfl
  · exact (dueCheck_frame _).led

theorem tempRead_accepted {r : Int} (lo : -5500 ≤ r) (hi : r ≤ 13000) (s : Vol) :
    tempRead r s = { s with
      bak.tempTick := some s.bak.count
      bak.tempDie := ofInt 12 (quarterDegree r)
      bak.lastReading := some r
      bak.tDiscards := 0
      bak.tfault := false
      bak.tCalm := (tempRead r s).bak.tCalm
      bak.tfast := (tempRead r s).bak.tfast } := by
  unfold tempRead
  dsimp only
  rw [if_neg (by omega)]

theorem tempRead_discarded {r : Int} (h : r < -5500 ∨ 13000 < r) (s : Vol) :
    (tempRead r s).bak = { s.bak with
      tempTick := some s.bak.count
      tDiscards := s.bak.tDiscards + 1
      tfault := s.bak.tfault || decide (3 ≤ s.bak.tDiscards) } ∧ (tempRead r s).ret.led = s.ret.led := by
  unfold tempRead
  dsimp only
  rw [if_pos h]
  split
  next fault =>
    rw [limG_bak, limG_ret_led]
    simp [fault.1]
  next calm =>
    have stands : (s.bak.tfault || decide (3 ≤ s.bak.tDiscards)) = s.bak.tfault := by
      cases hf : s.bak.tfault
      · simpa [hf] using calm
      · rfl
    rw [stands]
    exact ⟨rfl, rfl⟩

/-! ### Windows (R284) -/

theorem clampInt_bounds {lo hi : Int} (h : lo ≤ hi) (x : Int) : lo ≤ clampInt lo hi x ∧ clampInt lo hi x ≤ hi := by
  unfold clampInt
  split_ifs <;> omega

theorem tcorrOf_bounds (c : Curve) (r : Int) : -2047 ≤ tcorrOf c r ∧ tcorrOf c r ≤ 2047 := clampInt_bounds (by decide) _

theorem exec_tcorrWindow (s : State) : exec .tcorrWindow s = .next (s.up (tcorrWindow s.vol)) := rfl

theorem tcorrWindow_running {s : Vol} (h : (s.bak.lfPeriods : Int) + s.bak.tcAdded < 4194304) : tcorrWindow s = s :=
  if_pos (by simpa [windowOver] using h)

theorem tcorrWindow_over {s : Vol} {r : Int} (hread : s.bak.lastReading = some r)
    (h : 4194304 ≤ (s.bak.lfPeriods : Int) + s.bak.tcAdded) :
    tcorrWindow s = { s with
      bak.tcorr := if s.bak.tfault then s.bak.tcorr else tcorrOf s.bak.curve r
      bak.tcAcc := 0
      bak.lfPeriods := 0
      bak.tcAdded := 0 } := by
  unfold tcorrWindow
  rw [if_neg (by simpa [windowOver] using h), hread]

/-- Settles O33: a reading is accepted or discarded by its limits, and a window that is over takes the latest one. -/
theorem readingsAndWindowsCorrectTheTick : Obligations.ReadingsAndWindowsCorrectTheTick := by
  unfold Obligations.ReadingsAndWindowsCorrectTheTick
  refine fun s => ⟨fun r => exec_tempRead_early, fun r hoff hdue => ⟨fun lo hi => ?_, fun hout => ?_⟩, fun h => ?_,
    fun r hread h => ⟨?_, tcorrOf_bounds _ r⟩⟩
  · have accepted := tempRead_accepted lo hi s.vol
    refine ⟨_, exec_tempRead_due hoff hdue, ?_⟩
    rw [State.up_vol, readingTaken_bak, readingTaken_led, accepted]
    exact ⟨rfl, rfl, rfl, rfl, rfl, rfl, rfl, rfl⟩
  · obtain ⟨bak, led⟩ := tempRead_discarded hout s.vol
    refine ⟨_, exec_tempRead_due hoff hdue, ?_⟩
    rw [State.up_vol, readingTaken_bak, readingTaken_led, bak, led]
    exact ⟨rfl, rfl, rfl, rfl, rfl, rfl⟩
  · rw [exec_tcorrWindow, tcorrWindow_running h, State.up_self]
  · rw [exec_tcorrWindow, tcorrWindow_over hread h]
    rfl

end Sys2Proof.Machine
end

section
/-! PROOF of O35. The commit of a stage, and the ends of stages and freezes (R289, R291, R293 to R297, R305). -/

namespace Sys2Proof.Machine

/-! ### The engine has nothing in hand -/

theorem answerClock_free {s : Vol} (refused : Bool) (h : s.work.ex.inHand = none) : answerClock refused s = s := by
  rw [answerClock, h]

/-- With nothing in hand and nothing waiting, the engine answers nobody. -/
theorem pump_answerClock (nv : Nv) (refused : Bool) {s : Vol} (hfree : s.work.ex.inHand = none) (hqueue : s.work.ex.queue = []) :
    pump nv 8 (answerClock refused s) = s := by
  rw [answerClock_free refused hfree, pump_idle nv 8 hqueue]

/-! ### A slew or a step (R293 to R297) -/

theorem applyStage_slews (nv : Nv) {g : Stage} {s : Vol} (hrefused : commitRefused s g = false) (hosf : s.bak.osf = false)
    (hsmall : (commitDiff s g).natAbs ≤ 512) :
    LogFrame { s with bak.stage := none, bak.slewLeft := commitDiff s g, bak.slewHeld := false } (applyStage nv g s) := by
  have refused : commitRefused { s with bak.stage := none } g = false := hrefused
  have small : (!s.bak.osf && decide ((commitDiff { s with bak.stage := none } g).natAbs ≤ 512)) = true := by
    rw [hosf]
    exact decide_eq_true hsmall
  unfold applyStage
  dsimp only
  rw [refused, if_neg (by decide), if_pos small]
  split
  · exact .refl _
  · exact logG_frame _ _ _

theorem applyStage_steps (nv : Nv) {g : Stage} {s : Vol} (hrefused : commitRefused s g = false)
    (hlarge : s.bak.osf = true ∨ 512 < (commitDiff s g).natAbs) :
    applyStage nv g s = stepClock nv g.time (g.role == .operator) { s with bak.stage := none } := by
  have refused : commitRefused { s with bak.stage := none } g = false := hrefused
  have large : ¬ (!s.bak.osf && decide ((commitDiff { s with bak.stage := none } g).natAbs ≤ 512)) = true := by
    change ¬ (!s.bak.osf && decide ((commitDiff s g).natAbs ≤ 512)) = true
    rcases hlarge with h | h
    · simp [h]
    · simp [not_le.mpr h]
  unfold applyStage
  dsimp only
  rw [refused, if_neg (by decide), if_neg large]

/-- The state in which the calendar has stepped to c (R296). -/
def calStepped (c : Cal) (s : Vol) : Vol :=
  { s with bak.cal := { c with subsec := 0 }, bak.slewLeft := 0, bak.slewHeld := false, bak.secTick := true }

/-- The calendar steps, and OSF is cleared where the commit clears it (R297). -/
def clockStepped (c : Cal) (clears : Bool) (s : Vol) : Vol :=
  { calStepped c s with bak.osf := !(clears && s.bak.osf) && s.bak.osf }

/-- What a step tells the LEDGER and the log (R297, R331). -/
def stepTold (nv : Nv) (old : Nat) (clears : Bool) (s : Vol) : Vol :=
  if clears && s.bak.osf then logM 0x0202 0xFF (ledgerStep nv old s.bak.cal.ticks (clears && s.bak.osf) s)
  else ledgerStep nv old s.bak.cal.ticks (clears && s.bak.osf) s

theorem stepClock_eq (nv : Nv) (c : Cal) (clears : Bool) (s : Vol) :
    stepClock nv c clears s = setPwron (stepTold nv s.bak.cal.ticks clears
      (logM 0x0203 (if (calStepped c s).bak.cal.ticks < s.bak.cal.ticks then 1 else 0) (calStepped c s))) := rfl

theorem stepTold_ledgerFrame (nv : Nv) (old : Nat) (clears : Bool) (s : Vol) :
    LedgerFrame { s with bak.osf := !(clears && s.bak.osf) && s.bak.osf } (stepTold nv old clears s) := by
  have told := ledgerStep_ledgerFrame nv old s.bak.cal.ticks (clears && s.bak.osf) s
  unfold stepTold
  split
  · exact told.trans (logM_frame _ _ _).ledgerFrame
  · exact told

/-- Beyond the step itself the LEDGER closes what the old time had open, and PWRON follows (R302, R331). -/
theorem stepClock_ledgerFrame (nv : Nv) (c : Cal) (clears : Bool) (s : Vol) :
    ∃ u, LedgerFrame (clockStepped c clears s) u ∧ stepClock nv c clears s = setPwron u := by
  refine ⟨_, ?_, stepClock_eq nv c clears s⟩
  have logged := logM_frame 0x0203 (if (calStepped c s).bak.cal.ticks < s.bak.cal.ticks then 1 else 0) (calStepped c s)
  generalize logM 0x0203 _ _ = v at logged ⊢
  have osf : v.bak.osf = s.bak.osf := by rw [logged.bak, calStepped]
  have told := stepTold_ledgerFrame nv s.bak.cal.ticks clears v
  rw [osf] at told
  exact (logged.ledgerFrame.setOsf _).trans told

theorem stepClock_clock (nv : Nv) (c : Cal) (clears : Bool) (s : Vol) :
    (stepClock nv c clears s).bak.cal = { c with subsec := 0 } ∧ (stepClock nv c clears s).bak.slewLeft = 0 ∧
      (stepClock nv c clears s).bak.stage = s.bak.stage ∧
      (stepClock nv c clears s).bak.osf = (!(clears && s.bak.osf) && s.bak.osf) ∧
      (stepClock nv c clears s).work.ex = s.work.ex := by
  obtain ⟨u, frame, stepped⟩ := stepClock_ledgerFrame nv c clears s
  have level : (setPwron u).bak.cal = u.bak.cal ∧ (setPwron u).bak.slewLeft = u.bak.slewLeft ∧
      (setPwron u).bak.stage = u.bak.stage ∧ (setPwron u).bak.osf = u.bak.osf ∧ (setPwron u).work.ex = u.work.ex :=
    ⟨rfl, rfl, rfl, rfl, rfl⟩
  obtain ⟨cal, left, stage, osf, ex⟩ := level
  rw [stepped, cal, left, stage, osf, ex, frame.bak, frame.ex]
  exact ⟨rfl, rfl, rfl, rfl, rfl⟩

/-! ### CLOCK_COMMIT (R293 to R296, R305) -/

theorem exec_clockCommit (s : State) : exec .clockCommit s = .next (s.up (clockCommit s.nv s.vol)) := rfl

section
variable {nv : Nv} {s : Vol} {g : Stage} (hstage : s.bak.stage = some g) (hcommitted : g.committed = true)
  (hsince : g.since ≠ s.bak.count) (hfree : s.work.ex.inHand = none) (hqueue : s.work.ex.queue = [])
include hstage hcommitted hsince hfree hqueue

/-- At the boundary the stage is applied; the engine, which waits for nothing, stays as it is. -/
theorem clockCommit_applies (hex : (applyStage nv g s).work.ex = s.work.ex) : clockCommit nv s = applyStage nv g s := by
  rw [clockCommit, hstage]
  dsimp only
  rw [if_pos (by simp [hcommitted, hsince]), pump_answerClock nv _ (by rw [hex, hfree]) (by rw [hex, hqueue])]

variable (hrefused : commitRefused s g = false)
include hrefused

theorem clockCommit_slews (hosf : s.bak.osf = false) (hsmall : (commitDiff s g).natAbs ≤ 512) :
    (clockCommit nv s).bak = { s.bak with stage := none, slewLeft := commitDiff s g, slewHeld := false } ∧
      (clockCommit nv s).ret.led = s.ret.led := by
  have slews := applyStage_slews nv hrefused hosf hsmall
  rw [clockCommit_applies hstage hcommitted hsince hfree hqueue slews.work_ex]
  exact ⟨slews.bak, slews.ret_led⟩

theorem clockCommit_steps (hlarge : s.bak.osf = true ∨ 512 < (commitDiff s g).natAbs) :
    (clockCommit nv s).bak.cal = { g.time with subsec := 0 } ∧ (clockCommit nv s).bak.slewLeft = 0 ∧
      (clockCommit nv s).bak.stage = none ∧ (clockCommit nv s).bak.osf = (s.bak.osf && g.role != .operator) := by
  obtain ⟨cal, left, stage, osf, ex⟩ := stepClock_clock nv g.time (g.role == .operator) { s with bak.stage := none }
  have steps := applyStage_steps nv hrefused hlarge
  rw [clockCommit_applies hstage hcommitted hsince hfree hqueue (by rw [steps, ex]), steps]
  refine ⟨cal, left, stage, osf.trans ?_⟩
  cases s.bak.osf <;> simp [bne]

end

/-! ### STAGE_TIMEOUT (R291) and FREEZE_TIMEOUT (R289) -/

theorem exec_stageTimeout (s : State) : exec .stageTimeout s = .next (s.up (stageTimeout s.nv s.vol)) := rfl

theorem stageTimeout_drops (nv : Nv) {s : Vol} {g : Stage} (hstage : s.bak.stage = some g) (hcommitted : g.committed = false)
    (hdue : 64 ≤ (s.bak.count - g.since).toNat) (hfree : s.work.ex.inHand = none) (hqueue : s.work.ex.queue = []) :
    stageTimeout nv s = { s with bak.stage := none } := by
  rw [stageTimeout, hstage]
  dsimp only
  rw [if_pos (by rw [hcommitted, decide_eq_true hdue]; rfl)]
  exact pump_answerClock nv true hfree hqueue

theorem exec_freezeTimeout (s : State) : exec .freezeTimeout s = .next (s.up (freezeTimeout s.nv s.vol)) := rfl

/-- The freeze is released, its readers are told that their reads are stale, and the end is logged. -/
def freezeReleased (z : Freeze) (s : Vol) : Vol :=
  limG 0x0209 0xFF 0xFF { s with bak.freeze := none, bak.staleReaders := z.readers }

section
variable {s : Vol} {z : Freeze} (nv : Nv) (hfreeze : s.bak.freeze = some z) (hdue : 64 ≤ (s.bak.count - z.since).toNat)
include hfreeze hdue

theorem freezeTimeout_free (hfree : s.work.ex.inHand = none) : freezeTimeout nv s = freezeReleased z s := by
  have free : (freezeReleased z s).work.ex.inHand = none := by rw [freezeReleased, limG_work_ex, hfree]
  rw [freezeTimeout, hfreeze]
  dsimp only
  rw [if_neg (not_lt.mpr hdue), ← freezeReleased, free]

/-- The engine's first read begins anew, where the repeat stalls too. -/
theorem freezeTimeout_again {f : Frame}
    (hread : s.work.ex.inHand = some { frame := f, clamps := [], clamped := false, await := .freeze false })
    (hstalls : f.stallsAgain = true) : freezeTimeout nv s = startFreeze f true (freezeReleased z s) := by
  have read : (freezeReleased z s).work.ex.inHand = some { frame := f, clamps := [], clamped := false, await := .freeze false } := by
    rw [freezeReleased, limG_work_ex, hread]
  rw [freezeTimeout, hfreeze]
  dsimp only
  rw [if_neg (not_lt.mpr hdue), ← freezeReleased, read]
  dsimp only
  rw [if_pos (by rw [hstalls]; rfl)]

end

theorem startFreeze_new (f : Frame) (again : Bool) {s : Vol} (h : s.bak.freeze = none) :
    (startFreeze f again s).bak.freeze = some { shadow := s.bak.cal, since := s.bak.count, readers := [.exchange] } := by
  unfold startFreeze
  rw [h]

/-- Settles O35: the boundary applies a committed stage, and 64 ticks end a stage or a freeze. -/
theorem stagesAreCommittedOrEnd : Obligations.StagesAreCommittedOrEnd := by
  unfold Obligations.StagesAreCommittedOrEnd
  refine fun s => ⟨fun g hstage hcommitted hsince hfree hqueue hrefused => ⟨fun hosf hsmall => ?_, fun hlarge => ?_⟩,
    fun g hstage hcommitted hdue hfree hqueue => ?_, fun z hfreeze hdue => ⟨fun hfree => ?_, fun f hread hstalls => ?_⟩⟩
  · obtain ⟨bak, led⟩ := clockCommit_slews (nv := s.nv) hstage hcommitted hsince hfree hqueue hrefused hosf hsmall
    refine ⟨_, exec_clockCommit s, ?_⟩
    rw [State.up_vol, bak, led]
    exact ⟨rfl, rfl, rfl, rfl, rfl, rfl⟩
  · obtain ⟨cal, left, stage, osf⟩ := clockCommit_steps (nv := s.nv) hstage hcommitted hsince hfree hqueue hrefused hlarge
    exact ⟨_, exec_clockCommit s, cal, left, stage, osf, rfl⟩
  · rw [exec_stageTimeout, stageTimeout_drops s.nv hstage hcommitted hdue hfree hqueue]
    rfl
  · rw [exec_freezeTimeout, freezeTimeout_free s.nv hfreeze hdue hfree, freezeReleased]
  · have released : (freezeReleased z s.vol).bak = { s.vol.bak with freeze := none, staleReaders := z.readers } := limG_bak _ _ _ _
    refine ⟨_, exec_freezeTimeout s, rfl, ?_⟩
    rw [State.up_vol, freezeTimeout_again s.nv hfreeze hdue hread hstalls, startFreeze_new f true (by rw [released]), released]
    exact ⟨rfl, rfl⟩

end Sys2Proof.Machine
end

section
/-! PROOF of O38. The tariff source of the taken TH5 code and the tariff it requests (R312 to R315). -/

namespace Sys2Proof.Machine

/-! ### The source and the number of tariffs (R312) -/

section
variable {s : Vol}

theorem tariffSource_fixed (h : th s 5 = 0 ∨ th s 5 = 4 ∨ th s 5 = 15) : tariffSource s = (0, 1) := by
  rcases h with h | h | h <;> simp only [tariffSource, h]

theorem tariffSource_oneInput (h : th s 5 = 1 ∨ th s 5 = 5) : tariffSource s = (1, 2) := by
  rcases h with h | h <;> simp only [tariffSource, h]

theorem tariffSource_twoInputs (h : th s 5 = 2 ∨ th s 5 = 6) : tariffSource s = (1, 4) := by
  rcases h with h | h <;> simp only [tariffSource, h]

theorem tariffSource_calendar (h : th s 5 = 3 ∨ th s 5 = 7) : tariffSource s = (2, 4) := by
  rcases h with h | h <;> simp only [tariffSource, h]

end

/-! ### The requested tariff of each source (R313 to R315) -/

section
variable {s : Vol} (ticks : Nat)

theorem requestedTariff_fixed (h : th s 5 = 0 ∨ th s 5 = 4 ∨ th s 5 = 15) : requestedTariff s ticks = 1 := by
  rcases h with h | h | h <;> simp only [requestedTariff, h]

/-- One input in use: its level alone requests the tariff, whatever stands for the other input. -/
theorem requestedTariff_oneInput {low0 low1 : Bool} (h : th s 5 = 1 ∨ th s 5 = 5) (hsound : s.bak.inFault = 0)
    (haccepted : s.bak.accepted = some (low0, low1)) : requestedTariff s ticks = 1 + b2n low0 := by
  rcases h with h | h <;> (rw [requestedTariff, h, hsound, haccepted]; rfl)

theorem requestedTariff_twoInputs {low0 low1 : Bool} (h : th s 5 = 2 ∨ th s 5 = 6) (hsound : s.bak.inFault = 0)
    (haccepted : s.bak.accepted = some (low0, low1)) : requestedTariff s ticks = 1 + 2 * b2n low1 + b2n low0 := by
  rcases h with h | h <;> (rw [requestedTariff, h, hsound, haccepted]; rfl)

theorem requestedTariff_calendar {t : Nat} (h : th s 5 = 3 ∨ th s 5 = 7) (hosf : s.bak.osf = false)
    (hcal : calendarTariff s.work.obj.tariffCal (calOfSeconds (ticks / 64)) = some t) : requestedTariff s ticks = t := by
  rcases h with h | h <;> (rw [requestedTariff, h, hosf, hcal]; rfl)

end

/-! ### An accepted combination (TARIFF_ACCEPTED, R313, R314) -/

/-- The levels that an accepted combination leaves: an input that is not used counts as high. -/
def acceptedLevels (low0 low1 : Bool) (s : Vol) : Bool × Bool := (low0, low1 && (th s 5 == 2 || th s 5 == 6))

theorem acceptedLevels_twoInputs (low0 low1 : Bool) {s : Vol} (h : th s 5 = 2 ∨ th s 5 = 6) :
    acceptedLevels low0 low1 s = (low0, low1) := by
  rcases h with h | h <;> simp [acceptedLevels, h]

/-- The levels are taken, the faults clear, and a change is dated. -/
def takeLevels (low0 low1 : Bool) (s : Vol) : Vol :=
  { s with
    bak.accepted := some (acceptedLevels low0 low1 s)
    bak.inFault := 0
    bak.tariffAt := if s.bak.accepted == some (acceptedLevels low0 low1 s) then s.bak.tariffAt else some s.bak.count }

section
variable {s : Vol} (low0 low1 : Bool) (hsampled : tariffSampled s = true)
include hsampled

/-- While the inputs are sampled, the combination is accepted, and the end of a fault is logged. -/
theorem acceptTariff_sampled :
    acceptTariff low0 low1 s =
      if s.bak.inFault = 0 then takeLevels low0 low1 s else logG 0x0307 0xFF (takeLevels low0 low1 s) := by
  rw [acceptTariff, hsampled]
  rfl

theorem acceptTariff_frame : LogFrame (takeLevels low0 low1 s) (acceptTariff low0 low1 s) := by
  rw [acceptTariff_sampled low0 low1 hsampled]
  split
  · exact .refl _
  · exact logG_frame _ _ _

theorem acceptTariff_accepted : (acceptTariff low0 low1 s).bak.accepted = some (acceptedLevels low0 low1 s) := by
  rw [(acceptTariff_frame low0 low1 hsampled).bak, takeLevels]

theorem acceptTariff_inFault : (acceptTariff low0 low1 s).bak.inFault = 0 := by
  rw [(acceptTariff_frame low0 low1 hsampled).bak, takeLevels]

theorem acceptTariff_th (f : Nat) : th (acceptTariff low0 low1 s) f = th s f := by
  rw [th, (acceptTariff_frame low0 low1 hsampled).work_th, takeLevels, th]

theorem requestedTariff_acceptTariff_oneInput (ticks : Nat) (h : th s 5 = 1 ∨ th s 5 = 5) :
    requestedTariff (acceptTariff low0 low1 s) ticks = 1 + b2n low0 :=
  requestedTariff_oneInput ticks (by rwa [acceptTariff_th low0 low1 hsampled]) (acceptTariff_inFault low0 low1 hsampled)
    (acceptTariff_accepted low0 low1 hsampled)

theorem requestedTariff_acceptTariff_twoInputs (ticks : Nat) (h : th s 5 = 2 ∨ th s 5 = 6) :
    requestedTariff (acceptTariff low0 low1 s) ticks = 1 + 2 * b2n low1 + b2n low0 :=
  requestedTariff_twoInputs ticks (by rwa [acceptTariff_th low0 low1 hsampled]) (acceptTariff_inFault low0 low1 hsampled)
    (by rw [acceptTariff_accepted low0 low1 hsampled, acceptedLevels_twoInputs low0 low1 h])

end

/-- Settles O38, source by source: fixed, one input, two inputs, calendar. -/
theorem theThatchSelectsTheTariffSource : Obligations.TheThatchSelectsTheTariffSource := by
  unfold Obligations.TheThatchSelectsTheTariffSource
  intro s ticks
  refine ⟨fun fixed => ?_, fun one => ?_, fun two => ?_, fun calendar => ?_⟩
  · exact ⟨tariffSource_fixed fixed, requestedTariff_fixed ticks fixed⟩
  · exact ⟨tariffSource_oneInput one, fun low0 low1 sampled => requestedTariff_acceptTariff_oneInput low0 low1 sampled ticks one⟩
  · exact ⟨tariffSource_twoInputs two, fun low0 low1 sampled => requestedTariff_acceptTariff_twoInputs low0 low1 sampled ticks two⟩
  · exact ⟨tariffSource_calendar calendar, fun t trusted found => requestedTariff_calendar ticks calendar trusted found⟩

end Sys2Proof.Machine
end

section
/-! PROOF of O43. The once-only window after an acceptance (R348). -/

namespace Sys2Proof.Machine

section
variable {h : BitVec 20} {b : BitVec 1024} {id n : Nat}

/-- An ID above IDHWM becomes IDHWM. -/
theorem windowWith_above (hid : id < 2 ^ 20) (above : h.toNat < id) :
    (windowWith h b id).1.toNat = id ∧ (windowWith h b id).2 = (b <<< (id - h.toNat)) ||| 1#1024 := by
  rw [windowWith, if_pos above]
  exact ⟨(BitVec.toNat_ofNat id 20).trans (Nat.mod_eq_of_lt hid), rfl⟩

/-- An ID inside the window leaves IDHWM. -/
theorem windowWith_inside (inside : id ≤ h.toNat) :
    windowWith h b id = (h, b ||| BitVec.ofNat 1024 (1 <<< (h.toNat - id))) := by
  rw [windowWith, if_neg (Nat.not_lt.mpr inside)]
  rfl

/-- The shift moves the bits of the window by the difference, and bit 0 is that of the new IDHWM. -/
theorem getLsbD_windowWith_above (hid : id < 2 ^ 20) (above : h.toNat < id) (low : n ≤ id) (near : id < n + 1024) :
    (windowWith h b id).2.getLsbD (id - n) = (n == id || (decide (n ≤ h.toNat) && b.getLsbD (h.toNat - n))) := by
  have bit : (1#1024).getLsbD (id - n) = (n == id) := by
    rw [BitVec.getLsbD_one, Bool.eq_iff_iff]
    simp only [Bool.and_eq_true, decide_eq_true_eq, beq_iff_eq]
    omega
  rw [(windowWith_above hid above).2, BitVec.getLsbD_or, BitVec.getLsbD_shiftLeft, bit, Bool.or_comm]
  congr 1
  by_cases held : n ≤ h.toNat
  · have moved : id - n - (id - h.toNat) = h.toNat - n := by omega
    simp [held, moved, show id - n < 1024 by omega, show ¬ id - n < id - h.toNat by omega]
  · simp [held, show id - n < id - h.toNat by omega]

theorem getLsbD_windowWith_inside (inside : id ≤ h.toNat) (span : h.toNat ≤ id + 1023) (low : n ≤ h.toNat)
    (near : h.toNat < n + 1024) :
    (windowWith h b id).2.getLsbD (h.toNat - n) = (n == id || (decide (n ≤ h.toNat) && b.getLsbD (h.toNat - n))) := by
  have bit : (BitVec.ofNat 1024 (1 <<< (h.toNat - id))).getLsbD (h.toNat - n) = (n == id) := by
    rw [BitVec.getLsbD_ofNat, Nat.one_shiftLeft, Nat.testBit_two_pow, Bool.eq_iff_iff]
    simp only [Bool.and_eq_true, decide_eq_true_eq, beq_iff_eq]
    omega
  rw [windowWith_inside inside, BitVec.getLsbD_or, bit, decide_eq_true low, Bool.true_and, Bool.or_comm]

end

/-- Settles O43: an ID above IDHWM shifts the window, and one inside it adds its bit. -/
theorem anAcceptedIdEntersTheWindow : Obligations.AnAcceptedIdEntersTheWindow := by
  unfold Obligations.AnAcceptedIdEntersTheWindow
  intro h b id n hid span
  by_cases above : h.toNat < id
  · obtain ⟨mark, -⟩ := windowWith_above (b := b) hid above
    rw [mark]
    exact ⟨(max_eq_right above.le).symm, getLsbD_windowWith_above hid above⟩
  · have inside : id ≤ h.toNat := Nat.not_lt.mp above
    have mark : (windowWith h b id).1 = h := by rw [windowWith_inside inside]
    rw [mark]
    exact ⟨(max_eq_left inside).symm, getLsbD_windowWith_inside inside span⟩

end Sys2Proof.Machine
end

section
/-! SUPPORT. What a press of a key leaves (R342, R343, R505, R507): beside the key's own action, the DISPLAY, the logs and the STORE's
working state. -/

namespace Sys2Proof.Machine

theorem DrawFrame.bak {s s' : Vol} (h : DrawFrame s s') : s'.bak = s.bak := by rw [h.only]
theorem DrawFrame.ret_pre {s s' : Vol} (h : DrawFrame s s') : s'.ret.pre = s.ret.pre := by rw [h.only]

/-! ### The DISPLAY -/

theorem withTemplate_drawFrame (f : Vol → Vol) (s : Vol) : DrawFrame (f s) (withTemplate f s) := by
  unfold withTemplate
  dsimp only
  split
  · exact .refl _
  · exact fullDraw_drawFrame _

theorem fieldCheck_drawFrame (nv : Nv) (s : Vol) : DrawFrame s (fieldCheck nv s) := by
  unfold fieldCheck
  split
  · exact .refl s
  · refine List.foldlRecOn (motive := DrawFrame s) _ _ (.refl s) fun u drawn p _ => ?_
    split
    · exact drawn
    · exact drawn.trans (request_drawFrame _ u)

/-- A request leaves the latest press of INFO. -/
@[simp] theorem request_infoAt (r : Rect) (s : Vol) : (request r s).work.disp.infoAt = s.work.disp.infoAt := by
  have checked : ∀ v : Vol, (if v.work.disp.pmic then v else dueCheck v).work.disp.infoAt = v.work.disp.infoAt := by
    intro v
    split
    · rfl
    · rw [(dueCheck_frame v).disp]
  unfold request
  split
  · rfl
  · refine (checked _).trans ?_
    split_ifs
    · rfl
    · rfl
    · rw [collapse, limG_work_disp]
      rfl
    · rfl

@[simp] theorem withTemplate_infoAt (f : Vol → Vol) (s : Vol) :
    (withTemplate f s).work.disp.infoAt = (f s).work.disp.infoAt := by
  unfold withTemplate
  dsimp only
  split
  · rfl
  · exact request_infoAt _ _

@[simp] theorem fieldCheck_infoAt (nv : Nv) (s : Vol) : (fieldCheck nv s).work.disp.infoAt = s.work.disp.infoAt := by
  unfold fieldCheck
  split
  · rfl
  · refine List.foldlRecOn (motive := fun u : Vol => u.work.disp.infoAt = s.work.disp.infoAt) _ _ rfl fun u same p _ => ?_
    split
    · exact same
    · exact (request_infoAt _ u).trans same

/-! ### The press -/

/-- A key is down since the tick. -/
def keyMarked (s : Vol) : Vol := { s with work.pre.keyDown := true, work.pre.lastKey := s.bak.count }

theorem pressKey_eq (nv : Nv) (f : Vol → Vol) {s : Vol} (on : keypadOn s = true) (up : s.work.pre.keyDown = false) :
    pressKey nv f s = fieldCheck nv (keyMarked (withTemplate (fun s => f (dropResult s)) s)) := by
  unfold pressKey
  rw [if_neg (by simp [on, up])]
  rfl

/-- A press after which t stands, where the key's own action leaves v. -/
structure Pressed (v t : Vol) : Prop where
  bak : t.bak = v.bak
  retPre : t.ret.pre = v.ret.pre
  pre : t.work.pre = { v.work.pre with keyDown := true, lastKey := v.bak.count }
  infoAt : t.work.disp.infoAt = v.work.disp.infoAt

/-- The key acts after the result has left the display. -/
theorem pressKey_pressed (nv : Nv) (f : Vol → Vol) {s : Vol} (on : keypadOn s = true) (up : s.work.pre.keyDown = false) :
    Pressed (f (dropResult s)) (pressKey nv f s) := by
  have acted := withTemplate_drawFrame (fun s => f (dropResult s)) s
  have told := withTemplate_infoAt (fun s => f (dropResult s)) s
  rw [pressKey_eq nv f on up]
  generalize withTemplate _ s = u at acted told ⊢
  have checked := fieldCheck_drawFrame nv (keyMarked u)
  refine ⟨checked.bak.trans acted.bak, checked.ret_pre.trans acted.ret_pre, checked.pre.trans ?_, ?_⟩
  · rw [← acted.pre, ← acted.bak]
    rfl
  · exact (fieldCheck_infoAt nv _).trans told

/-! ### The commands -/

section
variable (s : State)

theorem exec_keyDigit (d : Fin 10) : exec (.keyDigit d) s = .next (s.up (pressKey s.nv (addDigit d) s.vol)) := rfl
theorem exec_keyClear :
    exec .keyClear s = .next (s.up (pressKey s.nv (fun v => { v with work.pre.entry := v.work.pre.entry.dropLast }) s.vol)) := rfl
theorem exec_keyEnter : exec .keyEnter s = .next (s.up (pressKey s.nv (enterEntry s.nv) s.vol)) := rfl
theorem exec_keyStart : exec .keyStart s = .next (s.up (pressKey s.nv startPour s.vol)) := rfl
theorem exec_keyStop : exec .keyStop s = .next (s.up (pressKey s.nv stopPour s.vol)) := rfl
theorem exec_keyEmerg : exec .keyEmerg s = .next (s.up (pressKey s.nv armEmergency s.vol)) := rfl
theorem exec_keyInfo : exec .keyInfo s = .next (s.up (pressKey s.nv infoPress s.vol)) := rfl

end

end Sys2Proof.Machine
end

section
/-! PROOF of O39. START opens a pour (R358). -/

namespace Sys2Proof.Machine

/-- Why START does nothing. -/
theorem startPour_idle {s : Vol} (h : s.work.pre.pour = true ∨ s.ret.pre.credit.toInt ≤ creditFloor s) : startPour s = s := by
  unfold startPour
  rw [if_pos]
  obtain pouring | empty := h
  · simp [pouring]
  · simp [empty]

theorem startPour_opens {s : Vol} (closed : s.work.pre.pour = false) (serving : retired s = false)
    (credit : creditFloor s < s.ret.pre.credit.toInt) :
    startPour s = markNoFlow (logG 0x0904 s.ret.led.tariff.toNat
      { s with work.pre.pour := true, work.pre.valve := true, work.pre.stopPressed := false }) := by
  unfold startPour
  rw [if_neg]
  simp [closed, serving, credit]

/-- START touches neither CREDIT nor the backup domain. -/
theorem startPour_stands (s : Vol) : (startPour s).bak = s.bak ∧ (startPour s).ret.pre = s.ret.pre := by
  unfold startPour
  split
  · exact ⟨rfl, rfl⟩
  · exact ⟨logG_bak _ _ _, logG_ret_pre _ _ _⟩

theorem startPour_valve {s : Vol} (closed : s.work.pre.pour = false) (serving : retired s = false)
    (credit : creditFloor s < s.ret.pre.credit.toInt) :
    (startPour s).work.pre.pour = true ∧ (startPour s).work.pre.valve = true := by
  rw [startPour_opens closed serving credit]
  simp only [markNoFlow, logG_work_pre, and_self]

/-- Settles O39: the two cases of START, carried over the press. -/
theorem startOpensAPourAboveTheFloor : Obligations.StartOpensAPourAboveTheFloor := by
  unfold Obligations.StartOpensAPourAboveTheFloor
  intro s on up serving
  have pressed := pressKey_pressed s.nv startPour on up
  obtain ⟨bak, retPre⟩ := startPour_stands (dropResult s.vol)
  refine ⟨_, exec_keyStart s, rfl, pressed.retPre.trans retPre, pressed.bak.trans bak, fun closed credit => ?_, fun h => ?_⟩
  · rw [State.up_vol, pressed.pre]
    exact startPour_valve closed serving credit
  · have idle : startPour (dropResult s.vol) = dropResult s.vol := startPour_idle h
    rw [State.up_vol, pressed.pre, idle]
    exact ⟨startPour_idle h, rfl, rfl⟩

end Sys2Proof.Machine
end

section
/-! PROOF of O40. The other keys (R342, R343, R357, R359, R506). -/

namespace Sys2Proof.Machine

theorem addDigit_eq (d : Fin 10) (s : Vol) :
    addDigit d s = { s with work.pre.entry :=
      if s.work.pre.entry.length < 20 then s.work.pre.entry ++ [d] else s.work.pre.entry } := by
  unfold addDigit
  split <;> rfl

/-- EMERG acts on whether emergency credit is armed, and on nothing else in prepayment (R357, R546). -/
theorem armEmergency_ret_pre (s : Vol) :
    (armEmergency s).ret.pre = { s.ret.pre with
      emerg := s.ret.pre.emerg || decide (retired s = false ∧ s.ret.pre.credit.toInt < s.work.obj.valve.emergThreshold ∧
        0 < s.work.obj.valve.emergLimit) } := by
  unfold armEmergency
  dsimp only
  split
  case isTrue h =>
    obtain ⟨low, limit, -, serving⟩ := h
    rw [Bool.not_eq_true'] at serving
    rw [logG_ret_pre, decide_eq_true ⟨serving, low, limit⟩, Bool.or_true]
  case isFalse h =>
    have kept : (s.ret.pre.emerg || decide (retired s = false ∧ s.ret.pre.credit.toInt < s.work.obj.valve.emergThreshold ∧
        0 < s.work.obj.valve.emergLimit)) = s.ret.pre.emerg := by
      rw [Bool.or_eq_left_iff_imp, decide_eq_true_eq]
      rintro ⟨serving, low, limit⟩
      by_contra armed
      exact h ⟨low, limit, by simpa using armed, by simp [serving]⟩
    rw [kept]

theorem armEmergency_work_pre (s : Vol) : (armEmergency s).work.pre = s.work.pre := by
  unfold armEmergency
  dsimp only
  split
  · exact logG_work_pre _ _ _
  · rfl

/-- Settles O40, key by key. -/
theorem keysEditTheEntryAndAct : Obligations.KeysEditTheEntryAndAct := by
  unfold Obligations.KeysEditTheEntryAndAct
  intro s on up
  have press := fun f => pressKey_pressed s.nv f on up
  refine ⟨fun d => ⟨_, exec_keyDigit s d, rfl, ?_⟩, ⟨_, exec_keyClear s, rfl, ?_⟩, ⟨_, exec_keyStop s, rfl, ?_⟩,
    ⟨_, exec_keyEmerg s, rfl, ?_⟩, ⟨_, exec_keyInfo s, rfl, ?_⟩⟩ <;> rw [State.up_vol]
  · obtain ⟨-, retPre, pre, -⟩ := press (addDigit d)
    rw [retPre, pre, addDigit_eq]
    exact ⟨rfl, rfl, rfl, rfl, rfl⟩
  · obtain ⟨-, retPre, pre, -⟩ := press fun v => { v with work.pre.entry := v.work.pre.entry.dropLast }
    rw [retPre, pre]
    exact ⟨rfl, rfl, rfl⟩
  · obtain ⟨-, retPre, pre, -⟩ := press stopPour
    rw [retPre, pre]
    exact ⟨rfl, rfl, rfl, rfl⟩
  · obtain ⟨-, retPre, pre, -⟩ := press armEmergency
    rw [retPre, pre, armEmergency_ret_pre, armEmergency_work_pre]
    exact ⟨rfl, rfl, rfl, rfl⟩
  · obtain ⟨-, retPre, pre, infoAt⟩ := press infoPress
    rw [retPre, pre, infoAt]
    exact ⟨rfl, rfl, rfl, rfl⟩

end Sys2Proof.Machine
end

section
/-! PROOF of O42. ENTER submits a token (R343, R347, R350). -/

namespace Sys2Proof.Machine

/-! ### What the record of a refusal can change -/

/-- s' differs from s in the STORE's working state, the logs and the counts of refusals and lock-outs at most. -/
structure RefusedFrame (s s' : Vol) : Prop where
  only : s' = { s with
    work.store := s'.work.store
    ret.logs := s'.ret.logs
    ret.store := s'.ret.store
    ret.pre.logSeq := s'.ret.pre.logSeq
    ret.pre.wrong := s'.ret.pre.wrong
    ret.pre.locks := s'.ret.pre.locks
    ret.pre.lockFrom := s'.ret.pre.lockFrom
    ret.pre.lockTicks := s'.ret.pre.lockTicks }

theorem RefusedFrame.refl (s : Vol) : RefusedFrame s s := ⟨rfl⟩

theorem RefusedFrame.trans {a b c : Vol} (h : RefusedFrame a b) (k : RefusedFrame b c) : RefusedFrame a c :=
  ⟨by rw [k.only, h.only]⟩

theorem RefusedFrame.bak {s s' : Vol} (h : RefusedFrame s s') : s'.bak = s.bak := by rw [h.only]
theorem RefusedFrame.pre {s s' : Vol} (h : RefusedFrame s s') : s'.work.pre = s.work.pre := by rw [h.only]
theorem RefusedFrame.credit {s s' : Vol} (h : RefusedFrame s s') : s'.ret.pre.credit = s.ret.pre.credit := by rw [h.only]
theorem RefusedFrame.idhwm {s s' : Vol} (h : RefusedFrame s s') : s'.ret.pre.idhwm = s.ret.pre.idhwm := by rw [h.only]
theorem RefusedFrame.bitmap {s s' : Vol} (h : RefusedFrame s s') : s'.ret.pre.bitmap = s.ret.pre.bitmap := by rw [h.only]
theorem RefusedFrame.tokens {s s' : Vol} (h : RefusedFrame s s') : s'.ret.pre.tokens = s.ret.pre.tokens := by rw [h.only]

theorem LogFrame.refusedFrame {s s' : Vol} (h : LogFrame s s') : RefusedFrame s s' := ⟨by rw [h.only]⟩

section
variable (nv : Nv) (result n : Nat) (s : Vol)

theorem logRefused_refusedFrame : RefusedFrame s (logRefused result n s) :=
  .trans ⟨rfl⟩ (submit_frame _ _).refusedFrame

theorem startLockout_refusedFrame : RefusedFrame s (startLockout nv s) :=
  .trans (.trans ⟨rfl⟩ (logG_frame _ _ _).refusedFrame) (writeCounts_frame nv _).refusedFrame

theorem countWrong_refusedFrame : RefusedFrame s (countWrong nv result s) := by
  have counted : RefusedFrame s (limG 0x0901 0xFF result { s with ret.pre.wrong := s.ret.pre.wrong + 1 }) :=
    .trans ⟨rfl⟩ (limG_frame _ _ _ _).refusedFrame
  unfold countWrong
  dsimp only
  split
  · exact counted.trans (startLockout_refusedFrame nv _)
  · exact counted

/-! ### Wrong tokens and lock-outs (R347, R350) -/

theorem logRefused_ret_pre : (logRefused result n s).ret.pre = { s.ret.pre with logSeq := s.ret.pre.logSeq + 1 } :=
  submit_ret_pre _ _

theorem startLockout_ret_pre :
    (startLockout nv s).ret.pre = { s.ret.pre with
      locks := satInc s.ret.pre.locks
      wrong := 0
      lockFrom := some s.bak.count
      lockTicks := 3840 * lockMinutes (satInc s.ret.pre.locks).toNat } := by
  unfold startLockout
  dsimp only
  rw [(writeCounts_frame nv _).ret_pre, logG_ret_pre]

variable {s}

theorem countWrong_wrong (few : s.ret.pre.wrong < 4) : (countWrong nv result s).ret.pre.wrong = s.ret.pre.wrong + 1 := by
  unfold countWrong
  dsimp only
  rw [limG_ret_pre, if_neg (by dsimp only; omega), limG_ret_pre]

/-- The fifth wrong token starts a lock-out. -/
theorem countWrong_locks (four : s.ret.pre.wrong = 4) :
    (countWrong nv result s).ret.pre = { s.ret.pre with
      locks := satInc s.ret.pre.locks
      wrong := 0
      lockFrom := some s.bak.count
      lockTicks := 3840 * lockMinutes (satInc s.ret.pre.locks).toNat } := by
  unfold countWrong
  dsimp only
  rw [limG_ret_pre, if_pos (by dsimp only; omega), startLockout_ret_pre, limG_ret_pre, limG_bak]

end

/-! ### The submission -/

/-- The token log entry of a refusal; none for STATE and LOCKED. -/
def refusalLogged (result n : Nat) (s : Vol) : Vol := if result = 8 ∨ result = 9 then s else logRefused result n s

/-- Only FORMAT and MAC count as wrong. -/
def refusalCounted (nv : Nv) (result : Nat) (s : Vol) : Vol :=
  if result = 1 ∨ result = 2 then countWrong nv result s else s

section
variable (nv : Nv) (result n : Nat) (s : Vol)

theorem refusalLogged_refusedFrame : RefusedFrame s (refusalLogged result n s) := by
  unfold refusalLogged
  split
  · exact .refl s
  · exact logRefused_refusedFrame result n s

theorem refusalCounted_refusedFrame : RefusedFrame s (refusalCounted nv result s) := by
  unfold refusalCounted
  split
  · exact countWrong_refusedFrame nv result s
  · exact .refl s

/-- The entry leaves the counts. -/
theorem refusalLogged_counts :
    (refusalLogged result n s).ret.pre.wrong = s.ret.pre.wrong ∧ (refusalLogged result n s).ret.pre.locks = s.ret.pre.locks := by
  unfold refusalLogged
  split
  · exact ⟨rfl, rfl⟩
  · rw [logRefused_ret_pre]
    exact ⟨rfl, rfl⟩

end

/-- A refused token is logged, counted where it is wrong, and shown. -/
theorem submitToken_refusal {nv : Nv} (byAction : Bool) {ds : List Nat} {s : Vol} (h : tokenResult nv s (tokenNumber ds) ≠ 0) :
    (submitToken nv byAction ds s).1 =
      showResult (tokenResult nv s (tokenNumber ds)) (refusalCounted nv (tokenResult nv s (tokenNumber ds))
        (refusalLogged (tokenResult nv s (tokenNumber ds)) (tokenNumber ds) s)) := by
  rw [submitToken, if_neg h]
  rfl

theorem submitToken_acceptance {nv : Nv} (byAction : Bool) {ds : List Nat} {s : Vol} (h : tokenResult nv s (tokenNumber ds) = 0) :
    (submitToken nv byAction ds s).1 = logAccepted byAction (tokenNumber ds) s := by
  rw [submitToken, if_pos h]

/-- Until its log write completes, an acceptance leaves the window and the keypad (R348, R349). -/
theorem logAccepted_stands (byAction : Bool) (n : Nat) (s : Vol) :
    (logAccepted byAction n s).work.pre = s.work.pre ∧ (logAccepted byAction n s).ret.pre.bitmap = s.ret.pre.bitmap := by
  unfold logAccepted
  extract_lets id c e r t
  rw [submit_work_pre, submit_ret_pre]
  exact ⟨rfl, rfl⟩

/-! ### ENTER -/

/-- The keypad when ENTER submits: the result has left the display and the entry is empty. -/
def submitting (s : Vol) : Vol := { dropResult s with work.pre.entry := [] }

theorem enterEntry_short (nv : Nv) {s : Vol} (h : s.work.pre.entry.length ≠ 20) :
    enterEntry nv (dropResult s) = submitting s :=
  if_neg h

theorem enterEntry_full (nv : Nv) {s : Vol} (h : s.work.pre.entry.length = 20) :
    enterEntry nv (dropResult s) = (submitToken nv false (s.work.pre.entry.map (·.val)) (submitting s)).1 :=
  if_pos h

/-- The number that the entry of the keypad spells (R345). -/
def entryNumber (s : Vol) : Nat := tokenNumber (s.work.pre.entry.map (·.val))

section
variable {nv : Nv} {s : Vol} (full : s.work.pre.entry.length = 20)
include full

theorem enterEntry_refused (h : tokenResult nv s (entryNumber s) ≠ 0) :
    enterEntry nv (dropResult s) =
      showResult (tokenResult nv s (entryNumber s)) (refusalCounted nv (tokenResult nv s (entryNumber s))
        (refusalLogged (tokenResult nv s (entryNumber s)) (entryNumber s) (submitting s))) := by
  rw [enterEntry_full nv full]
  exact submitToken_refusal (s := submitting s) false h

theorem enterEntry_accepted (h : tokenResult nv s (entryNumber s) = 0) :
    enterEntry nv (dropResult s) = logAccepted false (entryNumber s) (submitting s) := by
  rw [enterEntry_full nv full]
  exact submitToken_acceptance (s := submitting s) false h

end

/-- After ENTER the entry is empty, and the backup domain, CREDIT and the window are as they were. -/
structure Entered (s v : Vol) : Prop where
  entry : v.work.pre.entry = []
  bak : v.bak = s.bak
  credit : v.ret.pre.credit = s.ret.pre.credit
  idhwm : v.ret.pre.idhwm = s.ret.pre.idhwm
  bitmap : v.ret.pre.bitmap = s.ret.pre.bitmap

theorem enterEntry_entered (nv : Nv) (s : Vol) : Entered s (enterEntry nv (dropResult s)) := by
  by_cases full : s.work.pre.entry.length = 20
  · by_cases accepted : tokenResult nv s (entryNumber s) = 0
    · obtain ⟨bak, credit, idhwm, -⟩ := logAccepted_adds false (entryNumber s) (submitting s)
      obtain ⟨pre, bitmap⟩ := logAccepted_stands false (entryNumber s) (submitting s)
      rw [enterEntry_accepted full accepted]
      exact ⟨congrArg PrepayWork.entry pre, bak, credit, idhwm, bitmap⟩
    · rw [enterEntry_refused full accepted]
      generalize tokenResult nv s (entryNumber s) = r
      have frame := (refusalLogged_refusedFrame r (entryNumber s) (submitting s)).trans (refusalCounted_refusedFrame nv r _)
      exact ⟨congrArg PrepayWork.entry frame.pre, frame.bak, frame.credit, frame.idhwm, frame.bitmap⟩
  · rw [enterEntry_short nv full]
    exact ⟨rfl, rfl, rfl, rfl, rfl⟩

/-- What a refusal shows, and the tokens and the wrong tokens after it (R347, R350). -/
structure RefusedAs (r : Nat) (s v : Vol) : Prop where
  result : v.work.pre.result = some r
  tokens : v.ret.pre.tokens = s.ret.pre.tokens
  other : r ≠ 1 → r ≠ 2 → v.ret.pre.wrong = s.ret.pre.wrong
  wrong : r = 1 ∨ r = 2 → s.ret.pre.wrong < 4 → v.ret.pre.wrong = s.ret.pre.wrong + 1
  fifth : r = 1 ∨ r = 2 → s.ret.pre.wrong = 4 → v.ret.pre.wrong = 0 ∧ v.ret.pre.locks = satInc s.ret.pre.locks ∧
    v.ret.pre.lockFrom = some s.bak.count ∧ v.ret.pre.lockTicks = 3840 * lockMinutes (satInc s.ret.pre.locks).toNat

theorem showResult_refusedAs (nv : Nv) (r n : Nat) (s : Vol) :
    RefusedAs r s (showResult r (refusalCounted nv r (refusalLogged r n s))) := by
  have logged := refusalLogged_refusedFrame r n s
  obtain ⟨wrong, locks⟩ := refusalLogged_counts r n s
  generalize refusalLogged r n s = u at logged wrong locks ⊢
  refine ⟨rfl, (logged.trans (refusalCounted_refusedFrame nv r u)).tokens, fun h1 h2 => ?_, fun h few => ?_, fun h four => ?_⟩
  · rw [refusalCounted, if_neg (not_or.mpr ⟨h1, h2⟩)]
    exact wrong
  · rw [refusalCounted, if_pos h]
    exact (countWrong_wrong nv r (wrong.trans_lt few)).trans (congrArg (· + 1) wrong)
  · rw [refusalCounted, if_pos h, ← locks, ← logged.bak]
    have locked := countWrong_locks nv r (wrong.trans four)
    exact ⟨congrArg PrepayRet.wrong locked, congrArg PrepayRet.locks locked, congrArg PrepayRet.lockFrom locked,
      congrArg PrepayRet.lockTicks locked⟩

/-- Settles O42: an entry too short, a refusal and an acceptance, carried over the press. -/
theorem enterEvaluatesAToken : Obligations.EnterEvaluatesAToken := by
  unfold Obligations.EnterEvaluatesAToken
  intro s on up
  obtain ⟨bak, retPre, pre, -⟩ := pressKey_pressed s.nv (enterEntry s.nv) on up
  obtain ⟨entry, bak', credit, idhwm, bitmap⟩ := enterEntry_entered s.nv s.vol
  refine ⟨_, exec_keyEnter s, rfl, ?_⟩
  rw [State.up_vol, bak, retPre, pre]
  refine ⟨entry, bak', credit, idhwm, bitmap, fun short => ?_, fun full refused => ?_, fun full accepted => ?_⟩
  · rw [enterEntry_short s.nv (Nat.ne_of_lt short)]
    exact ⟨rfl, rfl⟩
  · rw [enterEntry_refused full refused]
    obtain ⟨result, tokens, other, wrong, fifth⟩ :=
      showResult_refusedAs s.nv (tokenResult s.nv s.vol (entryNumber s.vol)) (entryNumber s.vol) (submitting s.vol)
    exact ⟨result, tokens, other, wrong, fifth⟩
  · obtain ⟨-, -, -, tokens⟩ := logAccepted_adds false (entryNumber s.vol) (submitting s.vol)
    obtain ⟨keypad, -⟩ := logAccepted_stands false (entryNumber s.vol) (submitting s.vol)
    rw [enterEntry_accepted full accepted]
    exact ⟨tokens, congrArg PrepayWork.result keypad⟩

end Sys2Proof.Machine
end

section
/-! SUPPORT. What a booking (R217 to R221, R247 to R251, R353) leaves of prepayment: all but CREDIT and LREM. -/

namespace Sys2Proof.Machine

/-! ### The parts that deduct nothing -/

section
variable (s : Vol)

theorem pulseLost_ret_pre (out lost : Nat) : (pulseLost out lost s).ret.pre = s.ret.pre := by
  unfold pulseLost
  split
  · rfl
  · refine (logLimitedTimes_frame _ _ _ _ _ _).ret_pre.trans ?_
    split <;> rfl

theorem pulseBook_ret_pre (dF dR : Nat) (fwd rev : Bool) : (pulseBook dF dR fwd rev s).ret.pre = s.ret.pre := by
  unfold pulseBook
  split
  · rfl
  · dsimp only
    rw [pulseLost_ret_pre, pulseLost_ret_pre]

theorem endGap_ret_pre (n : Nat) (flow : Option Int) : (endGap n flow s).1.ret.pre = s.ret.pre := by
  unfold endGap
  split
  · rfl
  · split
    · split
      · split <;> exact limM_ret_pre _ _ _ _
      · exact logM_ret_pre _ _ _
    · exact logM_ret_pre _ _ _

theorem markUnfilled_ret_pre (g : Gap) : (markUnfilled g s).ret.pre = s.ret.pre := by
  unfold markUnfilled
  split <;> rfl

theorem decideGaps_ret_pre : (decideGaps s).1.ret.pre = s.ret.pre := by
  unfold decideGaps
  refine List.foldlRecOn (motive := fun x : Vol × Nat × Nat => x.1.ret.pre = s.ret.pre) _ _ rfl fun x same g _ => ?_
  exact (endGap_ret_pre _ _ _).trans ((markUnfilled_ret_pre x.1 g).trans same)

theorem addGap_ret_pre (count : BitVec 32) (n : Nat) : (addGap count n s).ret.pre = s.ret.pre := by
  unfold addGap
  split <;> rfl

theorem bookFlow_ret_pre (m : Nat) : (bookFlow m s).1.ret.pre = s.ret.pre := by
  unfold bookFlow
  split
  · rfl
  · split
    · rfl
    · dsimp only
      split <;> split <;> rfl

theorem bookLoop_ret_pre (count : BitVec 32) : (bookLoop count s).ret.pre = s.ret.pre := by
  unfold bookLoop
  dsimp only
  split
  · rfl
  · split <;> rfl

end

/-! ### The deduction (R353) -/

/-- Of prepayment in retained RAM, s' differs from s in CREDIT and LREM at most. -/
structure DeductFrame (s s' : Vol) : Prop where
  only : s'.ret.pre = { s.ret.pre with credit := s'.ret.pre.credit, lrem := s'.ret.pre.lrem }

theorem DeductFrame.trans {a b c : Vol} (h : DeductFrame a b) (k : DeductFrame b c) : DeductFrame a c :=
  ⟨by rw [k.only, h.only]⟩

theorem DeductFrame.after {a b c : Vol} (k : DeductFrame b c) (h : DeductFrame a b) : DeductFrame a c := h.trans k

theorem DeductFrame.of_eq {s s' : Vol} (h : s'.ret.pre = s.ret.pre) : DeductFrame s s' := ⟨by rw [h]⟩

theorem DeductFrame.tokens {s s' : Vol} (h : DeductFrame s s') : s'.ret.pre.tokens = s.ret.pre.tokens := by rw [h.only]
theorem DeductFrame.emerg {s s' : Vol} (h : DeductFrame s s') : s'.ret.pre.emerg = s.ret.pre.emerg := by rw [h.only]

theorem deduct_deductFrame (v : Nat) (s : Vol) : DeductFrame s (deduct v s) := by
  unfold deduct
  split <;> exact ⟨rfl⟩

theorem ledgerTakes_deductFrame (dF dR dEF dER : Nat) (s : Vol) : DeductFrame s (ledgerTakes dF dR dEF dER s) := by
  unfold ledgerTakes
  split
  · exact .of_eq rfl
  · exact .after (deduct_deductFrame _ _) (.of_eq rfl)

theorem bookTo_deductFrame (count : BitVec 32) (s : Vol) : DeductFrame s (bookTo count s) := by
  unfold bookTo
  dsimp only
  split
  · exact .of_eq rfl
  · split
    · exact .of_eq rfl
    · refine .after (.of_eq (pulseBook_ret_pre _ _ _ _ _)) (.after (ledgerTakes_deductFrame _ _ _ _ _) (.of_eq ?_))
      refine (addGap_ret_pre _ _ _).trans ((bookFlow_ret_pre _ _).trans ?_)
      split
      · rfl
      · exact decideGaps_ret_pre s

theorem bookEvent_deductFrame (count : BitVec 32) (s : Vol) : DeductFrame s (bookEvent count s) := by
  unfold bookEvent
  split
  · exact .of_eq rfl
  · split
    · exact .of_eq (bookLoop_ret_pre s count)
    · split
      · exact .of_eq rfl
      · exact bookTo_deductFrame count s

end Sys2Proof.Machine
end

section
/-! PROOF of O41. Waits end, a pour ends, and a written token acts (R342, R343, R350, R351, R354, R357, R359). -/

namespace Sys2Proof.Machine

/-! ### The waits (R342, R343, R350) -/

theorem exec_keyRelease {s : State} (on : keypadOn s.vol = true) :
    exec .keyRelease s = .next { s with vol.work.pre.keyDown := false } :=
  if_pos on

theorem exec_entryTimeout (s : State) : exec .entryTimeout s = .next (s.up (entryTimeout s.vol)) := rfl
theorem exec_lockoutEnd (s : State) : exec .lockoutEnd s = .next (s.up (lockoutEnd s.nv s.vol)) := rfl

/-- The entry is dropped. -/
def entryEmptied (s : Vol) : Vol := { s with work.pre.entry := [] }

/-- An entry left for 60 s is emptied. -/
theorem entryTimeout_empties {s : Vol} (typed : s.work.pre.entry ≠ [])
    (left : 3840 ≤ (s.bak.count - s.work.pre.lastKey).toNat) :
    DrawFrame (entryEmptied s) (entryTimeout s) := by
  have due : (!s.work.pre.entry.isEmpty && decide (3840 ≤ (s.bak.count - s.work.pre.lastKey).toNat)) = true := by
    rw [decide_eq_true left, Bool.and_true, Bool.not_eq_true', List.isEmpty_eq_false_iff]
    exact typed
  unfold entryTimeout
  rw [if_pos due]
  exact withTemplate_drawFrame entryEmptied s

theorem lockoutEnd_ends (nv : Nv) {s : Vol} (locked : lockedOut s = true) (ended : lockTicksLeft s = 0) :
    LogFrame { s with ret.pre.lockFrom := none, ret.pre.lockTicks := 0 } (lockoutEnd nv s) := by
  unfold lockoutEnd
  rw [if_pos (by simp [locked, ended])]
  exact (logG_frame _ _ _).trans (writeCounts_frame nv _)

/-! ### The end of a pour (R359) -/

theorem exec_pourEnd (s : State) : exec .pourEnd s = .next (s.up (pourEnd s.nv s.vol)) := rfl

/-- The reasons in their order. -/
theorem pourEndReason_first {s : Vol} {r : Nat}
    (h : (r = 1 ∧ s.ret.pre.credit.toInt ≤ creditFloor s) ∨
      (creditFloor s < s.ret.pre.credit.toInt ∧
        ((r = 2 ∧ s.work.pre.stopPressed = true) ∨
          (s.work.pre.stopPressed = false ∧
            ((r = 3 ∧ noFlowLong s = true) ∨ (r = 4 ∧ noFlowLong s = false ∧ s.ret.pre.pourCut = true)))))) :
    pourEndReason s = some r := by
  unfold pourEndReason
  obtain ⟨rfl, empty⟩ | ⟨credit, reason⟩ := h
  · rw [if_pos empty]
  · rw [if_neg (not_le.mpr credit)]
    obtain ⟨rfl, stop⟩ | ⟨running, reason⟩ := reason
    · rw [if_pos stop]
    · rw [if_neg (by simp [running])]
      obtain ⟨rfl, dry⟩ | ⟨rfl, flowing, cut⟩ := reason
      · rw [if_pos dry]
      · rw [if_neg (by simp [flowing]), if_pos cut]

/-- The pour is closed for a reason. -/
def pourClosed (reason : Nat) (s : Vol) : Vol :=
  { s with
    work.pre.pour := false
    work.pre.valve := false
    work.pre.stopPressed := false
    work.pre.noFlowSince := none
    ret.pre.pourCut := false
    ret.pre.lastEnd := BitVec.ofNat 4 reason }

theorem endPour_drawFrame (nv : Nv) (reason : Nat) (s : Vol) : DrawFrame (pourClosed reason s) (endPour nv reason s) :=
  (withTemplate_drawFrame (pourClosed reason) s).trans ((logG_frame _ _ _).drawFrame.trans (fieldCheck_drawFrame nv _))

theorem pourEnd_ends (nv : Nv) {s : Vol} {r : Nat} (poured : s.ret.pre.pourCut = true ∨ s.work.pre.pour = true)
    (reason : pourEndReason s = some r) : DrawFrame (pourClosed r s) (pourEnd nv s) := by
  have open_or_cut : ¬ (!s.work.pre.pour && !s.ret.pre.pourCut) = true := by
    obtain cut | pour := poured
    · simp [cut]
    · simp [pour]
  unfold pourEnd
  rw [if_neg open_or_cut, reason]
  exact endPour_drawFrame nv r s

/-! ### A written token acts (R351, R354, R357) -/

theorem exec_tokenApply {s : State} (core : coreRuns s.vol = true) :
    exec .tokenApply s = .next (s.up (applyTokens s.nv s.vol)) :=
  congrArg (fun v => Host.Outcome.next (s.up v)) (if_pos core)

theorem writeRingB_frame (nv : Nv) (s : Vol) : LogFrame s (writeRingB nv s) := by
  unfold writeRingB
  split
  · exact submitGuarded_frame _ s
  · exact .refl s

section
variable (nv : Nv) {s : Vol} {k : Token}

/-- In RETIRED no token acts (R554). -/
theorem applyTokens_retired (h : retired s = true) : applyTokens nv s = s :=
  if_pos (by rw [h, Bool.or_true])

/-- The only token, once its tick has come, acts after the booking of the tick, and none is left. -/
theorem applyTokens_single (serving : retired s = false) (only : s.ret.pre.tokens = [k]) (written : k.written = true)
    (later : k.since ≠ s.bak.count) :
    LogFrame { applyToken k (bookEvent s.bak.count s) with ret.pre.tokens := [] } (applyTokens nv s) := by
  have due : tokenDue s k = true := by simp [tokenDue, written, later]
  have acts : s.ret.pre.tokens.filter (tokenDue s) = [k] := by rw [only, List.filter_singleton, due]; rfl
  have booked : (applyToken k (bookEvent s.bak.count s)).ret.pre.tokens = [k] :=
    (bookEvent_deductFrame s.bak.count s).tokens.trans only
  have none_left : (applyToken k (bookEvent s.bak.count s)).ret.pre.tokens.filter
      (!tokenDue (applyToken k (bookEvent s.bak.count s)) ·) = [] := by
    have still : tokenDue (applyToken k (bookEvent s.bak.count s)) k = true := by
      simp only [tokenDue, applyToken, bookEvent_bak] at due ⊢
      exact due
    rw [booked, List.filter_singleton, still]
    rfl
  unfold applyTokens
  dsimp only
  rw [acts, if_neg (by simp [serving]), List.foldl_cons, List.foldl_nil, none_left]
  exact writeRingB_frame nv _

end

/-- CREDIT after a token of each class (R351). -/
theorem applyToken_credit (k : Token) (s : Vol) :
    (k.cls = 0 → (applyToken k s).ret.pre.credit = s.ret.pre.credit + ofInt 64 (amountOf k.amount.toNat)) ∧
      (k.cls = 1 → (applyToken k s).ret.pre.credit = s.ret.pre.credit + ofInt 64 (-(amountOf k.amount.toNat : Int))) ∧
      (k.cls = 2 → (applyToken k s).ret.pre.credit = s.ret.pre.credit) := by
  unfold applyToken tokenEffect
  refine ⟨fun credit => ?_, fun refund => ?_, fun test => ?_⟩
  · rw [credit]
    rfl
  · rw [refund]
    rfl
  · rw [test]
    exact BitVec.add_zero _

theorem applyToken_booked_emerg (k : Token) {s b : Vol} (h : DeductFrame s b) :
    (applyToken k b).ret.pre.emerg =
      (s.ret.pre.emerg && !(decide (b.ret.pre.credit.toInt < 0) && decide (0 ≤ (applyToken k b).ret.pre.credit.toInt))) := by
  rw [← h.emerg]
  rfl

/-! ### The statement -/

theorem entryTimeout_act {s : State} (typed : s.vol.work.pre.entry ≠ [])
    (left : 3840 ≤ (s.vol.bak.count - s.vol.work.pre.lastKey).toNat) :
    ∃ t, exec .entryTimeout s = .next t ∧ t.nv = s.nv ∧ t.vol.work.pre.entry = [] ∧ t.vol.ret.pre = s.vol.ret.pre ∧
      t.vol.bak = s.vol.bak := by
  have emptied := entryTimeout_empties typed left
  exact ⟨_, exec_entryTimeout s, rfl, congrArg PrepayWork.entry emptied.pre, emptied.ret_pre, emptied.bak⟩

theorem lockoutEnd_act {s : State} (locked : lockedOut s.vol = true) (ended : lockTicksLeft s.vol = 0) :
    ∃ t, exec .lockoutEnd s = .next t ∧ t.nv = s.nv ∧ t.vol.bak = s.vol.bak ∧
      t.vol.ret.pre = { s.vol.ret.pre with lockFrom := none, lockTicks := 0 } := by
  have logged := lockoutEnd_ends s.nv locked ended
  exact ⟨_, exec_lockoutEnd s, rfl, logged.bak, logged.ret_pre⟩

theorem pourEnd_act {s : State} {r : Nat} (poured : s.vol.ret.pre.pourCut = true ∨ s.vol.work.pre.pour = true)
    (reason : pourEndReason s.vol = some r) :
    ∃ t, exec .pourEnd s = .next t ∧ t.nv = s.nv ∧ t.vol.bak = s.vol.bak ∧ t.vol.work.pre.pour = false ∧
      t.vol.work.pre.valve = false ∧ t.vol.ret.pre = { s.vol.ret.pre with pourCut := false, lastEnd := BitVec.ofNat 4 r } := by
  have closed := pourEnd_ends s.nv poured reason
  exact ⟨_, exec_pourEnd s, rfl, closed.bak, congrArg PrepayWork.pour closed.pre, congrArg PrepayWork.valve closed.pre,
    closed.ret_pre⟩

/-- Settles O41: the four waits, and a written token in service and in RETIRED. -/
theorem waitsEndAndWrittenTokensAct : Obligations.WaitsEndAndWrittenTokensAct := by
  unfold Obligations.WaitsEndAndWrittenTokensAct
  refine ⟨fun s => ⟨exec_keyRelease, entryTimeout_act, lockoutEnd_act,
    fun r poured reason => pourEnd_act poured (pourEndReason_first reason)⟩, fun s k core only written later => ⟨fun gone => ?_,
      fun serving => ?_⟩⟩
  · rw [exec_tokenApply core, applyTokens_retired s.nv gone, State.up_self]
  · have booked := bookEvent_deductFrame s.vol.bak.count s.vol
    have bak : (bookEvent s.vol.bak.count s.vol).bak = s.vol.bak := bookEvent_bak _ _
    have acted := applyTokens_single s.nv serving only written later
    refine ⟨_, exec_tokenApply core, rfl, acted.bak.trans bak, acted.ret_led, ?_⟩
    rw [State.up_vol, acted.ret_pre]
    generalize bookEvent s.vol.bak.count s.vol = b at booked
    refine ⟨rfl, rfl, ?_, applyToken_booked_emerg k booked⟩
    rintro a rfl
    exact applyToken_credit k b

end Sys2Proof.Machine
end

section
/-! SUPPORT. The store array (R365, R366): what a byte and a page read after a write, what ECC reports of a page after another
outcome, and that a rewritten page keeps the store's invariant. -/

namespace Sys2Proof.Machine

/-! ### Bytes -/

theorem memRead_below {m : List Host.Cell} {lo a : Nat} (h : memWfFrom lo m = true) (ha : a < lo) : memRead m a = 0xFF := by
  induction m generalizing lo with
  | nil => rfl
  | cons c r ih =>
    obtain ⟨k, v⟩ := c
    simp only [memWfFrom, Bool.and_eq_true, decide_eq_true_eq] at h
    obtain ⟨⟨hk, -⟩, hr⟩ := h
    rw [memRead, if_neg (by omega), ih hr (by omega)]

/-- A byte written in canonical form is read back, and every other byte stands. -/
theorem memRead_memWrite {m : List Host.Cell} {lo : Nat} (a : Nat) (b : Byte) (x : Nat) (h : memWfFrom lo m = true) :
    memRead (memWrite m a b) x = if x = a then b else memRead m x := by
  induction m generalizing lo with
  | nil =>
    rw [memWrite]
    by_cases erased : b = 0xFF
    · rw [if_pos erased, erased, memRead, ite_self]
    · rw [if_neg erased, memRead, memRead]
      exact if_congr eq_comm rfl rfl
  | cons c r ih =>
    obtain ⟨k, v⟩ := c
    simp only [memWfFrom, Bool.and_eq_true, decide_eq_true_eq] at h
    obtain ⟨⟨-, -⟩, hr⟩ := h
    rw [memWrite]
    by_cases below : a < k
    · have absent : memRead ((k, v) :: r) a = 0xFF := by
        rw [memRead, if_neg (by omega), memRead_below hr (by omega)]
      rw [if_pos below]
      by_cases erased : b = 0xFF
      · rw [if_pos erased]
        split_ifs with same
        · rw [same, absent, erased]
        · rfl
      · rw [if_neg erased, memRead]
        exact if_congr eq_comm rfl rfl
    · rw [if_neg below]
      by_cases here : a = k
      · subst here
        have rest : a ≠ x → memRead ((a, v) :: r) x = memRead r x := fun n => by rw [memRead, if_neg n]
        rw [if_pos rfl]
        by_cases erased : b = 0xFF
        · rw [if_pos erased]
          split_ifs with same
          · rw [same, memRead_below hr (by omega), erased]
          · rw [rest (Ne.symm same)]
        · rw [if_neg erased, memRead]
          by_cases same : a = x
          · rw [if_pos same, if_pos same.symm]
          · rw [if_neg same, if_neg (Ne.symm same), rest same]
      · rw [if_neg here, memRead, memRead, ih hr]
        split_ifs with hx ha
        · omega
        · rfl
        · rfl
        · rfl

/-- Bytes written at rising addresses: each is read back, and the bytes outside stand. -/
theorem memRead_memWriteList (d : Bytes) {m : List Host.Cell} (a x : Nat) (h : Memory.wf m = true) :
    memRead (memWriteList m a d) x = if a ≤ x ∧ x < a + d.length then d.getD (x - a) 0xFF else memRead m x := by
  induction d generalizing m a with
  | nil => simp only [memWriteList, List.length_nil]; rw [if_neg (by omega)]
  | cons b r ih =>
    rw [memWriteList, ih _ (memWrite_wf a b h), memRead_memWrite a b x h, List.length_cons]
    by_cases here : x = a
    · subst here
      rw [if_neg (by omega), if_pos rfl, if_pos (by omega), Nat.sub_self, List.getD_cons_zero]
    · rw [if_neg here]
      by_cases later : a + 1 ≤ x ∧ x < a + 1 + r.length
      · rw [if_pos later, if_pos (by omega), show x - a = x - (a + 1) + 1 by omega, List.getD_cons_succ]
      · rw [if_neg later, if_neg (by omega)]

/-! ### Pages -/

theorem memRead_memWritePage_outside {m : List Host.Cell} {n a : Nat} (d : Bytes) (h : Memory.wf m = true)
    (ha : a < 64 * n ∨ 64 * n + 64 ≤ a) : memRead (memWritePage m n d) a = memRead m a := by
  rw [memWritePage, memRead_memWriteList _ _ _ h, if_neg (by rw [padTo_length]; omega)]

/-- A page written whole reads as it was written. -/
theorem memPage_memWritePage {m : List Host.Cell} (n : Nat) (d : Bytes) (h : Memory.wf m = true) :
    memPage (memWritePage m n d) n = padTo 64 0xFF d := by
  have read : ∀ i < 64, memRead (memWritePage m n d) (64 * n + i) = (padTo 64 0xFF d).getD i 0xFF := by
    intro i hi
    rw [memWritePage, memRead_memWriteList _ _ _ h, if_pos (by rw [padTo_length]; omega), Nat.add_sub_cancel_left]
  refine List.ext_getElem (by simp [memPage, padTo_length]) fun i hi hj => ?_
  have small : i < 64 := by simpa [memPage] using hi
  simp only [memPage, List.getElem_map, List.getElem_range]
  rw [read i small, List.getD_eq_getElem _ _ hj]

theorem padTo_padTo {α : Type} (n : Nat) (x : α) (l : List α) : padTo n x (padTo n x l) = padTo n x l := by
  have whole : (padTo n x l).length = n := padTo_length n x l
  rw [padTo, whole, Nat.sub_self, List.replicate_zero, List.append_nil, List.take_of_length_le whole.le]

/-! ### What ECC reports of a page (R380) -/

theorem find?_setEcc_other {n k : Nat} (c : Option PageCond) (ecc : List (Nat × PageCond)) (h : k ≠ n) :
    (setEcc n c ecc).find? (·.1 == k) = ecc.find? (·.1 == k) := by
  have new : (c.toList.map fun c => (n, c)).find? (fun p : Nat × PageCond => p.1 == k) = none := by
    simp [List.find?_eq_none, Ne.symm h]
  rw [setEcc, List.find?_append, new, Option.or_none, List.find?_filter]
  congr 1
  funext p
  by_cases hp : p.1 = k
  · simp [hp, h]
  · simp [hp]

theorem find?_setEcc_self (n : Nat) (c : Option PageCond) (ecc : List (Nat × PageCond)) :
    (setEcc n c ecc).find? (·.1 == n) = c.map fun c => (n, c) := by
  have old : (ecc.filter (·.1 != n)).find? (fun p => p.1 == n) = none := by
    simp [List.find?_eq_none]
  rw [setEcc, List.find?_append, old, Option.none_or]
  cases c <;> simp

/-- One condition at most for each page, after another outcome of one of them. -/
theorem nodup_setEcc (n : Nat) (c : Option PageCond) {ecc : List (Nat × PageCond)} (h : (ecc.map (·.1)).Nodup) :
    ((setEcc n c ecc).map (·.1)).Nodup := by
  have kept : ((ecc.filter (·.1 != n)).map (·.1)).Nodup := h.sublist (List.filter_sublist.map _)
  rw [setEcc, List.map_append, List.nodup_append]
  refine ⟨kept, by cases c <;> simp, fun a ha b hb => ?_⟩
  simp only [List.mem_map, List.mem_filter, bne_iff_ne] at ha
  obtain ⟨p, ⟨-, other⟩, rfl⟩ := ha
  have here : b = n := by cases c <;> simp_all
  rwa [here]

theorem bounded_setEcc {n : Nat} (c : Option PageCond) {ecc : List (Nat × PageCond)} (hn : n < 8192)
    (h : ecc.all (fun p => decide (p.1 < 8192)) = true) : (setEcc n c ecc).all (fun p => decide (p.1 < 8192)) = true := by
  simp only [List.all_eq_true, decide_eq_true_eq] at h ⊢
  intro p hp
  rw [setEcc, List.mem_append, List.mem_filter] at hp
  rcases hp with ⟨old, -⟩ | new
  · exact h p old
  · obtain ⟨c', -, rfl⟩ := List.mem_map.mp new
    exact hn

/-! ### The array with a page rewritten -/

variable {nv : Nv} {n : Nat}

theorem storeInv_wf (h : storeInv nv = true) : Memory.wf nv.mem = true := by
  simp only [storeInv, Bool.and_eq_true] at h
  exact h.1.1.1

/-- A rewritten page keeps the invariant of the store. -/
theorem storeInv_rewritten (d : Bytes) (c : Option PageCond) (hn : n < 8192) (h : storeInv nv = true) :
    storeInv { nv with mem := memWritePage nv.mem n d, ecc := setEcc n c nv.ecc } = true := by
  simp only [storeInv, Bool.and_eq_true, decide_eq_true_eq] at h ⊢
  obtain ⟨⟨⟨hwf, hbound⟩, hecc⟩, hnodup⟩ := h
  exact ⟨⟨⟨memWritePage_wf n d hwf, memWritePage_bounded d hn hbound⟩, bounded_setEcc c hn hecc⟩, nodup_setEcc n c hnodup⟩

theorem putPage_inside (d : Bytes) (c : Option PageCond) (hn : n < 8192) :
    putPage n d c nv = { nv with mem := memWritePage nv.mem n d, ecc := setEcc n c nv.ecc } := if_pos hn

theorem putPage_outside (d : Bytes) (c : Option PageCond) (hn : ¬n < 8192) : putPage n d c nv = nv := if_neg hn

theorem storeInv_putPage (n : Nat) (d : Bytes) (c : Option PageCond) (h : storeInv nv = true) :
    storeInv (putPage n d c nv) = true := by
  by_cases hn : n < 8192
  · rw [putPage_inside d c hn]
    exact storeInv_rewritten d c hn h
  · rw [putPage_outside d c hn]
    exact h

@[simp] theorem putPage_trim (n : Nat) (d : Bytes) (c : Option PageCond) (nv : Nv) : (putPage n d c nv).trim = nv.trim := by
  unfold putPage
  split <;> rfl

/-- The page holds what was put there. -/
theorem memPage_putPage (d : Bytes) (c : Option PageCond) (hn : n < 8192) (h : storeInv nv = true) :
    memPage (putPage n d c nv).mem n = padTo 64 0xFF d := by
  rw [putPage_inside d c hn]
  exact memPage_memWritePage n d (storeInv_wf h)

/-- No byte outside the page changes. -/
theorem memRead_putPage_outside {a : Nat} (d : Bytes) (c : Option PageCond) (h : storeInv nv = true)
    (ha : a < 64 * n ∨ 64 * n + 64 ≤ a) : memRead (putPage n d c nv).mem a = memRead nv.mem a := by
  unfold putPage
  split
  · exact memRead_memWritePage_outside d (storeInv_wf h) ha
  · rfl

theorem pageCond_putPage_self (d : Bytes) (c : Option PageCond) (hn : n < 8192) : pageCond (putPage n d c nv) n = c := by
  rw [putPage_inside d c hn, pageCond, find?_setEcc_self]
  cases c <;> rfl

theorem pageCond_putPage_other {k : Nat} (d : Bytes) (c : Option PageCond) (h : k ≠ n) :
    pageCond (putPage n d c nv) k = pageCond nv k := by
  unfold putPage
  split
  · rw [pageCond, find?_setEcc_other c nv.ecc h, pageCond]
  · rfl

end Sys2Proof.Machine
end

section
/-! SUPPORT and PROOF of O3, O4, O5 and O6. Which commands rewrite a page of the array: the completion of a page write, and the tears
at the return of VBK and at the entry to KEEP (R365, R368, R379, R540). Every other command answers a state that differs in its
volatile part alone. -/

namespace Sys2Proof.Machine

/-! ### The commands that leave the array -/

/-- The outcome is a next state with the array and the queue of s. -/
def AnswersUp (s : State) (o : Host.Outcome State Fault Refusal) : Prop := ∃ v, o = .next (s.up v)

theorem AnswersUp.up (s : State) (v : Vol) : AnswersUp s (.next (s.up v)) := ⟨v, rfl⟩

theorem AnswersUp.self (s : State) : AnswersUp s (.next s) := ⟨s.vol, rfl⟩

theorem AnswersUp.ite {c : Prop} [Decidable c] {s : State} {o p : Host.Outcome State Fault Refusal} (ho : AnswersUp s o)
    (hp : AnswersUp s p) : AnswersUp s (if c then o else p) := by
  split
  · exact ho
  · exact hp

/-- A command may rewrite a page of the array. -/
def rewritesPage : Instr → Bool
  | .pageWriteDone _ _ _ | .vbkRelease _ | .keepEntry => true
  | _ => false

theorem frameRow_answersUp (r : Row) (f : Frame) (s : State) : AnswersUp s (frameRow r f s) :=
  .ite (.up s _) (.self s)

theorem execFlowStale_answersUp (s : State) : AnswersUp s (execFlowStale s) := by
  unfold execFlowStale
  split
  · exact .ite (.up s { s.vol with work.flow.stale := true }) (.self s)
  · exact .self s

theorem execAuthLockoutEnd_answersUp (r : Role) (s : State) : AnswersUp s (execAuthLockoutEnd r s) := by
  unfold execAuthLockoutEnd
  dsimp only
  split
  · exact .ite (.up s { s.vol with ret.ex.lockFrom := vset s.vol.ret.ex.lockFrom (roleCode r) none }) (.self s)
  · exact .self s

theorem execPulseEnd_answersUp (out : PulseOut) (s : State) : AnswersUp s (execPulseEnd out s) := by
  cases out
  · exact .up s { s.vol with work.pt.pulseA.low := false }
  · exact .up s { s.vol with work.pt.pulseB.low := false }

theorem execRstNRelease_answersUp (i : StartIn) (s : State) : AnswersUp s (execRstNRelease i s) := by
  unfold execRstNRelease
  refine .ite (.self s) ?_
  dsimp only
  split
  · exact .up s _
  · exact .ite (.up s _) (.up s _)

theorem execTestenRelease_answersUp (i : StartIn) (s : State) : AnswersUp s (execTestenRelease i s) := by
  unfold execTestenRelease
  dsimp only
  split
  · exact .up s _
  · exact .self s

/-- Of the commands only the three of `rewritesPage` touch the array, and none touches the queue. -/
theorem exec_answersUp (c : Instr) (s : State) (h : rewritesPage c = false) : AnswersUp s (exec c s) := by
  cases c with
  | pageWriteDone | vbkRelease | keepEntry => exact absurd h (by simp [rewritesPage])
  | flowStale => exact execFlowStale_answersUp s
  | authLockoutEnd r => exact execAuthLockoutEnd_answersUp r s
  | pulseEnd out => exact execPulseEnd_answersUp out s
  | rstNRelease i => exact execRstNRelease_answersUp i s
  | testenRelease i => exact execTestenRelease_answersUp i s
  | open_ f | openProof f | close f | get f | next f | set f | keyWrite f | calibrationSetWrite f | profileTableWrite f
  | curveWrite f | periodicWakeWrite f | pscaleWrite f | tariffConfig f | priceChanged f | siteNotesWrite f | rosterWrite f
  | templateWrite f | driveCurveWrite f | lineSettingsWrite f | portSettingsWrite f | sealAction f | retireAction f
  | countClear f | tokenSubmit f | clockSet f | acousticLoopbackInjector f | acousticLoopbackReference f
  | acousticLoopbackCrosspoint f | acousticLoopbackStop f | portLoopbackDigital f | portLoopbackPin f | lineLoopbackSymbol f
  | lineLoopbackAnalog f | lineLoopbackExternal f | displayReadbackRequest f => exact frameRow_answersUp _ f s
  | intervalEnd | billingBoundary | hwmRegained | pwronEvaluate | driverLimit | chainDecideTimeout | keyRelease
  | relockTimeout | loopbackTimeout | arbitrationAge | gateClose | pulseCountCopy | frameSilenceTimeout | mbusSndUd
  | mbusBaudSwitch | vcoreBrownout | brownoutRelease | calendarWrap => exact .ite (.up s _) (.self s)
  | cycleStart | linkDeselect | cycleWakeLead | tempRead | slewTick => exact .ite (.self s) (.up s _)
  | risingCrossing => exact .ite (.up s _) (.up s _)
  | linkWrite => exact .ite (.up s _) (.ite (.up s _) (.self s))
  | pinReset => exact .ite (.self s) (.ite (.up s _) (.up s _))
  | _ => exact .up s _

/-! ### A torn page (R379) -/

/-- Nothing is torn while no write is in progress. -/
theorem tearHead_idle {s : State} (h : writeRuns s.vol = false) : tearHead s = s := by
  unfold tearHead
  split
  · next r rest hline =>
    have waits : r.started = false := by
      simp only [writeRuns, hline, List.any_cons, Bool.or_eq_false_iff] at h
      exact h.1
    rw [waits, Bool.false_and, if_neg (by decide)]
  · rfl

/-- A tear rewrites one page at most: that of the write in progress. -/
theorem tearHead_cases (s : State) :
    tearHead s = s ∨ ∃ r rest v d c, s.vol.work.store.line = r :: rest ∧ r.started = true ∧
      tearHead s = { s with vol := v, nv := putPage r.page d c s.nv } := by
  cases hline : s.vol.work.store.line with
  | nil => exact .inl (by rw [tearHead, hline])
  | cons r rest =>
    by_cases tears : (r.started && decide (r.page < 8192)) = true
    · have ⟨started, inside⟩ : r.started = true ∧ r.page < 8192 := by simpa using tears
      let torn := tornBytes (memPage s.nv.mem r.page) (padTo 64 0xFF r.data) s.vol
      refine .inr ⟨r, rest, (takeFree torn.2).2, torn.1, tornEcc (takeFree torn.2).1, rfl, started, ?_⟩
      rw [putPage_inside _ _ inside, tearHead, hline]
      exact if_pos tears
    · left
      rw [tearHead, hline]
      exact if_neg tears

/-! ### The completion of a page write (R368) -/

/-- VRES as the latest completion has found it. -/
def withVres (vres : BitVec 8) (s : Vol) : Vol := { s with work.store.vres := vres }

section
variable {s : State} {r : Req} {rest : List Req} (vres : BitVec 8) (ms : Nat)

theorem execPageWriteDone_passes (hline : s.vol.work.store.line = r :: rest) (hstarted : r.started = true) :
    execPageWriteDone true vres ms s =
      .next (pageDone r true (padTo 64 0xFF r.data) none ms (s.up (withVres vres s.vol))) := by
  rw [execPageWriteDone, hline]
  simp only [hstarted, Bool.not_true, Bool.false_eq_true, if_false, if_true]
  rfl

theorem execPageWriteDone_fails (hline : s.vol.work.store.line = r :: rest) (hstarted : r.started = true)
    (hretried : r.retried = true) :
    execPageWriteDone false vres ms s = .next (pageFails r ms (s.up (withVres vres s.vol))) := by
  rw [execPageWriteDone, hline]
  simp only [hstarted, hretried, Bool.not_true, Bool.false_eq_true, if_false, if_true]
  rfl

theorem execPageWriteDone_repeats (hline : s.vol.work.store.line = r :: rest) (hstarted : r.started = true)
    (hretried : r.retried = false) :
    execPageWriteDone false vres ms s =
      .next (s.up { withVres vres s.vol with work.store.line := { r with retried := true } :: rest }) := by
  rw [execPageWriteDone, hline]
  simp only [hstarted, hretried, Bool.not_true, Bool.false_eq_true, if_false]
  rfl

theorem execPageWriteDone_idle (ok : Bool) (h : ¬∃ r rest, s.vol.work.store.line = r :: rest ∧ r.started = true) :
    execPageWriteDone ok vres ms s = .next s := by
  rw [execPageWriteDone]
  split
  · next r rest hline =>
    have waits : r.started = false := by
      by_contra started
      exact h ⟨r, rest, hline, by simpa using started⟩
    rw [waits]
    rfl
  · rfl

end

/-! ### The array after a command -/

/-- The array of nv', beside that of nv, has one page rewritten at most, and the trim record is the same. -/
def OnePageRewritten (nv nv' : Nv) : Prop := nv' = nv ∨ ∃ n d c, nv' = putPage n d c nv

theorem OnePageRewritten.trim {nv nv' : Nv} (h : OnePageRewritten nv nv') : nv'.trim = nv.trim := by
  obtain rfl | ⟨n, d, c, rfl⟩ := h
  · rfl
  · exact putPage_trim n d c nv

theorem OnePageRewritten.storeInv {nv nv' : Nv} (h : OnePageRewritten nv nv') (hnv : storeInv nv = true) :
    storeInv nv' = true := by
  obtain rfl | ⟨n, d, c, rfl⟩ := h
  · exact hnv
  · exact storeInv_putPage n d c hnv

theorem tearHead_onePage (s : State) : OnePageRewritten s.nv (tearHead s).nv ∧ (tearHead s).pending = s.pending := by
  obtain stands | ⟨r, rest, v, d, c, -, -, torn⟩ := tearHead_cases s
  · rw [stands]; exact ⟨.inl rfl, rfl⟩
  · rw [torn]; exact ⟨.inr ⟨_, _, _, rfl⟩, rfl⟩

/-- What a command leaves of the array and of the queue. -/
structure ArrayAfter (s t : State) : Prop where
  onePage : OnePageRewritten s.nv t.nv
  pending : t.pending = s.pending

theorem ArrayAfter.up (s : State) (v : Vol) : ArrayAfter s (s.up v) := ⟨.inl rfl, rfl⟩

theorem ArrayAfter.of_up {s t : State} {v : Vol} (h : ArrayAfter (s.up v) t) : ArrayAfter s t := ⟨h.onePage, h.pending⟩

theorem pageDone_arrayAfter (r : Req) (ok : Bool) (d : Bytes) (c : Option PageCond) (ms : Nat) (s : State) :
    ArrayAfter s (pageDone r ok d c ms s) := ⟨.inr ⟨_, _, _, rfl⟩, rfl⟩

theorem pageFails_arrayAfter (r : Req) (ms : Nat) (s : State) : ArrayAfter s (pageFails r ms s) :=
  ⟨.inr ⟨_, _, _, rfl⟩, rfl⟩

theorem execPageWriteDone_next (ok : Bool) (vres : BitVec 8) (ms : Nat) (s : State) :
    ∃ t, execPageWriteDone ok vres ms s = .next t ∧ ArrayAfter s t := by
  by_cases begun : ∃ r rest, s.vol.work.store.line = r :: rest ∧ r.started = true
  · obtain ⟨r, rest, hline, hstarted⟩ := begun
    cases ok with
    | true => exact ⟨_, execPageWriteDone_passes vres ms hline hstarted, (pageDone_arrayAfter ..).of_up⟩
    | false =>
      cases hretried : r.retried with
      | true => exact ⟨_, execPageWriteDone_fails vres ms hline hstarted hretried, (pageFails_arrayAfter ..).of_up⟩
      | false => exact ⟨_, execPageWriteDone_repeats vres ms hline hstarted hretried, .up s _⟩
  · exact ⟨_, execPageWriteDone_idle vres ms ok begun, .up s s.vol⟩

/-- What a command that may tear the write in progress leaves. -/
structure TornAtMost (s t : State) : Prop where
  after : ArrayAfter s t
  idle : writeRuns s.vol = false → t.nv = s.nv

theorem TornAtMost.up (s : State) (v : Vol) : TornAtMost s (s.up v) := ⟨.up s v, fun _ => rfl⟩

theorem TornAtMost.tearHead (s : State) (v : Vol) : TornAtMost s ((tearHead s).up v) :=
  ⟨⟨(tearHead_onePage s).1, (tearHead_onePage s).2⟩, fun h => by rw [State.up_nv, tearHead_idle h]⟩

theorem keepEntry_torn (s : State) : TornAtMost s (keepEntry s) := by
  unfold keepEntry
  split
  · exact .up s s.vol
  · split
    · exact .tearHead s _
    · exact .up s _

theorem execVbkRelease_torn (i : StartIn) (s : State) : ∃ t, execVbkRelease i s = .next t ∧ TornAtMost s t := by
  unfold execVbkRelease
  by_cases on : (s.vol.bak.power.state != .off) = true
  · exact ⟨s, if_pos on, .up s s.vol⟩
  · rw [if_neg on]
    by_cases runs : writeRuns s.vol = true
    · rw [if_pos runs]
      dsimp only
      split
      · exact ⟨_, rfl, .up s _⟩
      · refine ⟨_, rfl, ⟨?_, fun idle => absurd runs (by simp [idle])⟩⟩
        have torn := (TornAtMost.tearHead (s.up (freeBit s.vol).2) default).after
        exact ⟨torn.onePage, torn.pending⟩
    · rw [if_neg runs]
      exact ⟨_, rfl, .tearHead s _⟩

/-- Every command answers a next state, in which one page of the array is rewritten at most. -/
theorem exec_next (c : Instr) (s : State) : ∃ t, exec c s = .next t ∧ ArrayAfter s t := by
  by_cases h : rewritesPage c = true
  · cases c with
    | pageWriteDone ok vres ms => exact execPageWriteDone_next ok vres ms s
    | vbkRelease i =>
      obtain ⟨t, ht, torn⟩ := execVbkRelease_torn i s
      exact ⟨t, ht, torn.after⟩
    | keepEntry => exact ⟨_, rfl, (keepEntry_torn s).after⟩
    | _ => exact absurd h (by simp [rewritesPage])
  · obtain ⟨v, hv⟩ := exec_answersUp c s (by simpa using h)
    exact ⟨_, hv, .up s v⟩

theorem exec_arrayAfter {c : Instr} {s t : State} (h : exec c s = .next t) : ArrayAfter s t := by
  obtain ⟨u, hu, after⟩ := exec_next c s
  rw [h, Host.Outcome.next.injEq] at hu
  exact hu ▸ after

/-- Only the completion of a page write, and the two commands that may tear one in progress, change the array. -/
theorem exec_nv {c : Instr} {s t : State} (h : exec c s = .next t) (hdone : ∀ ok vres ms, c ≠ .pageWriteDone ok vres ms)
    (htear : (∀ i, c ≠ .vbkRelease i) ∧ c ≠ .keepEntry ∨ writeRuns s.vol = false) : t.nv = s.nv := by
  by_cases hc : rewritesPage c = true
  · have idle : writeRuns s.vol = false := htear.resolve_left fun ⟨hvbk, hkeep⟩ => by
      cases c with
      | pageWriteDone ok vres ms => exact hdone ok vres ms rfl
      | vbkRelease i => exact hvbk i rfl
      | keepEntry => exact hkeep rfl
      | _ => exact absurd hc (by simp [rewritesPage])
    cases c with
    | pageWriteDone ok vres ms => exact absurd rfl (hdone ok vres ms)
    | vbkRelease i =>
      obtain ⟨u, hu, torn⟩ := execVbkRelease_torn i s
      rw [show exec (.vbkRelease i) s = _ from hu, Host.Outcome.next.injEq] at h
      exact h ▸ torn.idle idle
    | keepEntry =>
      rw [show exec .keepEntry s = .next (keepEntry s) from rfl, Host.Outcome.next.injEq] at h
      exact h ▸ (keepEntry_torn s).idle idle
    | _ => exact absurd hc (by simp [rewritesPage])
  · obtain ⟨v, hv⟩ := exec_answersUp c s (by simpa using hc)
    rw [hv, Host.Outcome.next.injEq] at h
    rw [← h, State.up_nv]

/-! ### The statements -/

/-- Settles O3: a tick leaves the array, and a command rewrites one of the 8 192 pages at most. -/
theorem everyStepKeepsTheStoreInvariant : Obligations.EveryStepKeepsTheStoreInvariant := by
  unfold Obligations.EveryStepKeepsTheStoreInvariant
  intro s t inv run
  unfold Runs step at run
  split at run
  · rw [Host.Outcome.next.injEq] at run
    rw [← run]
    exact inv
  · exact (exec_arrayAfter run).onePage.storeInv inv

/-- Settles O4: a run starts from the empty store in OFF. -/
theorem resetMeetsTheStoreInvariant : Obligations.ResetMeetsTheStoreInvariant := by
  unfold Obligations.ResetMeetsTheStoreInvariant
  exact ⟨rfl, rfl, rfl, rfl⟩

/-- Settles O5: no arm of exec faults or refuses. -/
theorem everyCommandAnswersANextState : Obligations.EveryCommandAnswersANextState := by
  unfold Obligations.EveryCommandAnswersANextState
  intro c s
  obtain ⟨t, ht, -⟩ := exec_next c s
  exact ⟨t, ht⟩

/-- Settles O6: by `exec_nv`, beside the trim record and the queue, which no command touches. -/
theorem onlyPageWritesChangeTheArray : Obligations.OnlyPageWritesChangeTheArray := by
  unfold Obligations.OnlyPageWritesChangeTheArray
  intro c s t run
  have after := exec_arrayAfter run
  exact ⟨after.onePage.trim, after.pending, exec_nv run⟩

end Sys2Proof.Machine
end

section
/-! SUPPORT. What pages and log entries that enter the STORE's line leave (R368, R369, R377): the reading of VRES, and, unless the flush
ends, its requests and the pending list; and what the line does where nothing waits behind it. -/

namespace Sys2Proof.Machine

/-! ### The line -/

/-- What the requests of the flush in the line carry, in their order. -/
def flushJobs (s : Vol) : List Job := (s.work.store.line.filter (·.flush)).map (·.job)

/-- No page of the flush waits outside the line. -/
def HeldOrdinary (s : Vol) : Prop := ∀ q ∈ s.work.store.held, q.flush = false

/-- The flush, where one is under way, is not ended by its reserve (R609). -/
def FlushLives (s : Vol) : Prop := flushOk s = true ∨ flushJobs s = []

/-- s' differs from s by entries in the logs and ordinary pages in the line, and by the start of its head. -/
structure LineStands (s s' : Vol) : Prop where
  frame : LogFrame s s'
  store : s'.work.store = { s.work.store with
    present := s'.work.store.present
    line := s'.work.store.line
    held := s'.work.store.held
    failed := s'.work.store.failed
    absentSeen := s'.work.store.absentSeen
    flushing := s'.work.store.flushing }
  retained : s'.ret.store = { s.ret.store with
    pending := s'.ret.store.pending
    flushShort := s'.ret.store.flushShort }
  failed : s.work.store.failed = 0 → s'.work.store.failed = 0
  held : HeldOrdinary s → HeldOrdinary s'
  flush : FlushLives s → flushJobs s' = flushJobs s
  flushing : FlushLives s → s'.work.store.flushing = s.work.store.flushing
  pending : FlushLives s → s'.ret.store.pending = s.ret.store.pending

theorem LineStands.refl (s : Vol) : LineStands s s :=
  ⟨.refl s, rfl, rfl, id, id, fun _ => rfl, fun _ => rfl, fun _ => rfl⟩

theorem LineStands.vres {s s' : Vol} (h : LineStands s s') : s'.work.store.vres = s.work.store.vres := by rw [h.store]
theorem LineStands.abandoned {s s' : Vol} (h : LineStands s s') : s'.work.store.abandoned = s.work.store.abandoned := by
  rw [h.store]
theorem LineStands.scrubDue {s s' : Vol} (h : LineStands s s') : s'.work.store.scrubDue = s.work.store.scrubDue := by
  rw [h.store]
theorem LineStands.unreadable {s s' : Vol} (h : LineStands s s') : s'.work.store.unreadable = s.work.store.unreadable := by
  rw [h.store]
theorem LineStands.scrubPtr {s s' : Vol} (h : LineStands s s') : s'.ret.store.scrubPtr = s.ret.store.scrubPtr := by
  rw [h.retained]

theorem flushOk_of_vres {s s' : Vol} (h : s'.work.store.vres = s.work.store.vres) : flushOk s' = flushOk s := by
  rw [flushOk, flushOk, h]

theorem LineStands.lives {s s' : Vol} (h : LineStands s s') (lives : FlushLives s) : FlushLives s' := by
  rw [FlushLives, flushOk_of_vres h.vres, h.flush lives]
  exact lives

theorem LineStands.trans {a b c : Vol} (h : LineStands a b) (k : LineStands b c) : LineStands a c where
  frame := h.frame.trans k.frame
  store := by rw [k.store, h.store]
  retained := by rw [k.retained, h.retained]
  failed := k.failed ∘ h.failed
  held := k.held ∘ h.held
  flush lives := (k.flush (h.lives lives)).trans (h.flush lives)
  flushing lives := (k.flushing (h.lives lives)).trans (h.flushing lives)
  pending lives := (k.pending (h.lives lives)).trans (h.pending lives)

theorem LineStands.after {a b c : Vol} (k : LineStands b c) (h : LineStands a b) : LineStands a c := h.trans k

theorem LineStands.reserve {s s' : Vol} (h : LineStands s s') : reserveOk s' = reserveOk s := by
  rw [reserveOk, reserveOk, h.frame.bak, h.vres]

/-- A change in the logs touches no page. -/
theorem LineStands.of_logs {s s' : Vol} (h : s' = { s with ret.logs := s'.ret.logs }) : LineStands s s' := by
  rw [h]
  exact ⟨⟨rfl⟩, rfl, rfl, id, id, fun _ => rfl, fun _ => rfl, fun _ => rfl⟩

/-! ### Its head -/

/-- The head of the line with its write begun. -/
def headStarted (r : Req) (rest : List Req) (s : Vol) : Vol :=
  { s with work.store.line := { r with started := true } :: rest }

theorem startHead_nil {s : Vol} (h : s.work.store.line = []) : startHead s = s := by
  rw [startHead, h]

theorem startHead_begun {s : Vol} {r : Req} {rest : List Req} (hline : s.work.store.line = r :: rest) (h : r.started = true) :
    startHead s = s := by
  rw [startHead, hline]
  exact if_pos h

theorem startHead_flush {s : Vol} {r : Req} {rest : List Req} (hline : s.work.store.line = r :: rest) (h : r.started = false)
    (hflush : r.flush = true) : startHead s = if flushOk s then headStarted r rest s else flushEnds s := by
  rw [startHead, hline]
  exact (if_neg (by simp [h])).trans (if_pos hflush)

theorem startHead_ordinary {s : Vol} {r : Req} {rest : List Req} (hline : s.work.store.line = r :: rest) (h : r.started = false)
    (hflush : r.flush = false) : startHead s =
      if reserveOk s && coreRuns s && s.bak.power.deferred.isNone then
        { headStarted r rest s with work.store.failed := 0 } else s := by
  rw [startHead, hline]
  exact (if_neg (by simp [h])).trans (if_neg (by simp [hflush]))

theorem flushJobs_headStarted {s : Vol} {r : Req} {rest : List Req} (hline : s.work.store.line = r :: rest) :
    flushJobs (headStarted r rest s) = flushJobs s := by
  rw [flushJobs, flushJobs, hline]
  cases hf : r.flush <;> simp [headStarted, hf]

theorem headStarted_lineStands {s : Vol} {r : Req} {rest : List Req} (hline : s.work.store.line = r :: rest) :
    LineStands s (headStarted r rest s) :=
  ⟨⟨rfl⟩, rfl, rfl, id, id, fun _ => flushJobs_headStarted hline, fun _ => rfl, fun _ => rfl⟩

theorem flushEnds_store (s : Vol) : (flushEnds s).work.store =
    { s.work.store with line := s.work.store.line.filter (!·.flush), flushing := false } := by
  unfold flushEnds
  dsimp only
  rw [addPending_foldl_store]

theorem addPending_foldl_retained (g : Req → Pending) (l : List Req) (s : Vol) :
    (l.foldl (fun s r => addPending (g r) s) s).ret.store =
      { s.ret.store with pending := (l.foldl (fun s r => addPending (g r) s) s).ret.store.pending } := by
  induction l generalizing s with
  | nil => rfl
  | cons r l ih => rw [List.foldl_cons, ih]; rfl

theorem flushEnds_retained (s : Vol) : (flushEnds s).ret.store =
    { s.ret.store with
      pending := (flushEnds s).ret.store.pending
      flushShort := (flushEnds s).ret.store.flushShort } := by
  unfold flushEnds
  dsimp only
  rw [addPending_foldl_retained]

/-- The head of the line starts, or the flush ends. -/
theorem startHead_lineStands (s : Vol) : LineStands s (startHead s) := by
  cases hline : s.work.store.line with
  | nil => rw [startHead_nil hline]; exact .refl s
  | cons r rest =>
    cases hstarted : r.started with
    | true => rw [startHead_begun hline hstarted]; exact .refl s
    | false =>
      cases hflush : r.flush with
      | true =>
        rw [startHead_flush hline hstarted hflush]
        split
        · exact headStarted_lineStands hline
        · next low =>
          have dead : ¬FlushLives s := by
            rintro (ok | none)
            · exact low ok
            · simp [flushJobs, hline, hflush] at none
          have store := flushEnds_store s
          exact ⟨flushEnds_frame s, by rw [store], flushEnds_retained s, fun h => by rw [store]; exact h,
            fun h => by rw [HeldOrdinary, store]; exact h, fun l => absurd l dead, fun l => absurd l dead, fun l => absurd l dead⟩
      | false =>
        rw [startHead_ordinary hline hstarted hflush]
        split
        · have begun := headStarted_lineStands hline
          exact ⟨⟨rfl⟩, rfl, rfl, fun _ => rfl, id, begun.flush, fun _ => rfl, fun _ => rfl⟩
        · exact .refl s

/-! ### Pages and entries -/

theorem submit_lineStands {r : Req} (h : r.flush = false) (s : Vol) : LineStands s (submit r s) := by
  have met : LineStands s (storeMet s) := ⟨⟨rfl⟩, rfl, rfl, id, id, fun _ => rfl, fun _ => rfl, fun _ => rfl⟩
  refine met.trans ?_
  rw [submit]
  generalize storeMet s = u
  dsimp only
  split
  · refine .after (startHead_lineStands _) ⟨⟨rfl⟩, rfl, rfl, id, id, fun _ => ?_, fun _ => rfl, fun _ => rfl⟩
    simp [flushJobs, List.filter_append, h]
  · refine ⟨⟨rfl⟩, rfl, rfl, id, fun ordinary q hq => ?_, fun _ => rfl, fun _ => rfl, fun _ => rfl⟩
    rcases List.mem_append.mp hq with old | new
    · exact ordinary q old
    · rw [List.mem_singleton.mp new]
      exact h

theorem writeEntry_lineStands (l : LogId) (e : Nat) (s : Vol) : LineStands s (writeEntry l e s) := by
  unfold writeEntry
  cases l <;> exact .after (submit_lineStands rfl _) (.of_logs rfl)

theorem logEvent_lineStands (l : LogId) (c d : Nat) (s : Vol) : LineStands s (logEvent l c d s) := by
  unfold logEvent
  dsimp only
  split
  · exact .of_logs rfl
  · exact writeEntry_lineStands l _ s

theorem logLimited_lineStands (l : LogId) (c k d : Nat) (s : Vol) : LineStands s (logLimited l c k d s) := by
  unfold logLimited
  dsimp only
  split
  · exact .of_logs rfl
  · exact .after (logEvent_lineStands l c d _) (.of_logs rfl)

theorem submitAll_lineStands {l : List Req} (h : ∀ r ∈ l, r.flush = false) (s : Vol) : LineStands s (submitAll l s) := by
  induction l generalizing s with
  | nil => exact .refl s
  | cons r l ih =>
    exact (submit_lineStands (h r List.mem_cons_self) s).trans (ih (fun q hq => h q (List.mem_cons_of_mem r hq)) _)

/-- The pages that the guard passes enter the line, and what it refuses is logged (R372, R373). -/
theorem submitGuarded_lineStands {l : List Req} (h : ∀ r ∈ l, r.flush = false) (s : Vol) : LineStands s (submitGuarded l s) := by
  unfold submitGuarded
  split
  · exact logLimited_lineStands _ _ _ _ s
  · exact submitAll_lineStands h s

/-- Waiting pages that are none of the flush enter the line. -/
theorem refill_lineStands {s : Vol} (h : HeldOrdinary s) : LineStands s (refill s) := by
  have taken : (s.work.store.held.take (5 - lineFill s)).filter (·.flush) = [] :=
    List.filter_eq_nil_iff.mpr fun q hq => by simp [h q (List.mem_of_mem_take hq)]
  refine ⟨⟨rfl⟩, rfl, rfl, id, fun ordinary q hq => ordinary q (List.mem_of_mem_drop hq), fun _ => ?_, fun _ => rfl, fun _ => rfl⟩
  simp [flushJobs, refill, List.filter_append, taken]

/-! ### The line goes on -/

theorem serveRead_free (nv : Nv) (idle : Bool) {s : Vol} (h : s.work.ex.inHand = none) : serveRead nv idle s = s := by
  rw [serveRead, h]

theorem answerCopyB_free {s : Vol} (h : s.work.ex.inHand = none) : answerCopyB s = s := by
  rw [answerCopyB, h]

theorem moveChange_none (nv : Nv) {s : Vol} (h : s.work.life.change = none) : moveChange nv s = s := by
  rw [moveChange, h]

theorem drainPending_held (nv : Nv) {s : Vol} (h : reserveOk s = false) : drainPending nv s = s := by
  rw [drainPending, h]
  rfl

theorem drainPending_nil (nv : Nv) {s : Vol} (h : s.ret.store.pending = []) : drainPending nv s = s := by
  rw [drainPending, drainLoop, h]
  exact ite_self s

theorem drainLoop_frame (nv : Nv) (n : Nat) (s : Vol) : LogFrame s (drainLoop nv n s) := by
  induction n generalizing s with
  | zero => exact .refl s
  | succ n ih =>
    unfold drainLoop
    split
    · exact .refl s
    · next p rest _ =>
      refine .trans (b := { s with ret.store.pending := rest.filter (!sameUncommitted p ·) }) ⟨rfl⟩ ?_
      exact (submitGuarded_frame _ _).trans (ih _)

theorem drainPending_frame (nv : Nv) (s : Vol) : LogFrame s (drainPending nv s) := by
  unfold drainPending
  split
  · exact drainLoop_frame nv _ s
  · exact .refl s

/-- With the engine free and no change of the life cycle, the head of the line starts and the pending list drains. -/
theorem lineGoesOn_free (nv : Nv) {s : Vol} (hand : s.work.ex.inHand = none) (queue : s.work.ex.queue = [])
    (change : s.work.life.change = none) : lineGoesOn nv s = drainPending nv (startHead s) := by
  have started := startHead_frame s
  have drained := started.trans (drainPending_frame nv (startHead s))
  have hand' : (startHead s).work.ex.inHand = none := by rw [started.work_ex, hand]
  have served : serveLine nv s = startHead s := by
    rw [serveLine, serveRead_free nv false hand]
    exact serveRead_free nv _ hand'
  have change' : (drainPending nv (startHead s)).work.life.change = none := by rw [drained.work_life, change]
  rw [lineGoesOn, served, answerCopyB_free (by rw [drained.work_ex, hand]), moveChange_none nv change']
  rw [change']
  exact pump_idle nv 8 (by rw [drained.work_ex, queue])

/-- Where nothing but the line waits, its head is what goes on. -/
theorem lineGoesOn_quiet (nv : Nv) {s : Vol} (hand : s.work.ex.inHand = none) (queue : s.work.ex.queue = [])
    (change : s.work.life.change = none) (drained : drainPending nv (startHead s) = startHead s) :
    lineGoesOn nv s = startHead s := (lineGoesOn_free nv hand queue change).trans drained

end Sys2Proof.Machine
end

section
/-! SUPPORT. The reading of VRES that a flush goes by (R374, R377) stands under what enters the line, the logs and the DISPLAY. -/

namespace Sys2Proof.Machine

theorem startHead_vres (s : Vol) : (startHead s).work.store.vres = s.work.store.vres := (startHead_lineStands s).vres

theorem logEvent_vres (l : LogId) (c d : Nat) (s : Vol) : (logEvent l c d s).work.store.vres = s.work.store.vres :=
  (logEvent_lineStands l c d s).vres

theorem logLimited_vres (l : LogId) (c k d : Nat) (s : Vol) : (logLimited l c k d s).work.store.vres = s.work.store.vres :=
  (logLimited_lineStands l c k d s).vres

theorem foldl_vres {α : Type} {f : Vol → α → Vol} (h : ∀ s a, (f s a).work.store.vres = s.work.store.vres) (l : List α) (s : Vol) :
    (l.foldl f s).work.store.vres = s.work.store.vres := by
  induction l generalizing s with
  | nil => rfl
  | cons a l ih => rw [List.foldl_cons, ih, h]

/-- The same for steps that carry further values beside the state. -/
theorem foldl_fst_vres {α β : Type} {f : Vol × β → α → Vol × β}
    (h : ∀ p a, (f p a).1.work.store.vres = p.1.work.store.vres) (l : List α) (p : Vol × β) :
    (l.foldl f p).1.work.store.vres = p.1.work.store.vres := by
  induction l generalizing p with
  | nil => rfl
  | cons a l ih => rw [List.foldl_cons, ih, h]

/-! ### Pages -/

theorem submit_vres (r : Req) (s : Vol) : (submit r s).work.store.vres = s.work.store.vres := by
  unfold submit
  dsimp only
  split
  · exact startHead_vres _
  · rfl

theorem submitAll_vres (l : List Req) (s : Vol) : (submitAll l s).work.store.vres = s.work.store.vres :=
  foldl_vres (fun s r => submit_vres r s) l s

theorem submitGuarded_vres (l : List Req) (s : Vol) : (submitGuarded l s).work.store.vres = s.work.store.vres := by
  unfold submitGuarded
  split
  · exact logLimited_vres _ _ _ _ s
  · exact submitAll_vres l s

theorem writeRec_vres (nv : Nv) (r : Rec) (change : Bool) (s : Vol) :
    (writeRec nv r change s).work.store.vres = s.work.store.vres :=
  (submitGuarded_vres _ _).trans (foldl_vres (fun s _ => submit_vres _ s) _ _)

/-! ### Requests of the DISPLAY -/

theorem dueCheck_vres (s : Vol) : (dueCheck s).work.store.vres = s.work.store.vres := by
  unfold dueCheck
  dsimp only
  split
  · rfl
  · refine foldl_fst_vres (fun p r => ?_) _ _
    split_ifs
    · rfl
    · exact logLimited_vres _ _ _ _ p.1
    · rfl

theorem request_vres (r : Rect) (s : Vol) : (request r s).work.store.vres = s.work.store.vres := by
  have checked : ∀ u : Vol, (if u.work.disp.pmic then u else dueCheck u).work.store.vres = u.work.store.vres := fun u => by
    split
    · rfl
    · exact dueCheck_vres u
  unfold request
  split
  · rfl
  · refine (checked _).trans ?_
    split_ifs
    · rfl
    · rfl
    · exact logLimited_vres _ _ _ _ _
    · rfl

theorem fullDraw_vres (s : Vol) : (fullDraw s).work.store.vres = s.work.store.vres := request_vres _ s

end Sys2Proof.Machine
end

section
/-! PROOF of O7 and O8. A page write ends (R368), and waits for the reserve (R374, R378). -/

namespace Sys2Proof.Machine

/-! ### PAGE_WRITE_DONE (R368) -/

theorem exec_pageWriteDone (ok : Bool) (vres : BitVec 8) (ms : Nat) (s : State) :
    exec (.pageWriteDone ok vres ms) s = execPageWriteDone ok vres ms s := rfl

/-- Settles O7: the page is put into the array whole, with clean ECC. -/
theorem pageWriteStoresItsPage : Obligations.PageWriteStoresItsPage := by
  unfold Obligations.PageWriteStoresItsPage
  intro s r rest vres ms inv hline hstarted hn
  refine ⟨_, (exec_pageWriteDone ..).trans (execPageWriteDone_passes vres ms hline hstarted), ?_, pageCond_putPage_self _ _ hn,
    fun a ha => memRead_putPage_outside _ _ inv ha, fun n other => pageCond_putPage_other _ _ other⟩
  exact (memPage_putPage _ _ hn inv).trans (padTo_padTo _ _ _)

/-- A write that fails twice leaves every byte outside its page. -/
theorem pageWriteDone_fails_outside {s : State} {r : Req} {rest : List Req} (vres : BitVec 8) (ms : Nat) (inv : s.Inv)
    (hline : s.vol.work.store.line = r :: rest) (hstarted : r.started = true) (hretried : r.retried = true) :
    ∃ t, exec (.pageWriteDone false vres ms) s = .next t ∧
      ∀ a, a < 64 * r.page ∨ 64 * r.page + 64 ≤ a → t.storeByte a = s.storeByte a :=
  ⟨_, (exec_pageWriteDone ..).trans (execPageWriteDone_fails vres ms hline hstarted hretried),
    fun _ ha => memRead_putPage_outside _ _ inv ha⟩

/-! ### RESERVE_CHECK (R374) -/

/-- The state in which the checks of R374 are looked at. -/
def checked (ok : Bool) (vres : BitVec 8) (s : Vol) : Vol := { s with work.store.vres := vres, bak.power.vsupOk := ok }

theorem exec_reserveCheck (ok : Bool) (vres : BitVec 8) (s : State) :
    exec (.reserveCheck ok vres) s = .next (s.up (reserveCheck s.nv ok vres s.vol)) := rfl

theorem reserveCheck_passes (nv : Nv) {ok : Bool} {vres : BitVec 8} {s : Vol} (core : coreRuns s = true)
    (passes : reserveOk (checked ok vres s) = true) : reserveCheck nv ok vres s = lineGoesOn nv (checked ok vres s) :=
  (if_neg (by simp [core])).trans (if_pos passes)

theorem reserveCheck_fails (nv : Nv) {ok : Bool} {vres : BitVec 8} {s : Vol} (core : coreRuns s = true)
    (fails : reserveOk (checked ok vres s) = false) (waits : headWaits (checked ok vres s) = true) :
    reserveCheck nv ok vres s = { checked ok vres s with work.store.failed := s.work.store.failed + 1 } :=
  (if_neg (by simp [core])).trans ((if_neg (Bool.eq_false_iff.mp fails)).trans (if_pos waits))

/-- An ordinary write at the head of the line begins under both checks. -/
theorem reserveCheck_starts (nv : Nv) {s : Vol} {r : Req} {rest : List Req} {vres : BitVec 8}
    (hline : s.work.store.line = r :: rest) (hstarted : r.started = false) (hflush : r.flush = false)
    (core : coreRuns s = true) (calm : s.bak.power.warning = false) (free : s.bak.power.deferred = none)
    (full : 192 ≤ vres.toNat) (pending : s.ret.store.pending = []) (change : s.work.life.change = none)
    (hand : s.work.ex.inHand = none) (queue : s.work.ex.queue = []) :
    reserveCheck nv true vres s = { headStarted r rest (checked true vres s) with work.store.failed := 0 } := by
  have passes : reserveOk (checked true vres s) = true := by simp [reserveOk, checked, calm, full]
  have starts : startHead (checked true vres s) = { headStarted r rest (checked true vres s) with work.store.failed := 0 } := by
    rw [startHead_ordinary (s := checked true vres s) hline hstarted hflush]
    refine if_pos ?_
    rw [passes, show coreRuns (checked true vres s) = true from core, show (checked true vres s).bak.power.deferred = none from free]
    rfl
  rw [reserveCheck_passes nv core passes,
    lineGoesOn_quiet nv (s := checked true vres s) hand queue change (by rw [starts]; exact drainPending_nil nv pending), starts]

/-- A failed check leaves the write at the head of the line and is counted. -/
theorem reserveCheck_waits (nv : Nv) {s : Vol} {r : Req} {rest : List Req} {vres : BitVec 8} {ok : Bool}
    (hline : s.work.store.line = r :: rest) (hstarted : r.started = false) (hflush : r.flush = false)
    (core : coreRuns s = true) (short : ok = false ∨ vres.toNat < 192 ∨ s.bak.power.warning = true) :
    reserveCheck nv ok vres s = { checked ok vres s with work.store.failed := s.work.store.failed + 1 } := by
  refine reserveCheck_fails nv core ?_ (by simp [headWaits, checked, hline, hstarted, hflush])
  rcases short with no | low | warned
  · simp [reserveOk, checked, no]
  · rw [reserveOk, show decide (192 ≤ (checked ok vres s).work.store.vres.toNat) = false from decide_eq_false (Nat.not_le.mpr low),
      Bool.and_false]
  · simp [reserveOk, checked, warned]

/-! ### RESERVE_LOW (R374, R378) -/

theorem exec_reserveLow (s : State) : exec .reserveLow s = .next (s.up (reserveLow s.nv s.vol)) := rfl

/-- The abandoned write is counted. -/
def abandonCounted (s : Vol) : Vol :=
  { s with work.store.abandoned := satInc s.work.store.abandoned, work.store.failed := 0 }

theorem reserveLow_abandons (nv : Nv) {s : Vol} {r : Req} {rest : List Req} (hline : s.work.store.line = r :: rest)
    (hstarted : r.started = false) (hflush : r.flush = false) (long : 1000 ≤ s.work.store.failed) :
    reserveLow nv s = lineGoesOn nv (refill (limG 0x0405 0xFF 0xFF (abandonCounted (abandonHead nv r s)))) := by
  rw [reserveLow, hline]
  exact if_neg (by simp [hstarted, hflush, long])

/-- A slot of a ring leaves the line for the pending list. -/
theorem abandonHead_ring (nv : Nv) {r : Req} (s : Vol) (object : r.object = false) (ring : r.job = .ringA ∨ r.job = .ringB) :
    abandonHead nv r s = addPending r.toPending (dropHead s) := by
  rw [abandonHead, if_neg (by simp [object])]
  rcases ring with job | job <;> rw [job]

/-- After the only page, a ring slot, has been abandoned, nothing else leaves for the pending list. -/
theorem reserveLow_ring (nv : Nv) {s : Vol} {r : Req} (hline : s.work.store.line = [r]) (hstarted : r.started = false)
    (hflush : r.flush = false) (held : s.work.store.held = []) (object : r.object = false)
    (ring : r.job = .ringA ∨ r.job = .ringB) (long : 1000 ≤ s.work.store.failed) (low : reserveOk s = false)
    (change : s.work.life.change = none) (hand : s.work.ex.inHand = none) (queue : s.work.ex.queue = []) :
    LineStands (abandonCounted (addPending r.toPending (dropHead s))) (reserveLow nv s) ∧
      FlushLives (abandonCounted (addPending r.toPending (dropHead s))) := by
  rw [reserveLow_abandons nv hline hstarted hflush long, abandonHead_ring nv s object ring]
  have ex : (abandonCounted (addPending r.toPending (dropHead s))).work.ex = { s.work.ex with inHand := none } := by
    change { s.work.ex with inHand := s.work.ex.inHand.map moveUp } = _
    rw [hand]
    rfl
  have empty : (abandonCounted (addPending r.toPending (dropHead s))).work.store.line = [] := by
    change s.work.store.line.drop 1 = []
    rw [hline]
    rfl
  have heldA : HeldOrdinary (abandonCounted (addPending r.toPending (dropHead s))) := by
    change ∀ q ∈ s.work.store.held, q.flush = false
    rw [held]
    exact fun _ h => absurd h (List.not_mem_nil)
  have lowA : reserveOk (abandonCounted (addPending r.toPending (dropHead s))) = false := low
  have changeA : (abandonCounted (addPending r.toPending (dropHead s))).work.life.change = none := change
  generalize abandonCounted (addPending r.toPending (dropHead s)) = a at ex empty heldA lowA changeA ⊢
  have logged := logLimited_lineStands .general 0x0405 0xFF 0xFF a
  have filled : LineStands a (refill (limG 0x0405 0xFF 0xFF a)) := logged.trans (refill_lineStands (logged.held heldA))
  generalize refill (limG 0x0405 0xFF 0xFF a) = b at filled ⊢
  have headed := filled.trans (startHead_lineStands b)
  rw [lineGoesOn_quiet nv (by rw [filled.frame.work_ex, ex]) (by rw [filled.frame.work_ex, ex]; exact queue)
    (by rw [filled.frame.work_life, changeA]) (drainPending_held nv (headed.reserve.trans lowA))]
  exact ⟨headed, .inr (by rw [flushJobs, empty]; rfl)⟩

/-- Settles O8: the two outcomes of a failed verify, the checks of the reserve, and the abandoned ring slot. -/
theorem pageWritesFailAndWaitForTheReserve : Obligations.PageWritesFailAndWaitForTheReserve := by
  unfold Obligations.PageWritesFailAndWaitForTheReserve
  refine ⟨fun s r rest vres ms inv hline hstarted _ => ⟨fun first => ?_, pageWriteDone_fails_outside vres ms inv hline hstarted⟩,
    fun s r rest vres hline hstarted hflush => ⟨?_, ?_, ?_⟩⟩
  · exact (exec_pageWriteDone ..).trans (execPageWriteDone_repeats vres ms hline hstarted first)
  · intro core calm free full pending change hand queue
    rw [exec_reserveCheck, reserveCheck_starts s.nv hline hstarted hflush core calm free full pending change hand queue]
    rfl
  · intro ok core short
    rw [exec_reserveCheck, reserveCheck_waits s.nv hline hstarted hflush core short]
    rfl
  · intro alone held object ring long low change hand queue
    obtain ⟨stands, lives⟩ :=
      reserveLow_ring s.nv (alone ▸ hline) hstarted hflush held object ring long low change hand queue
    refine ⟨_, exec_reserveLow s, (stands.pending lives).trans ?_, stands.abandoned, stands.failed rfl, rfl⟩
    change (addPending r.toPending (dropHead s.vol)).ret.store.pending = _
    rw [addPending_list, dropHead_ret, List.length_append, List.length_singleton]

end Sys2Proof.Machine
end

section
/-! PROOF of O9 and O10. The scrub and the log windows (R390, R391, R426), and how entries are numbered and pended (R378, R425, R426,
R532). -/

namespace Sys2Proof.Machine

/-! ### SCRUB (R390, R391) -/

theorem exec_scrub (read : ScrubRead) (s : State) : exec (.scrub read) s = .next (s.up (scrub s.nv read s.vol)) := rfl

/-- The scrub at its page: the pointer moves on. -/
def scrubbed (s : Vol) : Vol :=
  { s with
    work.store.scrubDue := false
    ret.store.scrubPtr := s.ret.store.scrubPtr + 1
    work.store.sweeps := if s.ret.store.scrubPtr.toNat = 8191 then satInc s.work.store.sweeps else s.work.store.sweeps
    work.store.present := true }

theorem scrubRewrite_lineStands (nv : Nv) (n : Nat) (s : Vol) : LineStands s (scrubRewrite nv n s) := by
  unfold scrubRewrite
  split
  · exact .refl s
  · exact submitGuarded_lineStands (by simp [plainReq]) s

section
variable (nv : Nv) {s : Vol}

theorem scrub_waits (read : ScrubRead) (busy : lineFill s ≠ 0) : scrub nv read s = s :=
  if_pos (by simp [busy])

theorem scrub_due (read : ScrubRead) (core : coreRuns s = true) (due : s.work.store.scrubDue = true) (idle : lineFill s = 0) :
    scrub nv read s =
      let n := s.ret.store.scrubPtr.toNat
      match read with
      | .clean => scrubbed s
      | .marginal => scrubRewrite nv n (scrubbed s)
      | .corrected =>
        scrubRewrite nv n (logLimited (regionLog (regionOf n)) 0x0401 (regionOf n) (regionOf n)
          { scrubbed s with work.store.corrected := satInc s.work.store.corrected })
      | .uncorrectable =>
        logEvent (regionLog (regionOf n)) 0x0402 (regionOf n)
          { scrubbed s with work.store.unreadable := satInc s.work.store.unreadable } := by
  refine (if_neg (by simp [core, due, idle])).trans ?_
  cases read <;> rfl

/-- Whatever the read meets, the pointer has moved on and no scrub is due. -/
theorem scrub_advances (read : ScrubRead) (core : coreRuns s = true) (due : s.work.store.scrubDue = true)
    (idle : lineFill s = 0) :
    (scrub nv read s).ret.store.scrubPtr = s.ret.store.scrubPtr + 1 ∧ (scrub nv read s).work.store.scrubDue = false := by
  rw [scrub_due nv read core due idle]
  cases read with
  | clean => exact ⟨rfl, rfl⟩
  | marginal =>
    have stands := scrubRewrite_lineStands nv s.ret.store.scrubPtr.toNat (scrubbed s)
    exact ⟨stands.scrubPtr, stands.scrubDue⟩
  | corrected =>
    have stands := fun u => (logLimited_lineStands (regionLog (regionOf s.ret.store.scrubPtr.toNat)) 0x0401
      (regionOf s.ret.store.scrubPtr.toNat) (regionOf s.ret.store.scrubPtr.toNat) u).trans
      (scrubRewrite_lineStands nv s.ret.store.scrubPtr.toNat _)
    exact ⟨(stands _).scrubPtr, (stands _).scrubDue⟩
  | uncorrectable =>
    exact ⟨(logEvent_lineStands _ _ _ _).scrubPtr, (logEvent_lineStands _ _ _ _).scrubDue⟩

theorem scrub_uncorrectable (core : coreRuns s = true) (due : s.work.store.scrubDue = true) (idle : lineFill s = 0) :
    (scrub nv .uncorrectable s).work.store.unreadable = satInc s.work.store.unreadable := by
  rw [scrub_due nv .uncorrectable core due idle]
  exact (logEvent_lineStands _ _ _ _).unreadable

end

/-! ### LOG_WINDOW_END (R426) -/

theorem exec_logWindowEnd (l : LogId) (code : BitVec 16) (key : Byte) (s : State) :
    exec (.logWindowEnd l code key) s = .next (s.up (logWindowEnd s.nv l code key s.vol)) := rfl

/-- The windows of the code and key of w that are over have ended. -/
def windowClosed (w : LogWindow) (s : Vol) : Vol :=
  { s with ret.logs.windows :=
      s.ret.logs.windows.filter fun x => !(x.log == w.log && x.code == w.code && x.key == w.key && logWindowOver s x) }

section
variable (nv : Nv) {s : Vol} {w : LogWindow}
  (found : s.ret.logs.windows.find? (fun x => x.log == w.log && x.code == w.code && x.key == w.key) = some w)
  (core : coreRuns s = true) (hover : 230400 ≤ (s.bak.count - w.since).toNat)
include found core hover

theorem logWindowEnd_over :
    logWindowEnd nv w.log w.code w.key s =
      let page := logPage w.log w.seq.toNat
      let d := viewPage nv (windowClosed w s) page
      if w.count = 0 || !entryKept (windowClosed w s) w || !pageValid nv (windowClosed w s) page || pageSeq d != w.seq.toNat then
        windowClosed w s
      else submit (plainReq page (withRepeat d w.count.toNat) (.log w.log w.seq.toNat)) (windowClosed w s) := by
  rw [logWindowEnd, found]
  exact if_neg (by rw [core, decide_eq_false (Nat.not_lt.mpr hover)]; decide)

theorem logWindowEnd_quiet (silent : w.count = 0) : logWindowEnd nv w.log w.code w.key s = windowClosed w s :=
  (logWindowEnd_over nv found core hover).trans (if_pos (by simp [silent]))

theorem logWindowEnd_counts (counted : w.count ≠ 0) (kept : entryKept (windowClosed w s) w = true)
    (valid : pageValid nv (windowClosed w s) (logPage w.log w.seq.toNat) = true)
    (own : pageSeq (viewPage nv (windowClosed w s) (logPage w.log w.seq.toNat)) = w.seq.toNat) :
    logWindowEnd nv w.log w.code w.key s =
      submit (plainReq (logPage w.log w.seq.toNat)
        (withRepeat (viewPage nv (windowClosed w s) (logPage w.log w.seq.toNat)) w.count.toNat) (.log w.log w.seq.toNat))
        (windowClosed w s) :=
  (logWindowEnd_over nv found core hover).trans (if_neg (by rw [decide_eq_false counted, kept, valid, own, bne_self_eq_false]; decide))

end

/-- Settles O9: a scrub by what its read meets, and the end of a window by its count. -/
theorem scrubAndLogWindows : Obligations.ScrubAndLogWindows := by
  unfold Obligations.ScrubAndLogWindows
  refine fun s core => ⟨fun read due => ⟨fun idle => ?_, fun busy => ?_⟩, fun w found hover => ⟨fun silent => ?_, fun counted kept valid own => ?_⟩⟩
  · obtain ⟨pointer, done⟩ := scrub_advances s.nv read core due idle
    refine ⟨_, exec_scrub read s, pointer, rfl, done, ?_, ?_⟩
    · rintro rfl
      rw [State.up_vol, scrub_due s.nv .clean core due idle]
      exact ⟨rfl, rfl⟩
    · rintro rfl
      exact scrub_uncorrectable s.nv core due idle
  · rw [exec_scrub, scrub_waits s.nv read busy, State.up_self]
  · rw [exec_logWindowEnd, logWindowEnd_quiet s.nv found core hover silent]
    rfl
  · rw [exec_logWindowEnd, logWindowEnd_counts s.nv found core hover counted kept valid own]
    rfl

/-! ### Entries and the pending list (R378, R425, R426, R532) -/

theorem regionOf_metrologyLog (n : Nat) : regionOf (592 + n % 256) = 0x0A := by
  have low : n % 256 < 256 := Nat.mod_lt _ (by decide)
  simp only [regionOf]
  rw [if_neg (by omega), if_neg (by omega), if_neg (by omega), if_neg (by omega), if_neg (by omega), if_neg (by omega),
    if_neg (by omega), if_neg (by omega), if_neg (by omega), if_pos (by omega)]

/-- An entry takes the next number of its log, and with it its page. -/
theorem logM_numbered {s : Vol} (code data : Nat) (h : logsWait s = false) :
    logM code data s =
      let n := s.ret.logs.nextM.toNat
      submit (plainReq (592 + n % 256) (pageForm n 0x0A 0 1 (beBytes 16 (n * 2 ^ 96 + logEntry s 0 code data 0)))
        (.log .metrology n)) { s with ret.logs.nextM := s.ret.logs.nextM + 1 } := by
  rw [logM, logEvent]
  refine (if_neg (by simp [h])).trans ?_
  rw [writeEntry]
  dsimp only [logPage, logBase, logNext]
  rw [regionOf_metrologyLog]

/-- In LIMP an entry waits in retained RAM. -/
theorem logEvent_limp {s : Vol} (l : LogId) (code data : Nat) (h : s.bak.power.state = .limp) :
    logEvent l code data s =
      { s with ret.logs.limp := s.ret.logs.limp ++ [(l, BitVec.ofNat 128 (logEntry s 0 code data 0))] } :=
  if_pos (by rw [logsWait, h]; decide)

/-- Settles O10: the entry by its log, and the pending list by the discard of its oldest. -/
theorem entriesAreNumberedAndPended : Obligations.EntriesAreNumberedAndPended := by
  unfold Obligations.EntriesAreNumberedAndPended
  refine ⟨fun s code data => ⟨logM_numbered code data, fun l => logEvent_limp l code data⟩, fun p s few => ⟨?_, ?_, fun full => ?_⟩⟩
  · rw [addPending_list, List.length_drop]
    omega
  · rw [addPending_list, List.getLast?_drop, List.length_append, List.length_singleton, if_neg (by omega),
      List.getLast?_concat]
  · rw [addPending_list, List.length_append, List.length_singleton, full]
    exact List.drop_append_of_le_length (by omega) |>.trans (by rw [List.drop_one])

end Sys2Proof.Machine
end

section
/-! SUPPORT and PROOF of O46. A write of the object exchange engine enters the STORE's line and waits for its pages (R369, R371, R389,
R415, R475), and takes effect with the last of them (R371, R422, R424). -/

namespace Sys2Proof.Machine

/-! ### A write begins (R369) -/

theorem mergeReads_frame (nv : Nv) (reqs : List Req) (s : Vol) : LogFrame s (mergeReads nv reqs s) :=
  logFrame_foldl (fun s (r : Req) => (noteRead_pageRead nv r.page s).frame) _ s

theorem drainRecord_frame (r : Rec) (s : Vol) : LogFrame s (drainRecord r s) := by
  unfold drainRecord
  exact LogFrame.trans ⟨rfl⟩ (logFrame_foldl (fun s _ => submit_frame _ s) _ _)

/-- The engine holds the write, and beside it only the STORE has been touched. -/
structure WriteBegun (s t : Vol) (h : InHand) : Prop where
  only : LogFrame { s with work.ex.inHand := some h } t

theorem WriteBegun.inHand {s t : Vol} {h : InHand} (b : WriteBegun s t h) : t.work.ex.inHand = some h := by rw [b.only.work_ex]

/-- The places of the line that a write finds free (R369). -/
structure LineFree (s : Vol) : Prop where
  room : s.work.store.line.length < 5
  held : s.work.store.held = []

theorem startWrite_begins (nv : Nv) (f : Frame) (v : ObjVal) (reqs : List Req) (clamps : List (BitVec 64)) (clamped : Bool)
    {s : Vol} (free : LineFree s) :
    WriteBegun s (startWrite nv f v reqs clamps clamped s) { frame := f, clamps, clamped, await := .write v reqs.length false } := by
  have takes : ¬(!s.work.ex.retrying ∧ (5 ≤ s.work.store.line.length ∨ !s.work.store.held.isEmpty)) := by
    have room := free.room
    rintro ⟨-, full | busy⟩
    · omega
    · rw [free.held] at busy
      exact absurd busy (by decide)
  have begins : ∀ u, LogFrame s u → WriteBegun s
      (submitAll reqs { mergeReads nv reqs u with
        work.ex.inHand := some { frame := f, clamps, clamped, await := .write v reqs.length false } })
      { frame := f, clamps, clamped, await := .write v reqs.length false } := fun u drained =>
    ⟨.trans ⟨by rw [(drained.trans (mergeReads_frame nv reqs u)).only]⟩ (submitAll_frame reqs _)⟩
  unfold startWrite
  rw [if_neg takes]
  dsimp only
  split
  · exact begins _ (drainRecord_frame _ s)
  · exact begins _ (.refl s)

/-- A checked SET of a structure object begins its write where both blocks are present and the guard allows it. -/
theorem carryOut_begins (nv : Nv) {f : Frame} {r : Role} {s : Vol} {v : ObjVal} {k : List (Nat × Nat)} {clamped : Bool}
    (store : s.work.store.present = true) (display : s.work.disp.present = true) (guard : guardStatus s r (writesLegal v) = none)
    (free : LineFree s) :
    WriteBegun s (carryOut nv f r (.write v k clamped) s)
      { frame := f, clamps := k.map fun p => clampEntry f.ident p.1 0 p.2, clamped,
        await := .write v (objectReqs nv s f.port v).length false } := by
  have writes : carryOut nv f r (.write v k clamped) s =
      startWrite nv f v (objectReqs nv s f.port v) (k.map fun p => clampEntry f.ident p.1 0 p.2) clamped s := by
    refine (if_neg (by simp [store, display])).trans ?_
    rw [guard]
  rw [writes]
  exact startWrite_begins nv f v _ _ clamped free

/-- The pages of site notes: the one of OFFSET (R389). -/
theorem setNotes_begins (nv : Nv) {f : Frame} {s : Vol} (whole : f.attr = 255) (some : f.data.drop 2 ≠ [])
    (low : beNat (f.data.take 2) < 4096) (store : s.work.store.present = true) (free : LineFree s) :
    WriteBegun s (setNotes nv f s)
      { frame := f, clamps := [], clamped := decide (64 < (f.data.drop 2).length), await := .write .notes 1 false } := by
  have writes : setNotes nv f s = startWrite nv f .notes [notesPage nv s (beNat (f.data.take 2)) ((f.data.drop 2).take 64)] []
      (decide (64 < (f.data.drop 2).length)) s := by
    refine (if_neg ?_).trans (if_neg (by simp [store]))
    rw [whole, decide_eq_false (Nat.not_le.mpr low), List.isEmpty_eq_false_iff.mpr some]
    decide
  rw [writes]
  exact startWrite_begins nv f .notes _ _ _ free

theorem chunks_eight {d : Bytes} (h : d.length = 8) : chunks 8 128 d = [d] := by
  have some : d.isEmpty = false := by rw [List.isEmpty_eq_false_iff]; rintro rfl; simp at h
  rw [chunks, some, if_neg (by decide), List.take_of_length_le h.le, List.drop_eq_nil_of_le h.le]
  rfl

theorem touchPolls_begun {s u : Vol} {h : InHand} (n k : Nat) (b : WriteBegun s u h) :
    (touchPolls n k u).work.ex.inHand = some h ∧ (touchPolls n k u).bak = s.bak :=
  ⟨b.inHand, b.only.bak⟩

/-- One entry of the roster is written with its page (R475). -/
theorem setRoster_begins (nv : Nv) {f : Frame} {s : Vol} (one : f.attr ≠ 255) (len : f.data.length = 8)
    (store : s.work.store.present = true) (free : LineFree s) :
    (setRoster nv f s).work.ex.inHand = some { frame := f, clamps := [], clamped := false, await := .write .roster 1 false } ∧
      (setRoster nv f s).bak = s.bak := by
  have page : (rosterReqs nv s f.attr.toNat [f.data]).length = 1 := by
    simp [rosterReqs, List.eraseDups_cons]
  have begun := startWrite_begins nv f .roster (rosterReqs nv s f.attr.toNat [f.data]) [] false free
  rw [page] at begun
  have byte : f.attr.toNat < 256 := f.attr.isLt
  have part : (f.attr == 255) = false := beq_false_of_ne one
  have writes : setRoster nv f s =
      touchPolls f.attr.toNat 1 (startWrite nv f .roster (rosterReqs nv s f.attr.toNat [f.data]) [] false s) := by
    unfold setRoster
    simp only [part, Bool.false_eq_true, if_false, chunks_eight len]
    rw [if_neg (by simp [len]; omega), if_neg (by simp [store])]
    exact if_pos (by rw [begun.inHand]; rfl)
  rw [writes]
  exact touchPolls_begun _ _ begun

/-! ### What follows when values take effect (R371) -/

/-- The engine's hand, the values of the objects, the LEDGER, the life cycle, the settings of the line, the backup domain, the
thatch, the reading of VRES and the clamp report stand. -/
structure ValueStands (s s' : Vol) : Prop where
  inHand : s'.work.ex.inHand = s.work.ex.inHand
  obj : s'.work.obj = s.work.obj
  led : s'.ret.led = s.ret.led
  life : s'.work.life = s.work.life
  settings : s'.work.line.settings = s.work.line.settings
  bak : s'.bak = s.bak
  th : s'.work.th = s.work.th
  vres : s'.work.store.vres = s.work.store.vres
  clamps : s'.ret.ex.clampReport = s.ret.ex.clampReport

theorem ValueStands.refl (s : Vol) : ValueStands s s := ⟨rfl, rfl, rfl, rfl, rfl, rfl, rfl, rfl, rfl⟩

theorem ValueStands.trans {a b c : Vol} (h : ValueStands a b) (k : ValueStands b c) : ValueStands a c :=
  ⟨k.inHand.trans h.inHand, k.obj.trans h.obj, k.led.trans h.led, k.life.trans h.life, k.settings.trans h.settings,
    k.bak.trans h.bak,
    k.th.trans h.th, k.vres.trans h.vres,
    k.clamps.trans h.clamps⟩

theorem ValueStands.after {a b c : Vol} (k : ValueStands b c) (h : ValueStands a b) : ValueStands a c := h.trans k

theorem DrawFrame.valueStands {s s' : Vol} (h : DrawFrame s s') (vres : s'.work.store.vres = s.work.store.vres) :
    ValueStands s s' := by
  rw [h.only] at vres ⊢
  exact ⟨rfl, rfl, rfl, rfl, rfl, rfl, rfl, vres, rfl⟩

theorem logEvent_valueStands (l : LogId) (c d : Nat) (s : Vol) : ValueStands s (logEvent l c d s) :=
  (logEvent_frame l c d s).drawFrame.valueStands (logEvent_vres l c d s)

theorem AnswerFrame.valueStands {s s' : Vol} (h : AnswerFrame s s') : ValueStands s s' := by
  rw [h.only]
  exact ⟨rfl, rfl, rfl, rfl, rfl, rfl, rfl, rfl, rfl⟩

theorem valueStands_foldl {α : Type} {f : Vol → α → Vol} (h : ∀ s a, ValueStands s (f s a)) (l : List α) (s : Vol) :
    ValueStands s (l.foldl f s) := by
  induction l generalizing s with
  | nil => exact .refl s
  | cons a l ih => exact (h s a).trans (ih _)

theorem lineLoopDrop_valueStands (s : Vol) : ValueStands s (lineLoopDrop s) := by
  unfold lineLoopDrop
  dsimp only
  split
  · exact .refl s
  · exact ⟨rfl, rfl, rfl, rfl, rfl, rfl, rfl, rfl, rfl⟩

theorem lineLoopResult_valueStands (result : Nat) (s : Vol) : ValueStands s (lineLoopResult result s) := by
  have ended : ValueStands s (lineLoopEnded result s) :=
    .after (logEvent_valueStands _ _ _ _) ((lineLoopDrop_valueStands s).trans ⟨rfl, rfl, rfl, rfl, rfl, rfl, rfl, rfl, rfl⟩)
  rw [lineLoopResult_eq]
  split
  · exact .after (logEvent_valueStands _ _ _ _) (ended.trans ⟨rfl, rfl, rfl, rfl, rfl, rfl, rfl, rfl, rfl⟩)
  · exact ended

theorem endLineLoops_valueStands (n : Nat) (s : Vol) : ValueStands s (endLineLoops n s) := by
  unfold endLineLoops
  dsimp only
  split
  · exact .after (lineLoopResult_valueStands 4 _) ⟨rfl, rfl, rfl, rfl, rfl, rfl, rfl, rfl, rfl⟩
  · exact ⟨rfl, rfl, rfl, rfl, rfl, rfl, rfl, rfl, rfl⟩

theorem endPortLoops_valueStands (n : Nat) (s : Vol) : ValueStands s (endPortLoops n s) := by
  unfold endPortLoops
  dsimp only
  split
  · exact .after (logEvent_valueStands _ _ _ _) ⟨rfl, rfl, rfl, rfl, rfl, rfl, rfl, rfl, rfl⟩
  · exact ⟨rfl, rfl, rfl, rfl, rfl, rfl, rfl, rfl, rfl⟩

theorem endSession_valueStands (n : Nat) (s : Vol) : ValueStands s (endSession n s) := by
  unfold endSession
  refine .after (endLineLoops_valueStands n _) (.after (endPortLoops_valueStands n _) ?_)
  split <;> exact ⟨rfl, rfl, rfl, rfl, rfl, rfl, rfl, rfl, rfl⟩

theorem endSessionsIf_valueStands (p : Nat → Session → Bool) (s : Vol) : ValueStands s (endSessionsIf p s) := by
  unfold endSessionsIf
  refine valueStands_foldl (fun s n => ?_) _ s
  split
  · split
    · exact endSession_valueStands n s
    · exact .refl s
  · exact .refl s

theorem writeRec_frame (nv : Nv) (r : Rec) (change : Bool) (s : Vol) : LogFrame s (writeRec nv r change s) :=
  (drainRecord_frame r s).trans (submitGuarded_frame _ _)

theorem templateEffect_valueStands (e : Nat) (before : List Int) (s : Vol) : ValueStands s (templateEffect e before s) := by
  have drawn : ∀ d, ValueStands s (logG 0x0705 d (fullDraw s)) := fun d =>
    .after (logEvent_valueStands _ _ _ _) ((fullDraw_drawFrame s).valueStands (fullDraw_vres s))
  unfold templateEffect
  split_ifs
  · exact .refl s
  · exact drawn _
  · exact drawn _
  · exact .refl s

theorem keyEffect_valueStands (nv : Nv) (k session : Nat) (first : Bool) (s : Vol) :
    ValueStands s (keyEffect nv k session first s) := by
  have ended : ValueStands s
      (if k < 4 then endSessionsIf (fun n x => roleCode x.role == k + 1 && n + 1 != session) s else s) := by
    split
    · exact endSessionsIf_valueStands _ s
    · exact .refl s
  unfold keyEffect
  dsimp only
  generalize (if k < 4 then endSessionsIf (fun n x => roleCode x.role == k + 1 && n + 1 != session) s else s) = u at ended ⊢
  have logged : ValueStands s (if k = 2 ∨ k = 4 then logM 0x0805 (k + 1) u else logG 0x0805 (k + 1) u) := by
    split
    · exact ended.trans (logEvent_valueStands _ _ _ _)
    · exact ended.trans (logEvent_valueStands _ _ _ _)
  generalize (if k = 2 ∨ k = 4 then logM 0x0805 (k + 1) u else logG 0x0805 (k + 1) u) = v at logged ⊢
  have cleared : ValueStands s
      (if k = 4 then logM 0x0907 0xFF { v with ret.pre.idhwm := 0, ret.pre.bitmap := 1 } else v) := by
    split
    · exact .after (logEvent_valueStands _ _ _ _) (logged.trans ⟨rfl, rfl, rfl, rfl, rfl, rfl, rfl, rfl, rfl⟩)
    · exact logged
  split
  · exact cleared.trans ((writeRec_frame nv _ _ _).drawFrame.valueStands (writeRec_vres nv _ _ _))
  · exact cleared

theorem valEffects_valueStands (nv : Nv) (v : ObjVal) (old s : Vol) : ValueStands s (valEffects nv v old s) := by
  unfold valEffects
  split
  · exact logEvent_valueStands _ _ _ _
  · exact logEvent_valueStands _ _ _ _
  · exact logEvent_valueStands _ _ _ _
  · exact keyEffect_valueStands nv _ _ _ s
  · exact templateEffect_valueStands _ _ s
  · exact .refl s

theorem reform_valueStands (s : Vol) : ValueStands s (reform s) := by
  unfold reform
  dsimp only
  split
  · exact .refl s
  · exact ⟨rfl, rfl, rfl, rfl, rfl, rfl, rfl, rfl, rfl⟩

/-- Beside the values as data, a write in effect leaves the objects and what stands beside them. -/
theorem applyVal_valueStands (nv : Nv) (p : Port) (v : ObjVal) (s : Vol) : ValueStands (putVal p v s) (applyVal nv p v s) := by
  unfold applyVal
  dsimp only
  split
  · exact (valEffects_valueStands nv _ s _).trans (reform_valueStands _)
  · exact valEffects_valueStands nv v s _

/-! ### The write is complete (R371, R422, R424) -/

theorem putVal_inHand (p : Port) (v : ObjVal) (h : Option InHand) (s : Vol) :
    putVal p v { s with work.ex.inHand := h } = { putVal p v s with work.ex.inHand := h } := by
  cases v with
  | alarm b a => cases b <;> rfl
  | template e l | curves e l => by_cases h0 : e = 0 <;> simp only [putVal, h0, if_true, if_false]
  | _ => rfl

theorem putVal_clampReport (p : Port) (v : ObjVal) (s : Vol) : (putVal p v s).ret.ex.clampReport = s.ret.ex.clampReport := by
  cases v with
  | alarm b a => cases b <;> rfl
  | template e l | curves e l => by_cases h0 : e = 0 <;> simp only [putVal, h0, if_true, if_false]
  | _ => rfl

section
variable (nv : Nv) (status : Option Nat) {s : Vol} {f : Frame} {k : List (BitVec 64)} {clamped : Bool} {v : ObjVal} {n : Nat} {b : Bool}

/-- The values of the write in hand are in force, its clamps are reported, and the engine is free. -/
def valuesTaken (nv : Nv) (f : Frame) (k : List (BitVec 64)) (v : ObjVal) (s : Vol) : Vol :=
  reportClamps k (applyVal nv f.port v { s with work.ex.inHand := none })

theorem completeWrite_answers (h : s.work.ex.inHand = some { frame := f, clamps := k, clamped, await := .write v n b }) :
    AnswerFrame (valuesTaken nv f k v s) (completeWrite nv status s) := by
  rw [completeWrite, h]
  dsimp only
  split
  · exact answer_frame _ _ _ _
  · split <;> exact answer_frame _ _ _ _

end

/-- Settles O46: a SET comes to its object (`exec_set_taken`) and its write begins; its completion is the values put, with what else
follows, and an answer. -/
theorem objectWritesWaitAndTakeEffect : Obligations.ObjectWritesWaitAndTakeEffect := by
  unfold Obligations.ObjectWritesWaitAndTakeEffect
  refine ⟨fun s f x o hframe hsession hcmd hobj hattr hset store display room held => ?_, fun nv status s f k clamped v n b hand => ?_⟩
  · have taken := exec_set_taken hframe hsession hcmd hobj hattr hset
    have only := inSession_only f x s.vol
    have bak := inSession_bak f x s.vol
    have store' : (inSession f x s.vol).work.store.present = true := by rw [only]; exact store
    have free : LineFree (inSession f x s.vol) := by rw [only]; exact ⟨room, held⟩
    have row : rowOf s.vol f = setRow s.vol f := rowOf_set hcmd
    rw [objOf_inSession] at hobj
    refine ⟨fun v k clamped control clock notes roster out guard => ?_, ?_, ?_⟩
    · have display' : (inSession f x s.vol).work.disp.present = true := by rw [only]; exact display
      have begun := carryOut_begins s.nv (f := f) (k := k) (clamped := clamped) store' display' guard free
      have carried : carrySet s.nv f x.role o (inSession f x s.vol) =
          carryOut s.nv f x.role (.write v k clamped) (inSession f x s.vol) := by
        rw [← out]
        cases o with
        | control => exact absurd rfl control
        | clock => exact absurd rfl clock
        | notes => exact absurd rfl notes
        | roster => exact absurd rfl roster
        | _ => rfl
      rw [carried] at taken
      refine ⟨_, _, taken, rfl, begun.only.bak.trans bak, ?_, ?_, ?_, begun.inHand⟩
      · exact begun.only.work_obj.trans (by rw [only])
      · exact begun.only.ret_led.trans (by rw [only])
      · exact begun.only.work_life.trans (by rw [only])
    · rintro rfl whole some low
      have begun := setNotes_begins s.nv whole some low store' free
      have own : (rowOf s.vol f).instr f = .siteNotesWrite f := by rw [row, setRow, hobj]; rfl
      rw [own] at taken
      exact ⟨_, taken, rfl, begun.only.bak.trans bak, begun.inHand⟩
    · rintro rfl one len
      obtain ⟨hand, bak'⟩ := setRoster_begins s.nv one len store' free
      have own : (rowOf s.vol f).instr f = .rosterWrite f := by rw [row, setRow, hobj]; rfl
      rw [own] at taken
      exact ⟨_, taken, rfl, bak'.trans bak, hand⟩
  · have values := applyVal_valueStands nv f.port v { s with work.ex.inHand := none }
    have answered := (completeWrite_answers nv status hand).valueStands
    rw [putVal_inHand] at values
    refine ⟨answered.inHand.trans values.inHand, answered.obj.trans values.obj, answered.led.trans values.led,
      answered.life.trans values.life, answered.settings.trans values.settings, answered.bak.trans values.bak,
      answered.clamps.trans ?_⟩
    change (k.reverse ++ (applyVal nv f.port v { s with work.ex.inHand := none }).ret.ex.clampReport).take 32 = _
    rw [values.clamps]
    change (k.reverse ++ (putVal f.port v s).ret.ex.clampReport).take 32 = _
    rw [putVal_clampReport]

end Sys2Proof.Machine
end

section
/-! SUPPORT of O14. The supply falls away: the brown-out, KEEP, the loss of VBK and IOVDD (R379, R519, R520, R540). -/

namespace Sys2Proof.Machine

/-! ### Working RAM is lost -/

theorem addPending_foldl_frame (g : Req → Pending) (l : List Req) (s : Vol) :
    LogFrame s (l.foldl (fun s r => addPending (g r) s) s) := logFrame_foldl (fun s r => addPending_frame (g r) s) l s

theorem keepWaiting_frame (s : Vol) : LogFrame s (keepWaiting s) := addPending_foldl_frame _ _ s

/-- Of the backup domain and of the LEDGER's registers, only the open interval and its span may differ. -/
structure LedgerShut (s s' : Vol) : Prop where
  bak : s'.bak = s.bak
  led : s'.ret.led = { s.ret.led with interval := s'.ret.led.interval, span := s'.ret.led.span }

theorem LedgerShut.refl (s : Vol) : LedgerShut s s := ⟨rfl, rfl⟩

theorem LedgerShut.trans {a b c : Vol} (h : LedgerShut a b) (k : LedgerShut b c) : LedgerShut a c :=
  ⟨k.bak.trans h.bak, by rw [k.led, h.led]⟩

theorem LogFrame.ledgerShut {s s' : Vol} (h : LogFrame s s') : LedgerShut s s' := ⟨h.bak, by rw [h.ret_led]⟩

theorem bookLoop_ledgerShut (c : BitVec 32) (s : Vol) : LedgerShut s (bookLoop c s) := by
  unfold bookLoop
  dsimp only
  split
  · exact .refl s
  · split <;> exact ⟨rfl, rfl⟩

/-- The end of an acoustic loop-back books its ticks (R251); those of a port and of the line end with a log entry. -/
theorem endLoop_cases (s : Vol) : ∃ u, LogFrame u (endLoop s) ∧ LedgerShut s u ∧ (s.work.loop.running = false → u = s) := by
  have ports : ∀ u, LogFrame u (if u.work.pt.lbResult = 1 then logG 0x0609 4 u else u) := fun u => by
    split
    · exact logG_frame _ _ u
    · exact .refl u
  have line : ∀ u, LogFrame u (if u.work.line.lbResult = 1 then logG 0x0619 4 u else u) := fun u => by
    split
    · exact logG_frame _ _ u
    · exact .refl u
  unfold endLoop
  dsimp only
  by_cases running : s.work.loop.running = true
  · rw [if_pos running]
    refine ⟨if retired s then s else bookLoop s.bak.count s, ((logM_frame _ _ _).trans (ports _)).trans (line _), ?_,
      fun idle => absurd running (by simp [idle])⟩
    split
    · exact .refl s
    · exact bookLoop_ledgerShut _ s
  · rw [if_neg running]
    exact ⟨s, (ports s).trans (line _), .refl s, fun _ => rfl⟩

theorem endWork_stands (s : Vol) :
    (endWork s).ret.led = (keepWaiting (endLoop { s with bak.power.core := false })).ret.led ∧
      (endWork s).bak.cal = (keepWaiting (endLoop { s with bak.power.core := false })).bak.cal := by
  unfold endWork
  dsimp only
  generalize keepWaiting _ = u
  exact ⟨rfl, rfl⟩

theorem endWork_stops (s : Vol) :
    (endWork s).bak.power.core = false ∧ (endWork s).bak.power.full = false ∧ (endWork s).work.ex = workClear.ex := by
  unfold endWork
  dsimp only
  generalize keepWaiting _ = u
  exact ⟨rfl, rfl, rfl⟩

theorem endWork_led (s : Vol) :
    (endWork s).ret.led = { s.ret.led with interval := (endWork s).ret.led.interval, span := (endWork s).ret.led.span } ∧
      (s.work.loop.running = false → (endWork s).ret.led = s.ret.led) ∧ (endWork s).bak.cal = s.bak.cal := by
  obtain ⟨u, logged, shut, idle⟩ := endLoop_cases { s with bak.power.core := false }
  have after := logged.trans (keepWaiting_frame _)
  have whole := shut.trans after.ledgerShut
  have same : s.work.loop.running = false → (keepWaiting (endLoop { s with bak.power.core := false })).ret.led = s.ret.led :=
    fun h => by rw [after.ret_led, idle h]
  obtain ⟨led, cal⟩ := endWork_stands s
  rw [led, cal]
  generalize keepWaiting _ = u at whole same ⊢
  exact ⟨whole.led, same, by rw [whole.bak]⟩

/-! ### KEEP (R519, R540) -/

/-- KEEP is entered. -/
def inKeep (s : Vol) : Vol :=
  { s with
    bak.power.state := .keep
    bak.power.brownOut := false
    bak.power.onVres := false
    bak.power.retrying := none
    bak.power.attempts := 0
    bak.power.deferred := none
    bak.power.testenHold := none }

theorem inKeep_state (s : Vol) : (inKeep s).bak.power.state = .keep := rfl
theorem inKeep_core (s : Vol) : (inKeep s).bak.power.core = s.bak.power.core := rfl

theorem exec_keepEntry {s : State} (hbrown : s.vol.bak.power.brownOut = true) :
    exec .keepEntry s =
      .next (if storeRuns s.vol then (energyFails s).up (inKeep (endWork (energyFails s).vol)) else s.up (inKeep (endWork s.vol))) := by
  have kept : exec .keepEntry s = .next (keepEntry s) := rfl
  rw [kept, keepEntry, if_neg (by simp [hbrown])]
  have entered : ∀ u : State, u.up (inKeep (endWork u.vol)) = u.up { endWork u.vol with
      bak.power.state := .keep
      bak.power.brownOut := false
      bak.power.onVres := false
      bak.power.retrying := none
      bak.power.attempts := 0
      bak.power.deferred := none
      bak.power.testenHold := none } := fun u => by rw [inKeep]
  rw [← entered]
  split <;> rfl

section
variable {s : State} (hbrown : s.vol.bak.power.brownOut = true)
include hbrown

theorem keepEntry_idle (hidle : storeRuns s.vol = false) :
    ∃ t, exec .keepEntry s = .next t ∧ t.vol.bak.power.state = .keep ∧ t.vol.bak.power.core = false ∧
      t.vol.bak.power.full = false ∧ t.vol.work.ex = workClear.ex ∧
      t.vol.ret.led = { s.vol.ret.led with interval := t.vol.ret.led.interval, span := t.vol.ret.led.span } ∧
      (s.vol.work.loop.running = false → t.vol.ret.led = s.vol.ret.led) ∧ t.vol.bak.cal = s.vol.bak.cal ∧ t.nv = s.nv := by
  have kept : exec .keepEntry s = .next (s.up (inKeep (endWork s.vol))) := by rw [exec_keepEntry hbrown, hidle]; rfl
  obtain ⟨shut, same, cal⟩ := endWork_led s.vol
  obtain ⟨core, full, ex⟩ := endWork_stops s.vol
  generalize endWork s.vol = u at kept shut same cal core full ex
  exact ⟨_, kept, rfl, core, full, ex, shut, same, cal, rfl⟩

omit hbrown in
theorem energyFails_nv (s : State) : (energyFails s).nv = (tearHead s).nv := by
  unfold energyFails
  rfl

/-- The write in progress may be torn; no byte outside its page changes. -/
theorem keepEntry_tears {r : Req} {rest : List Req} (hline : s.vol.work.store.line = r :: rest) (hstarted : r.started = true)
    (inv : s.Inv) :
    ∃ t, exec .keepEntry s = .next t ∧ t.vol.bak.power.state = .keep ∧ t.vol.bak.power.core = false ∧
      ∀ a, a < 64 * r.page ∨ 64 * r.page + 64 ≤ a → t.storeByte a = s.storeByte a := by
  have runs : storeRuns s.vol = true := by simp [storeRuns, writeRuns, hline, hstarted]
  have kept : exec .keepEntry s = .next ((energyFails s).up (inKeep (endWork (energyFails s).vol))) := by
    rw [exec_keepEntry hbrown, runs]
    rfl
  refine ⟨_, kept, inKeep_state _, (inKeep_core _).trans (endWork_stops _).1, fun a outside => ?_⟩
  rw [State.storeByte, State.up_nv, energyFails_nv]
  change memRead (tearHead s).nv.mem a = memRead s.nv.mem a
  obtain stands | ⟨r', rest', v, d, c, hline', -, torn⟩ := tearHead_cases s
  · rw [stands]
  · obtain ⟨rfl, rfl⟩ := List.cons.inj (hline.symm.trans hline')
    rw [torn]
    exact memRead_putPage_outside d c inv outside

end

/-! ### The brown-out, the loss of VBK and IOVDD (R289, R519, R520) -/

theorem brownOut_requests {s : State} (hwarn : s.vol.bak.power.warning = true) (hoff : s.vol.bak.power.state ≠ .off)
    (hkeep : s.vol.bak.power.state ≠ .keep) :
    exec .brownOut s =
      .next { s with
        vol.bak.power.brownOut := true
        vol.bak.power.browned := true
        vol.bak.freeze := none
        vol.bak.staleReaders := [] } := by
  have taken : exec .brownOut s = .next (s.up (brownOut s.vol)) := rfl
  have live : ¬(s.vol.bak.power.state == .off || s.vol.bak.power.state == .keep || !s.vol.bak.power.warning) = true := by
    simp [hwarn, hoff, hkeep]
  rw [taken, brownOut, if_neg live]
  rfl

theorem vbkLoss_loses {s : State} (hoff : s.vol.bak.power.state ≠ .off) :
    ∃ t, exec .vbkLoss s = .next t ∧ t.vol.ret = retClear ∧ t.vol.bak = { bakClear with osfCause := 3 } ∧
      t.vol.work.ex = workClear.ex ∧ t.vol.work.th = thatchClear ∧ t.vol.work.life = lifeClear ∧ t.nv = s.nv := by
  have lost : exec .vbkLoss s = .next (s.up (vbkLost s.vol)) := rfl
  rw [vbkLost, if_neg (by simpa using hoff)] at lost
  have ex := (endWork_stops s.vol).2.2
  generalize endWork s.vol = u at lost ex
  exact ⟨_, lost, rfl, rfl, ex, rfl, rfl, rfl⟩

/-- Once IOVDD has been found low, a running device drives its outputs low (R519, R595). -/
theorem ioPin_iovddLow {s : Vol} (hstate : s.bak.power.state = .doze ∨ s.bak.power.state = .measure)
    (hlow : s.bak.power.iovddLow = true) (inReset level : PinOut) : ioPin s inReset level = .low := by
  obtain h | h := hstate <;> simp [ioPin, h, hlow]

theorem iovddLow_drives {s : State} (hcore : coreRuns s.vol = true) :
    exec .iovddLow s = .next (s.up (limG 0x0509 0xFF 0xFF { s.vol with bak.power.iovddLow := true })) := by
  have low : exec .iovddLow s = .next (s.up (iovddLow s.vol)) := rfl
  rw [low, iovddLow, hcore]
  rfl

end Sys2Proof.Machine
end

section
/-! SUPPORT of O14. The results of a cycle and of a slot (R188 to R256, R265 to R271) leave the backup domain, and the switch-over to VRES
stops the front end (R139, R377). -/

namespace Sys2Proof.Machine

/-! ### The relation -/

/-- s' differs from s in working and in retained RAM at most. -/
structure RamFrame (s s' : Vol) : Prop where
  only : s' = { s with work := s'.work, ret := s'.ret }

theorem RamFrame.refl (s : Vol) : RamFrame s s := ⟨rfl⟩

theorem RamFrame.trans {a b c : Vol} (h : RamFrame a b) (k : RamFrame b c) : RamFrame a c := ⟨by rw [k.only, h.only]⟩

theorem RamFrame.after {a b c : Vol} (k : RamFrame b c) (h : RamFrame a b) : RamFrame a c := h.trans k

theorem RamFrame.bak {s s' : Vol} (h : RamFrame s s') : s'.bak = s.bak := by rw [h.only]

theorem RamFrame.ite {c : Prop} [Decidable c] {s a b : Vol} (ha : RamFrame s a) (hb : RamFrame s b) :
    RamFrame s (if c then a else b) := by
  split
  · exact ha
  · exact hb

theorem ramFrame_foldl {α : Type} {f : Vol → α → Vol} (h : ∀ s a, RamFrame s (f s a)) (l : List α) (s : Vol) :
    RamFrame s (l.foldl f s) := by
  induction l generalizing s with
  | nil => exact .refl s
  | cons a l ih => exact (h s a).trans (ih _)

theorem LogFrame.ramFrame {s s' : Vol} (h : LogFrame s s') : RamFrame s s' := ⟨by rw [h.only]⟩
theorem TrackFrame.ramFrame {s s' : Vol} (h : TrackFrame s s') : RamFrame s s' := ⟨by rw [h.only]⟩
theorem WordsFrame.ramFrame {s s' : Vol} (h : WordsFrame s s') : RamFrame s s' := ⟨by rw [h.only]⟩
theorem FinsFrame.ramFrame {s s' : Vol} (h : FinsFrame s s') : RamFrame s s' := ⟨by rw [h.only]⟩

/-- A logged step in RAM. -/
theorem logM_ramFrame {s t : Vol} (c d : Nat) (h : RamFrame s t) : RamFrame s (logM c d t) := h.trans (logM_frame c d t).ramFrame

theorem limM_ramFrame {s t : Vol} (c k d : Nat) (h : RamFrame s t) : RamFrame s (limM c k d t) :=
  h.trans (limM_frame c k d t).ramFrame

/-! ### The stream of LINK and the chain -/

theorem streamPut_ramFrame (bit type : Nat) (body : Bytes) (s : Vol) : RamFrame s (streamPut bit type body s) := by
  unfold streamPut
  exact .ite (.refl s) (.ite ⟨rfl⟩ ⟨rfl⟩)

theorem chainSend_ramFrame (b : Bytes) (s : Vol) : RamFrame s (chainSend b s) := .ite (.refl s) ⟨rfl⟩

theorem sendResults_ramFrame (s : Vol) : RamFrame s (sendResults s) :=
  (ramFrame_foldl (fun s _ => chainSend_ramFrame _ s) _ s).trans (chainSend_ramFrame _ _)

theorem countMissing_ramFrame (k : Nat) (s : Vol) : RamFrame s (countMissing k s) :=
  .ite (.refl s) (.ite ⟨rfl⟩ (.ite (logM_ramFrame _ _ ⟨rfl⟩) ⟨rfl⟩))

/-! ### Pairs (R195, R204 to R209) -/

theorem gapPair_ramFrame (j : Nat) (s : Vol) : RamFrame s (gapPair j s) := .ite (.refl s) ⟨rfl⟩

theorem leadUpdate_ramFrame (x : RxEval) (s : Vol) : RamFrame s (leadUpdate x s) :=
  .ite (.refl s) (.ite (.ite (limM_ramFrame _ _ _ ⟨rfl⟩) ⟨rfl⟩) ⟨rfl⟩)

theorem offsetSample_ramFrame (j : Nat) (d : Int) (s : Vol) : RamFrame s (offsetSample j d s) := by
  unfold offsetSample
  extract_lets r w delta upd
  have updated : ∀ x n, RamFrame s (upd x n s) := fun x n => by
    dsimp only [upd]
    generalize ht : setPathW j _ _ = t
    have moved : RamFrame s t := ht ▸ ⟨rfl⟩
    have logged := RamFrame.ite (c := r.n < 64 ∧ n = 64) (logM_ramFrame 0x0150 j moved) moved
    exact .ite (limM_ramFrame _ _ _ logged) logged
  exact .ite (updated _ _) (.ite (.ite (logM_ramFrame _ _ ⟨rfl⟩) ⟨rfl⟩) (updated _ _))

/-- A saturated value is logged (R234). -/
theorem satLogged_ramFrame {c : Prop} [Decidable c] (data : Nat) {s t : Vol} (h : RamFrame s t) :
    RamFrame s (if c then logSat data { t with work.flow.satNow := true } else t) :=
  .ite (limM_ramFrame _ _ _ (h.trans ⟨rfl⟩)) h

/-- Two KEPT pairs that follow one another give a sample (R207). -/
theorem sampled_ramFrame (j : Nat) (prev : Option (Int × Bool)) (d : Int → Bool → Int) {s t : Vol} (h : RamFrame s t) :
    RamFrame s (match prev with
      | some (raw, swapped) => offsetSample j (d raw swapped) t
      | none => t) := by
  split
  · exact h.trans (offsetSample_ramFrame _ _ _)
  · exact h

theorem decidePair_ramFrame (j : Nat) (s : Vol) : RamFrame s (decidePair j s) := by
  unfold decidePair
  dsimp only
  split
  · refine .ite (.refl s) (.ite (.ite (limM_ramFrame _ _ _ ⟨rfl⟩) ⟨rfl⟩) (.ite (limM_ramFrame _ _ _ ?_) ?_))
    · exact sampled_ramFrame j _ _ (satLogged_ramFrame j (.ite ⟨rfl⟩ ⟨rfl⟩))
    · refine .after (leadUpdate_ramFrame _ _) (.after (leadUpdate_ramFrame _ _) ?_)
      exact sampled_ramFrame j _ _ (satLogged_ramFrame j (.ite ⟨rfl⟩ ⟨rfl⟩))
  · exact .refl s

/-! ### Path states and the empty pipe (R237 to R244) -/

theorem jointVerdict_ramFrame (j : Nat) (s : Vol) : RamFrame s (jointVerdict j s) := by
  unfold jointVerdict
  dsimp only
  split
  · exact .ite (gapPair_ramFrame j s) (.trans (b := receivePath j _ s) ⟨rfl⟩ (.ite (.refl _) ⟨rfl⟩))
  · exact gapPair_ramFrame j s

theorem dropPath_ramFrame (j : Nat) (s : Vol) : RamFrame s (dropPath j s) := limM_ramFrame _ _ _ ⟨rfl⟩

theorem holdPath_ramFrame (j : Nat) (s : Vol) : RamFrame s (holdPath j s) := by
  unfold holdPath
  dsimp only
  split
  · exact .ite (.ite (limM_ramFrame _ _ _ ⟨rfl⟩) ⟨rfl⟩) ⟨rfl⟩
  · refine .ite ⟨rfl⟩ (.ite ?_ (.ite ?_ ⟨rfl⟩))
    all_goals exact .after (dropPath_ramFrame _ _) ⟨rfl⟩

theorem pathSos_ramFrame (j : Nat) (s : Vol) : RamFrame s (pathSos j s) := by
  unfold pathSos
  dsimp only
  split
  · exact .ite ⟨rfl⟩ ⟨rfl⟩
  · exact ⟨rfl⟩

theorem setEmpty_ramFrame (js : List Nat) (s : Vol) : RamFrame s (setEmpty js s) := by
  refine .after (ramFrame_foldl (fun s j => ⟨rfl⟩) _ _) (.after (ramFrame_foldl (fun s j => ⟨rfl⟩) _ _) ?_)
  exact logM_ramFrame _ _ ⟨rfl⟩

theorem clearEmpty_ramFrame (js : List Nat) (s : Vol) : RamFrame s (clearEmpty js s) := by
  refine .after (ramFrame_foldl (fun s j => ?_) _ _) (logM_ramFrame _ _ ⟨rfl⟩)
  exact .ite (.refl s) (.after (dropPath_ramFrame _ _) ⟨rfl⟩)

theorem emptyRun_ramFrame (js : List Nat) (s : Vol) : RamFrame s (emptyRun js s) := by
  unfold emptyRun
  dsimp only
  refine .ite (.refl s) (.ite (.ite (.ite (setEmpty_ramFrame js s) ⟨rfl⟩) ?_) (.ite (.ite (clearEmpty_ramFrame js s) ⟨rfl⟩) ?_))
  all_goals exact .ite (.refl s) ⟨rfl⟩

/-! ### The result of a cycle (R130, R216 to R229) -/

theorem tempResult_ramFrame (js : List Nat) (s : Vol) : RamFrame s (tempResult js s) := by
  unfold tempResult
  dsimp only
  split <;> exact ⟨rfl⟩

theorem degradedEvents_ramFrame (s : Vol) : RamFrame s (degradedEvents s) :=
  .ite (.refl s) (.ite (logM_ramFrame _ _ ⟨rfl⟩) (.ite (logM_ramFrame _ _ ⟨rfl⟩) ⟨rfl⟩))

theorem setNextRate_ramFrame (r : Nat) (s : Vol) : RamFrame s (setNextRate r s) := .ite ⟨rfl⟩ ⟨rfl⟩

theorem adaptRate_ramFrame (v : Option Int) (s : Vol) : RamFrame s (adaptRate v s) := by
  have rated : ∀ r t, RamFrame s t → RamFrame s (setNextRate r t) := fun r t h => .after (setNextRate_ramFrame r t) h
  unfold adaptRate
  dsimp only
  split_ifs
  · exact ⟨rfl⟩
  · exact rated _ _ ⟨rfl⟩
  · exact rated _ _ ⟨rfl⟩
  · exact rated _ _ ⟨rfl⟩
  · exact ⟨rfl⟩

theorem pathResults_ramFrame (js : List Nat) (vel : Nat → Int × Bool) (flowSat : Bool) (s : Vol) :
    RamFrame s (pathResults js vel flowSat s) := ramFrame_foldl (fun _ j => satLogged_ramFrame j ⟨rfl⟩) _ _

theorem noResult_ramFrame (js : List Nat) (s : Vol) : RamFrame s (noResult js s) := by
  refine .after (adaptRate_ramFrame _ _) (limM_ramFrame _ _ _ ?_)
  exact (pathResults_ramFrame js (fun _ => (0, false)) false s).trans ⟨rfl⟩

theorem flowResult_ramFrame (js : List Nat) (s : Vol) : RamFrame s (flowResult js s) := by
  have taken : ∀ (q : Int) (cutoff subst : Bool) (valid : Nat) (v : Option Int) (t : Vol), RamFrame s t →
      RamFrame s (adaptRate v (takeFlow q cutoff subst valid t)) := fun _ _ _ _ _ t h =>
    .after (adaptRate_ramFrame _ _) (h.trans ⟨rfl⟩)
  unfold flowResult
  dsimp only
  refine .ite (taken _ _ _ _ _ _ (pathResults_ramFrame _ _ _ s)) (taken _ _ _ _ _ _ ?_)
  exact .after (pathResults_ramFrame _ _ _ _) (satLogged_ramFrame _ (.refl s))

theorem streamPaths_ramFrame (js : List Nat) (s : Vol) : RamFrame s (streamPaths js s) :=
  ramFrame_foldl (fun s _ => streamPut_ramFrame _ _ _ s) _ _

theorem showPaths_ramFrame (s : Vol) : RamFrame s (showPaths s) := by
  unfold showPaths
  exact ⟨rfl⟩

theorem markNoFlow_ramFrame (s : Vol) : RamFrame s (markNoFlow s) := ⟨rfl⟩

theorem cycleResult_ramFrame (s : Vol) : RamFrame s (cycleResult s) := by
  unfold cycleResult
  split
  · exact .refl s
  · extract_lets js joint anchored _ _ emptied held sos temp none_ shown
    have hanchored : RamFrame s anchored :=
      (ramFrame_foldl (fun s j => jointVerdict_ramFrame j s) _ _).trans (ramFrame_foldl (fun s j => .ite ⟨rfl⟩ (.refl s)) _ _)
    have hemptied : RamFrame s emptied := .after (emptyRun_ramFrame _ _) (hanchored.trans ⟨rfl⟩)
    have hheld : RamFrame s held :=
      hemptied.trans (.ite (ramFrame_foldl (fun s j => ⟨rfl⟩) _ _) (ramFrame_foldl (fun s j => holdPath_ramFrame j s) _ _))
    have htemp : RamFrame s temp :=
      hheld.trans ((ramFrame_foldl (fun s j => pathSos_ramFrame j s) _ _).trans (tempResult_ramFrame _ _))
    have hshown : RamFrame s shown :=
      htemp.trans (.after (showPaths_ramFrame _) (.ite (noResult_ramFrame _ _) (flowResult_ramFrame _ _)))
    refine .after (degradedEvents_ramFrame _) (.after (markNoFlow_ramFrame _) ?_)
    exact .after (streamPut_ramFrame _ _ _ _) (hshown.trans (streamPaths_ramFrame _ _))

theorem jointSecondaryResult_ramFrame (s : Vol) : RamFrame s (jointSecondaryResult s) := by
  unfold jointSecondaryResult
  refine .ite (.refl s) (.after (showPaths_ramFrame _) (.after (tempResult_ramFrame _ _) ?_))
  refine .trans (b := { s with work.cyc.pairsDone := true }) ⟨rfl⟩ (ramFrame_foldl (fun s j => ?_) _ _)
  exact .trans (.after (pathSos_ramFrame _ _) ⟨rfl⟩) ⟨rfl⟩

/-! ### Levels (R230 to R233, R245) -/

theorem levelEmpty_ramFrame (n : Nat) (x : RxEval) (used : Bool) (s : Vol) : RamFrame s (levelEmpty n x used s) := by
  unfold levelEmpty
  dsimp only
  refine .ite (.refl s) ?_
  split
  · exact .ite (limM_ramFrame _ _ _ ⟨rfl⟩) ⟨rfl⟩
  · exact .refl s
  · exact .ite (limM_ramFrame _ _ _ ⟨rfl⟩) ⟨rfl⟩

theorem levelResult_ramFrame (ref : Option Int) (n : Nat) (s : Vol) : RamFrame s (levelResult ref n s) := by
  unfold levelResult
  dsimp only
  split
  · exact .refl s
  · exact .after (levelEmpty_ramFrame _ _ _ _) (.ite (logM_ramFrame _ _ ⟨rfl⟩) ⟨rfl⟩)

theorem tryLevels_ramFrame (s : Vol) : RamFrame s (tryLevels s) := by
  unfold tryLevels
  extract_lets ns r ref _ _ taken levels
  have htaken : RamFrame s taken := by
    unfold taken
    clear_value ref
    split
    · exact ⟨rfl⟩
    · exact .refl s
  have hlevels : RamFrame s levels := htaken.trans (ramFrame_foldl (fun s n => levelResult_ramFrame ref n s) _ _)
  refine .ite ?_ (.refl s)
  exact .after (ramFrame_foldl (fun s _ => streamPut_ramFrame _ _ _ s) _ _) (hlevels.trans ⟨rfl⟩)

/-! ### What follows the last own pair (R188, R216, R571) -/

theorem primaryDecides_ramFrame (s : Vol) : RamFrame s (primaryDecides s) := by
  refine .ite (.refl s) (.after (tryLevels_ramFrame _) (.after (cycleResult_ramFrame _) ?_))
  refine .after (ramFrame_foldl (fun s k => countMissing_ramFrame k s) _ _) ?_
  exact .ite (limM_ramFrame _ _ _ (.refl s)) (.refl s)

theorem ownFinished_ramFrame (s : Vol) : RamFrame s (ownFinished s) := by
  have resulted : ∀ u, RamFrame u (if jointMode u then jointSecondaryResult u else cycleResult u) := fun u =>
    .ite (jointSecondaryResult_ramFrame u) (cycleResult_ramFrame u)
  unfold ownFinished
  refine .ite (tryLevels_ramFrame s) (.trans (b := { s with work.chain.ownDone := true }) ⟨rfl⟩ (.ite ?_ (.ite (.ite ?_ ?_) ?_)))
  · exact .after (tryLevels_ramFrame _) (.ite (.after (sendResults_ramFrame _) (resulted _)) (resulted _))
  · exact primaryDecides_ramFrame _
  · exact tryLevels_ramFrame _
  · exact .after (tryLevels_ramFrame _) (cycleResult_ramFrame _)

/-! ### Receptions without a close word (R59, R87, R377) -/

theorem storeRx_ramFrame (k : Nat) (x : RxEval) (s : Vol) : RamFrame s (storeRx k x s) := by
  unfold storeRx
  split
  · exact .trans ⟨rfl⟩ (decidePair_ramFrame _ _)
  · exact .ite (.after (leadUpdate_ramFrame _ _) ⟨rfl⟩) ⟨rfl⟩
  · exact .refl s

theorem finishRx_ramFrame (k : Nat) (x : RxEval) (s : Vol) : RamFrame s (finishRx k x s) := by
  have counted : RamFrame s (countGain x.record (streamRx x.record (setEset k { eset s k with done := true } s))) :=
    .trans (b := setEset k { eset s k with done := true } s) ⟨rfl⟩
      ((streamRx_trackFrame _ _).trans (countGain_trackFrame _ _)).ramFrame
  refine .ite counted (.after (ownFinished_ramFrame _) (.after (storeRx_ramFrame _ _ _) ?_))
  exact .after (trackersAfter_trackFrame _ _).ramFrame counted

theorem gapSets_ramFrame (ks : List Nat) (s : Vol) : RamFrame s (gapSets ks s) := by
  refine ramFrame_foldl (fun s k => ?_) _ _
  unfold gapRx
  refine .ite (.refl s) ?_
  split
  · exact finishRx_ramFrame _ _ _
  · exact .refl s

theorem gapUse_ramFrame (u : SlotUse) (j : Nat) (s : Vol) : RamFrame s (gapUse u j s) := by
  have recorded : ∀ x s, RamFrame s (unfiredRecord x s) := fun x s =>
    ((streamRx_trackFrame _ s).trans (trackersAfter_trackFrame x _)).ramFrame
  unfold gapUse
  split
  · exact .after (gapPair_ramFrame _ _) (.after (recorded _ _) (recorded _ _))
  · exact .trans (recorded _ _) ⟨rfl⟩

/-! ### The end of a cycle and of a slot -/

theorem leaveMeasure_onVres (s : Vol) : (leaveMeasure s).bak.power.onVres = s.bak.power.onVres := by
  unfold leaveMeasure
  split <;> rfl

theorem endCycle_onVres (first : Nat) (s : Vol) : (endCycle first s).bak.power.onVres = s.bak.power.onVres := by
  unfold endCycle
  extract_lets loop unfired held _ _ _ _ cleared stopped
  have gaps : RamFrame s unfired := .ite (.refl s) (ramFrame_foldl (fun s (u : SlotUse × Nat) => gapUse_ramFrame u.1 u.2 s) _ _)
  have ended : RamFrame s (if loop then cleared else degradedEvents (ownFinished cleared)) :=
    (gaps.trans (b := unfired) (c := cleared) ⟨rfl⟩).trans
      (.ite (.refl _) (.after (degradedEvents_ramFrame _) (ownFinished_ramFrame _)))
  exact (leaveMeasure_onVres _).trans (by rw [ended.bak])

theorem endAbandoned_ends (first : Nat) (s : Vol) :
    (endAbandoned first s).work.cyc.running = false ∧ (endAbandoned first s).bak.power.onVres = s.bak.power.onVres := by
  have logged : RamFrame s (if (roundsOf (th s 0)).length - first = 0 || inLoop s then s
      else logM 0x0121 ((roundsOf (th s 0)).length - first) s) := .ite (.refl s) (logM_ramFrame _ _ (.refl s))
  exact ⟨(endCycle_ends first _).1, (endCycle_onVres first _).trans (by rw [logged.bak])⟩

/-- The cycle and the backup domain stand. -/
structure SlotStands (s s' : Vol) : Prop where
  cyc : s'.work.cyc = s.work.cyc
  bak : s'.bak = s.bak

theorem SlotStands.trans {a b c : Vol} (h : SlotStands a b) (k : SlotStands b c) : SlotStands a c :=
  ⟨k.cyc.trans h.cyc, k.bak.trans h.bak⟩

theorem WordsFrame.slotStands {s s' : Vol} (h : WordsFrame s s') : SlotStands s s' := ⟨h.cyc, h.bak⟩
theorem FinsFrame.slotStands {s s' : Vol} (h : FinsFrame s s') : SlotStands s s' := ⟨by rw [h.only], h.bak⟩

theorem intervalResult_finsFrame (unlock : Bool) (a b : List StampWord) (s : Vol) :
    FinsFrame s (intervalResult unlock a b s) := by
  have both : ∀ {f : Nat → Vol → Vol}, (∀ n s, FinFrame n s (f n s)) → ∀ n m, FinsFrame s (f m (f n s)) :=
    fun h n m => (h n s).frame.trans (h m _).frame
  unfold intervalResult
  dsimp only
  split_ifs
  · exact both (fun n s => finHeld_frame n 4 s) _ _
  · exact both (fun n s => finHeld_frame n 5 s) _ _
  · split
    · exact both (fun n s => finHeld_frame n 2 s) _ _
    · exact both (fun n s => finHeld_frame n 3 s) _ _
    · have formed : ∀ n s f, FinsFrame s (setFin n f (finStatus n 0 s)) := fun n s f =>
        ((finStatus_frame n 0 s).trans (setFin_frame n f _)).frame
      exact (formed _ _ _).trans (formed _ _ _)

theorem unlockOthers_finsFrame (s : Vol) : FinsFrame s (unlockOthers s) :=
  finsFrame_foldl (fun s n => (finStatus_frame n 4 s).frame) _ _

theorem finishSlot_stands (unlock : Bool) (coarse : Nat) (s : Vol) :
    (finishSlot unlock coarse s).work.cyc = s.work.cyc ∧ (finishSlot unlock coarse s).bak.power.onVres = s.bak.power.onVres := by
  unfold finishSlot
  extract_lets live words a b results decided streamed emptied
  have taken : WordsFrame s words :=
    .after (drainAll_wordsFrame _) (wordsFrame_foldl (fun s k => setLane_wordsFrame k _ s) _ _)
  have formed : FinsFrame words results := by
    unfold results
    split
    · exact intervalResult_finsFrame unlock a b words
    · exact finsFrame_foldl (fun s n => (freqInput_frame n unlock _ s).frame) _ _
  have others : FinsFrame results decided := by
    unfold decided
    split
    · exact unlockOthers_finsFrame results
    · exact .refl results
  have left : WordsFrame decided emptied :=
    ((streamAux_wordsFrame 4 decided).trans (streamAux_wordsFrame 5 _)).trans
      (wordsFrame_foldl (fun s k => setLane_wordsFrame k _ s) _ _)
  have whole := ((taken.slotStands.trans formed.slotStands).trans others.slotStands).trans left.slotStands
  clear_value emptied
  exact ⟨(leaveMeasure_work _).2.2.trans whole.cyc, (leaveMeasure_onVres _).trans (congrArg (·.power.onVres) whole.bak)⟩

theorem slotLosesLock_stands (s : Vol) :
    (slotLosesLock s).work.cyc = s.work.cyc ∧ (slotLosesLock s).bak.power.onVres = s.bak.power.onVres := by
  unfold slotLosesLock lossCount takeFree
  split
  · exact ⟨rfl, rfl⟩
  · dsimp only
    refine ⟨(finishSlot_stands true _ _).1.trans ?_, (finishSlot_stands true _ _).2.trans ?_⟩ <;> rfl

/-! ### The switch-over (R377) -/

/-- The cycle in progress ends. -/
def cycleStops (s : Vol) : Vol :=
  if !s.work.cyc.running then s
  else if s.work.fe.round.waiting.isSome then endAbandoned s.work.fe.round.index s
  else endAbandoned (s.work.fe.round.index + 1) (gapSets [0, 1, 2, 3] s)

/-- An open slot ends. -/
def slotStops (s : Vol) : Vol := if s.work.aux.isOpen then slotLosesLock s else s

/-- The front end falls. -/
def frontEndOff (s : Vol) : Vol := { s with work.fe.powered := false, work.cyc.feHeld := false, work.aux.due := false }

theorem measureStops_eq (s : Vol) : measureStops s = leaveMeasure (frontEndOff (slotStops (cycleStops s))) := rfl

theorem cycleStops_ends (s : Vol) :
    (cycleStops s).work.cyc.running = false ∧ (cycleStops s).bak.power.onVres = s.bak.power.onVres := by
  unfold cycleStops
  split_ifs with idle
  · exact ⟨by simpa using idle, rfl⟩
  · exact endAbandoned_ends _ s
  · obtain ⟨running, onVres⟩ := endAbandoned_ends (s.work.fe.round.index + 1) (gapSets [0, 1, 2, 3] s)
    exact ⟨running, onVres.trans (by rw [(gapSets_ramFrame _ s).bak])⟩

theorem slotStops_stands (s : Vol) :
    (slotStops s).work.cyc = s.work.cyc ∧ (slotStops s).bak.power.onVres = s.bak.power.onVres := by
  unfold slotStops
  split
  · exact slotLosesLock_stands s
  · exact ⟨rfl, rfl⟩

theorem measureStops_stops (s : Vol) :
    (measureStops s).bak.power.onVres = s.bak.power.onVres ∧ (measureStops s).work.fe.powered = false ∧
      (measureStops s).work.cyc.running = false := by
  obtain ⟨running, onVres⟩ := cycleStops_ends s
  obtain ⟨cyc, onVres'⟩ := slotStops_stands (cycleStops s)
  obtain ⟨⟨fe, left⟩, -⟩ := leaveMeasure_work (frontEndOff (slotStops (cycleStops s)))
  rw [measureStops_eq, leaveMeasure_onVres, fe, left]
  exact ⟨onVres'.trans onVres, rfl, (congrArg Cycle.running cyc).trans running⟩

/-- Nothing runs in DOZE: only the marks of the front end fall. -/
theorem measureStops_doze {s : Vol} (hdoze : s.bak.power.state = .doze) (hidle : s.work.cyc.running = false)
    (hclosed : s.work.aux.isOpen = false) : measureStops s = frontEndOff s := by
  have cycle : cycleStops s = s := if_pos (by rw [hidle]; rfl)
  have slot : slotStops s = s := if_neg (by simp [hclosed])
  rw [measureStops_eq, cycle, slot]
  exact if_neg (by simp [frontEndOff, hdoze])

theorem exec_switchOver {s : State} (hwarn : s.vol.bak.power.warning = true) (hvres : s.vol.bak.power.onVres = false)
    (hoff : s.vol.bak.power.state ≠ .off) (hkeep : s.vol.bak.power.state ≠ .keep) :
    exec .switchOver s = .next (s.up (measureStops { s.vol with bak.power.onVres := true })) := by
  have taken : exec .switchOver s = .next (s.up (switchOver s.vol)) := rfl
  rw [taken, switchOver, if_neg (by simp [hwarn, hvres, hoff, hkeep])]

end Sys2Proof.Machine
end

section
/-! SUPPORT of O14. The warning clears (R335, R519, R520, R547). -/

namespace Sys2Proof.Machine

/-! ### The state of the supply -/

/-- What POWER knows of the supply stands. -/
structure SupplyStands (s s' : Vol) : Prop where
  warning : s'.bak.power.warning = s.bak.power.warning
  browned : s'.bak.power.browned = s.bak.power.browned
  vsupOk : s'.bak.power.vsupOk = s.bak.power.vsupOk

theorem SupplyStands.of_power {s s' : Vol} (h : s'.bak.power = s.bak.power) : SupplyStands s s' :=
  ⟨by rw [h], by rw [h], by rw [h]⟩

theorem SupplyStands.of_bak {s s' : Vol} (h : s'.bak = s.bak) : SupplyStands s s' := .of_power (by rw [h])

theorem SupplyStands.trans {a b c : Vol} (h : SupplyStands a b) (k : SupplyStands b c) : SupplyStands a c :=
  ⟨k.warning.trans h.warning, k.browned.trans h.browned, k.vsupOk.trans h.vsupOk⟩

theorem wakeUp_supplyStands (nv : Nv) (s : Vol) : SupplyStands s (wakeUp nv s) := by
  have power := wakeUp_power nv s
  exact ⟨by rw [power], by rw [power], by rw [power]⟩

theorem periodicDuties_supplyStands (nv : Nv) (s : Vol) : SupplyStands s (periodicDuties nv s) := by
  constructor <;> rw [periodicDuties_bak]

theorem wakeFor_supplyStands (nv : Nv) (source : WakeSource) (collision : Bool) (s : Vol) :
    SupplyStands s (wakeFor nv source collision s) := by
  have recorded : SupplyStands s (if source == .supervisor then s else wakeRecord (wakeCode source) collision s) := by
    split
    · exact .of_bak rfl
    · exact .of_power rfl
  have woken := recorded.trans (wakeUp_supplyStands nv _)
  unfold wakeFor
  dsimp only
  split
  · exact woken.trans (periodicDuties_supplyStands nv _)
  · exact woken

theorem tryWake_supplyStands (nv : Nv) (r : Raised) (collision : Bool) (s : Vol) : SupplyStands s (tryWake nv r collision s) := by
  unfold tryWake
  split
  · split
    · exact wakeFor_supplyStands _ _ _ _
    · exact .of_bak rfl
  · exact .of_bak rfl

theorem raiseWake_supplyStands (nv : Nv) (w : WakeSource) (also : List WakeSource) (s : Vol) :
    SupplyStands s (raiseWake nv w also s) := by
  have met : (if s.bak.power.entering = true then freeBit s else (false, s)).2.bak = s.bak := by
    split <;> rfl
  unfold raiseWake
  split
  · exact .trans (.of_bak met) (tryWake_supplyStands nv _ _ _)
  · exact .of_bak rfl

theorem heldWake_supplyStands (nv : Nv) (s : Vol) : SupplyStands s (heldWake nv s) := by
  unfold heldWake
  split
  · exact raiseWake_supplyStands _ _ _ _
  · exact .of_bak rfl

theorem serveSeal_supplyStands (nv : Nv) (s : Vol) : SupplyStands s (serveSeal nv s) := by
  unfold serveSeal
  split
  · exact raiseWake_supplyStands _ _ _ _
  · exact .of_bak rfl

/-! ### WARNING_CLEAR -/

theorem flushShort_frame (s : Vol) : LogFrame s (flushShort s) := by
  unfold flushShort
  split
  · exact .refl s
  · exact .trans (b := { s with ret.store.flushShort := 0 }) ⟨rfl⟩ (logG_frame _ _ _)

theorem redraw_drawFrame (r : Rect) (s : Vol) : DrawFrame s (redraw r s) := (request_drawFrame _ s).trans (request_drawFrame _ _)

theorem drawFrame_foldl {α : Type} {f : Vol → α → Vol} (h : ∀ s a, DrawFrame s (f s a)) (l : List α) (s : Vol) :
    DrawFrame s (l.foldl f s) := by
  induction l generalizing s with
  | nil => exact .refl s
  | cons a l ih => exact (h s a).trans (ih _)

theorem displayResume_drawFrame (s : Vol) : DrawFrame s (displayResume s) := by
  unfold displayResume
  dsimp only
  split
  · exact (dueCheck_frame s).drawFrame
  · refine .trans (b := { s with work.disp.interrupted := [] }) ⟨rfl⟩ ?_
    exact (drawFrame_foldl (fun s r => redraw_drawFrame r s) _ _).trans (logG_frame _ _ _).drawFrame

/-- VSUP is back, and its logs say so. -/
def supplyBack (s : Vol) : Vol :=
  let t := { s with bak.power.warning := false, bak.power.browned := false, bak.power.vsupOk := true }
  flushShort (if s.bak.power.browned then t else logG 0x0508 0xFF t)

theorem supplyBack_frame (s : Vol) :
    LogFrame { s with bak.power.warning := false, bak.power.browned := false, bak.power.vsupOk := true } (supplyBack s) := by
  refine .trans ?_ (flushShort_frame _)
  split
  · exact .refl _
  · exact logG_frame _ _ _

theorem warningClear_eq {s : Vol} (nv : Nv) (hwarn : s.bak.power.warning = true) :
    warningClear nv s =
      if coreRuns (supplyBack s) then lineGoesOn nv (displayResume (supplyBack s)) else serveSeal nv (heldWake nv (supplyBack s)) :=
  if_neg (by simp [hwarn])

theorem warningClear_clears {s : State} (hwarn : s.vol.bak.power.warning = true) (hchange : s.vol.work.life.change = none)
    (hhand : s.vol.work.ex.inHand = none) (hqueue : s.vol.work.ex.queue = []) :
    ∃ t, exec .warningClear s = .next t ∧ t.vol.bak.power.warning = false ∧ t.vol.bak.power.browned = false ∧
      t.vol.bak.power.vsupOk = true ∧ t.nv = s.nv := by
  have taken : exec .warningClear s = .next (s.up (warningClear s.nv s.vol)) := rfl
  have back := supplyBack_frame s.vol
  have after : SupplyStands (supplyBack s.vol) (warningClear s.nv s.vol) := by
    rw [warningClear_eq s.nv hwarn]
    split
    · have resumed := (back.drawFrame.trans (displayResume_drawFrame (supplyBack s.vol))).only
      have hand' : (displayResume (supplyBack s.vol)).work.ex = s.vol.work.ex := by rw [resumed]
      have life' : (displayResume (supplyBack s.vol)).work.life = s.vol.work.life := by rw [resumed]
      rw [lineGoesOn_free s.nv (by rw [hand', hhand]) (by rw [hand', hqueue]) (by rw [life', hchange])]
      refine .of_bak ?_
      rw [drainPending_bak, (startHead_frame _).bak, displayResume_bak]
    · exact (heldWake_supplyStands s.nv _).trans (serveSeal_supplyStands s.nv _)
  refine ⟨_, taken, after.warning.trans ?_, after.browned.trans ?_, after.vsupOk.trans ?_, rfl⟩ <;> rw [back.bak]

end Sys2Proof.Machine
end

section
/-! SUPPORT of O14. What the booking, the steps of the LEDGER on the tick of the warning, and the trimming of the line (R217 to R221, R311
to R336, R606) leave of what the flush goes by. -/

namespace Sys2Proof.Machine

/-! ### The relation -/

/-- What the flush goes by stands: the state of POWER, the device's part in a chain and its life cycle, and the reading of VRES. -/
structure FlushStands (s s' : Vol) : Prop where
  power : s'.bak.power = s.bak.power
  th : s'.work.th = s.work.th
  state : s'.work.life.state = s.work.life.state
  change : s'.work.life.change = s.work.life.change
  vres : s'.work.store.vres = s.work.store.vres

theorem FlushStands.refl (s : Vol) : FlushStands s s := ⟨rfl, rfl, rfl, rfl, rfl⟩

theorem FlushStands.trans {a b c : Vol} (h : FlushStands a b) (k : FlushStands b c) : FlushStands a c :=
  ⟨k.power.trans h.power, k.th.trans h.th, k.state.trans h.state, k.change.trans h.change, k.vres.trans h.vres⟩

theorem FlushStands.after {a b c : Vol} (k : FlushStands b c) (h : FlushStands a b) : FlushStands a c := h.trans k

theorem FlushStands.ite {c : Prop} [Decidable c] {s a b : Vol} (ha : FlushStands s a) (hb : FlushStands s b) :
    FlushStands s (if c then a else b) := by
  split
  · exact ha
  · exact hb

theorem FlushStands.noLedger {s s' : Vol} (h : FlushStands s s') : noLedger s' = noLedger s := by
  rw [Machine.noLedger, Machine.noLedger, retired, retired, isSecondary, isSecondary, h.state, h.change, h.th]

theorem flushStands_foldl {α : Type} {f : Vol → α → Vol} (h : ∀ s a, FlushStands s (f s a)) (l : List α) (s : Vol) :
    FlushStands s (l.foldl f s) := by
  induction l generalizing s with
  | nil => exact .refl s
  | cons a l ih => exact (h s a).trans (ih _)

/-- The same for steps that carry further values beside the state. -/
theorem foldl_fst_flushStands {α β : Type} {f : Vol × β → α → Vol × β} (h : ∀ p a, FlushStands p.1 (f p a).1) (l : List α)
    (p : Vol × β) : FlushStands p.1 (l.foldl f p).1 := by
  induction l generalizing p with
  | nil => exact .refl _
  | cons a l ih => exact (h p a).trans (ih _)

/-! ### The line and the logs -/

theorem LogFrame.flushStands {s s' : Vol} (h : LogFrame s s') (vres : s'.work.store.vres = s.work.store.vres) :
    FlushStands s s' := ⟨by rw [h.bak], h.work_th, by rw [h.work_life], by rw [h.work_life], vres⟩

theorem LineStands.flushStands {s s' : Vol} (h : LineStands s s') : FlushStands s s' := h.frame.flushStands h.vres

theorem submitAll_flushStands (l : List Req) (s : Vol) : FlushStands s (submitAll l s) :=
  (submitAll_frame l s).flushStands (submitAll_vres l s)

/-- A logged step. -/
theorem logEvent_flushStands {s t : Vol} (l : LogId) (c d : Nat) (h : FlushStands s t) : FlushStands s (logEvent l c d t) :=
  h.trans (logEvent_lineStands l c d t).flushStands

theorem logLimited_flushStands {s t : Vol} (l : LogId) (c k d : Nat) (h : FlushStands s t) : FlushStands s (logLimited l c k d t) :=
  h.trans (logLimited_lineStands l c k d t).flushStands

theorem logLimitedTimes_flushStands {s t : Vol} (l : LogId) (c k d n : Nat) (h : FlushStands s t) :
    FlushStands s (logLimitedTimes l c k d n t) := by
  have logged := logLimited_flushStands l c k d h
  unfold logLimitedTimes
  exact .ite h (logged.trans ⟨rfl, rfl, rfl, rfl, rfl⟩)

theorem submitGuarded_flushStands (l : List Req) (s : Vol) : FlushStands s (submitGuarded l s) :=
  (submitGuarded_frame l s).flushStands (submitGuarded_vres l s)

theorem addPending_foldl_flushStands (g : Req → Pending) (l : List Req) (s : Vol) :
    FlushStands s (l.foldl (fun s r => addPending (g r) s) s) :=
  (addPending_foldl_frame g l s).flushStands (by rw [addPending_foldl_store])

/-! ### Bookings (R217 to R221, R247 to R251) -/

theorem deduct_flushStands (v : Nat) (s : Vol) : FlushStands s (deduct v s) := .ite ⟨rfl, rfl, rfl, rfl, rfl⟩ (.refl s)

theorem ledgerTakes_flushStands (a b c d : Nat) (s : Vol) : FlushStands s (ledgerTakes a b c d s) :=
  .ite (.refl s) (.after (deduct_flushStands _ _) ⟨rfl, rfl, rfl, rfl, rfl⟩)

theorem pulseLost_flushStands (o n : Nat) (s : Vol) : FlushStands s (pulseLost o n s) := by
  unfold pulseLost
  exact .ite (.refl s) (logLimitedTimes_flushStands _ _ _ _ _ (.ite ⟨rfl, rfl, rfl, rfl, rfl⟩ ⟨rfl, rfl, rfl, rfl, rfl⟩))

theorem pulseBook_flushStands (a b : Nat) (f r : Bool) (s : Vol) : FlushStands s (pulseBook a b f r s) := by
  unfold pulseBook
  split
  · exact .refl s
  · exact .after (pulseLost_flushStands _ _ _) (.after (pulseLost_flushStands _ _ _) ⟨rfl, rfl, rfl, rfl, rfl⟩)

theorem endGap_flushStands (n : Nat) (q : Option Int) (s : Vol) : FlushStands s (endGap n q s).1 := by
  have marked := logLimited_flushStands .metrology 0x0167 0xFF (ceilDiv n 4)
    (s := s) (t := { s with ret.led.interval.gapFilled := true }) ⟨rfl, rfl, rfl, rfl, rfl⟩
  unfold endGap
  split
  · exact .refl s
  · split
    · split
      · split <;> exact marked.trans ⟨rfl, rfl, rfl, rfl, rfl⟩
      · exact logEvent_flushStands _ _ _ (.refl s)
    · exact logEvent_flushStands _ _ _ (.refl s)

theorem markUnfilled_flushStands (g : Gap) (s : Vol) : FlushStands s (markUnfilled g s) :=
  .ite ⟨rfl, rfl, rfl, rfl, rfl⟩ (.refl s)

theorem decideGaps_flushStands (s : Vol) : FlushStands s (decideGaps s).1 := by
  unfold decideGaps
  refine .after (foldl_fst_flushStands (fun p g => ?_) _ _) ⟨rfl, rfl, rfl, rfl, rfl⟩
  exact .after (endGap_flushStands _ _ _) (markUnfilled_flushStands g p.1)

theorem addGap_flushStands (c : BitVec 32) (n : Nat) (s : Vol) : FlushStands s (addGap c n s) := by
  unfold addGap
  exact .ite (.refl s) ⟨rfl, rfl, rfl, rfl, rfl⟩

theorem bookFlow_flushStands (m : Nat) (s : Vol) : FlushStands s (bookFlow m s).1 := by
  unfold bookFlow
  split
  · exact .refl s
  · split
    · exact .refl s
    · dsimp only
      split <;> split <;> exact ⟨rfl, rfl, rfl, rfl, rfl⟩

theorem spanBook_flushStands (a m q : Nat) (s : Vol) : FlushStands s (spanBook a m q s) := ⟨rfl, rfl, rfl, rfl, rfl⟩

theorem bookTo_flushStands (c : BitVec 32) (s : Vol) : FlushStands s (bookTo c s) := by
  unfold bookTo
  dsimp only
  split
  · exact .refl s
  · split
    · exact ⟨rfl, rfl, rfl, rfl, rfl⟩
    · refine .after (pulseBook_flushStands _ _ _ _ _) (.after (ledgerTakes_flushStands _ _ _ _ _) ?_)
      refine .trans (.after (addGap_flushStands _ _ _) (.after (spanBook_flushStands _ _ _ _)
        (.after (spanBook_flushStands _ _ _ _) (.after (bookFlow_flushStands _ _) ?_)))) ⟨rfl, rfl, rfl, rfl, rfl⟩
      split
      · exact .refl s
      · exact decideGaps_flushStands s

theorem bookLoop_flushStands (c : BitVec 32) (s : Vol) : FlushStands s (bookLoop c s) := by
  unfold bookLoop
  dsimp only
  split
  · exact .refl s
  · split <;> exact ⟨rfl, rfl, rfl, rfl, rfl⟩

theorem bookEvent_flushStands (c : BitVec 32) (s : Vol) : FlushStands s (bookEvent c s) :=
  .ite (.refl s) (.ite (bookLoop_flushStands c s) (.ite (.refl s) (bookTo_flushStands c s)))

/-! ### Records, rings and the profile -/

theorem writeRec_flushStands (nv : Nv) (r : Rec) (change : Bool) (s : Vol) : FlushStands s (writeRec nv r change s) :=
  (writeRec_frame nv r change s).flushStands (writeRec_vres nv r change s)

theorem writeRingA_flushStands (nv : Nv) (s : Vol) : FlushStands s (writeRingA nv s) :=
  .ite (submitGuarded_flushStands _ s) (.refl s)

theorem writeRingB_flushStands (nv : Nv) (s : Vol) : FlushStands s (writeRingB nv s) :=
  .ite (submitGuarded_flushStands _ s) (.refl s)

theorem appendProfile_flushStands (r : Nat) (s : Vol) : FlushStands s (appendProfile r s) := by
  have put : ∀ (l : List Req) (t : Vol), FlushStands s t → FlushStands s (submitGuarded l t) := fun l t h =>
    h.trans (submitGuarded_flushStands l t)
  unfold appendProfile
  dsimp only
  split
  · exact put _ _ (put _ _ ⟨rfl, rfl, rfl, rfl, rfl⟩)
  · exact put _ _ ⟨rfl, rfl, rfl, rfl, rfl⟩

/-! ### A quarter-hour and a billing period (R319 to R336) -/

theorem takeTariff_flushStands (t : Nat) (s : Vol) : FlushStands s (takeTariff t s) := by
  unfold takeTariff
  exact .ite (logEvent_flushStands _ _ _ ⟨rfl, rfl, rfl, rfl, rfl⟩) ⟨rfl, rfl, rfl, rfl, rfl⟩

theorem closeGaps_flushStands (s : Vol) : FlushStands s (closeGaps s) := by
  unfold closeGaps
  refine .trans (.after (flushStands_foldl (fun s g => markUnfilled_flushStands g s) _ _) ?_) ⟨rfl, rfl, rfl, rfl, rfl⟩
  split
  · exact .refl s
  · split <;> exact markUnfilled_flushStands _ s

theorem closeInterval_flushStands (nv : Nv) (s : Vol) : FlushStands s (closeInterval nv s) := by
  have closed := (closeGaps_flushStands s).trans
    (appendProfile_flushStands (intervalRecord (closeGaps s).ret.led.interval (prevTariffOf (closeGaps s))) _)
  unfold closeInterval
  dsimp only
  generalize appendProfile _ (closeGaps s) = u at closed ⊢
  split
  · exact .refl s
  · split
    · exact .after (writeRec_flushStands nv _ _ _) (closed.trans ⟨rfl, rfl, rfl, rfl, rfl⟩)
    · exact closed.trans ⟨rfl, rfl, rfl, rfl, rfl⟩

theorem closeSpan_flushStands (now : Nat) (s : Vol) : FlushStands s (closeSpan now s) := by
  unfold closeSpan
  exact .ite (.refl s) ⟨rfl, rfl, rfl, rfl, rfl⟩

theorem applyToken_flushStands (t : Token) (s : Vol) : FlushStands s (applyToken t s) := ⟨rfl, rfl, rfl, rfl, rfl⟩

theorem applyTokens_flushStands (nv : Nv) (s : Vol) : FlushStands s (applyTokens nv s) := by
  have applied : FlushStands s ((s.ret.pre.tokens.filter (tokenDue s)).foldl (fun s t => applyToken t s) (bookEvent s.bak.count s)) :=
    (bookEvent_flushStands _ s).trans (flushStands_foldl (fun s t => applyToken_flushStands t s) _ _)
  unfold applyTokens
  exact .ite (.refl s) (.after (writeRingB_flushStands nv _) (applied.trans ⟨rfl, rfl, rfl, rfl, rfl⟩))

theorem hwmTakes_flushStands (t : Nat) (s : Vol) : FlushStands s (hwmTakes t s) := .ite ⟨rfl, rfl, rfl, rfl, rfl⟩ (.refl s)

theorem advanceHwm_flushStands (t : Nat) (s : Vol) : FlushStands s (advanceHwm t s) :=
  .ite (.ite (logEvent_flushStands _ _ _ ⟨rfl, rfl, rfl, rfl, rfl⟩) ⟨rfl, rfl, rfl, rfl, rfl⟩) (.refl s)

theorem openInterval_flushStands (t : Nat) (clockSet powerDown : Bool) (s : Vol) :
    FlushStands s (openInterval t clockSet powerDown s) := ⟨rfl, rfl, rfl, rfl, rfl⟩

theorem quarterTick_flushStands (nv : Nv) (t : Nat) (c : BitVec 32) (s : Vol) : FlushStands s (quarterTick nv t c s) := by
  have closed : FlushStands s (closeInterval nv (closeSpan t (applyTokens nv (bookEvent c s)))) :=
    .after (closeInterval_flushStands nv _) (.after (closeSpan_flushStands t _)
      (.after (applyTokens_flushStands nv _) (bookEvent_flushStands c s)))
  unfold quarterTick
  dsimp only
  generalize closeInterval nv _ = u at closed ⊢
  refine .after ((writeRingA_flushStands nv _).trans (writeRingB_flushStands nv _)) (.after (takeTariff_flushStands t _)
    (.after (hwmTakes_flushStands t _) (.after (openInterval_flushStands t _ _ _) (closed.trans ?_))))
  exact .ite (appendProfile_flushStands _ u) (.refl u)

theorem billingClose_flushStands (nv : Nv) (t b l : Nat) (x y z : Bool) (s : Vol) :
    FlushStands s (billingClose nv t b l x y z s) := by
  unfold billingClose
  refine logEvent_flushStands _ _ _ (.after (writeRingB_flushStands nv _) (.after (writeRec_flushStands nv _ _ _) ?_))
  exact .after (submitAll_flushStands _ _) ⟨rfl, rfl, rfl, rfl, rfl⟩

theorem billingTest_flushStands (nv : Nv) (before t : Nat) (x y z : Bool) (s : Vol) :
    FlushStands s (billingTest nv before t x y z s) := by
  have suppressed := logLimitedTimes_flushStands .metrology 0x0305 0xFF 0xFF (boundsPassed s before t) (.refl s)
  unfold billingTest
  dsimp only
  generalize logLimitedTimes .metrology 0x0305 0xFF 0xFF (boundsPassed s before t) s = u at suppressed ⊢
  have restored : FlushStands u (if u.ret.led.setBack then logM 0x0304 0xFF { u with ret.led.setBack := false } else u) :=
    .ite (logEvent_flushStands _ _ _ ⟨rfl, rfl, rfl, rfl, rfl⟩) (.refl u)
  refine .after (advanceHwm_flushStands t _) (suppressed.trans (.ite ?_ (.refl u)))
  exact .after (billingClose_flushStands nv _ _ _ _ _ _ _) restored

theorem billingStep_flushStands (nv : Nv) (before t : Nat) (x y z : Bool) (s : Vol) :
    FlushStands s (billingStep nv before t x y z s) := by
  have seen : FlushStands s { s with ret.led.seen := t } := ⟨rfl, rfl, rfl, rfl, rfl⟩
  unfold billingStep
  dsimp only
  split
  · exact seen
  · exact seen.trans (billingTest_flushStands nv _ _ _ _ _ _)

theorem billingTick_flushStands (nv : Nv) (s : Vol) : FlushStands s (billingTick nv s) := by
  have booked := bookEvent_flushStands s.bak.count s
  unfold billingTick
  dsimp only
  generalize bookEvent s.bak.count s = u at booked ⊢
  refine .after (billingStep_flushStands nv _ _ _ _ _ _) (booked.trans ?_)
  split
  · exact quarterTick_flushStands nv _ _ u
  · exact .refl u

end Sys2Proof.Machine
end

section
/-! SUPPORT of O14. The warning with CORE running: the line is trimmed, and the flush is requested (R336, R377, R510, R606). -/

namespace Sys2Proof.Machine

/-! ### The line is trimmed (R606) -/

theorem DrawFrame.flushStands {s s' : Vol} (h : DrawFrame s s') (vres : s'.work.store.vres = s.work.store.vres) :
    FlushStands s s' := by
  rw [h.only] at vres ⊢
  exact ⟨rfl, rfl, rfl, rfl, vres⟩

theorem AnswerFrame.flushStands {s s' : Vol} (h : AnswerFrame s s') : FlushStands s s' := by
  rw [h.only]
  exact ⟨rfl, rfl, rfl, rfl, rfl⟩

theorem ValueStands.flushStands {s s' : Vol} (h : ValueStands s s') : FlushStands s s' :=
  ⟨by rw [h.bak], h.th, by rw [h.life], by rw [h.life], h.vres⟩

theorem putVal_flushStands (p : Port) (v : ObjVal) (s : Vol) : FlushStands s (putVal p v s) := by
  cases v with
  | alarm b a => cases b <;> exact ⟨rfl, rfl, rfl, rfl, rfl⟩
  | template e l | curves e l => exact .ite ⟨rfl, rfl, rfl, rfl, rfl⟩ ⟨rfl, rfl, rfl, rfl, rfl⟩
  | _ => exact ⟨rfl, rfl, rfl, rfl, rfl⟩

theorem applyVal_flushStands (nv : Nv) (p : Port) (v : ObjVal) (s : Vol) : FlushStands s (applyVal nv p v s) :=
  (putVal_flushStands p v s).trans (applyVal_valueStands nv p v s).flushStands

/-- A token whose page is removed fails, and is answered (R349). -/
theorem tokenPageDone_flushStands (nv : Nv) (seq : BitVec 32) (s : Vol) : FlushStands s (tokenPageDone nv false seq s) := by
  have shown : ∀ u, FlushStands u (withTemplate (showResult 10) u) := fun u => by
    have result : FlushStands u (showResult 10 u) := ⟨rfl, rfl, rfl, rfl, rfl⟩
    unfold withTemplate
    exact .ite result (result.trans ((fullDraw_drawFrame _).flushStands (fullDraw_vres _)))
  have failed : FlushStands s (tokenFailed seq s) := by
    unfold tokenFailed
    exact .ite (.after (shown _) ⟨rfl, rfl, rfl, rfl, rfl⟩) (.refl s)
  have answered : ∀ r u, FlushStands u (answerToken r u) := fun r u => by
    unfold answerToken
    split
    · exact .after (answer_frame _ _ _ _).flushStands ⟨rfl, rfl, rfl, rfl, rfl⟩
    · exact .refl u
  unfold tokenPageDone
  split
  · exact .refl s
  · exact .ite (failed.trans (answered _ _)) failed

theorem failWrite_flushStands (s : Vol) : FlushStands s (failWrite s) := by
  unfold failWrite
  split
  · exact .after (answer_frame _ _ _ _).flushStands ⟨rfl, rfl, rfl, rfl, rfl⟩
  · exact .refl s

theorem reportClamps_flushStands (l : List (BitVec 64)) (s : Vol) : FlushStands s (reportClamps l s) :=
  ⟨rfl, rfl, rfl, rfl, rfl⟩

theorem commitEarly_flushStands (nv : Nv) (s : Vol) : FlushStands s (commitEarly nv s) := by
  unfold commitEarly
  split
  · split
    · refine .after (reportClamps_flushStands _ _) (.after (applyVal_flushStands nv _ _ _) ?_)
      exact ⟨rfl, rfl, rfl, rfl, rfl⟩
    · exact .refl s
  · exact .refl s

theorem trimObject_flushStands (nv : Nv) (gone : List Req) (s : Vol) : FlushStands s (trimObject nv gone s) := by
  have pended := addPending_foldl_flushStands Req.toPending (gone.filter (·.object)) s
  unfold trimObject
  dsimp only
  split
  · exact .refl s
  · split
    · exact pended
    · exact .ite (pended.trans (commitEarly_flushStands nv _)) (failWrite_flushStands s)

theorem trimLine_flushStands (nv : Nv) (s : Vol) : FlushStands s (trimLine nv s) := by
  unfold trimLine
  dsimp only
  refine .after (trimObject_flushStands nv _ _) ?_
  refine .after (flushStands_foldl (fun s r => tokenPageDone_flushStands nv _ s) _ _) ?_
  exact .after (addPending_foldl_flushStands _ _ _) ⟨rfl, rfl, rfl, rfl, rfl⟩

/-! ### The flush is requested (R377) -/

/-- The flush is under way with VRES high enough, and a slot of each ring is among its pages. -/
structure RingsFlush (s : Vol) : Prop where
  ok : flushOk s = true
  flushing : s.work.store.flushing = true
  ringA : .ringA ∈ flushJobs s
  ringB : .ringB ∈ flushJobs s

theorem RingsFlush.stands {s s' : Vol} (h : LineStands s s') (r : RingsFlush s) : RingsFlush s' := by
  have lives : FlushLives s := .inl r.ok
  refine ⟨?_, (h.flushing lives).trans r.flushing, ?_, ?_⟩
  · rw [flushOk_of_vres h.vres, r.ok]
  · rw [h.flush lives]
    exact r.ringA
  · rw [h.flush lives]
    exact r.ringB

theorem RingsFlush.of_store {s s' : Vol} (h : s'.work.store = s.work.store) (r : RingsFlush s) : RingsFlush s' := by
  obtain ⟨ok, flushing, ringA, ringB⟩ := r
  rw [flushOk] at ok
  rw [flushJobs] at ringA ringB
  rw [← h] at ok flushing ringA ringB
  exact ⟨ok, flushing, ringA, ringB⟩

/-- A job of the flush is that of a page of the flush in the line. -/
theorem any_of_mem_flushJobs {s : Vol} {j : Job} (h : j ∈ flushJobs s) :
    (s.work.store.line.any fun r => r.flush && r.job == j) = true := by
  obtain ⟨r, mem, job⟩ := List.mem_map.mp h
  obtain ⟨line, flush⟩ := List.mem_filter.mp mem
  exact List.any_eq_true.mpr ⟨r, line, by simp [flush, job]⟩

/-- A page of the flush enters the line. -/
def flushAdd (r : Req) (s : Vol) : Vol := { s with work.store.line := s.work.store.line ++ [{ r with flush := true }] }

/-- The flush as it is requested. -/
def flushBegun (s : Vol) : Vol :=
  { s with work.store.present := true, work.store.flushing := s.work.store.line.any (·.flush), work.store.flushed := 0 }

/-- The line as the flush finds it. -/
def flushTrims (nv : Nv) (s : Vol) : Vol := trimLine nv (if noLedger s then bookEvent s.bak.count s else billingTick nv s)

theorem flushTrims_flushStands (nv : Nv) (s : Vol) : FlushStands s (flushTrims nv s) := by
  unfold flushTrims
  refine .after (trimLine_flushStands nv _) ?_
  split
  · exact bookEvent_flushStands _ s
  · exact billingTick_flushStands nv s

theorem flushAdd_flushStands (r : Req) (s : Vol) : FlushStands s (flushAdd r s) := ⟨rfl, rfl, rfl, rfl, rfl⟩

theorem flushBegun_flushStands (s : Vol) : FlushStands s (flushBegun s) := ⟨rfl, rfl, rfl, rfl, rfl⟩

/-- The pages of one ring, where the LEDGER gives service. -/
def ringAdds (r : Req) (s : Vol) : Vol := if noLedger s then s else flushAdd r s

theorem ringAdds_flushStands (r : Req) (s : Vol) : FlushStands s (ringAdds r s) := .ite (.refl s) (flushAdd_flushStands r s)

/-- The slots of the rings behind the pages that the flush keeps. -/
def ringsAdded (nv : Nv) (s : Vol) : Vol := ringAdds (ringBReq nv (ringAdds (ringAReq nv s) s)) (ringAdds (ringAReq nv s) s)

theorem ringsAdded_flushStands (nv : Nv) (s : Vol) : FlushStands s (ringsAdded nv s) :=
  (ringAdds_flushStands _ s).trans (ringAdds_flushStands _ _)

theorem requestFlush_eq (nv : Nv) (s : Vol) :
    requestFlush nv s = startHead (flushBegun (ringsAdded nv (flushTrims nv s))) := by
  unfold requestFlush flushTrims
  dsimp only
  generalize trimLine nv _ = u
  unfold ringsAdded ringAdds flushBegun flushAdd
  rfl

theorem requestFlush_flushStands (nv : Nv) (s : Vol) : FlushStands s (requestFlush nv s) := by
  rw [requestFlush_eq]
  exact .after (startHead_lineStands _).flushStands (.after (flushBegun_flushStands _) (.after (ringsAdded_flushStands nv _)
    (flushTrims_flushStands nv s)))

theorem ringsAdded_line (nv : Nv) {s : Vol} (h : noLedger s = false) :
    ∃ a b : Req, a.job = .ringA ∧ a.flush = true ∧ b.job = .ringB ∧ b.flush = true ∧
      (ringsAdded nv s).work.store.line = s.work.store.line ++ [a] ++ [b] := by
  have served : ∀ r u, noLedger u = false → ringAdds r u = flushAdd r u := fun r u hu => if_neg (by simp [hu])
  have after : noLedger (flushAdd (ringAReq nv s) s) = false := (flushAdd_flushStands _ s).noLedger.trans h
  refine ⟨{ ringAReq nv s with flush := true }, { ringBReq nv (flushAdd (ringAReq nv s) s) with flush := true },
    rfl, rfl, rfl, rfl, ?_⟩
  rw [ringsAdded, served _ s h, served _ _ after]
  rfl

/-- With service of the LEDGER and VRES high enough, the flush is under way with a slot of each ring. -/
theorem requestFlush_rings (nv : Nv) {s : Vol} (h : noLedger s = false) (hok : flushOk s = true) :
    RingsFlush (requestFlush nv s) := by
  have trimmed := flushTrims_flushStands nv s
  obtain ⟨a, b, jobA, flushA, jobB, flushB, line⟩ := ringsAdded_line nv (trimmed.noLedger.trans h)
  have vres := ((trimmed.trans (ringsAdded_flushStands nv _)).trans (flushBegun_flushStands _)).vres
  rw [requestFlush_eq]
  generalize ringsAdded nv (flushTrims nv s) = u at line vres ⊢
  refine .stands (startHead_lineStands _) ⟨(flushOk_of_vres vres).trans hok, ?_, ?_, ?_⟩
  · change u.work.store.line.any (·.flush) = true
    simp [line, flushA]
  · change Job.ringA ∈ flushJobs u
    simp [flushJobs, line, flushA, flushB, jobA]
  · change Job.ringB ∈ flushJobs u
    simp [flushJobs, line, flushA, flushB, jobB]

/-! ### The DISPLAY is interrupted, and the warning is logged (R510, R519) -/

/-- Rectangles that have run their frames leave the STORE and the backup domain. -/
theorem displayInterrupt_stands (s : Vol) :
    (displayInterrupt s).work.store = s.work.store ∧ (displayInterrupt s).bak = s.bak := by
  have completed : ∀ (l : List Rect) (u : Vol),
      (l.foldl (fun s r => completeRect r s) u).work.store = u.work.store ∧ (l.foldl (fun s r => completeRect r s) u).bak = u.bak := by
    intro l
    induction l with
    | nil => exact fun u => ⟨rfl, rfl⟩
    | cons r l ih => exact fun u => ih (completeRect r u)
  exact completed _ s

theorem clockCommit_waits (nv : Nv) {s : Vol} (h : commitStands s = false) : clockCommit nv s = s := by
  unfold clockCommit
  split
  · next g stage =>
    rw [commitStands, stage] at h
    exact if_neg (by simpa using h)
  · rfl

/-- A cycle in progress is to be abandoned. -/
def abandons (s : Vol) : Vol := { s with work.cyc.abandon := s.work.cyc.abandon || s.work.cyc.running }

theorem abandons_store (s : Vol) : (abandons s).work.store = s.work.store := rfl
theorem abandons_bak (s : Vol) : (abandons s).bak = s.bak := rfl

theorem warned_eq (nv : Nv) {s : Vol} (h : commitStands s = false) :
    warned nv s = abandons (displayInterrupt (requestFlush nv s)) := by
  unfold warned
  rw [clockCommit_waits nv h, abandons]

/-- The warning as POWER takes it. -/
def warningTaken (vres : BitVec 8) (s : Vol) : Vol :=
  { s with
    bak.power.warning := true
    bak.power.browned := false
    bak.power.vsupOk := false
    work.store.vres := vres }

theorem powerFailWarning_doze (nv : Nv) (vres : BitVec 8) {s : Vol} (hcore : coreRuns s = true)
    (hdoze : s.bak.power.state = .doze) (hwarn : s.bak.power.warning = false) :
    powerFailWarning nv vres s = logG 0x0507 0xFF (warned nv (warningTaken vres s)) := by
  have core : coreRuns (warningTaken vres s) = true := hcore
  have awake : ¬(s.bak.power.state == .off || s.bak.power.state == .keep || s.bak.power.warning) = true := by
    simp [hdoze, hwarn]
  have noSleep : ¬(s.bak.power.state == .sleep) = true := by simp [hdoze]
  unfold powerFailWarning
  dsimp only
  rw [if_neg awake, if_neg noSleep, ← warningTaken, if_pos core]

theorem powerFailWarning_flushes {s : State} (vres : BitVec 8) (hcore : coreRuns s.vol = true)
    (hdoze : s.vol.bak.power.state = .doze) (hwarn : s.vol.bak.power.warning = false) (hvres : 120 ≤ vres.toNat)
    (hcommit : commitStands s.vol = false) :
    ∃ t, exec (.powerFailWarning vres) s = .next t ∧ t.vol.bak.power.warning = true ∧ t.vol.bak.power.vsupOk = false ∧
      t.vol.work.store.vres = vres ∧
      (noLedger s.vol = false → t.vol.work.store.flushing = true ∧
        (t.vol.work.store.line.any fun r => r.flush && r.job == .ringA) = true ∧
        (t.vol.work.store.line.any fun r => r.flush && r.job == .ringB) = true) ∧
      t.nv = s.nv := by
  have taken : exec (.powerFailWarning vres) s = .next (s.up (powerFailWarning s.nv vres s.vol)) := rfl
  have commit : commitStands (warningTaken vres s.vol) = false := hcommit
  rw [powerFailWarning_doze s.nv vres hcore hdoze hwarn, warned_eq s.nv commit] at taken
  have requested := requestFlush_flushStands s.nv (warningTaken vres s.vol)
  have rings : noLedger s.vol = false → RingsFlush (requestFlush s.nv (warningTaken vres s.vol)) := fun ledger =>
    requestFlush_rings s.nv ledger (decide_eq_true hvres)
  generalize requestFlush s.nv (warningTaken vres s.vol) = u at taken requested rings
  obtain ⟨store, bak⟩ := displayInterrupt_stands u
  rw [← abandons_store] at store
  rw [← abandons_bak] at bak
  generalize abandons (displayInterrupt u) = v at taken store bak
  have logged := logEvent_lineStands .general 0x0507 0xFF v
  have power : (logG 0x0507 0xFF v).bak.power = (warningTaken vres s.vol).bak.power := by
    rw [logG_bak, bak, requested.power]
  refine ⟨_, taken, (congrArg (·.warning) power).trans rfl, (congrArg (·.vsupOk) power).trans rfl, ?_, fun ledger => ?_, rfl⟩
  · exact logged.vres.trans ((congrArg (·.vres) store).trans requested.vres)
  · have after := RingsFlush.stands logged (.of_store store (rings ledger))
    exact ⟨after.flushing, any_of_mem_flushJobs after.ringA, any_of_mem_flushJobs after.ringB⟩

end Sys2Proof.Machine
end

section
/-! PROOF of O14. The supply falls from the warning to OFF (R377, R379, R519, R520, R542, R554, R609). -/

namespace Sys2Proof.Machine

/-- Settles O14: the warning requests the flush (`powerFailWarning_flushes`) and clears (`warningClear_clears`); the switch-over stops the
front end (`measureStops_stops`); KEEP and the loss of VBK lose working RAM (`endWork_led`), with a tear of the page in progress at most. -/
theorem theSupplyFallsFromWarningToOff : Obligations.TheSupplyFallsFromWarningToOff := by
  unfold Obligations.TheSupplyFallsFromWarningToOff
  refine fun s => ⟨fun vres core doze warn hvres => ⟨fun _ => ?_, powerFailWarning_flushes vres core doze warn hvres⟩,
    brownOut_requests, fun warn onVres off keep => ⟨fun doze idle closed => ?_, ?_⟩, keepEntry_idle, fun r rest brown line begun inv => ?_,
    vbkLoss_loses, warningClear_clears, fun core => ⟨iovddLow_drives core, fun state => ⟨_, iovddLow_drives core, ?_⟩⟩⟩
  · have taken : exec (.powerFailWarning vres) s = .next (s.up (powerFailWarning s.nv vres s.vol)) := rfl
    rw [taken, powerFailWarning_doze s.nv vres core doze warn, warningTaken]
  · rw [exec_switchOver warn onVres off keep, measureStops_doze (s := { s.vol with bak.power.onVres := true }) doze idle closed]
    rfl
  · obtain ⟨supply, powered, running⟩ := measureStops_stops { s.vol with bak.power.onVres := true }
    exact ⟨_, exec_switchOver warn onVres off keep, supply, powered, running, rfl⟩
  · exact keepEntry_tears brown line begun inv
  · intro i j b k tick h
    have power : (limG 0x0509 0xFF 0xFF { s.vol with bak.power.iovddLow := true }).bak.power =
        { s.vol.bak.power with iovddLow := true } := by rw [limG_bak]
    rw [State.up_vol]
    generalize limG 0x0509 0xFF 0xFF { s.vol with bak.power.iovddLow := true } = v at power ⊢
    have low : ∀ inReset level, ioPin v inReset level = .low := ioPin_iovddLow (by rw [power]; exact state) (by rw [power])
    exact ⟨low _ _, low _ _, low _ _, low _ _, low _ _, low _ _, low _ _, low _ _, low _ _, low _ _⟩

end Sys2Proof.Machine
end

section
/-! SUPPORT and PROOF of O13. A reset holds the device, or waits for the STORE (R537, R538, R540). -/

namespace Sys2Proof.Machine

theorem endLoop_kept (s : Vol) : Kept s (endLoop s) := by
  have booked : Kept s (if retired s then s else bookLoop s.bak.count s) := by
    split
    · exact .refl s
    · exact bookLoop_kept _ s
  have acoustic : Kept s (if s.work.loop.running then logM 0x0114 4 (if retired s then s else bookLoop s.bak.count s) else s) := by
    split
    · exact booked.trans (logM_frame _ _ _).kept
    · exact .refl s
  have port : ∀ u, Kept u (if u.work.pt.lbResult = 1 then logG 0x0609 4 u else u) := fun u => by
    split
    · exact (logG_frame _ _ u).kept
    · exact .refl u
  have line : ∀ u, Kept u (if u.work.line.lbResult = 1 then logG 0x0619 4 u else u) := fun u => by
    split
    · exact (logG_frame _ _ u).kept
    · exact .refl u
  exact (acoustic.trans (port _)).trans (line _)

/-- What the loss of working RAM leaves of the backup domain and of the reset record (R538). -/
theorem endWork_bak (s : Vol) :
    (endWork s).bak.count = s.bak.count ∧ (endWork s).bak.lastWake = s.bak.lastWake ∧ (endWork s).ret.reset = s.ret.reset := by
  have kept := (endLoop_kept { s with bak.power.core := false }).trans (keepWaiting_frame _).kept
  unfold endWork
  dsimp only
  generalize keepWaiting _ = u at kept ⊢
  exact ⟨kept.count, kept.lastWake, kept.reset⟩

theorem endWork_clears (s : Vol) : (endWork s).work.cyc = workClear.cyc ∧ (endWork s).work.obj = workClear.obj := by
  unfold endWork
  dsimp only
  generalize keepWaiting _ = u
  exact ⟨rfl, rfl⟩

/-! ### Held (R538, R539) -/

/-- The device with its pins as they hold it. -/
def heldBy (h : HeldReset) (deferred low : Bool) (s : Vol) : Vol :=
  { s with
    bak.power.state := .held
    bak.power.rstLow := low
    bak.power.testenHold := if h.pins.testen then some h.cause else none
    bak.power.deferred := some { h with late := h.late || deferred } }

theorem takeReset_held (nv : Nv) {h : HeldReset} (d : Bool) {s : Vol}
    (pin : h.pins.testen = true ∨ h.pins.rstLow = true ∨ s.bak.power.rstLow = true) :
    takeReset nv h d s = heldBy h d (s.bak.power.rstLow || h.pins.rstLow) (endWork s) := by
  unfold takeReset heldBy
  have holds : ((s.bak.power.rstLow || h.pins.rstLow) || h.pins.testen) = true := by
    obtain p | p | p := pin <;> simp [p]
  rw [if_pos holds]

/-- Where no pin holds it, a reset is a start (R537). -/
theorem takeReset_starts (nv : Nv) {h : HeldReset} (d : Bool) {s : Vol} (testen : h.pins.testen = false)
    (pin : h.pins.rstLow = false) (low : s.bak.power.rstLow = false) :
    takeReset nv h d s = if h.cause = .lifecycle then keepReplies s (startUp nv h d s) else startUp nv h d s := by
  unfold takeReset
  simp [testen, pin, low]

theorem requestReset_idle (nv : Nv) (h : HeldReset) {s : Vol} (idle : storeRuns s = false) :
    requestReset nv h s = takeReset nv h false s := by
  unfold requestReset
  rw [if_neg (by simp [idle])]

/-- R540: the reset waits for the STORE. -/
theorem requestReset_waits (nv : Nv) (h : HeldReset) {s : Vol} (runs : storeRuns s = true)
    (first : s.bak.power.deferred = none) :
    requestReset nv h s = { s with bak.power.deferred := some { h with late := true } } := by
  unfold requestReset
  rw [if_pos runs, first]
  rfl

theorem exec_pinReset {s : State} (live : resettable s.vol = true) (free : s.vol.bak.power.state ≠ .held)
    (supply : s.vol.bak.power.brownOut = false) :
    exec .pinReset s =
      .next (s.up (requestReset s.nv (resetOf .pin default) { s.vol with bak.power.rstLow := true })) := by
  have run : exec .pinReset s = execPinReset s := rfl
  rw [run, execPinReset]
  simp [live, free, supply]

theorem exec_vcoreBrownout (i : StartIn) {s : State} (live : resettable s.vol = true) (free : s.vol.bak.power.state ≠ .held) :
    exec (.vcoreBrownout i) s = .next (s.up (requestReset s.nv (resetOf .vcore i) s.vol)) := by
  have run : exec (.vcoreBrownout i) s = execVcoreBrownout i s := rfl
  rw [run, execVcoreBrownout]
  simp [live, free]

theorem pinReset_holds {s : State} (live : resettable s.vol = true) (free : s.vol.bak.power.state ≠ .held)
    (supply : s.vol.bak.power.brownOut = false) (idle : storeRuns s.vol = false) :
    ∃ t, exec .pinReset s = .next t ∧ t.vol.bak.power.state = .held ∧ t.vol.bak.power.core = false ∧
      t.vol.bak.power.rstLow = true ∧ t.vol.bak.power.deferred = some (resetOf .pin default) ∧
      t.vol.work.ex = workClear.ex ∧ t.vol.work.cyc = workClear.cyc ∧ t.vol.work.obj = workClear.obj ∧
      t.vol.ret.led = { s.vol.ret.led with interval := t.vol.ret.led.interval, span := t.vol.ret.led.span } ∧
      (s.vol.work.loop.running = false → t.vol.ret.led = s.vol.ret.led) ∧
      t.vol.ret.reset = s.vol.ret.reset ∧ t.vol.bak.cal = s.vol.bak.cal ∧
      t.vol.bak.count = s.vol.bak.count ∧ t.nv = s.nv := by
  have taken := exec_pinReset live free supply
  generalize low : { s.vol with bak.power.rstLow := true } = v at taken
  rw [requestReset_idle _ _ (s := v) (by subst low; exact idle),
    takeReset_held _ _ (.inr (.inr (by subst low; rfl)))] at taken
  obtain ⟨led, same, cal⟩ := endWork_led v
  obtain ⟨core, -, ex⟩ := endWork_stops v
  obtain ⟨cyc, obj⟩ := endWork_clears v
  obtain ⟨count, -, reset⟩ := endWork_bak v
  generalize endWork v = u at *
  subst low
  exact ⟨_, taken, rfl, core, rfl, rfl, ex, cyc, obj, led, same, reset, cal, count, rfl⟩

/-- Settles O13: RST_N low ends what working RAM held (`endWork`); a reset that meets the STORE at work is noted, and no more
(`requestReset_waits`). -/
theorem aResetHoldsTheDeviceOrWaitsForTheStore : Obligations.AResetHoldsTheDeviceOrWaitsForTheStore := by
  unfold Obligations.AResetHoldsTheDeviceOrWaitsForTheStore
  refine fun s live free => ⟨pinReset_holds live free, fun brown => ?_, fun runs first => ⟨fun i => ?_, fun supply => ?_⟩⟩
  · have run : exec .pinReset s = execPinReset s := rfl
    rw [run, execPinReset]
    simp [brown]
  · rw [exec_vcoreBrownout i live free, requestReset_waits _ _ runs first]
    rfl
  · rw [exec_pinReset live free supply, requestReset_waits _ _ (s := { s.vol with bak.power.rstLow := true }) runs first]
    rfl

end Sys2Proof.Machine
end

section
/-! PROOF of O11. What ends in a start, and with which cause (R519, R537 to R539, R541, R542, R611). -/

namespace Sys2Proof.Machine

/-- A reset other than a life-cycle change, with no pin that holds it, is a start without more. -/
theorem takeReset_startUp (nv : Nv) {h : HeldReset} (d : Bool) {s : Vol} (testen : h.pins.testen = false)
    (pin : h.pins.rstLow = false) (low : s.bak.power.rstLow = false) (cause : h.cause ≠ .lifecycle) :
    takeReset nv h d s = startUp nv h d s := by
  rw [takeReset_starts nv d testen pin low, if_neg cause]

section
variable {s : State} {i : StartIn} (testen : i.testen = false) (pin : i.rstLow = false) (low : s.vol.bak.power.rstLow = false)
include testen pin low

theorem exec_vbkRelease_starts (off : s.vol.bak.power.state = .off) (idle : writeRuns s.vol = false) :
    exec (.vbkRelease i) s = .next (s.up (startUp s.nv (resetOf .por i) false (backupStarts { s.vol with work := workClear }))) := by
  have run : exec (.vbkRelease i) s = execVbkRelease i s := rfl
  rw [run, execVbkRelease, if_neg (by simp [off]), if_neg (by simp [idle])]
  dsimp only
  rw [if_neg (by decide), tearHead_idle (s := { s with vol := s.vol }) idle]
  exact congrArg (fun v => Host.Outcome.next (s.up v)) (takeReset_startUp _ _ (h := resetOf .por i) testen pin
    (s := backupStarts { s.vol with work := workClear }) low nofun)

theorem exec_brownoutRelease_starts (keep : s.vol.bak.power.state = .keep) :
    exec (.brownoutRelease i) s = .next (s.up (startUp s.nv (resetOf .bor i) false s.vol)) := by
  have run : exec (.brownoutRelease i) s = execBrownoutRelease i s := rfl
  rw [run, execBrownoutRelease, if_pos (by simp [keep]), takeReset_startUp _ _ (h := resetOf .bor i) testen pin low nofun]

theorem exec_vcoreBrownout_starts (live : resettable s.vol = true) (free : s.vol.bak.power.state ≠ .held)
    (idle : storeRuns s.vol = false) :
    exec (.vcoreBrownout i) s = .next (s.up (startUp s.nv (resetOf .vcore i) false s.vol)) := by
  rw [exec_vcoreBrownout i live free, requestReset_idle _ _ idle,
    takeReset_startUp _ _ (h := resetOf .vcore i) testen pin low nofun]

/-- R543: a block that has left a check without an answer for 128 ticks. -/
theorem exec_watchdog_starts {b : Fin 7} {t : BitVec 32} (check : vget s.vol.bak.power.checks b.val = some t)
    (core : coreRuns s.vol = true) (watch : watched s.vol b.val = true) (late : 128 ≤ (s.vol.bak.count - t).toNat)
    (idle : storeRuns s.vol = false) :
    exec (.watchdog b i) s = .next (s.up (startUp s.nv { resetOf .wdog i with wdBlock := b.val } false s.vol)) := by
  have run : exec (.watchdog b i) s = .next (s.up (watchdogResets s.nv b.val i s.vol)) := rfl
  rw [run, watchdogResets, check]
  dsimp only
  rw [if_pos (by rw [core, watch, decide_eq_true late]; rfl), requestReset_idle _ _ idle,
    takeReset_startUp _ _ (h := { resetOf .wdog i with wdBlock := b.val }) testen pin low nofun]

end

/-- R538: the start that RST_N held. -/
theorem exec_rstNRelease_starts {s : State} {i : StartIn} {h : HeldReset}
    (low : s.vol.bak.power.rstLow = true) (held : s.vol.bak.power.state = .held) (deferred : s.vol.bak.power.deferred = some h)
    (idle : storeRuns s.vol = false) :
    exec (.rstNRelease i) s = .next (s.up (takeReset s.nv { h with pins := { i with rstLow := false } } h.late
      { s.vol with bak.power.rstLow := false })) := by
  have run : exec (.rstNRelease i) s = execRstNRelease i s := rfl
  have ready : (s.vol.bak.power.state == .held && !storeRuns s.vol) = true := by simp [held, idle]
  rw [run, execRstNRelease, if_neg (by simp [low])]
  dsimp only
  rw [deferred]
  dsimp only
  exact if_pos ready

/-- R539: the start that TESTEN held. -/
theorem exec_testenRelease_starts {s : State} {i : StartIn} {h : HeldReset} {c : Cause}
    (hold : s.vol.bak.power.testenHold = some c) (deferred : s.vol.bak.power.deferred = some h) :
    exec (.testenRelease i) s = .next (s.up (takeReset s.nv { h with pins := { i with testen := false } } h.late
      { s.vol with bak.power.testenHold := none })) := by
  have run : exec (.testenRelease i) s = execTestenRelease i s := rfl
  rw [run, execTestenRelease, hold, deferred]

/-- A pin holds the start from KEEP. -/
theorem brownoutRelease_held {s : State} {i : StartIn} (keep : s.vol.bak.power.state = .keep)
    (pin : i.testen = true ∨ i.rstLow = true ∨ s.vol.bak.power.rstLow = true) :
    ∃ t, exec (.brownoutRelease i) s = .next t ∧ t.vol.bak.power.state = .held ∧
      t.vol.bak.power.rstLow = (s.vol.bak.power.rstLow || i.rstLow) ∧
      t.vol.bak.power.testenHold = (if i.testen then some .bor else none) ∧
      t.vol.bak.power.deferred = some (resetOf .bor i) ∧ t.vol.bak.power.core = false ∧ t.nv = s.nv := by
  have run : exec (.brownoutRelease i) s = execBrownoutRelease i s := rfl
  rw [execBrownoutRelease, if_pos (by simp [keep]), takeReset_held _ _ (h := resetOf .bor i) pin] at run
  have core := (endWork_stops s.vol).1
  generalize endWork s.vol = u at run core
  exact ⟨_, run, rfl, rfl, rfl, rfl, core, rfl⟩

/-- Settles O11: each command comes to `takeReset`, which starts the device (`takeReset_starts`) unless a pin holds it
(`takeReset_held`). -/
theorem resetsAndReturnsOfSupplyStartTheDevice : Obligations.ResetsAndReturnsOfSupplyStartTheDevice := by
  unfold Obligations.ResetsAndReturnsOfSupplyStartTheDevice
  refine fun s i => ⟨fun testen pin low => ⟨exec_vbkRelease_starts testen pin low, exec_brownoutRelease_starts testen pin low,
      exec_vcoreBrownout_starts testen pin low, fun b t => exec_watchdog_starts testen pin low⟩,
    fun h testen low held deferred idle => ?_, fun h c pin hold deferred low => ?_, brownoutRelease_held⟩
  · rw [exec_rstNRelease_starts low held deferred idle]
    refine congrArg (fun v => Host.Outcome.next (s.up v)) ?_
    exact takeReset_starts _ _ (h := { h with pins := { i with rstLow := false } }) testen rfl rfl
  · rw [exec_testenRelease_starts hold deferred]
    refine congrArg (fun v => Host.Outcome.next (s.up v)) ?_
    exact takeReset_starts _ _ (h := { h with pins := { i with testen := false } }) rfl pin low

end Sys2Proof.Machine
end

section
/-! PROOF of O17. Failed wakes lead to LIMP and out of it (R520, R532). -/

namespace Sys2Proof.Machine

/-! ### A failed wake -/

/-- A source that is active is raised, and the lowest code of those raised together has the wake (R304). -/
theorem lowestSource_raisedWith {s : Vol} {w : WakeSource} (also : List WakeSource) (active : sourceActive s w = true) :
    ∃ u ∈ raisedWith s (w :: also), lowestSource (raisedWith s (w :: also)) = some u ∧
      (u ≠ .supervisor → ∀ v ∈ raisedWith s (w :: also), v ≠ .supervisor → wakeCode u ≤ wakeCode v) := by
  obtain ⟨u, lowest, mem, le⟩ := lowestSource_spec (List.ne_nil_of_mem (mem_raisedWith also active))
  refine ⟨u, mem, lowest, fun hu v hv hv' => ?_⟩
  rw [← wakeRank_succ hu, ← wakeRank_succ hv']
  exact Nat.succ_le_succ (le v hv)

theorem vcoreFail_retries {s : State} {w : WakeSource} (also : List WakeSource) (low c : Bool) (can : canWake s.vol = true)
    (active : sourceActive s.vol w = true) :
    ∃ u ∈ raisedWith s.vol (w :: also),
      (u ≠ .supervisor → ∀ v ∈ raisedWith s.vol (w :: also), v ≠ .supervisor → wakeCode u ≤ wakeCode v) ∧
      exec (.vcoreFail ⟨w, also, low⟩ c) s =
        .next (s.up (logG 0x0501 1
          { seePins ⟨w, also, low⟩ s.vol with
            bak.power.attempts := 1
            bak.power.failTick := s.vol.bak.count
            bak.power.retrying := some (u, c && s.vol.bak.power.entering) })) := by
  obtain ⟨u, mem, lowest, le⟩ := lowestSource_raisedWith also active
  have seen := seePins_pinsSeen ⟨w, also, low⟩ s.vol
  refine ⟨u, mem, le, ?_⟩
  have run : exec (.vcoreFail ⟨w, also, low⟩ c) s =
      .next (s.up (vcoreFail ⟨w, also, low⟩ c (seePins ⟨w, also, low⟩ s.vol))) := rfl
  rw [run, vcoreFail, if_pos (by simp [seen.canWake, seen.active, can, active])]
  dsimp only
  rw [seen.raisedWith, lowest]
  rfl

/-! ### Retries -/

section
variable {s : State} {w : WakeSource} {c : Bool} (retrying : s.vol.bak.power.retrying = some (w, c))
include retrying

theorem wakeRetry_warned (allowed : warningAllows s.vol w = false) (ok : Bool) : exec (.wakeRetry ok) s = .next s := by
  have run : exec (.wakeRetry ok) s = .next (s.up (wakeRetry s.nv ok s.vol)) := rfl
  rw [run, wakeRetry, retrying]
  dsimp only
  rw [if_pos (by simp [allowed])]
  rfl

/-- A retry is made when its seconds have passed. -/
theorem exec_wakeRetry_due (sleep : s.vol.bak.power.state = .sleep) (allowed : warningAllows s.vol w = true)
    (due : 64 * s.vol.bak.power.attempts ≤ (s.vol.bak.count - s.vol.bak.power.failTick).toNat) (ok : Bool) :
    exec (.wakeRetry ok) s = .next (s.up (
      if ok then wakeFor s.nv w c s.vol
      else
        let u := logG 0x0501 (s.vol.bak.power.attempts + 1)
          { s.vol with bak.power.attempts := s.vol.bak.power.attempts + 1 }
        if s.vol.bak.power.attempts + 1 = 4 then enterLimp u else u)) := by
  have run : exec (.wakeRetry ok) s = .next (s.up (wakeRetry s.nv ok s.vol)) := rfl
  rw [run, wakeRetry, retrying]
  dsimp only
  rw [if_neg (by rw [sleep, allowed, decide_eq_false (by omega)]; decide)]

end

theorem wakeFor_retrying (nv : Nv) (source : WakeSource) (collision : Bool) (s : Vol) :
    (wakeFor nv source collision s).bak.power.retrying = none := by
  have power := wakeUp_power nv (recorded source collision s)
  change (if source == .periodic then periodicDuties nv (wakeUp nv (recorded source collision s)) else _).bak.power.retrying = none
  split
  · exact (congrArg (·.power.retrying) (periodicDuties_bak nv _)).trans (congrArg Power.retrying power)
  · exact congrArg Power.retrying power

theorem enterLimp_power (s : Vol) :
    (enterLimp s).bak.power =
      { s.bak.power with state := .limp, attempts := 0, retrying := none, sealNews := false, limpLast := s.bak.count } := by
  unfold enterLimp
  rw [logM_bak]

/-! ### Attempts in LIMP -/

theorem limpAttempt_warned {s : State} (warned : s.vol.bak.power.warning = true) (trigger : LimpTrigger) (ok : Bool)
    (i : StartIn) : exec (.limpAttempt trigger ok i) s = .next s := by
  have run : exec (.limpAttempt trigger ok i) s = .next (s.up (limpAttempt s.nv trigger ok i s.vol)) := rfl
  rw [run, limpAttempt, if_pos (by simp [warned])]
  rfl

/-- What an attempt leaves of POWER before it is known to succeed (R526, R532). -/
def limpTried (trigger : LimpTrigger) (s : Vol) : Vol :=
  limpPins trigger
    { s with
      bak.power.limpLast := s.bak.count
      bak.power.sealNews := s.bak.power.sealNews && trigger != .sealChange }

theorem limpTried_rstLow (trigger : LimpTrigger) (s : Vol) : (limpTried trigger s).bak.power.rstLow = s.bak.power.rstLow := by
  unfold limpTried limpPins
  split <;> rfl

theorem exec_limpAttempt_due {s : State} {trigger : LimpTrigger} (limp : s.vol.bak.power.state = .limp)
    (due : limpDue trigger s.vol = true) (warned : s.vol.bak.power.warning = false) (ok : Bool) (i : StartIn) :
    exec (.limpAttempt trigger ok i) s = .next (s.up (
      if ok then
        takeReset s.nv (resetOf .limp i) false
          (wakeRecord (limpCodeAt trigger s.vol) false (logM 0x0503 (limpCodeAt trigger s.vol) (limpTried trigger s.vol)))
      else logG 0x0501 0 (limpTried trigger s.vol))) := by
  have run : exec (.limpAttempt trigger ok i) s = .next (s.up (limpAttempt s.nv trigger ok i s.vol)) := rfl
  rw [run, limpAttempt, if_neg (by simp [limp, due, warned])]
  rfl

theorem limpAttempt_starts {s : State} {trigger : LimpTrigger} {i : StartIn} (limp : s.vol.bak.power.state = .limp)
    (due : limpDue trigger s.vol = true) (warned : s.vol.bak.power.warning = false) (testen : i.testen = false)
    (pin : i.rstLow = false) (low : s.vol.bak.power.rstLow = false) :
    exec (.limpAttempt trigger true i) s = .next (s.up (startUp s.nv (resetOf .limp i) false
      (wakeRecord (limpCodeAt trigger s.vol) false
        (logM 0x0503 (limpCodeAt trigger s.vol) (limpTried trigger s.vol))))) := by
  rw [exec_limpAttempt_due limp due warned, if_pos rfl, takeReset_startUp _ _ (h := resetOf .limp i) testen pin ?_ nofun]
  rw [wakeRecord_power, logM_bak, limpTried_rstLow, low]

/-- Settles O17: a failure notes its source, a retry wakes or counts, the fourth failure enters LIMP, and an attempt that succeeds
leaves it with a start. -/
theorem failedWakesLeadToLimpAndOutOfIt : Obligations.FailedWakesLeadToLimpAndOutOfIt := by
  unfold Obligations.FailedWakesLeadToLimpAndOutOfIt
  refine fun s => ⟨fun w also low c => vcoreFail_retries also low c, fun w c retrying sleep due =>
    ⟨wakeRetry_warned retrying, fun allowed => ⟨?_, fun few => ?_, fun spent => ?_⟩⟩,
    fun trigger i limp due => ⟨fun warned ok => limpAttempt_warned warned trigger ok i, fun warned =>
      ⟨limpAttempt_starts limp due warned, ?_⟩⟩⟩
  · have woken := wakeFor_woken s.nv w c s.vol
    have none := wakeFor_retrying s.nv w c s.vol
    exact ⟨_, exec_wakeRetry_due retrying sleep allowed due true, woken.state, woken.core, none, woken.attempts⟩
  · rw [exec_wakeRetry_due retrying sleep allowed due, if_neg (by decide)]
    dsimp only
    rw [if_neg (by omega)]
  · have run := exec_wakeRetry_due retrying sleep allowed due false
    rw [if_neg (by decide)] at run
    dsimp only at run
    rw [if_pos (by omega)] at run
    have power := enterLimp_power (logG 0x0501 (s.vol.bak.power.attempts + 1)
      { s.vol with bak.power.attempts := s.vol.bak.power.attempts + 1 })
    refine ⟨_, run, ?_⟩
    rw [State.up_vol, power, logG_bak]
    exact ⟨rfl, rfl, rfl, rfl⟩
  · exact (exec_limpAttempt_due limp due warned false i).trans rfl

end Sys2Proof.Machine
end

section
/-! SUPPORT of O12. The gap of a restart (R248) stands open through the bookings of LEDGER events and the steps of the LEDGER: only the
booking of an executed cycle ends it. -/

namespace Sys2Proof.Machine

/-! ### The relation -/

/-- The gap of a restart is open as before. -/
structure GapStands (s s' : Vol) : Prop where
  gap : s'.ret.flow.restartGap = s.ret.flow.restartGap

theorem GapStands.refl (s : Vol) : GapStands s s := ⟨rfl⟩

theorem GapStands.trans {a b c : Vol} (h : GapStands a b) (k : GapStands b c) : GapStands a c := ⟨k.gap.trans h.gap⟩

theorem GapStands.after {a b c : Vol} (k : GapStands b c) (h : GapStands a b) : GapStands a c := h.trans k

theorem GapStands.ite {c : Prop} [Decidable c] {s a b : Vol} (ha : GapStands s a) (hb : GapStands s b) :
    GapStands s (if c then a else b) := by
  split
  · exact ha
  · exact hb

theorem LogFrame.gapStands {s s' : Vol} (h : LogFrame s s') : GapStands s s' := ⟨by rw [h.ret_flow]⟩

theorem DrawFrame.gapStands {s s' : Vol} (h : DrawFrame s s') : GapStands s s' := ⟨by rw [h.only]⟩

theorem gapStands_foldl {α : Type} {f : Vol → α → Vol} (h : ∀ s a, GapStands s (f s a)) (l : List α) (s : Vol) :
    GapStands s (l.foldl f s) := by
  induction l generalizing s with
  | nil => exact .refl s
  | cons a l ih => exact (h s a).trans (ih _)

/-- The same for steps that carry further values beside the state. -/
theorem foldl_fst_gapStands {α β : Type} {f : Vol × β → α → Vol × β} (h : ∀ p a, GapStands p.1 (f p a).1) (l : List α)
    (p : Vol × β) : GapStands p.1 (l.foldl f p).1 := by
  induction l generalizing p with
  | nil => exact .refl _
  | cons a l ih => exact (h p a).trans (ih _)

/-! ### Bookings (R217 to R221, R247 to R251) -/

theorem deduct_gapStands (v : Nat) (s : Vol) : GapStands s (deduct v s) := .ite ⟨rfl⟩ (.refl s)

theorem ledgerTakes_gapStands (a b c d : Nat) (s : Vol) : GapStands s (ledgerTakes a b c d s) :=
  .ite (.refl s) (.after (deduct_gapStands _ _) ⟨rfl⟩)

theorem pulseLost_gapStands (o n : Nat) (s : Vol) : GapStands s (pulseLost o n s) := by
  unfold pulseLost
  exact .ite (.refl s) (.after (logLimitedTimes_frame _ _ _ _ _ _).gapStands (.ite ⟨rfl⟩ ⟨rfl⟩))

theorem pulseBook_gapStands (a b : Nat) (f r : Bool) (s : Vol) : GapStands s (pulseBook a b f r s) := by
  unfold pulseBook
  split
  · exact .refl s
  · exact .after (pulseLost_gapStands _ _ _) (.after (pulseLost_gapStands _ _ _) ⟨rfl⟩)

theorem endGap_gapStands (n : Nat) (q : Option Int) (s : Vol) : GapStands s (endGap n q s).1 := by
  have marked : GapStands s (limM 0x0167 0xFF (ceilDiv n 4) { s with ret.led.interval.gapFilled := true }) :=
    .after (limM_frame _ _ _ _).gapStands ⟨rfl⟩
  unfold endGap
  split
  · exact .refl s
  · split
    · split
      · split <;> exact marked.trans ⟨rfl⟩
      · exact (logM_frame _ _ s).gapStands
    · exact (logM_frame _ _ s).gapStands

theorem markUnfilled_gapStands (g : Gap) (s : Vol) : GapStands s (markUnfilled g s) := .ite ⟨rfl⟩ (.refl s)

theorem decideGaps_gapStands (s : Vol) : GapStands s (decideGaps s).1 := by
  unfold decideGaps
  refine .after (foldl_fst_gapStands (fun p g => ?_) _ _) ⟨rfl⟩
  exact .after (endGap_gapStands _ _ _) (markUnfilled_gapStands g p.1)

theorem addGap_gapStands (c : BitVec 32) (n : Nat) (s : Vol) : GapStands s (addGap c n s) := by
  unfold addGap
  exact .ite (.refl s) ⟨rfl⟩

theorem bookFlow_gapStands (m : Nat) (s : Vol) : GapStands s (bookFlow m s).1 := by
  unfold bookFlow
  split
  · exact .refl s
  · split
    · exact .refl s
    · dsimp only
      split <;> split <;> exact ⟨rfl⟩

theorem spanBook_gapStands (a m q : Nat) (s : Vol) : GapStands s (spanBook a m q s) := ⟨rfl⟩

theorem bookTo_gapStands (c : BitVec 32) (s : Vol) : GapStands s (bookTo c s) := by
  unfold bookTo
  dsimp only
  split
  · exact .refl s
  · split
    · exact ⟨rfl⟩
    · refine .after (pulseBook_gapStands _ _ _ _ _) (.after (ledgerTakes_gapStands _ _ _ _ _) ?_)
      refine .trans (.after (addGap_gapStands _ _ _) (.after (spanBook_gapStands _ _ _ _)
        (.after (spanBook_gapStands _ _ _ _) (.after (bookFlow_gapStands _ _) ?_)))) ⟨rfl⟩
      split
      · exact .refl s
      · exact decideGaps_gapStands s

theorem bookLoop_gapStands (c : BitVec 32) (s : Vol) : GapStands s (bookLoop c s) := by
  unfold bookLoop
  dsimp only
  split
  · exact .refl s
  · split <;> exact ⟨rfl⟩

theorem bookEvent_gapStands (c : BitVec 32) (s : Vol) : GapStands s (bookEvent c s) :=
  .ite (.refl s) (.ite (bookLoop_gapStands c s) (.ite (.refl s) (bookTo_gapStands c s)))

/-! ### A quarter-hour and a billing period (R319 to R336) -/

theorem writeRingA_gapStands (nv : Nv) (s : Vol) : GapStands s (writeRingA nv s) :=
  .ite (submitGuarded_frame _ s).gapStands (.refl s)

theorem writeRingB_gapStands (nv : Nv) (s : Vol) : GapStands s (writeRingB nv s) :=
  .ite (submitGuarded_frame _ s).gapStands (.refl s)

theorem writeRings_gapStands (nv : Nv) (s : Vol) : GapStands s (writeRings nv s) :=
  (writeRingA_gapStands nv s).trans (writeRingB_gapStands nv _)

theorem appendProfile_gapStands (r : Nat) (s : Vol) : GapStands s (appendProfile r s) := by
  unfold appendProfile
  dsimp only
  split
  · exact .after (submitGuarded_frame _ _).gapStands (.after (submitGuarded_frame _ _).gapStands ⟨rfl⟩)
  · exact .after (submitGuarded_frame _ _).gapStands ⟨rfl⟩

theorem appendAnchor_gapStands (ticks kind : Nat) (untrusted clockSet : Bool) (s : Vol) :
    GapStands s (appendAnchor ticks kind untrusted clockSet s) := appendProfile_gapStands _ s

theorem takeTariff_gapStands (t : Nat) (s : Vol) : GapStands s (takeTariff t s) := by
  unfold takeTariff
  exact .ite (.after (logG_frame _ _ _).gapStands ⟨rfl⟩) ⟨rfl⟩

theorem closeGaps_gapStands (s : Vol) : GapStands s (closeGaps s) := by
  unfold closeGaps
  refine .trans (.after (gapStands_foldl (fun s g => markUnfilled_gapStands g s) _ _) ?_) ⟨rfl⟩
  split
  · exact .refl s
  · split <;> exact markUnfilled_gapStands _ s

theorem closeInterval_gapStands (nv : Nv) (s : Vol) : GapStands s (closeInterval nv s) := by
  have closed := (closeGaps_gapStands s).trans
    (appendProfile_gapStands (intervalRecord (closeGaps s).ret.led.interval (prevTariffOf (closeGaps s))) _)
  unfold closeInterval
  dsimp only
  generalize appendProfile _ (closeGaps s) = u at closed ⊢
  split
  · exact .refl s
  · split
    · exact .after (writeRec_frame nv _ _ _).gapStands (closed.trans ⟨rfl⟩)
    · exact closed.trans ⟨rfl⟩

theorem closeSpan_gapStands (now : Nat) (s : Vol) : GapStands s (closeSpan now s) := by
  unfold closeSpan
  exact .ite (.refl s) ⟨rfl⟩

theorem applyTokens_gapStands (nv : Nv) (s : Vol) : GapStands s (applyTokens nv s) := by
  have applied : GapStands s ((s.ret.pre.tokens.filter (tokenDue s)).foldl (fun s t => applyToken t s) (bookEvent s.bak.count s)) :=
    (bookEvent_gapStands _ s).trans (gapStands_foldl (f := fun s t => applyToken t s) (fun s t => ⟨rfl⟩) _ _)
  unfold applyTokens
  exact .ite (.refl s) (.after (writeRingB_gapStands nv _) (applied.trans ⟨rfl⟩))

theorem quarterTick_gapStands (nv : Nv) (t : Nat) (c : BitVec 32) (s : Vol) : GapStands s (quarterTick nv t c s) := by
  have closed : GapStands s (closeInterval nv (closeSpan t (applyTokens nv (bookEvent c s)))) :=
    .after (closeInterval_gapStands nv _) (.after (closeSpan_gapStands t _)
      (.after (applyTokens_gapStands nv _) (bookEvent_gapStands c s)))
  have taken : ∀ u, GapStands u (hwmTakes t u) := fun u => .ite ⟨rfl⟩ (.refl u)
  unfold quarterTick
  dsimp only
  generalize closeInterval nv _ = u at closed ⊢
  have anchored := closed.trans (.ite (c := t / 64 % 86400 = 0) (appendAnchor_gapStands t 1 u.bak.osf false u) (.refl u))
  exact .after (writeRings_gapStands nv _) (.after (takeTariff_gapStands t _) (.after (taken _) (anchored.trans ⟨rfl⟩)))

theorem billingClose_gapStands (nv : Nv) (t b l : Nat) (x y z : Bool) (s : Vol) :
    GapStands s (billingClose nv t b l x y z s) := by
  unfold billingClose
  refine .after (logM_frame _ _ _).gapStands (.after (writeRingB_gapStands nv _) (.after (writeRec_frame nv _ _ _).gapStands ?_))
  exact .after (submitAll_frame _ _).gapStands ⟨rfl⟩

theorem billingTest_gapStands (nv : Nv) (before t : Nat) (x y z : Bool) (s : Vol) :
    GapStands s (billingTest nv before t x y z s) := by
  have suppressed : GapStands s (logLimitedTimes .metrology 0x0305 0xFF 0xFF (boundsPassed s before t) s) :=
    (logLimitedTimes_frame _ _ _ _ _ _).gapStands
  have advanced : ∀ u, GapStands u (advanceHwm t u) := fun u =>
    .ite (.ite (.after (logM_frame _ _ _).gapStands ⟨rfl⟩) ⟨rfl⟩) (.refl u)
  unfold billingTest
  dsimp only
  generalize logLimitedTimes .metrology 0x0305 0xFF 0xFF (boundsPassed s before t) s = u at suppressed ⊢
  have restored : GapStands u (if u.ret.led.setBack then logM 0x0304 0xFF { u with ret.led.setBack := false } else u) :=
    .ite (.after (logM_frame _ _ _).gapStands ⟨rfl⟩) (.refl u)
  refine .after (advanced _) (suppressed.trans (.ite ?_ (.refl u)))
  exact .after (billingClose_gapStands nv _ _ _ _ _ _ _) restored

theorem billingStep_gapStands (nv : Nv) (before t : Nat) (x y z : Bool) (s : Vol) :
    GapStands s (billingStep nv before t x y z s) := by
  have seen : GapStands s { s with ret.led.seen := t } := ⟨rfl⟩
  unfold billingStep
  dsimp only
  split
  · exact seen
  · exact seen.trans (billingTest_gapStands nv _ _ _ _ _ _)

/-! ### Held ticks, and the tick after an outage (R334, R335) -/

theorem heldSteps_gapStands (nv : Nv) (t : HeldTick) (s : Vol) : GapStands s (heldSteps nv t s) := by
  have untrusted : ∀ u, GapStands u (if t.osf then ledgerOsf u else u) := fun u => .ite (.ite ⟨rfl⟩ (.refl u)) (.refl u)
  have booked := (bookEvent_gapStands t.count s).trans (untrusted _)
  unfold heldSteps
  dsimp only
  generalize (if t.osf then ledgerOsf (bookEvent t.count s) else bookEvent t.count s) = u at booked ⊢
  exact .after (billingStep_gapStands nv _ _ _ _ _ _) (booked.trans (.ite (quarterTick_gapStands nv _ _ u) (.refl u)))

theorem processHeld_gapStands (nv : Nv) (s : Vol) : GapStands s (processHeld nv s) := by
  have tick : ∀ u t, GapStands u (heldTick nv t u) := fun u t => ⟨(heldSteps_gapStands nv t { u with bak := atTick t u.bak }).gap⟩
  unfold processHeld
  exact .ite ⟨rfl⟩ (.after (gapStands_foldl tick _ _) ⟨rfl⟩)

theorem outageTick_gapStands (nv : Nv) (lost : Bool) (s : Vol) : GapStands s (outageTick nv lost s) := by
  unfold outageTick
  refine .ite (.refl s) ((applyTokens_gapStands nv s).trans ?_)
  generalize applyTokens nv s = u
  dsimp only
  have spanned := closeSpan_gapStands s.bak.cal.ticks u
  split
  · exact .after (billingStep_gapStands nv _ _ _ _ _ _) (spanned.trans ⟨rfl⟩)
  · refine .after (writeRings_gapStands nv _) (.after (takeTariff_gapStands _ _) (.after (billingStep_gapStands nv _ _ _ _ _ _) ?_))
    refine .trans (.after (appendAnchor_gapStands _ _ _ _ _) (.after (closeInterval_gapStands nv _) ?_)) ⟨rfl⟩
    split
    · exact spanned.trans ⟨rfl⟩
    · exact .refl u

/-! ### A change of the life cycle (R547, R551, R553) -/

theorem modChange_gapStands (g : Change → Change) (s : Vol) : GapStands s (modChange g s) := ⟨rfl⟩

theorem stagePages_gapStands (l : List Req) (s : Vol) : GapStands s (stagePages l s) :=
  (modChange_gapStands _ s).trans (submitAll_frame _ _).gapStands

theorem markLast_gapStands (s : Vol) : GapStands s (markLast s) := by
  unfold markLast
  exact .ite ⟨rfl⟩ ⟨rfl⟩

theorem changeLog_gapStands (code data : Nat) (s : Vol) : GapStands s (changeLog code data s) :=
  (logM_frame code data s).gapStands.trans (markLast_gapStands _)

theorem newState_gapStands (c : Change) (s : Vol) : GapStands s (newState c s) := by
  unfold newState
  exact .ite (.refl s) ⟨rfl⟩

theorem beginStage_gapStands (nv : Nv) (s : Vol) : GapStands s (beginStage nv s) := by
  unfold beginStage
  split
  · exact .refl s
  · next c _ =>
    split
    · exact stagePages_gapStands _ s
    · exact .after (stagePages_gapStands _ _) ⟨rfl⟩
    · exact stagePages_gapStands _ s
    · exact .after (changeLog_gapStands _ _ _) (.after (stagePages_gapStands _ _) ⟨rfl⟩)
    · have cleared : GapStands s (if c.clear then clearRegisters s else s) := .ite ⟨rfl⟩ (.refl s)
      exact .after (stagePages_gapStands _ _) (.after (newState_gapStands c _) cleared)
    · exact .ite (.after (stagePages_gapStands _ _) ⟨rfl⟩) (.after (stagePages_gapStands _ _) ⟨rfl⟩)
    · exact stagePages_gapStands _ s
    · exact .refl s

theorem toStage_gapStands (nv : Nv) (x : ChangeStage) (s : Vol) : GapStands s (toStage nv x s) :=
  (modChange_gapStands _ s).trans (beginStage_gapStands nv _)

theorem startChange_gapStands (nv : Nv) (c : Change) (s : Vol) : GapStands s (startChange nv c s) :=
  .after (toStage_gapStands nv _ _) ((bookEvent_gapStands s.bak.count s).trans ⟨rfl⟩)

theorem sealOpens_gapStands (nv : Nv) (i : StartIn) (s : Vol) : GapStands s (sealOpens nv i s) := by
  unfold sealOpens
  refine .ite (.refl s) ?_
  split
  · exact startChange_gapStands nv _ s
  · exact startChange_gapStands nv _ s
  · exact .refl s

theorem resumeChange_gapStands (nv : Nv) (s : Vol) : GapStands s (resumeChange nv s) := by
  unfold resumeChange
  split
  · exact .after (toStage_gapStands nv _ _) (.after (logM_frame _ _ _).gapStands (.after (logM_frame _ _ _).gapStands ⟨rfl⟩))
  · exact .refl s

theorem adoptChange_gapStands (nv : Nv) (i : StartIn) (s : Vol) : GapStands s (adoptChange nv i s) := by
  unfold adoptChange
  split
  · exact .ite (.refl s) ⟨rfl⟩
  · exact .refl s

/-! ### The panel (R509) -/

theorem redraws_gapStands (l : List Rect) (s : Vol) : GapStands s (l.foldl (fun s r => redraw r s) s) :=
  gapStands_foldl (fun s r => (redraw_drawFrame r s).gapStands) l s

theorem displayRecover_gapStands (nv : Nv) (lost : Bool) (s : Vol) : GapStands s (displayRecover nv lost s) := by
  unfold displayRecover
  refine .ite (.refl s) (.after (fieldCheck_drawFrame nv _).gapStands ?_)
  dsimp only
  split
  · refine .after (logG_frame _ _ _).gapStands (.after (fullDraw_drawFrame _).gapStands ?_)
    exact .after (request_drawFrame _ _).gapStands ⟨rfl⟩
  · split
    · exact .after (redraws_gapStands _ _) ⟨rfl⟩
    · exact .after (logG_frame _ _ _).gapStands (.after (redraws_gapStands _ _) ⟨rfl⟩)

end Sys2Proof.Machine
end

section
/-! PROOF of O12. A start leaves DOZE and names its cause (R529, R541, R545). -/

namespace Sys2Proof.Machine

/-! ### What the steps of a start leave -/

/-- POWER, the reset record, the last-wake record, the codes taken and the gap of the restart stand. -/
structure StartStands (s s' : Vol) : Prop where
  power : s'.bak.power = s.bak.power
  reset : s'.ret.reset = s.ret.reset
  lastWake : s'.bak.lastWake = s.bak.lastWake
  th : s'.work.th = s.work.th
  gap : s'.ret.flow.restartGap = s.ret.flow.restartGap

theorem StartStands.refl (s : Vol) : StartStands s s := ⟨rfl, rfl, rfl, rfl, rfl⟩

theorem StartStands.trans {a b c : Vol} (h : StartStands a b) (k : StartStands b c) : StartStands a c :=
  ⟨k.power.trans h.power, k.reset.trans h.reset, k.lastWake.trans h.lastWake, k.th.trans h.th, k.gap.trans h.gap⟩

theorem StartStands.after {a b c : Vol} (k : StartStands b c) (h : StartStands a b) : StartStands a c := h.trans k

theorem StartStands.ite {c : Prop} [Decidable c] {s a b : Vol} (ha : StartStands s a) (hb : StartStands s b) :
    StartStands s (if c then a else b) := by
  split
  · exact ha
  · exact hb

theorem Kept.startStands {s s' : Vol} (h : Kept s s') (k : GapStands s s') : StartStands s s' :=
  ⟨h.power, h.reset, h.lastWake, h.th, k.gap⟩

theorem LogFrame.startStands {s s' : Vol} (h : LogFrame s s') : StartStands s s' := h.kept.startStands h.gapStands

theorem startStands_foldl {α : Type} {f : Vol → α → Vol} (h : ∀ s a, StartStands s (f s a)) (l : List α) (s : Vol) :
    StartStands s (l.foldl f s) := by
  induction l generalizing s with
  | nil => exact .refl s
  | cons a l ih => exact (h s a).trans (ih _)

/-! ### The checks of the records (R380, R382, R395, R555) -/

theorem recordLost_frame (region : Nat) (s : Vol) : LogFrame s (recordLost region s) :=
  LogFrame.trans (b := { s with work.store.recordLost := true }) ⟨rfl⟩ (logEvent_frame _ _ _ _)

theorem noteCopy_frame (nv : Nv) (base count : Nat) (s : Vol) : LogFrame s (noteCopy nv base count s) := by
  unfold noteCopy
  dsimp only
  split
  · exact ⟨rfl⟩
  · exact .refl s

theorem readNotes_frame (nv : Nv) (base count : Nat) (s : Vol) :
    LogFrame s ((List.range count).foldl (fun s i => readNote nv (base + i) s) s) :=
  logFrame_foldl (fun s i => (readNote_pageRead nv (base + i) s).frame) _ s

theorem checkRecord_frame (nv : Nv) (base count : Nat) (s : Vol) : LogFrame s (checkRecord nv base count s) := by
  have repaired := (((readNotes_frame nv base (2 * count) s).trans (noteCopy_frame nv base count _)).trans
    (noteCopy_frame nv (base + count) count _)).trans (repairCopy_pageRead nv base count _).frame
  unfold checkRecord
  dsimp only
  split
  · exact repaired.trans (recordLost_frame _ _)
  · exact repaired

theorem checkRing_frame (nv : Nv) (base count : Nat) (s : Vol) : LogFrame s (checkRing nv base count s) := by
  have read := readNotes_frame nv base count s
  unfold checkRing
  dsimp only
  split
  · exact read.trans (recordLost_frame _ _)
  · exact read

theorem checkStore_frame (nv : Nv) (s : Vol) : LogFrame s (checkStore nv s) := by
  have trim : LogFrame s (checkTrim nv s) := by
    unfold checkTrim
    split
    · exact .refl s
    · exact logM_frame _ _ s
  have snapshots : ∀ u, LogFrame u (checkSnapshots nv u) := fun u =>
    logFrame_foldl (fun s i => checkRecord_frame nv (192 + 6 * i) 3 s) _ u
  exact ((((trim.trans (checkRecord_frame nv _ _ _)).trans (checkRecord_frame nv _ _ _)).trans
    (checkRecord_frame nv _ _ _)).trans (snapshots _)).trans (checkRing_frame nv _ _ _)

theorem loadState_startStands (nv : Nv) (s : Vol) : StartStands s (loadState nv s) := by
  unfold loadState
  split
  · exact .after (checkRecord_frame nv _ _ _).startStands ⟨rfl, rfl, rfl, rfl, rfl⟩
  · exact .refl s
  · refine .after (logM_frame _ _ _).startStands (.after (writeRec_frame nv _ _ _).startStands ?_)
    exact .after (checkRecord_frame nv _ _ _).startStands ⟨rfl, rfl, rfl, rfl, rfl⟩

theorem loadSealed_startStands (nv : Nv) (s : Vol) : StartStands s (loadSealed nv s) := by
  unfold loadSealed
  split
  · exact ⟨rfl, rfl, rfl, rfl, rfl⟩
  · exact .refl s

/-! ### What a start loads -/

theorem startPlan_startStands (s : Vol) : StartStands s (startPlan s) := by
  unfold startPlan
  exact .ite ⟨rfl, rfl, rfl, rfl, rfl⟩ ⟨rfl, rfl, rfl, rfl, rfl⟩

theorem adoptChange_startStands (nv : Nv) (i : StartIn) (s : Vol) : StartStands s (adoptChange nv i s) :=
  (adoptChange_kept nv i s).startStands (adoptChange_gapStands nv i s)

theorem loadMetro_startStands (nv : Nv) (cold : Bool) (s : Vol) : StartStands s (loadMetro nv cold s) := by
  unfold loadMetro
  split
  · exact ⟨rfl, rfl, rfl, rfl, rfl⟩
  · exact ⟨rfl, rfl, rfl, rfl, rfl⟩

theorem checkCalib_startStands (s : Vol) : StartStands s (checkCalib s) := by
  have entry : ∀ ident field kind u, StartStands u (resetClamp ident field kind u) := fun ident field kind u => by
    unfold resetClamp
    split
    · exact .ite ⟨rfl, rfl, rfl, rfl, rfl⟩ ⟨rfl, rfl, rfl, rfl, rfl⟩
    · exact ⟨rfl, rfl, rfl, rfl, rfl⟩
  unfold checkCalib
  dsimp only
  split
  · exact ⟨rfl, rfl, rfl, rfl, rfl⟩
  · exact .after (startStands_foldl (fun u p => entry _ _ _ u) _ _) ⟨rfl, rfl, rfl, rfl, rfl⟩

theorem loadSettings_startStands (nv : Nv) (cold : Bool) (s : Vol) : StartStands s (loadSettings nv cold s) := by
  unfold loadSettings
  split
  · exact ⟨rfl, rfl, rfl, rfl, rfl⟩
  · exact ⟨rfl, rfl, rfl, rfl, rfl⟩

theorem loadKeys_startStands (nv : Nv) (s : Vol) : StartStands s (loadKeys nv s) := ⟨rfl, rfl, rfl, rfl, rfl⟩

/-- What a start counts as it reads the display data. -/
theorem displayReads_frame (nv : Nv) (pages : List Nat) (s : Vol) :
    LogFrame s (noteRead nv 4817 (noteRead nv 4816 (pages.foldl (fun s i => noteRead nv (4352 + i) s) s))) :=
  (logFrame_foldl (fun u i => (noteRead_pageRead nv (4352 + i) u).frame) pages s).trans
    ((noteRead_pageRead nv 4816 _).frame.trans (noteRead_pageRead nv 4817 _).frame)

theorem loadDisplay_reads (nv : Nv) {s : Vol} (h : (panel s).isNone = false) :
    ∃ u d, LogFrame s u ∧ loadDisplay nv s = { u with work.disp := d } :=
  ⟨_, _, displayReads_frame nv (List.range 464) s, if_neg (Bool.eq_false_iff.mp h)⟩

theorem loadDisplay_startStands (nv : Nv) (s : Vol) : StartStands s (loadDisplay nv s) := by
  cases h : (panel s).isNone
  · obtain ⟨u, d, read, eq⟩ := loadDisplay_reads nv h
    rw [eq]
    exact read.startStands.trans ⟨rfl, rfl, rfl, rfl, rfl⟩
  · unfold loadDisplay
    rw [if_pos h]
    exact .refl s

/-! ### What a cold start restores (R542) -/

theorem noteScan_frame (nv : Nv) (base n : Nat) (s : Vol) : LogFrame s (noteScan nv base n s) := by
  have invalid : ∀ p u, LogFrame u (noteInvalid nv p u) := fun p u => by
    unfold noteInvalid
    split
    · exact .refl u
    · exact ⟨rfl⟩
  have read := logFrame_foldl (fun (u : Vol) (p : Nat × PageCond) => (noteRead_pageRead nv p.1 u).frame)
    (nv.ecc.filter fun p => decide (base ≤ p.1 ∧ p.1 < base + n)) s
  unfold noteScan
  dsimp only
  split
  · exact read.trans (logFrame_foldl (fun u i => invalid (base + i) u) _ _)
  · exact read

theorem restoreRings_startStands (nv : Nv) (s : Vol) : StartStands s (restoreRingB nv (restoreRingA nv s)) := by
  have ringA : StartStands s (restoreRingA nv s) := by
    unfold restoreRingA
    split
    · exact .refl s
    · exact ⟨rfl, rfl, rfl, rfl, rfl⟩
  refine ringA.trans ?_
  unfold restoreRingB
  split
  · exact .refl _
  · exact ⟨rfl, rfl, rfl, rfl, rfl⟩

theorem restoreProfile_startStands (nv : Nv) (s : Vol) : StartStands s (restoreProfile nv s) := by
  have put : ∀ (next : Nat) (page : List (BitVec 64)), StartStands s { s with
      ret.led.nextSeq := BitVec.ofNat 32 next
      ret.led.kept := min 18432 next
      ret.led.page := page } := fun _ _ => ⟨rfl, rfl, rfl, rfl, rfl⟩
  have shown : ∀ {u : Vol} (x : BitVec 4), StartStands s u → StartStands s { u with ret.led.prevTariff := x } :=
    fun _ h => h.trans ⟨rfl, rfl, rfl, rfl, rfl⟩
  unfold restoreProfile
  generalize newestProfile nv s ((List.range 3072).map (1024 + ·)) = area
  generalize newestProfile nv s ((List.range 8).map (112 + ·)) = tail
  dsimp only
  apply shown
  obtain _ | ⟨f, c⟩ := tail
  · exact put _ _
  · exact .ite (.ite (.ite (put _ _) (.after (submitGuarded_frame _ _).startStands (put _ _))) (put _ _)) (put _ _)

theorem restoreTokens_startStands (nv : Nv) (s : Vol) : StartStands s (restoreTokens nv s) := by
  have numbered : ∀ q, StartStands s { s with ret.pre.logSeq := q } := fun _ => ⟨rfl, rfl, rfl, rfl, rfl⟩
  unfold restoreTokens
  dsimp only
  generalize BitVec.ofNat 32 (Option.elim _ _ _) = q
  refine .after (startStands_foldl ?_ _ _) (.after (startStands_foldl ?_ _ _) (numbered _))
  · exact fun u t => ⟨rfl, rfl, rfl, rfl, rfl⟩
  · exact fun u t => ⟨rfl, rfl, rfl, rfl, rfl⟩

theorem restoreCounts_startStands (nv : Nv) (s : Vol) : StartStands s (restoreCounts nv s) := by
  unfold restoreCounts
  split
  · exact .refl s
  · exact .after (startStands_foldl (fun u n => .ite (logG_frame _ _ u).startStands (.refl u)) _ _) ⟨rfl, rfl, rfl, rfl, rfl⟩

theorem restoreAll_startStands (nv : Nv) (s : Vol) : StartStands s (restoreAll nv s) := by
  have read : LogFrame s (checkRing nv 4228 8 (checkRing nv 160 32 (checkRing nv 128 32 (noteLogs nv s)))) :=
    ((((((((noteScan_frame nv _ _ s).trans (noteScan_frame nv _ _ _)).trans (noteScan_frame nv _ _ _)).trans
      (noteScan_frame nv _ _ _)).trans (noteScan_frame nv _ _ _))).trans (checkRing_frame nv _ _ _)).trans
      (checkRing_frame nv _ _ _)).trans (checkRing_frame nv _ _ _)
  unfold restoreAll
  dsimp only
  generalize checkRing nv 4228 8 _ = u at read ⊢
  refine .after (restoreCounts_startStands nv _) (.after (restoreTokens_startStands nv _)
    (.trans (.after (restoreProfile_startStands nv _) (.after (restoreRings_startStands nv _) (read.startStands.trans ?_)))
      ⟨rfl, rfl, rfl, rfl, rfl⟩))
  split
  · exact ⟨rfl, rfl, rfl, rfl, rfl⟩
  · exact .refl u

/-! ### The start -/

/-- What step 2 of a start leaves (R541). -/
theorem startCore_facts (s : Vol) :
    let t := startCore s
    t.bak.power.state = .doze ∧ t.bak.power.core = true ∧ t.bak.power.full = true ∧ t.bak.power.src = .rc ∧
      t.bak.power.hfxo = false ∧ t.bak.power.pll = false ∧ t.bak.power.deferred = none ∧
      t.ret.flow.restartGap = true ∧ t.bak.lastWake = s.bak.lastWake := by
  have lastWake := (endWork_bak s).2.1
  have ended : (endWork s).bak.power.src = .rc ∧ (endWork s).bak.power.hfxo = false ∧ (endWork s).bak.power.pll = false ∧
      (endWork s).ret.flow.restartGap = true := by
    unfold endWork
    dsimp only
    generalize keepWaiting _ = u
    exact ⟨rfl, rfl, rfl, rfl⟩
  unfold startCore
  dsimp only
  generalize endWork s = u at lastWake ended ⊢
  obtain ⟨src, hfxo, pll, gap⟩ := ended
  exact ⟨rfl, rfl, rfl, src, hfxo, pll, rfl, gap, lastWake⟩

/-- The thatch is read: of what a start keeps, only the codes taken change. -/
theorem startThatch_leaves (nv : Nv) (i : StartIn) (s : Vol) :
    ∃ th, StartStands { s with work.th := th } (startThatch nv i s) := by
  have logged : ∀ (l : List Nat) (u : Vol), StartStands u (l.foldl (fun u f => logM 0x0802 f u) u) := fun l u =>
    startStands_foldl (fun u f => (logM_frame 0x0802 f u).startStands) l u
  unfold startThatch
  dsimp only
  generalize readThatch _ _ _ _ = r
  refine ⟨r.1, (logged r.2.1 _).trans ?_⟩
  exact .ite (logG_frame _ _ _).startStands (.refl _)

theorem startLogs_frame (h : HeldReset) (deferred : Bool) (s : Vol) : LogFrame s (startLogs h deferred s) := by
  have ite : ∀ {p : Prop} [Decidable p] {a b : Vol}, LogFrame s a → LogFrame s b → LogFrame s (if p then a else b) :=
    fun {p _ a b} ha hb => by
      split
      · exact ha
      · exact hb
  have general : ∀ {u : Vol} (c d : Nat), LogFrame s u → LogFrame s (logG c d u) := fun c d k => k.trans (logG_frame c d _)
  have metrology : ∀ {u : Vol} (c d : Nat), LogFrame s u → LogFrame s (logM c d u) := fun c d k => k.trans (logM_frame c d _)
  have limp : LogFrame s (writeLimp s) :=
    LogFrame.trans (b := { s with ret.logs.limp := [] }) ⟨rfl⟩
      (logFrame_foldl (f := fun u (p : LogId × BitVec 128) => writeEntry p.1 p.2.toNat u)
        (fun u p => writeEntry_frame p.1 p.2.toNat u) _ _)
  have late := ite (p := deferred = true) (general 0x0523 (min h.defer 255) limp) limp
  have dog := ite (p := (h.cause == .wdog) = true) (late.trans (limM_frame 0x0522 h.wdBlock h.wdBlock _)) late
  unfold startLogs
  dsimp only
  generalize (if (h.cause == .wdog) = true then _ else _) = u at dog ⊢
  have named := ite (p := (h.cause == .por) = true) (metrology 0x0201 u.bak.osfCause.toNat (metrology 0x0520 1 dog))
    (general 0x0521 (causeCode h.cause) dog)
  exact ite (metrology _ _ named) named

theorem startSeal_startStands (i : StartIn) (s : Vol) : StartStands s (startSeal i s) := by
  have read : StartStands s { s with bak.sealOpen := i.sealOpen, bak.sealCand := i.sealOpen, bak.sealRun := 0 } :=
    ⟨rfl, rfl, rfl, rfl, rfl⟩
  unfold startSeal
  refine .ite read (read.trans ?_)
  unfold logSeal
  exact .ite (logM_frame _ _ _).startStands (logM_frame _ _ _).startStands

theorem keepPrice_startStands (cold : Bool) (s : Vol) : StartStands s (keepPrice cold s) := by
  unfold keepPrice
  exact .ite (.refl s) ⟨rfl, rfl, rfl, rfl, rfl⟩

theorem startSettings_startStands (s : Vol) : StartStands s (startSettings s) := ⟨rfl, rfl, rfl, rfl, rfl⟩

theorem showPaths_startStands (s : Vol) : StartStands s (showPaths s) := by
  unfold showPaths
  exact ⟨rfl, rfl, rfl, rfl, rfl⟩

/-- Steps 3 and 4 up to the last-wake record (R541). -/
def startTaken (nv : Nv) (h : HeldReset) (s : Vol) : Vol :=
  startPlan (startThatch nv h.pins (loadSealed nv (loadState nv (if h.cause == .por then restoreLogs nv s else s))))

/-- What step 4 loads and restores after it. -/
def startLoaded (nv : Nv) (h : HeldReset) (s : Vol) : Vol :=
  let cold := h.cause == .por
  let s := checkCalib (loadMetro nv cold (adoptChange nv h.pins (checkStore nv s)))
  let s := loadDisplay nv (loadKeys nv (loadSettings nv cold s))
  showPaths (startSettings (keepPrice cold (if cold then restoreAll nv s else s)))

/-- What follows the reset record. -/
def startFollows (nv : Nv) (h : HeldReset) (deferred : Bool) (s : Vol) : Vol :=
  let cold := h.cause == .por
  let s := startSeal h.pins (flushShort (startLogs h deferred s))
  let s := outageTick nv cold (processHeld nv s)
  let s := displayRecover nv cold (if cold || isSecondary s then setPwron s else s)
  sealOpens nv h.pins (resumeChange nv (drainPending nv s))

theorem startUp_eq (nv : Nv) (h : HeldReset) (deferred : Bool) (s : Vol) :
    startUp nv h deferred s =
      startFollows nv h deferred (startRecord h (startLoaded nv h (keepRecord h (startTaken nv h (startCore s))))) := rfl

theorem startTaken_leaves (nv : Nv) (h : HeldReset) (s : Vol) :
    ∃ th, StartStands { s with work.th := th } (startTaken nv h s) := by
  have sealed : StartStands s (loadSealed nv (loadState nv (if h.cause == .por then restoreLogs nv s else s))) := by
    refine .after (loadSealed_startStands nv _) (.after (loadState_startStands nv _) ?_)
    exact .ite ⟨rfl, rfl, rfl, rfl, rfl⟩ (.refl _)
  unfold startTaken
  dsimp only
  generalize loadSealed nv _ = u at sealed ⊢
  obtain ⟨th, read⟩ := startThatch_leaves nv h.pins u
  have taken := read.trans (startPlan_startStands _)
  generalize startPlan _ = v at taken ⊢
  exact ⟨th, taken.power.trans sealed.power, taken.reset.trans sealed.reset, taken.lastWake.trans sealed.lastWake,
    taken.th, taken.gap.trans sealed.gap⟩

theorem startLoaded_startStands (nv : Nv) (h : HeldReset) (s : Vol) : StartStands s (startLoaded nv h s) := by
  have metro := (((checkStore_frame nv s).startStands.trans (adoptChange_startStands nv h.pins _)).trans
    (loadMetro_startStands nv (h.cause == .por) _)).trans (checkCalib_startStands _)
  have loaded := ((metro.trans (loadSettings_startStands nv (h.cause == .por) _)).trans (loadKeys_startStands nv _)).trans
    (loadDisplay_startStands nv _)
  unfold startLoaded
  dsimp only
  generalize loadDisplay nv _ = u at loaded ⊢
  have kept := (loaded.trans (.ite (c := (h.cause == .por) = true) (restoreAll_startStands nv u) (.refl u))).trans
    (keepPrice_startStands (h.cause == .por) _)
  exact kept.trans ((startSettings_startStands _).trans (showPaths_startStands _))

theorem startFollows_startStands (nv : Nv) (h : HeldReset) (deferred : Bool) (s : Vol) :
    StartStands s (startFollows nv h deferred s) := by
  have logged := ((startLogs_frame h deferred s).trans (flushShort_frame _)).startStands.trans (startSeal_startStands h.pins _)
  have held := logged.trans ((processHeld_kept nv _).startStands (processHeld_gapStands nv _))
  have ticked := held.trans ((outageTick_kept nv (h.cause == .por) _).startStands (outageTick_gapStands nv _ _))
  unfold startFollows
  dsimp only
  generalize outageTick nv _ _ = u at ticked ⊢
  have driven : StartStands s (if (h.cause == .por || isSecondary u) = true then setPwron u else u) :=
    ticked.trans (.ite ⟨rfl, rfl, rfl, rfl, rfl⟩ (.refl u))
  generalize (if (h.cause == .por || isSecondary u) = true then setPwron u else u) = v at driven ⊢
  have shown := driven.trans ((displayRecover_kept nv (h.cause == .por) v).startStands (displayRecover_gapStands nv _ v))
  have drained := shown.trans (drainPending_frame nv _).startStands
  have resumed := drained.trans ((resumeChange_kept nv _).startStands (resumeChange_gapStands nv _))
  exact resumed.trans ((sealOpens_kept nv h.pins _).startStands (sealOpens_gapStands nv h.pins _))

/-- Settles O12: the record of the cause (`startRecord`) and, from KEEP, of the wake (`keepRecord`) stand through the rest of the start
(`StartStands`), and so does POWER as its second step leaves it. -/
theorem aStartLeavesDozeAndNamesItsCause : Obligations.AStartLeavesDozeAndNamesItsCause := by
  unfold Obligations.AStartLeavesDozeAndNamesItsCause
  intro nv h deferred s
  dsimp only
  rw [startUp_eq]
  obtain ⟨state, core, full, src, hfxo, pll, noDefer, gap, lastWake⟩ := startCore_facts s
  generalize startCore s = c at *
  obtain ⟨th, taken⟩ := startTaken_leaves nv h c
  generalize startTaken nv h c = a at taken ⊢
  have loaded := startLoaded_startStands nv h (keepRecord h a)
  generalize startLoaded nv h (keepRecord h a) = b at loaded ⊢
  have follows := startFollows_startStands nv h deferred (startRecord h b)
  generalize startFollows nv h deferred (startRecord h b) = t at follows ⊢
  have keptPower : (keepRecord h a).bak.power = a.bak.power := by
    unfold keepRecord
    split <;> rfl
  have keptGap : (keepRecord h a).ret.flow = a.ret.flow := by
    unfold keepRecord
    split <;> rfl
  have keptTh : (keepRecord h a).work.th = a.work.th := by
    unfold keepRecord
    split <;> rfl
  have power : t.bak.power = c.bak.power :=
    follows.power.trans (loaded.power.trans (keptPower.trans taken.power))
  have reset : t.ret.reset = (startRecord h b).ret.reset := follows.reset
  have record : t.bak.lastWake = (keepRecord h a).bak.lastWake := follows.lastWake.trans loaded.lastWake
  have codes : t.work.th = a.work.th := follows.th.trans (loaded.th.trans keptTh)
  have plan : planMeasures t = planMeasures a := by unfold planMeasures Machine.th; rw [codes]
  refine ⟨by rw [power, state], by rw [power, core], by rw [power, full], by rw [power, src], by rw [power, hfxo],
    by rw [power, pll], by rw [power, noDefer], by rw [reset]; rfl, by rw [reset]; rfl, by rw [reset]; rfl, ?_,
    fun other => ?_, fun bor => ?_⟩
  · rw [follows.gap]
    change b.ret.flow.restartGap = true
    rw [loaded.gap, keptGap, taken.gap]
    exact gap
  · rw [record, keepRecord, if_neg (by simpa using other), taken.lastWake]
    exact lastWake
  · rw [record, keepRecord, if_pos (by simp [bor]), plan]
    refine ⟨?_, ?_⟩
    · change BitVec.ofNat 6 _ = _
      split <;> rfl
    · change a.bak.lastWake.count + 1 = _
      rw [taken.lastWake]
      exact congrArg (fun r => r.count + 1) lastWake

end Sys2Proof.Machine
end

section
/-! SUPPORT. Sessions and replies (R402 to R411): what an answer makes of its session and of its port, the way of a frame of an open
session to its command, and the sessions that end. -/

namespace Sys2Proof.Machine

/-! ### Slots -/

theorem slotAt_putSlot_ne {m n : Nat} (x : Option Session) (s : Vol) (h : n ≠ m) : slotAt (putSlot n x s) m = slotAt s m :=
  vget_vset_ne _ x h

/-- The slot of a SESSION number. -/
theorem slot_lt_of_hasMac {session : Byte} (h : hasMac session = true) : session.toNat - 1 < 4 := by
  have range : 1 ≤ session.toNat ∧ session.toNat ≤ 4 := by simpa [hasMac] using h
  omega

theorem session_ne_zero_of_hasMac {session : Byte} (h : hasMac session = true) : session ≠ 0 := by
  rintro rfl
  exact absurd h (by decide)

theorem sessionOf_eq {s : Vol} {session : Byte} {p : Port} {x : Session} (mac : hasMac session = true)
    (slot : slotAt s (session.toNat - 1) = some x) (port : x.port = p) : sessionOf s session p = some x := by
  simp [sessionOf, mac, slot, port]

theorem sessionOf_zero (s : Vol) (p : Port) : sessionOf s 0 p = none := if_neg (by decide)

theorem modSession_eq {session : Byte} (g : Session → Session) {s : Vol} {x : Session} (mac : hasMac session = true)
    (slot : slotAt s (session.toNat - 1) = some x) : modSession session g s = putSlot (session.toNat - 1) (some (g x)) s := by
  rw [modSession, if_pos mac, slot]
  rfl

/-! ### Replies (R404, R430) -/

@[simp] theorem putReply_sessions (f : Frame) (b : Bytes) (s : Vol) :
    (putReply f b s).work.ex.sessions = s.work.ex.sessions := by
  unfold putReply
  split
  · rfl
  · split <;> rfl
  · rfl
  · split <;> rfl
  · rfl

@[simp] theorem slotAt_putReply (f : Frame) (b : Bytes) (s : Vol) (n : Nat) : slotAt (putReply f b s) n = slotAt s n := by
  rw [slotAt, putReply_sessions, slotAt]

/-- On the optical port a reply waits as it is (R430). -/
theorem putReply_optical {f : Frame} (b : Bytes) (s : Vol) (port : f.port = .optical) :
    vget (putReply f b s).work.ex.replies 0 = some b := by
  unfold putReply
  rw [port]
  exact vget_vset_self _ _ (by decide)

theorem replyKey_eq {s : Vol} {f : Frame} {x : Session} (mac : hasMac f.session = true)
    (slot : slotAt s (f.session.toNat - 1) = some x) (port : x.port = f.port) (isOpen : x.reserved = false) :
    replyKey s f = some x.ks := by
  simp [replyKey, sessionOf_eq mac slot port, isOpen]

/-- The session as an answer leaves it: its first block is sent, and the rest is kept (R404, R409). -/
def afterAnswer (f : Frame) (status : Nat) (payload : Bytes) (x : Session) : Session :=
  let parts := chunks (blockSize f.port) 4096 payload
  { x with
    lastReply := replyFrame f (some x.ks) status (if 1 < parts.length then 128 else 0) (parts.headD [])
    blocks := parts.tail
    block := 1 }

/-- An answer in an open session. -/
theorem answer_session (f : Frame) (status : Nat) (payload : Bytes) {s : Vol} {x : Session} (mac : hasMac f.session = true)
    (slot : slotAt s (f.session.toNat - 1) = some x) (port : x.port = f.port) (isOpen : x.reserved = false) :
    answer f status payload s =
      putReply f (afterAnswer f status payload x).lastReply
        (putSlot (f.session.toNat - 1) (some (afterAnswer f status payload x)) s) := by
  unfold answer
  rw [sessionOf_eq mac slot port, replyKey_eq mac slot port isOpen]
  dsimp only
  rw [modSession_eq _ mac slot]
  rfl

/-- Only the session of the frame is touched. -/
theorem slotAt_answer_ne (f : Frame) (status : Nat) (payload : Bytes) (s : Vol) {n : Nat} (h : n ≠ f.session.toNat - 1) :
    slotAt (answer f status payload s) n = slotAt s n := by
  have plain : ∀ st p, slotAt (answerPlain f st p s) n = slotAt s n := fun st p => slotAt_putReply _ _ _ _
  unfold answer
  dsimp only
  split
  · split <;> exact plain _ _
  · rw [slotAt_putReply]
    unfold modSession
    split
    · exact slotAt_putSlot_ne _ _ (Ne.symm h)
    · rfl

/-- Without a session an answer leaves the sessions. -/
theorem answerPlain_sessions (f : Frame) (status : Nat) (payload : Bytes) (s : Vol) :
    (answerPlain f status payload s).work.ex.sessions = s.work.ex.sessions := putReply_sessions _ _ _

theorem answerPlain_frame (f : Frame) (status : Nat) (payload : Bytes) (s : Vol) : AnswerFrame s (answerPlain f status payload s) :=
  putReply_frame _ _ _

/-! ### The port has heard a frame -/

theorem heard_slotAt (f : Frame) (s : Vol) : slotAt (heard f s) = slotAt s := by
  rw [heard_only]
  rfl

theorem heard_bak (f : Frame) (s : Vol) : (heard f s).bak = s.bak := by rw [heard_only]
theorem heard_ret (f : Frame) (s : Vol) : (heard f s).ret = s.ret := by rw [heard_only]
theorem heard_free (f : Frame) (s : Vol) : (heard f s).free = s.free := by rw [heard_only]
theorem heard_life (f : Frame) (s : Vol) : (heard f s).work.life = s.work.life := by rw [heard_only]
theorem heard_sessions (f : Frame) (s : Vol) : (heard f s).work.ex.sessions = s.work.ex.sessions := by rw [heard_only]

/-! ### A frame of an open session (R408, R409) -/

/-- What the frame of a session says of it. -/
structure OpenFrame (s : Vol) (f : Frame) (x : Session) : Prop where
  mac : hasMac f.session = true
  slot : slotAt s (f.session.toNat - 1) = some x
  port : x.port = f.port
  isOpen : x.reserved = false
  signed : beBytes 4 f.mac.toNat = frameMac x.ks 0x00 (frameBody f)
  seq : f.seq = x.seq + 1

theorem OpenFrame.of_taken {s : Vol} {f : Frame} {x : Session} (h : sessionTaken s f x = true) : OpenFrame s f x := by
  simp only [sessionTaken, Bool.and_eq_true, Bool.not_eq_true', beq_iff_eq] at h
  obtain ⟨⟨⟨⟨⟨mac, slot⟩, port⟩, isOpen⟩, signed⟩, seq⟩ := h
  exact ⟨mac, slot, port, isOpen, signed, seq⟩

/-- The session once the frame's SEQ is taken. -/
def seqSession (f : Frame) (x : Session) (s : Vol) : Session := { x with macFails := 0, lastTick := s.bak.count, seq := f.seq }

/-- The state in which the command of the frame is looked up. -/
def seqTaken (f : Frame) (x : Session) (s : Vol) : Vol :=
  putSlot (f.session.toNat - 1) (some (seqSession f x s)) (heard f s)

theorem seqTaken_slot {s : Vol} {f : Frame} {x : Session} (h : hasMac f.session = true) :
    slotAt (seqTaken f x s) (f.session.toNat - 1) = some (seqSession f x s) := slotAt_putSlot _ _ (slot_lt_of_hasMac h)

theorem seqTaken_slot_ne {s : Vol} {f : Frame} {x : Session} {n : Nat} (h : n ≠ f.session.toNat - 1) :
    slotAt (seqTaken f x s) n = slotAt s n := (slotAt_putSlot_ne _ _ (Ne.symm h)).trans (by rw [heard_slotAt])

/-- The next frame of an open session comes to its command (R408, R409, R415). -/
theorem process_dispatch (nv : Nv) {f : Frame} {s : Vol} {x : Session} (h : OpenFrame s f x) :
    process nv f (heard f s) = dispatchCmd nv f x.role (seqTaken f x s) := by
  have slot : sessionOf (heard f s) f.session f.port = some x :=
    sessionOf_eq h.mac (by rw [heard_slotAt]; exact h.slot) h.port
  have count : (heard f s).bak.count = s.bak.count := by rw [heard_bak]
  have new : f.seq ≠ x.seq := by
    rw [h.seq]
    bv_omega
  rw [process, if_neg (session_ne_zero_of_hasMac h.mac), slot]
  simp only [h.isOpen, Bool.false_eq_true, if_false]
  rw [sessionFrame, if_neg (by simp [h.signed])]
  refine (if_neg new).trans ?_
  refine (if_neg (not_not.mpr h.seq)).trans ?_
  rw [count]
  rfl

theorem attrExists_putSlot (nv : Nv) (n : Nat) (x : Option Session) (s : Vol) (o : Obj) (attr : Nat) :
    attrExists nv (putSlot n x s) o attr = attrExists nv s o attr := by
  cases o <;> rfl

/-- The look-up reads no session (R415). -/
theorem lookUp_putSlot (nv : Nv) (f : Frame) (n : Nat) (x : Option Session) (s : Vol) :
    lookUp nv f (putSlot n x s) = lookUp nv f s := by
  have same : objOf (putSlot n x s) f.ident = objOf s f.ident := rfl
  unfold lookUp
  rw [same]
  split
  · rfl
  · rw [attrExists_putSlot]
    rfl

theorem lookUp_seqTaken (nv : Nv) (f : Frame) (x : Session) (s : Vol) :
    lookUp nv f (seqTaken f x s) = lookUp nv f (inSession f x s) := by
  rw [seqTaken, lookUp_putSlot, inSession, lookUp_putSlot]

/-! ### Sessions that end (R402, R410) -/

theorem lineLoopDrop_ex (s : Vol) : (lineLoopDrop s).work.ex = s.work.ex := by
  unfold lineLoopDrop
  dsimp only
  split <;> rfl

theorem lineLoopResult_ex (result : Nat) (s : Vol) : (lineLoopResult result s).work.ex = s.work.ex := by
  have ended : (lineLoopEnded result s).work.ex = s.work.ex := (logG_work_ex _ _ _).trans (lineLoopDrop_ex s)
  rw [lineLoopResult_eq]
  split
  · exact (logG_work_ex _ _ _).trans ended
  · exact ended

theorem endLineLoops_ex (n : Nat) (s : Vol) : (endLineLoops n s).work.ex = s.work.ex := by
  unfold endLineLoops
  dsimp only
  split
  · exact lineLoopResult_ex _ _
  · rfl

theorem endPortLoops_ex (n : Nat) (s : Vol) : (endPortLoops n s).work.ex = s.work.ex := by
  unfold endPortLoops
  dsimp only
  split
  · exact logG_work_ex _ _ _
  · rfl

/-- Of the engine, the end of a session frees its slot. -/
theorem endSession_ex (n : Nat) (s : Vol) : (endSession n s).work.ex = (putSlot n none s).work.ex := by
  unfold endSession
  dsimp only
  rw [endLineLoops_ex, endPortLoops_ex]
  split <;> rfl

/-- One slot of `endSessionsIf`. -/
def endSessionIf (p : Nat → Session → Bool) (s : Vol) (n : Nat) : Vol :=
  match slotAt s n with
  | some x => if p n x then endSession n s else s
  | none => s

theorem endSessionsIf_foldl (p : Nat → Session → Bool) (s : Vol) :
    endSessionsIf p s = [0, 1, 2, 3].foldl (endSessionIf p) s := by
  unfold endSessionsIf
  congr

theorem endSessionsIf_eq (p : Nat → Session → Bool) (s : Vol) :
    endSessionsIf p s = endSessionIf p (endSessionIf p (endSessionIf p (endSessionIf p s 0) 1) 2) 3 := by
  simp only [endSessionsIf_foldl, List.foldl_cons, List.foldl_nil]

theorem endSessionIf_ex (p : Nat → Session → Bool) (s : Vol) (n : Nat) :
    (endSessionIf p s n).work.ex = { s.work.ex with sessions := (endSessionIf p s n).work.ex.sessions } := by
  unfold endSessionIf
  split
  · split
    · rw [endSession_ex]
      rfl
    · rfl
  · rfl

theorem slotAt_endSessionIf (p : Nat → Session → Bool) (s : Vol) {n : Nat} (m : Nat) (hn : n < 4) :
    slotAt (endSessionIf p s n) m = if m = n then (slotAt s n).filter (!p n ·) else slotAt s m := by
  have freed : slotAt (endSession n s) m = if m = n then none else slotAt s m := by
    rw [slotAt, endSession_ex]
    split
    · next h => rw [h]; exact slotAt_putSlot none s hn
    · next h => exact slotAt_putSlot_ne none s (Ne.symm h)
  cases slot : slotAt s n with
  | none =>
    have idle : endSessionIf p s n = s := by rw [endSessionIf, slot]
    obtain rfl | other := eq_or_ne m n
    · rw [idle, if_pos rfl, slot]
      rfl
    · rw [idle, if_neg other]
  | some x =>
    have step : endSessionIf p s n = if p n x then endSession n s else s := by rw [endSessionIf, slot]
    rw [step, Option.filter_some]
    cases picked : p n x
    · obtain rfl | other := eq_or_ne m n
      · simp [slot]
      · simp [other]
    · simp [freed]

/-- The sessions that the test picks end, and no other. -/
theorem slotAt_endSessionsIf (p : Nat → Session → Bool) (s : Vol) {n : Nat} (hn : n < 4) :
    slotAt (endSessionsIf p s) n = (slotAt s n).filter (!p n ·) := by
  rw [endSessionsIf_eq]
  interval_cases n <;> simp [slotAt_endSessionIf]

/-- Of the engine, only sessions change. -/
theorem endSessionsIf_ex (p : Nat → Session → Bool) (s : Vol) :
    (endSessionsIf p s).work.ex = { s.work.ex with sessions := (endSessionsIf p s).work.ex.sessions } := by
  rw [endSessionsIf_eq, endSessionIf_ex, endSessionIf_ex, endSessionIf_ex, endSessionIf_ex]

theorem slotAt_endClosed (p : Port) (s : Vol) {n : Nat} (hn : n < 4) :
    slotAt (endClosed p s) n = (slotAt s n).filter fun x => !(x.closing && x.port == p) := slotAt_endSessionsIf _ s hn

theorem endClosed_replyGone (p q : Port) (s : Vol) : replyGone (endClosed p s) q = replyGone s q := by
  rw [replyGone, endClosed, endSessionsIf_link, endSessionsIf_ex, replyGone]

end Sys2Proof.Machine
end

section
/-! SUPPORT and PROOF of O44. An OPEN reserves a slot, its proof opens the session, and CLOSE frees it once its reply has left (R402, R406
to R412). -/

namespace Sys2Proof.Machine

/-! ### A frame under its row -/

/-- A frame that is taken is executed under the row that its command has. -/
theorem exec_row_taken {r : Row} {f : Frame} {s : State} (row : rowOf s.vol f = r) (taken : frameTaken s.vol f = true) :
    exec (r.instr f) s = .next (s.up (process s.nv f (heard f s.vol))) := by
  rw [← row, exec_instr_rowOf, receive_taken _ taken]

theorem rowOf_open {f : Frame} (s : Vol) (cmd : f.cmd = 1) (session : f.session = 0) : rowOf s f = .open_ := by
  simp [rowOf, cmd, session]

theorem rowOf_proof {f : Frame} (s : Vol) (cmd : f.cmd = 1) (session : f.session ≠ 0) : rowOf s f = .proof := by
  rw [rowOf, cmd]
  exact if_neg session

theorem rowOf_close {f : Frame} (s : Vol) (cmd : f.cmd = 2) : rowOf s f = .close := by
  simp [rowOf, cmd]

/-- What an answer leaves in the slot of its session. -/
theorem answer_slot (f : Frame) (status : Nat) (payload : Bytes) {s : Vol} {x : Session} (mac : hasMac f.session = true)
    (slot : slotAt s (f.session.toNat - 1) = some x) (port : x.port = f.port) (isOpen : x.reserved = false) :
    slotAt (answer f status payload s) (f.session.toNat - 1) = some (afterAnswer f status payload x) := by
  rw [answer_session f status payload mac slot port isOpen, slotAt_putReply, slotAt_putSlot _ _ (slot_lt_of_hasMac mac)]

/-! ### OPEN (R406, R407, R411, R412) -/

theorem process_open (nv : Nv) {f : Frame} (s : Vol) (cmd : f.cmd = 1) (session : f.session = 0) :
    process nv f s = openStep1 nv f s := by
  rw [process, if_pos session, if_pos cmd]

theorem roleOnPort_line (r : Role) : roleOnPort r .line = false := by
  cases r <;> rfl

theorem heard_roleLocked (f : Frame) (s : Vol) (r : Role) : roleLocked (heard f s) r = roleLocked s r := by
  rw [roleLocked, heard_ret, roleLocked]

theorem heard_roleKey (f : Frame) (s : Vol) (r : Role) (p : Port) : roleKey (heard f s) r p = roleKey s r p := by
  rw [roleKey, heard_life, heard_bak, roleKey]

theorem reserveSlot_slot (nv : Nv) (f : Frame) (r : Role) {n : Nat} (key : BitVec 128) (initial : Bool) (s : Vol) (hn : n < 4) :
    ∃ cd, slotAt (reserveSlot nv f r n key initial s) n = some
      { role := r, port := f.port, reserved := true, cc := BitVec.ofNat 64 (beNat (slice f.data 1 8)), cd,
        ks := sessionKey key (BitVec.ofNat 64 (beNat (slice f.data 1 8))) cd nv.trim.serial, initialKey := initial,
        seq := 0, lastReply := [], blocks := [], block := 1, macFails := 0, lastTick := s.bak.count, closing := false } := by
  refine ⟨(takeFree s).1, ?_⟩
  unfold reserveSlot
  dsimp only
  rw [answerPlain, slotAt_putReply, slotAt_putSlot _ _ hn]
  rfl

/-- Beside the slot and the reply, only a device challenge is taken. -/
theorem reserveSlot_frame (nv : Nv) (f : Frame) (r : Role) (n : Nat) (key : BitVec 128) (initial : Bool) (s : Vol) :
    AnswerFrame { s with free := s.free + 1 } (reserveSlot nv f r n key initial s) := by
  unfold reserveSlot
  exact AnswerFrame.trans ⟨rfl⟩ (answerPlain_frame _ _ _ _)

theorem AnswerFrame.free {s s' : Vol} (h : AnswerFrame s s') : s'.free = s.free := by rw [h.only]

/-- An OPEN that meets every check reserves the first free slot. -/
theorem openStep1_reserves (nv : Nv) {f : Frame} {s : Vol} {r : Role} {key : BitVec 128} {initial : Bool} {n : Nat}
    (ident : f.ident = 0) (attr : f.attr = 0) (length : f.data.length = 9) (role : roleOf (f.data.headD 0).toNat = some r)
    (onPort : roleOnPort r f.port = true) (admitted : roleAdmitted s.work.life.state r = true)
    (unlocked : roleLocked s r = false) (k : roleKey s r f.port = some (key, initial))
    (free : [0, 1, 2, 3].find? (fun n => (slotAt s n).isNone) = some n)
    (single : r ≠ .metrology ∨ (s.work.ex.sessions.toList.filterMap id).all (·.role != .metrology) = true) :
    openStep1 nv f s = reserveSlot nv f r n key initial s := by
  have notLine : f.port ≠ .line := by
    intro line
    rw [line, roleOnPort_line] at onPort
    exact absurd onPort (by decide)
  have alone : (r == .metrology && (s.work.ex.sessions.toList.filterMap id).any (·.role == .metrology)) = false := by
    rcases single with other | none
    · simp [other]
    · rw [List.all_eq_not_any_not] at none
      simp only [bne, Bool.not_not, Bool.not_eq_true'] at none
      rw [none, Bool.and_false]
  unfold openStep1
  rw [if_neg (by simp [ident, attr, length]), role]
  dsimp only
  rw [if_neg notLine, unlocked, onPort, admitted, k, free]
  dsimp only
  rw [alone]
  rfl

/-- An OPEN for a role that is locked out (R411). -/
theorem openStep1_locked (nv : Nv) {f : Frame} {s : Vol} {r : Role} (ident : f.ident = 0) (attr : f.attr = 0)
    (length : f.data.length = 9) (role : roleOf (f.data.headD 0).toNat = some r) (port : f.port = .optical)
    (locked : roleLocked s r = true) : openStep1 nv f s = answerPlain f stAuthFail [] s := by
  unfold openStep1
  rw [if_neg (by simp [ident, attr, length]), role]
  dsimp only
  rw [if_neg (by simp [port]), if_pos locked]

/-! ### The proof (R407) -/

theorem process_proof (nv : Nv) {f : Frame} {s : Vol} {x : Session} (cmd : f.cmd = 1) (mac : hasMac f.session = true)
    (slot : slotAt s (f.session.toNat - 1) = some x) (port : x.port = f.port) (reserved : x.reserved = true) :
    process nv f s = openStep2 nv f x s := by
  rw [process, if_neg (session_ne_zero_of_hasMac mac), sessionOf_eq mac slot port]
  simp only [reserved, cmd, if_true]

/-- The session that its proof has opened. -/
def openedSession (x : Session) (s : Vol) : Session := { x with reserved := false, lastTick := s.bak.count }

/-- The state in which the proof is answered: the failures of the role are gone, and a session of METROLOGY is logged (R409, R411). -/
def opened (f : Frame) (x : Session) (s : Vol) : Vol :=
  let s := { putSlot (f.session.toNat - 1) (some (openedSession x s)) s with
    ret.ex.fails := vset s.ret.ex.fails (roleCode x.role) 0 }
  if x.role == .metrology then logM 0x0604 (b2n (!x.initialKey)) s else s

theorem openStep2_opens (nv : Nv) {f : Frame} {s : Vol} {x : Session} {key : BitVec 128} {initial : Bool}
    (unlocked : roleLocked s x.role = false) (k : roleKey s x.role x.port = some (key, initial))
    (proof : f.data = proofOf key 0x43 x.cd x.cc nv.trim.serial)
    (signed : beBytes 4 f.mac.toNat = frameMac x.ks 0x00 (frameBody f)) (seq : f.seq = 0) (ident : f.ident = 0)
    (attr : f.attr = 0) : openStep2 nv f x s = answer f stOk [] (opened f x s) := by
  unfold openStep2
  rw [unlocked, k]
  simp only [Bool.false_eq_true, if_false, proof, signed, beq_self_eq_true, Bool.and_self, Bool.not_true, seq, ident, attr]
  rfl

theorem opened_logged (f : Frame) (x : Session) (s : Vol) :
    LogFrame { putSlot (f.session.toNat - 1) (some (openedSession x s)) s with
      ret.ex.fails := vset s.ret.ex.fails (roleCode x.role) 0 } (opened f x s) := by
  unfold opened
  dsimp only
  split
  · exact logEvent_frame _ _ _ _
  · exact .refl _

theorem opened_slot {f : Frame} (x : Session) (s : Vol) (mac : hasMac f.session = true) :
    slotAt (opened f x s) (f.session.toNat - 1) = some (openedSession x s) := by
  rw [slotAt, (opened_logged f x s).work_ex]
  exact slotAt_putSlot _ s (slot_lt_of_hasMac mac)

theorem roleCode_lt (r : Role) : roleCode r < 5 := by
  cases r <;> decide

theorem opened_fails (f : Frame) (x : Session) (s : Vol) : vget (opened f x s).ret.ex.fails (roleCode x.role) = 0 := by
  rw [(opened_logged f x s).ret_ex]
  exact vget_vset_self _ _ (roleCode_lt _)

theorem opened_answered {f : Frame} {x : Session} (s : Vol) (mac : hasMac f.session = true) (port : x.port = f.port) :
    slotAt (answer f stOk [] (opened f x s)) (f.session.toNat - 1) = some (afterAnswer f stOk [] (openedSession x s)) :=
  answer_slot f stOk [] mac (opened_slot x s mac) port rfl

theorem opened_bak (f : Frame) (x : Session) (s : Vol) : (opened f x s).bak = s.bak := (opened_logged f x s).bak

/-! ### CLOSE (R402, R410) -/

theorem dispatchCmd_close (nv : Nv) {f : Frame} (r : Role) {s : Vol} (cmd : f.cmd = 2) (session : f.session ≠ 0) :
    dispatchCmd nv f r s =
      match lookUp nv f s with
      | some st => answer f st [] s
      | none => answerClose (answer f stOk []) f s := by
  rw [dispatchCmd, cmd]
  refine Eq.trans (b := match lookUp nv f s with
    | some st => answer f st [] s
    | none => if f.cmd = 6 then answerNext f s
      else if f.cmd = 2 ∧ f.session ≠ 0 then answerClose (answer f stOk []) f s
      else answer f stRefused [] s) ?_ ?_
  · rw [cmd]
    rfl
  · rw [if_neg (by rw [cmd]; decide), if_pos ⟨cmd, session⟩]

/-- The session whose CLOSE is answered. -/
def closingSession (f : Frame) (x : Session) (s : Vol) : Session := { seqSession f x s with closing := true }

/-- The state in which the reply to CLOSE waits for its port. -/
def closeAnswered (f : Frame) (x : Session) (s : Vol) : Vol :=
  answer f stOk [] (putSlot (f.session.toNat - 1) (some (closingSession f x s)) (seqTaken f x s))

theorem closeAnswered_slot {f : Frame} {x : Session} {s : Vol} (h : OpenFrame s f x) :
    slotAt (closeAnswered f x s) (f.session.toNat - 1) = some (afterAnswer f stOk [] (closingSession f x s)) := by
  have slot := slotAt_putSlot (some (closingSession f x s)) (seqTaken f x s) (slot_lt_of_hasMac h.mac)
  exact answer_slot f stOk [] h.mac slot h.port h.isOpen

theorem closeAnswered_slot_ne (f : Frame) (x : Session) (s : Vol) {n : Nat} (other : n ≠ f.session.toNat - 1) :
    slotAt (closeAnswered f x s) n = slotAt s n := by
  rw [closeAnswered, slotAt_answer_ne _ _ _ _ other, slotAt_putSlot_ne _ _ (Ne.symm other), seqTaken_slot_ne other]

theorem seqTaken_bak (f : Frame) (x : Session) (s : Vol) : (seqTaken f x s).bak = s.bak := heard_bak f s
theorem seqTaken_ret (f : Frame) (x : Session) (s : Vol) : (seqTaken f x s).ret = s.ret := heard_ret f s

theorem answerClose_closes {f : Frame} {x : Session} {s : Vol} (h : OpenFrame s f x) :
    answerClose (answer f stOk []) f (seqTaken f x s) =
      if replyGone (closeAnswered f x s) f.port then endClosed f.port (closeAnswered f x s) else closeAnswered f x s := by
  rw [answerClose, modSession_eq _ h.mac (seqTaken_slot h.mac)]
  rfl

theorem closeAnswered_bak (f : Frame) (x : Session) (s : Vol) : (closeAnswered f x s).bak = s.bak := by
  rw [closeAnswered, (answer_frame _ _ _ _).bak]
  exact seqTaken_bak f x s

theorem closeAnswered_ret (f : Frame) (x : Session) (s : Vol) : (closeAnswered f x s).ret = s.ret := by
  rw [closeAnswered, (answer_frame _ _ _ _).ret]
  exact seqTaken_ret f x s

/-- With its reply the session of a CLOSE goes, and every other stays. -/
theorem endClosed_closeAnswered {f : Frame} {x : Session} {s : Vol} (h : OpenFrame s f x) :
    slotAt (endClosed f.port (closeAnswered f x s)) (f.session.toNat - 1) = none ∧
      ∀ n : Nat, n < 4 → n ≠ f.session.toNat - 1 → (∀ z, slotAt s n = some z → z.closing = false) →
        slotAt (endClosed f.port (closeAnswered f x s)) n = slotAt s n := by
  refine ⟨?_, fun n hn other stays => ?_⟩
  · have closing : (afterAnswer f stOk [] (closingSession f x s)).closing = true := rfl
    have port : (afterAnswer f stOk [] (closingSession f x s)).port = f.port := h.port
    rw [slotAt_endClosed _ _ (slot_lt_of_hasMac h.mac), closeAnswered_slot h, Option.filter_some, closing, port]
    simp
  · rw [slotAt_endClosed _ _ hn, closeAnswered_slot_ne _ _ _ other]
    cases slot : slotAt s n with
    | none => rfl
    | some z => simp [stays z slot]

theorem endClosed_valueStands (p : Port) (s : Vol) : ValueStands s (endClosed p s) := endSessionsIf_valueStands _ s

/-- A CLOSE whose look-up passes is answered, and its session ends once no reply waits for the port. -/
theorem exec_close_found {s : State} {f : Frame} {x : Session} (taken : frameTaken s.vol f = true) (cmd : f.cmd = 2)
    (frame : OpenFrame s.vol f x) (found : lookUp s.nv f (inSession f x s.vol) = none) :
    exec (.close f) s = .next (s.up
      (if replyGone (closeAnswered f x s.vol) f.port then endClosed f.port (closeAnswered f x s.vol)
       else closeAnswered f x s.vol)) := by
  have run := exec_row_taken (rowOf_close s.vol cmd) taken
  rw [process_dispatch _ frame, dispatchCmd_close _ _ cmd (session_ne_zero_of_hasMac frame.mac), lookUp_seqTaken, found] at run
  exact run.trans (congrArg (fun v => Host.Outcome.next (s.up v)) (answerClose_closes frame))

/-- A CLOSE whose look-up fails is answered so. -/
theorem exec_close_refused {s : State} {f : Frame} {x : Session} {st : Nat} (taken : frameTaken s.vol f = true) (cmd : f.cmd = 2)
    (frame : OpenFrame s.vol f x) (refused : lookUp s.nv f (inSession f x s.vol) = some st) :
    exec (.close f) s = .next (s.up (answer f st [] (seqTaken f x s.vol))) := by
  have run := exec_row_taken (rowOf_close s.vol cmd) taken
  rw [process_dispatch _ frame, dispatchCmd_close _ _ cmd (session_ne_zero_of_hasMac frame.mac), lookUp_seqTaken, refused] at run
  exact run

/-- What a CLOSE leaves, its reply gone or waiting. -/
theorem close_leaves {s : Vol} {f : Frame} {x : Session} (frame : OpenFrame s f x) :
    let u := if replyGone (closeAnswered f x s) f.port then endClosed f.port (closeAnswered f x s) else closeAnswered f x s
    u.bak = s.bak ∧ u.ret.led = s.ret.led ∧ (replyGone u f.port = true → slotAt u (f.session.toNat - 1) = none) ∧
      (replyGone u f.port = false →
        ∃ y, slotAt u (f.session.toNat - 1) = some y ∧ y.closing = true ∧ y.role = x.role ∧ y.seq = f.seq) ∧
      ∀ n : Nat, n < 4 → n ≠ f.session.toNat - 1 → (∀ z, slotAt s n = some z → z.closing = false) → slotAt u n = slotAt s n := by
  intro u
  cases gone : replyGone (closeAnswered f x s) f.port with
  | true =>
    have ended : u = endClosed f.port (closeAnswered f x s) := if_pos gone
    rw [ended]
    have left := (endClosed_replyGone f.port f.port (closeAnswered f x s)).trans gone
    obtain ⟨own, others⟩ := endClosed_closeAnswered frame
    have ends := endClosed_valueStands f.port (closeAnswered f x s)
    exact ⟨ends.bak.trans (closeAnswered_bak _ _ _), ends.led.trans (congrArg (·.led) (closeAnswered_ret _ _ _)), fun _ => own,
      fun waits => absurd (left.symm.trans waits) (by decide), others⟩
  | false =>
    have waiting : u = closeAnswered f x s := if_neg (by simp [gone])
    rw [waiting]
    exact ⟨closeAnswered_bak _ _ _, congrArg (·.led) (closeAnswered_ret _ _ _),
      fun left => absurd (left.symm.trans gone) (by decide), fun _ => ⟨_, closeAnswered_slot frame, rfl, rfl, rfl⟩,
      fun n _ other _ => closeAnswered_slot_ne _ _ _ other⟩

/-- Settles O44: each frame comes to its step (`process_open`, `process_proof`, `process_dispatch`), which reserves a slot, opens the
session, is refused, or answers CLOSE and frees the slot with the reply. -/
theorem sessionsOpenAndClose : Obligations.SessionsOpenAndClose := by
  unfold Obligations.SessionsOpenAndClose
  intro s f taken
  refine ⟨fun r key initial n cmd session ident attr length role onPort admitted unlocked k free single => ?_,
    fun x key initial cmd mac slot port reserved unlocked k proof signed seq ident attr => ?_,
    fun r cmd session ident attr length port role locked => ?_,
    fun x cmd open_ => ?_⟩
  · have run := exec_row_taken (rowOf_open s.vol cmd session) taken
    rw [process_open _ _ cmd session, openStep1_reserves s.nv ident attr length role onPort (by rwa [heard_life])
      ((heard_roleLocked _ _ _).trans unlocked) ((heard_roleKey _ _ _ _).trans k) (by simpa only [heard_slotAt] using free)
      (by rwa [heard_sessions])] at run
    have hn : n < 4 := by
      have among := List.mem_of_find?_eq_some free
      simp only [List.mem_cons, List.not_mem_nil, or_false] at among
      omega
    have frame := reserveSlot_frame s.nv f r n key initial (heard f s.vol)
    obtain ⟨cd, slot⟩ := reserveSlot_slot s.nv f r key initial (heard f s.vol) hn
    rw [heard_bak] at slot
    exact ⟨_, cd, run, rfl, frame.free.trans (congrArg (· + 1) (heard_free f s.vol)), frame.bak.trans (heard_bak f s.vol),
      frame.ret.trans (heard_ret f s.vol), slot⟩
  · have run := exec_row_taken (rowOf_proof s.vol cmd (session_ne_zero_of_hasMac mac)) taken
    rw [process_proof _ cmd mac (by rwa [heard_slotAt]) port reserved,
      openStep2_opens s.nv ((heard_roleLocked _ _ _).trans unlocked) ((heard_roleKey _ _ _ _).trans k) proof signed seq ident
        attr] at run
    have frame := answer_frame f stOk [] (opened f x (heard f s.vol))
    have fails := (congrArg (fun r => vget r.ex.fails (roleCode x.role)) frame.ret).trans (opened_fails f x _)
    exact ⟨_, afterAnswer f stOk [] (openedSession x (heard f s.vol)), run, rfl, opened_answered _ mac port, rfl, rfl, rfl, rfl,
      congrArg Bak.count (heard_bak f s.vol), fails, frame.bak.trans ((opened_bak f x _).trans (heard_bak f s.vol))⟩
  · have run := exec_row_taken (rowOf_open s.vol cmd session) taken
    rw [process_open _ _ cmd session,
      openStep1_locked s.nv ident attr length role port ((heard_roleLocked _ _ _).trans locked)] at run
    refine ⟨_, run, rfl, (answerPlain_frame _ _ _ _).ret.trans (heard_ret f s.vol),
      (answerPlain_sessions _ _ _ _).trans (heard_sessions f s.vol), ?_⟩
    rw [State.up_vol, answerPlain, putReply_optical _ _ port, replyKey, session, sessionOf_zero]
    rfl
  · have frame := OpenFrame.of_taken open_
    refine ⟨fun found => ⟨_, exec_close_found taken cmd frame found, rfl, close_leaves frame⟩, fun st refused => ?_⟩
    have slot := answer_slot f st [] frame.mac (seqTaken_slot (s := s.vol) frame.mac) frame.port frame.isOpen
    exact ⟨_, _, exec_close_refused taken cmd frame refused, rfl, slot, rfl, rfl, rfl,
      fun n _ other => (slotAt_answer_ne _ _ _ _ other).trans (seqTaken_slot_ne other)⟩

end Sys2Proof.Machine
end

section
/-! SUPPORT and PROOF of O45. A reply of one payload: its first block leaves with the MAC of the session, and the others wait for NEXT
(R404, R409). -/

namespace Sys2Proof.Machine

theorem rowOf_get {f : Frame} (s : Vol) (cmd : f.cmd = 3) : rowOf s f = .get := by
  simp [rowOf, cmd]

theorem rowOf_next {f : Frame} (s : Vol) (cmd : f.cmd = 6) : rowOf s f = .next := by
  simp [rowOf, cmd]

/-! ### GET (R404, R415) -/

/-- The session while its GET, SET or ACTION runs: SEQ is taken, and earlier blocks are dropped. -/
def runningSession (f : Frame) (x : Session) (s : Vol) : Session :=
  { x with seq := f.seq, macFails := 0, lastTick := s.bak.count, blocks := [], block := 1 }

theorem inSession_slot {f : Frame} (x : Session) (s : Vol) (mac : hasMac f.session = true) :
    slotAt (inSession f x s) (f.session.toNat - 1) = some (runningSession f x s) :=
  slotAt_putSlot _ _ (slot_lt_of_hasMac mac)

/-- A GET that passes every check comes to its object (R415). -/
theorem runCommand_read (nv : Nv) {f : Frame} {r : Role} {o : Obj} {s : Vol} (cmd : f.cmd = 3) (obj : objOf s f.ident = some o)
    (attr : attrExists nv s o f.attr.toNat = true) (status : getStatus s r o = none) :
    runCommand nv f r s = carryGet nv f o s := by
  simp [runCommand, cmd, obj, attr, status]

/-- A read that no block and no freeze holds is answered at once. -/
theorem carryGet_reads (nv : Nv) {f : Frame} {o : Obj} (s : Vol) (target : absentTarget f o = none)
    (noFreeze : o ≠ .clock ∨ f.stalls = false) : carryGet nv f o s = readObject nv f o s := by
  have runs : ¬ (o = .clock ∧ f.stalls = true ∧ f.data.isEmpty = true) := by
    rintro ⟨clock, stalls, -⟩
    rcases noFreeze with other | free
    · exact other clock
    · exact absurd (stalls.symm.trans free) (by decide)
  rw [carryGet, target, if_neg (by simp), if_neg runs, if_neg (by simp)]

/-- The state in which a value is answered: its pages are noted as read, and copies are rewritten (R382). -/
def notedPages (nv : Nv) (o : Obj) (pages : List Nat) (s : Vol) : Vol :=
  readRepairs nv o (pages.foldl (init := s) fun s p => readNote nv p s)

theorem notedPages_frame (nv : Nv) (o : Obj) (pages : List Nat) (s : Vol) : LogFrame s (notedPages nv o pages s) :=
  ((pageRead_foldl (fun s p => readNote_pageRead nv p s) pages s).trans (readRepairs_pageRead nv o _)).frame

theorem readObject_value (nv : Nv) {f : Frame} {o : Obj} {s : Vol} {b : Bytes} {pages : List Nat} (other : o ≠ .lineSettings)
    (value : getObj nv s o f.attr.toNat f.data = .value b false pages) :
    readObject nv f o s = answer f stOk b (notedPages nv o pages s) := by
  have fresh : (o == .lineSettings && lineAbsent s && f.attr != 0) = false := by simp [other]
  unfold readObject
  rw [fresh]
  simp only [Bool.false_eq_true, if_false, value]
  rfl

/-! ### NEXT (R404) -/

/-- The session once the block is sent. -/
def nextSession (f : Frame) (x : Session) : Session :=
  match x.blocks with
  | p :: rest =>
    { x with
      lastReply := replyFrame f (some x.ks) stOk (x.block % 128 + (if rest.isEmpty then 0 else 128)) p
      blocks := rest
      block := x.block + 1 }
  | [] => { x with lastReply := replyFrame f (some x.ks) stRefused 0 [] }

theorem nextSession_seq (f : Frame) (x : Session) : (nextSession f x).seq = x.seq := by
  unfold nextSession
  split <;> rfl

theorem nextSession_blocks (f : Frame) (x : Session) : (nextSession f x).blocks = x.blocks.tail := by
  unfold nextSession
  split
  · next h => rw [h]; rfl
  · next h => simp [h]

theorem nextSession_block (f : Frame) {x : Session} {p : Bytes} {rest : List Bytes} (h : x.blocks = p :: rest) :
    (nextSession f x).lastReply =
      replyFrame f (some x.ks) stOk (x.block % 128 + (if rest.isEmpty then 0 else 128)) p := by
  rw [nextSession, h]

theorem nextSession_none (f : Frame) {x : Session} (h : x.blocks = []) :
    (nextSession f x).lastReply = replyFrame f (some x.ks) stRefused 0 [] := by
  rw [nextSession, h]

/-- NEXT in an open session. -/
theorem answerNext_session {f : Frame} {s : Vol} {x : Session} (mac : hasMac f.session = true)
    (slot : slotAt s (f.session.toNat - 1) = some x) (port : x.port = f.port) (isOpen : x.reserved = false) :
    answerNext f s =
      putReply f (nextSession f x).lastReply (putSlot (f.session.toNat - 1) (some (nextSession f x)) s) := by
  unfold answerNext
  rw [sessionOf_eq mac slot port, replyKey_eq mac slot port isOpen]
  dsimp only
  cases blocks : x.blocks <;>
  · dsimp only
    rw [modSession_eq _ mac slot]
    simp only [nextSession, blocks]

theorem dispatchCmd_next (nv : Nv) {f : Frame} (r : Role) {s : Vol} (cmd : f.cmd = 6) (found : lookUp nv f s = none) :
    dispatchCmd nv f r s = answerNext f s := by
  rw [dispatchCmd, cmd]
  refine Eq.trans (b := match lookUp nv f s with
    | some st => answer f st [] s
    | none => answerNext f s) ?_ ?_
  · rfl
  · rw [found]

/-- Settles O45: the answer to a GET keeps the blocks that its first one leaves (`answer_session`), and NEXT sends the next of them
(`answerNext_session`). -/
theorem repliesLeaveInBlocks : Obligations.RepliesLeaveInBlocks := by
  unfold Obligations.RepliesLeaveInBlocks
  intro s f x taken session port
  have frame := OpenFrame.of_taken session
  refine ⟨fun o b pages cmd obj attr status target other noFreeze value => ?_, fun cmd found => ?_⟩
  · have run := exec_row_taken (rowOf_get s.vol cmd) taken
    rw [process_session _ session (.inl cmd), runCommand_read _ cmd obj attr status, carryGet_reads _ _ target noFreeze,
      readObject_value _ other value] at run
    have read := notedPages_frame s.nv o pages (inSession f x s.vol)
    have slot : slotAt (notedPages s.nv o pages (inSession f x s.vol)) (f.session.toNat - 1) = some (runningSession f x s.vol) := by
      rw [slotAt, read.work_ex]
      exact inSession_slot x s.vol frame.mac
    have left := answer_slot f stOk b frame.mac slot frame.port frame.isOpen
    have sent : vget (answer f stOk b (notedPages s.nv o pages (inSession f x s.vol))).work.ex.replies 0 =
        some (afterAnswer f stOk b (runningSession f x s.vol)).lastReply := by
      rw [answer_session f stOk b frame.mac slot frame.port frame.isOpen]
      exact putReply_optical _ _ port
    have size : blockSize f.port = 1022 := by rw [port]; rfl
    have frames := answer_frame f stOk b (notedPages s.nv o pages (inSession f x s.vol))
    generalize answer f stOk b _ = u at run left sent frames
    refine ⟨_, _, run, rfl, frames.bak.trans (read.bak.trans (inSession_bak _ _ _)), ?_, left, rfl, ?_, ?_⟩
    · rw [State.up_vol, frames.only]
      exact read.work_obj.trans (inSession_obj _ _ _)
    · rw [← size]
      rfl
    · rw [← size]
      exact sent
  · have run := exec_row_taken (rowOf_next s.vol cmd) taken
    rw [process_dispatch _ frame, dispatchCmd_next _ _ cmd ((lookUp_seqTaken _ _ _ _).trans found),
      answerNext_session frame.mac (seqTaken_slot frame.mac) frame.port frame.isOpen] at run
    have frames : AnswerFrame (seqTaken f x s.vol)
        (putReply f (nextSession f (seqSession f x s.vol)).lastReply
          (putSlot (f.session.toNat - 1) (some (nextSession f (seqSession f x s.vol))) (seqTaken f x s.vol))) :=
      AnswerFrame.trans ⟨rfl⟩ (putReply_frame _ _ _)
    have slot := (slotAt_putReply f (nextSession f (seqSession f x s.vol)).lastReply _ _).trans
      (slotAt_putSlot (some (nextSession f (seqSession f x s.vol))) (seqTaken f x s.vol) (slot_lt_of_hasMac frame.mac))
    have sent := putReply_optical (nextSession f (seqSession f x s.vol)).lastReply
      (putSlot (f.session.toNat - 1) (some (nextSession f (seqSession f x s.vol))) (seqTaken f x s.vol)) port
    exact ⟨_, _, run, rfl, frames.bak.trans (seqTaken_bak _ _ _), frames.ret.trans (seqTaken_ret _ _ _), slot,
      nextSession_seq _ _, nextSession_blocks _ _, fun p rest blocks => sent.trans (congrArg some (nextSession_block f blocks)),
      fun blocks => sent.trans (congrArg some (nextSession_none f blocks))⟩

end Sys2Proof.Machine
end

section
/-! SUPPORT and PROOF of O49. The waits of the engine end their session, slot or lock-out; an ordered change begins; an availability
window closes (R407, R410, R411, R544, R551, R557, R558). -/

namespace Sys2Proof.Machine

theorem exec_sessionTimeout (n : Fin 4) (s : State) : exec (.sessionTimeout n) s = .next (s.up (sessionTimeout n.val s.vol)) := rfl
theorem exec_slotReserveTimeout (n : Fin 4) (s : State) :
    exec (.slotReserveTimeout n) s = .next (s.up (slotReserveTimeout n.val s.vol)) := rfl
theorem exec_lifecycleChange (i : StartIn) (s : State) : exec (.lifecycleChange i) s = .next (s.up (lifecycleChange s.nv i s.vol)) := rfl
theorem exec_availWindow (s : State) : exec .availWindow s = .next (s.up (availWindow s.vol)) := rfl

/-! ### Sessions and slots (R407, R410) -/

theorem slotAt_endSession (n : Nat) (s : Vol) : slotAt (endSession n s) = slotAt (putSlot n none s) := by
  funext m
  rw [slotAt, endSession_ex, slotAt]

theorem sessionTimeout_ends {n : Nat} {s : Vol} {x : Session} (slot : slotAt s n = some x) (isOpen : x.reserved = false)
    (due : 7680 ≤ (s.bak.count - x.lastTick).toNat) : sessionTimeout n s = endSession n s := by
  rw [sessionTimeout, slot]
  exact if_pos (by rw [isOpen, decide_eq_true due]; rfl)

theorem slotReserveTimeout_ends {n : Nat} {s : Vol} {x : Session} (slot : slotAt s n = some x) (reserved : x.reserved = true)
    (due : 640 ≤ (s.bak.count - x.lastTick).toNat) : slotReserveTimeout n s = putSlot n none s := by
  rw [slotReserveTimeout, slot]
  exact if_pos (by rw [reserved, decide_eq_true due]; rfl)

/-! ### A change begins (R544, R551) -/

theorem stagePages_logged (l : List Req) (s : Vol) : LogFrame (modChange (setLeft l.length) s) (stagePages l s) := by
  have pages := submitAll_frame (l.map ofChange) (modChange (setLeft (l.map ofChange).length) s)
  rw [List.length_map] at pages
  rw [stagePages, List.length_map]
  exact pages

/-- The change once its flush is on its way. -/
def flushing (c : Change) : Change := { c with stage := .flush, begun := true, left := 2 }

/-- A change begins with the flush, before anything of it is journalled. -/
theorem startChange_life (nv : Nv) (c : Change) (s : Vol) :
    (startChange nv c s).work.life = { s.work.life with change := some (flushing c) } := by
  have booked : (bookEvent s.bak.count s).work.life = s.work.life := by rw [(bookEvent_ledgerFrame s.bak.count s).only]
  unfold startChange
  dsimp only
  generalize bookEvent s.bak.count s = u at booked ⊢
  refine ((stagePages_logged _ _).work_life).trans ?_
  rw [← booked]
  rfl

theorem lifecycleChange_begins (nv : Nv) (i : StartIn) {s : Vol} {c : Change} (change : s.work.life.change = some c)
    (idle : c.begun = false) (core : coreRuns s = true) (may : changeMayBegin c s = true) :
    lifecycleChange nv i s = startChange nv { c with pins := i } s := by
  rw [lifecycleChange, change]
  simp [idle, core, may]

theorem lifecycleChange_waits (nv : Nv) (i : StartIn) {s : Vol} {c : Change} (change : s.work.life.change = some c)
    (wait : changeMayBegin c s = false) : lifecycleChange nv i s = s := by
  rw [lifecycleChange, change]
  simp [wait]

/-- While its reply waits and 100 ms have not passed, a change does not begin (R551). -/
theorem changeMayBegin_waiting {s : Vol} {c : Change} (via : c.via = some .optical)
    (reply : (vget s.work.ex.replies 0).isSome = true) (soon : (s.bak.count - c.since).toNat < 7) : changeMayBegin c s = false := by
  have waits : replyGone s .optical = false := by
    have some' : (vget s.work.ex.replies 0).isNone = false := by rw [← Option.not_isSome, reply]; rfl
    exact (congrArg (· && _) some').trans rfl
  rw [changeMayBegin, decide_eq_false (Nat.not_le.mpr soon), via]
  simp [waits]

/-! ### The availability window (R558) -/

theorem availWindow_closes {s : Vol} (due : 2018304000 ≤ s.ret.avail.elapsed.toNat) :
    (availWindow s).ret.avail =
      { elapsed := 0, lost := 0, lastLost := s.ret.avail.lost, windows := satInc s.ret.avail.windows, wresets := 0 } := by
  rw [availWindow, if_neg (Nat.not_lt.mpr due)]
  exact (logEvent_frame _ _ _ _).ret_avail

/-- Settles O49: each wait that is over ends what it bounds, the change begins with its flush (`startChange_life`), and the window
closes (`availWindow_closes`). -/
theorem sessionsLockoutsChangesAndWindowsEnd : Obligations.SessionsLockoutsChangesAndWindowsEnd := by
  unfold Obligations.SessionsLockoutsChangesAndWindowsEnd
  intro s
  refine ⟨fun n x slot isOpen due => ?_, fun n x slot reserved due => ?_, fun r t locked due => ?_,
    fun i c change idle core => ⟨fun may => ?_, fun via reply soon => ?_⟩, fun due => ?_⟩
  · have run := exec_sessionTimeout n s
    rw [sessionTimeout_ends slot isOpen due] at run
    refine ⟨_, run, rfl, (congrFun (slotAt_endSession n s.vol) n).trans (slotAt_putSlot _ _ n.isLt), endSession_bak _ _,
      fun m _ other => (congrFun (slotAt_endSession n s.vol) m).trans (slotAt_putSlot_ne _ _ (Ne.symm other))⟩
  · rw [exec_slotReserveTimeout, slotReserveTimeout_ends slot reserved due]
    rfl
  · have run : exec (.authLockoutEnd r) s = execAuthLockoutEnd r s := rfl
    rw [run, execAuthLockoutEnd]
    dsimp only
    rw [locked]
    exact if_pos due
  · have run := exec_lifecycleChange i s
    rw [lifecycleChange_begins s.nv i change idle core may] at run
    have life := startChange_life s.nv { c with pins := i } s.vol
    generalize startChange s.nv { c with pins := i } s.vol = u at run life
    refine ⟨_, run, rfl, congrArg (·.pending) life, congrArg (·.target) life, congrArg (·.state) life, ?_⟩
    rw [State.up_vol, life]
    simp [flushing]
  · rw [exec_lifecycleChange, lifecycleChange_waits s.nv i change (changeMayBegin_waiting via reply soon)]
    rfl
  · exact ⟨_, exec_availWindow s, rfl, availWindow_closes due⟩

end Sys2Proof.Machine
end

section
/-! SUPPORT. What leaves a port, and what the end of its sessions makes of the ports (R402, R430, R451). -/

namespace Sys2Proof.Machine

/-! ### The ports while sessions end -/

/-- Of the ports, s' differs from s in the loop-back at most. -/
structure PortsStand (s s' : Vol) : Prop where
  only : s'.work.pt = { s.work.pt with
    lbPending := s'.work.pt.lbPending
    lbResult := s'.work.pt.lbResult
    lbSession := s'.work.pt.lbSession }

theorem PortsStand.of_eq {s s' : Vol} (h : s'.work.pt = s.work.pt) : PortsStand s s' := ⟨by rw [h]⟩

theorem PortsStand.trans {a b c : Vol} (h : PortsStand a b) (k : PortsStand b c) : PortsStand a c :=
  ⟨by rw [k.only, h.only]⟩

theorem PortsStand.setNew {s s' : Vol} (h : PortsStand s s') : s'.work.pt.setNew = s.work.pt.setNew := by rw [h.only]
theorem PortsStand.mbAddr {s s' : Vol} (h : PortsStand s s') : s'.work.pt.mbAddr = s.work.pt.mbAddr := by rw [h.only]
theorem PortsStand.mbBaud {s s' : Vol} (h : PortsStand s s') : s'.work.pt.mbBaud = s.work.pt.mbBaud := by rw [h.only]
theorem PortsStand.rsAddr {s s' : Vol} (h : PortsStand s s') : s'.work.pt.rsAddr = s.work.pt.rsAddr := by rw [h.only]
theorem PortsStand.stream {s s' : Vol} (h : PortsStand s s') : s'.work.pt.stream = s.work.pt.stream := by rw [h.only]
theorem PortsStand.sentRate {s s' : Vol} (h : PortsStand s s') : s'.work.pt.sentRate = s.work.pt.sentRate := by rw [h.only]
theorem PortsStand.mbus {s s' : Vol} (h : PortsStand s s') : s'.work.pt.mbus = s.work.pt.mbus := by rw [h.only]

theorem endPortLoops_portsStand (n : Nat) (s : Vol) : PortsStand s (endPortLoops n s) := by
  unfold endPortLoops
  dsimp only
  split
  · exact PortsStand.trans (b := { s with
      work.pt.lbPending := s.work.pt.lbPending && s.work.pt.lbNextSession != n + 1
      work.pt.lbResult := 4
      work.pt.lbSession := 0 }) ⟨rfl⟩ (.of_eq (logG_work_pt _ _ _))
  · exact ⟨rfl⟩

theorem endLineLoops_portsStand (n : Nat) (s : Vol) : PortsStand s (endLineLoops n s) := by
  unfold endLineLoops
  dsimp only
  split
  · exact .of_eq (lineLoopResult_pt _ _)
  · exact .of_eq rfl

theorem endSession_portsStand (n : Nat) (s : Vol) : PortsStand s (endSession n s) := by
  unfold endSession
  dsimp only
  refine .trans ?_ (endLineLoops_portsStand n _)
  refine .trans ?_ (endPortLoops_portsStand n _)
  split <;> exact .of_eq rfl

theorem endSessionIf_portsStand (p : Nat → Session → Bool) (s : Vol) (n : Nat) : PortsStand s (endSessionIf p s n) := by
  unfold endSessionIf
  split
  · split
    · exact endSession_portsStand n s
    · exact .of_eq rfl
  · exact .of_eq rfl

/-- Sessions that end leave the ports, but for their loop-backs. -/
theorem endClosed_portsStand (p : Port) (s : Vol) : PortsStand s (endClosed p s) := by
  unfold endClosed
  rw [endSessionsIf_eq]
  exact (endSessionIf_portsStand _ _ 0).trans ((endSessionIf_portsStand _ _ 1).trans
    ((endSessionIf_portsStand _ _ 2).trans (endSessionIf_portsStand _ _ 3)))

theorem endClosed_ex (p : Port) (s : Vol) :
    (endClosed p s).work.ex = { s.work.ex with sessions := (endClosed p s).work.ex.sessions } := by
  rw [endClosed, ← endSessionsIf_ex]

theorem endClosed_sent (p : Port) (s : Vol) : (endClosed p s).work.ex.sent = s.work.ex.sent := by rw [endClosed_ex]
theorem endClosed_replies (p : Port) (s : Vol) : (endClosed p s).work.ex.replies = s.work.ex.replies := by rw [endClosed_ex]

/-- Without a session that closes nothing ends. -/
theorem endClosed_none {p : Port} {s : Vol} (h : ∀ n : Nat, n < 4 → ∀ x, slotAt s n = some x → x.closing = false) :
    endClosed p s = s :=
  endSessionsIf_none fun n hn x hx => by rw [h n hn x hx, Bool.false_and]

/-! ### Settings that a reply has answered (R451) -/

theorem takeSettings_takes {p : Port} {s : Vol} {l : List Int} (h : s.work.pt.setNew = some (p, l)) :
    (takeSettings p s).work.pt.setNew = none ∧ (takeSettings p s).work.pt.mbAddr = lget l 0 ∧
      (takeSettings p s).work.pt.mbBaud = lget l 1 ∧ (takeSettings p s).work.pt.rsAddr = lget l 2 ∧
      (takeSettings p s).work.pt.stream = lget l 3 := by
  rw [takeSettings, h]
  simp

theorem takeSettings_idle {p : Port} {s : Vol} (h : ∀ l, s.work.pt.setNew ≠ some (p, l)) : takeSettings p s = s := by
  unfold takeSettings
  split
  · next q l waiting => exact if_neg fun same => h l (by rw [waiting, same])
  · rfl

theorem takeSettings_sentRate (p : Port) (s : Vol) : (takeSettings p s).work.pt.sentRate = s.work.pt.sentRate := by
  unfold takeSettings
  split
  · split <;> rfl
  · rfl

theorem takeSettings_slotAt (p : Port) (s : Vol) : slotAt (takeSettings p s) = slotAt s := by
  funext n
  rw [slotAt, takeSettings_ex, slotAt]

/-! ### A reply leaves (R430) -/

/-- The state in which the bytes of a reply have left, before what follows. -/
def replySent (p : Port) (b : Bytes) (s : Vol) : Vol :=
  sendBytes p b { s with work.ex.replies := vset s.work.ex.replies (portIx p) none }

theorem replyLeft_eq (p : Port) (b : Bytes) (s : Vol) : replyLeft p b s = endClosed p (takeSettings p (replySent p b s)) := rfl

theorem portIx_lt (p : Port) : portIx p < 5 := by
  cases p <;> decide

theorem replyLeft_sent (p : Port) (b : Bytes) (s : Vol) : vget (replyLeft p b s).work.ex.sent (portIx p) = b := by
  rw [replyLeft_eq, endClosed_sent, takeSettings_ex]
  exact vget_vset_self _ _ (portIx_lt p)

theorem replyLeft_gone (p : Port) (b : Bytes) (s : Vol) : replyAt (replyLeft p b s) p = none := by
  rw [replyAt, replyLeft_eq, endClosed_replies, takeSettings_ex]
  exact vget_vset_self _ _ (portIx_lt p)

theorem replyLeft_led (p : Port) (b : Bytes) (s : Vol) : (replyLeft p b s).ret.led = s.ret.led := by
  rw [replyLeft_eq, (endClosed_valueStands _ _).led, takeSettings_ret]
  rfl

/-- With its reply the session of a CLOSE goes, and every other stays (R402). -/
theorem replyLeft_slotAt (p : Port) (b : Bytes) {s : Vol} {n : Nat} {x : Session} (hn : n < 4) (slot : slotAt s n = some x) :
    slotAt (replyLeft p b s) n = if x.closing = true ∧ x.port = p then none else some x := by
  have stands : slotAt (replySent p b s) n = some x := slot
  rw [replyLeft_eq, slotAt_endClosed _ _ hn, takeSettings_slotAt, stands, Option.filter_some]
  by_cases closed : x.closing = true ∧ x.port = p
  · simp [closed]
  · have stays : (!(x.closing && x.port == p)) = true := by
      rw [Bool.not_eq_true', Bool.and_eq_false_imp]
      exact fun closing => beq_eq_false_iff_ne.mpr fun port => closed ⟨closing, port⟩
    rw [if_neg closed, if_pos stays]

theorem replyLeft_sentRate (p : Port) (b : Bytes) (s : Vol) :
    vget (replyLeft p b s).work.pt.sentRate (portIx p) = portRate s p := by
  rw [replyLeft_eq, (endClosed_portsStand _ _).sentRate, takeSettings_sentRate]
  refine (vget_vset_self _ _ (portIx_lt p)).trans ?_
  cases p <;> rfl

theorem replyLeft_settings {p : Port} (b : Bytes) {s : Vol} {l : List Int} (h : s.work.pt.setNew = some (p, l)) :
    (replyLeft p b s).work.pt.setNew = none ∧ (replyLeft p b s).work.pt.mbAddr = lget l 0 ∧
      (replyLeft p b s).work.pt.mbBaud = lget l 1 ∧ (replyLeft p b s).work.pt.rsAddr = lget l 2 ∧
      (replyLeft p b s).work.pt.stream = lget l 3 := by
  have ends := endClosed_portsStand p (takeSettings p (replySent p b s))
  rw [replyLeft_eq, ends.setNew, ends.mbAddr, ends.mbBaud, ends.rsAddr, ends.stream]
  exact takeSettings_takes h

/-- Without a session that closes and without settings that wait, only the rate of the port is new. -/
theorem replyLeft_pt {p : Port} (b : Bytes) {s : Vol} (open_ : ∀ n : Nat, n < 4 → ∀ x, slotAt s n = some x → x.closing = false)
    (h : ∀ l, s.work.pt.setNew ≠ some (p, l)) :
    (replyLeft p b s).work.pt = { s.work.pt with sentRate := (replyLeft p b s).work.pt.sentRate } := by
  have stays : replyLeft p b s = replySent p b s := by
    have idle : takeSettings p (replySent p b s) = replySent p b s := takeSettings_idle h
    rw [replyLeft_eq, idle]
    exact endClosed_none open_
  rw [stays]
  rfl

theorem replyTransmit_leaves {p : Port} {s : Vol} {b : Bytes} (port : p = .optical ∨ p = .rs485) (core : coreRuns s = true)
    (reply : replyAt s p = some b) : replyTransmit p s = replyLeft p b s := by
  have own : (p == .optical || p == .rs485) = true := by simpa using port
  rw [replyTransmit, core, own, reply]
  rfl

theorem portRate_serial {p : Port} (s : Vol) (port : p = .optical ∨ p = .rs485) :
    portRate s p = if p = .optical then s.work.pt.optRate else rs485Rate s := by
  rcases port with rfl | rfl <;> rfl

theorem exec_replyTransmit (p : Port) (s : State) : exec (.replyTransmit p) s = .next (s.up (replyTransmit p s.vol)) := rfl

end Sys2Proof.Machine
end

section
/-! SUPPORT and PROOF of O50. Replies, silence, port loop-backs and pulses (R402, R430 to R454). -/

namespace Sys2Proof.Machine

/-! ### The pins of the serial ports in DOZE (R432, R439) -/

theorem ioPin_doze {s : Vol} (doze : s.bak.power.state = .doze) (supply : s.bak.power.iovddLow = false) (a b : PinOut) :
    ioPin s a b = b := by
  simp [ioPin, doze, supply]

theorem pinLevels_ne_nil (p : Port) {b : Bytes} (h : b ≠ []) : 0 < (pinLevels p b).length := by
  cases b with
  | nil => exact absurd rfl h
  | cons c rest => simp [pinLevels, charBits]

theorem de485Pin_sends {s : Vol} (doze : s.bak.power.state = .doze) (supply : s.bak.power.iovddLow = false) (n : Int)
    (sends : vget s.work.ex.sent 2 ≠ []) :
    de485Pin s (some n) =
      .of (decide (-1 ≤ n ∧ n ≤ ((pinLevels .rs485 (vget s.work.ex.sent 2)).length : Int))) := by
  have some_bits : (0 : Int) < (pinLevels .rs485 (vget s.work.ex.sent 2)).length := by
    exact_mod_cast pinLevels_ne_nil .rs485 sends
  rw [de485Pin, lowPin, ioPin_doze doze supply]
  exact congrArg PinOut.of (decide_eq_decide.mpr (and_iff_right some_bits))

/-! ### Loop-backs (R452, R453) -/

theorem prbs9_length (n : Nat) : (prbs9 n).length = n := by
  induction n with
  | zero => rfl
  | succ n ih => simp [prbs9, ih]

theorem loopErrors_le (s : Vol) (n : Nat) (back : List Bool) : loopErrors s n back ≤ n := by
  unfold loopErrors
  split
  · exact Nat.zero_le n
  · exact (List.length_filter_le _ _).trans_eq List.length_range

theorem loopErrors_digital {s : Vol} (h : s.work.pt.lbRun.toNat / 2 ^ 26 % 4 = 1) (n : Nat) (back : List Bool) :
    loopErrors s n back = 0 := if_pos h

/-- Bits that return as they were sent are no errors. -/
theorem loopErrors_same (s : Vol) (n : Nat) : loopErrors s n (prbs9 511).reverse = 0 := by
  unfold loopErrors
  split
  · rfl
  · simp

/-- Bits that do not return are errors. -/
theorem loopErrors_nil {s : Vol} (h : s.work.pt.lbRun.toNat / 2 ^ 26 % 4 ≠ 1) {n : Nat} (bound : n ≤ 511) :
    loopErrors s n [] = n := by
  have lost : ∀ i ∈ List.range n, (([] : List Bool)[i]? != (prbs9 511).reverse[i]?) = true := fun i hi => by
    have inside : i < (prbs9 511).reverse.length := by
      rw [List.length_reverse, prbs9_length]
      exact (List.mem_range.mp hi).trans_le bound
    rw [List.getElem?_eq_getElem inside]
    rfl
  rw [loopErrors, if_neg h]
  dsimp only
  rw [List.filter_eq_self.mpr lost, List.length_range]

/-- The state of a loop-back that has ended with a result. -/
def loopEnded (result : Nat) (bits : BitVec 16) (errors : Nat) (s : Vol) : Vol :=
  logG 0x0609 result
    { s with
      work.pt.lbResult := BitVec.ofNat 3 result
      work.pt.lbBits := bits
      work.pt.lbErrors := BitVec.ofNat 16 errors
      work.pt.lbSession := 0 }

theorem loopEnded_pt (result : Nat) (bits : BitVec 16) (errors : Nat) (s : Vol) :
    (loopEnded result bits errors s).work.pt = { s.work.pt with
      lbResult := BitVec.ofNat 3 result
      lbBits := bits
      lbErrors := BitVec.ofNat 16 errors
      lbSession := 0 } := logG_work_pt _ _ _

theorem loopEnded_bak (result : Nat) (bits : BitVec 16) (errors : Nat) (s : Vol) : (loopEnded result bits errors s).bak = s.bak :=
  logG_bak _ _ _

/-- A loop-back of a serial port ends with its 511 bits, or aborted. -/
theorem portLoopEnd_serial {bits : Nat} (back : List Bool) {aborted : Bool} {s : Vol} (runs : s.work.pt.lbResult = 1)
    (serial : s.work.pt.lbRun.toNat / 2 ^ 28 ≠ 4) (ends : aborted = true ∨ 511 ≤ bits) :
    portLoopEnd bits back aborted s =
      loopEnded (if aborted then 4 else if loopErrors s (min bits 511) back = 0 then 2 else 3) (BitVec.ofNat 16 (min bits 511))
        (loopErrors s (min bits 511) back) s := by
  have link : loopOnLink s = false := decide_eq_false serial
  have ended : ¬ (s.work.pt.lbResult ≠ 1 ∨ (!aborted && !(min bits 511 == 511)) = true) := by
    rw [runs]
    rcases ends with rfl | whole
    · simp
    · simp [Nat.min_eq_right whole]
  unfold portLoopEnd
  simp only [link, Bool.false_eq_true, if_false]
  rw [if_neg ended]
  rfl

theorem ofNat_result (aborted : Bool) (e : Nat) :
    BitVec.ofNat 3 (if aborted then 4 else if e = 0 then 2 else 3) = if aborted then 4 else if e = 0 then 2 else 3 := by
  cases aborted
  · by_cases h : e = 0 <;> simp [h]
  · rfl

/-- What a loop-back of a serial port reports. -/
theorem loopEnded_reports (bits : Nat) (back : List Bool) (aborted : Bool) (s : Vol) :
    let e := loopErrors s (min bits 511) back
    let u := loopEnded (if aborted then 4 else if e = 0 then 2 else 3) (BitVec.ofNat 16 (min bits 511)) e s
    u.work.pt.lbResult = (if aborted then 4 else if e = 0 then 2 else 3) ∧ u.work.pt.lbBits.toNat = min bits 511 ∧
      u.work.pt.lbErrors.toNat = e ∧ u.work.pt.lbSession = 0 ∧ (s.work.pt.lbRun.toNat / 2 ^ 26 % 4 = 1 → e = 0) ∧
      (back = (prbs9 511).reverse → e = 0) ∧ (s.work.pt.lbRun.toNat / 2 ^ 26 % 4 ≠ 1 → back = [] → e = min bits 511) := by
  have few : min bits 511 < 2 ^ 16 := (Nat.min_le_right _ _).trans_lt (by decide)
  have errors : loopErrors s (min bits 511) back < 2 ^ 16 := (loopErrors_le _ _ _).trans_lt few
  dsimp only
  rw [loopEnded_pt]
  refine ⟨ofNat_result _ _, ?_, ?_, rfl, fun digital => loopErrors_digital digital _ _, fun same => ?_, fun pin lost => ?_⟩
  · exact (BitVec.toNat_ofNat _ _).trans (Nat.mod_eq_of_lt few)
  · exact (BitVec.toNat_ofNat _ _).trans (Nat.mod_eq_of_lt errors)
  · rw [same]
    exact loopErrors_same _ _
  · rw [lost]
    exact loopErrors_nil pin (Nat.min_le_right _ _)

/-- Before its 511 bits a loop-back of a serial port runs on. -/
theorem portLoopEnd_early {bits : Nat} (back : List Bool) {s : Vol} (serial : s.work.pt.lbRun.toNat / 2 ^ 28 ≠ 4)
    (early : bits < 511) : portLoopEnd bits back false s = s := by
  have link : loopOnLink s = false := decide_eq_false serial
  unfold portLoopEnd
  simp only [link, Bool.false_eq_true, if_false]
  exact if_pos (.inr (by simp; omega))

/-- A loop-back on LINK ends with its 64 bytes, or aborted, and counts no error. -/
theorem portLoopEnd_link (bits : Nat) (back : List Bool) {aborted : Bool} {s : Vol} (runs : s.work.pt.lbResult = 1)
    (link : s.work.pt.lbRun.toNat / 2 ^ 28 = 4) (ends : aborted = true ∨ 512 ≤ s.work.pt.lbBits.toNat) :
    portLoopEnd bits back aborted s = loopEnded (if aborted then 4 else 2) s.work.pt.lbBits 0 s := by
  have onLink : loopOnLink s = true := decide_eq_true link
  have ended : ¬ (s.work.pt.lbResult ≠ 1 ∨ (!aborted && !decide (512 ≤ s.work.pt.lbBits.toNat)) = true) := by
    rw [runs]
    rcases ends with rfl | whole
    · simp
    · simp [whole]
  unfold portLoopEnd
  simp only [onLink, if_true]
  rw [if_neg ended]
  rfl

theorem portLoopStart_starts {s : Vol} (core : coreRuns s = true) (pending : s.work.pt.lbPending = true)
    (sent : loopReplySent s = true) (idle : s.work.pt.lbResult ≠ 1) :
    portLoopStart s = logG 0x0608 (s.work.pt.lbRequest.toNat / 2 ^ 28)
      { s with
        work.pt.lbPending := false
        work.pt.lbRun := s.work.pt.lbRequest
        work.pt.lbSession := s.work.pt.lbNextSession
        work.pt.lbResult := 1
        work.pt.lbBits := 0
        work.pt.lbErrors := 0
        work.pt.lbEcho := none } := by
  rw [portLoopStart, if_neg]
  simp only [core, pending, sent, Bool.not_true, Bool.false_or, beq_iff_eq]
  exact idle

theorem exec_portLoopbackStart (s : State) : exec .portLoopbackStart s = .next (s.up (portLoopStart s.vol)) := rfl
theorem exec_portLoopbackEnd (bits : Nat) (back : List Bool) (aborted : Bool) (s : State) :
    exec (.portLoopbackEnd bits back aborted) s = .next (s.up (portLoopEnd bits back aborted s.vol)) := rfl

/-! ### Silence and pulses (R430, R448) -/

theorem exec_frameSilenceTimeout {p : Port} {s : State} (port : p = .optical ∨ p = .mbus ∨ p = .rs485)
    (core : coreRuns s.vol = true) (inSet : portInSet s.vol p = true) :
    exec (.frameSilenceTimeout p) s = .next (s.up (noteTraffic p (discardFrame s.vol))) := by
  have run : exec (.frameSilenceTimeout p) s = execFrameSilenceTimeout p s := rfl
  have ends : [Port.optical, .mbus, .rs485].contains p = true := by simpa using port
  rw [run, execFrameSilenceTimeout, core, inSet, ends]
  rfl

theorem exec_pulseStart (p : PulseDue) (s : State) : exec (.pulseStart p) s = .next (s.up (pulseStart p.out p.released s.vol)) := rfl

theorem exec_pulseEnd_a (s : State) : exec (.pulseEnd .a) s = .next { s with vol.work.pt.pulseA.low := false } := rfl
theorem exec_pulseEnd_b (s : State) : exec (.pulseEnd .b) s = .next { s with vol.work.pt.pulseB.low := false } := rfl

theorem pulseStart_a {n : Nat} {s : Vol} (runs : pulsesRun s = true) (due : 164 ≤ n) (high : s.work.pt.pulseA.low = false)
    (waits : s.ret.pulseA.backlog ≠ 0) :
    pulseStart .a n s = { s with work.pt.pulseA.low := true, ret.pulseA.backlog := s.ret.pulseA.backlog - 1 } := by
  rw [pulseStart, if_neg (by simp [runs, due])]
  exact if_pos (by rw [high, bne_iff_ne.mpr waits]; rfl)

theorem pulseStart_b {n : Nat} {s : Vol} (runs : pulsesRun s = true) (due : 164 ≤ n) (high : s.work.pt.pulseB.low = false)
    (waits : s.ret.pulseB.backlog ≠ 0) :
    pulseStart .b n s = { s with work.pt.pulseB.low := true, ret.pulseB.backlog := s.ret.pulseB.backlog - 1 } := by
  rw [pulseStart, if_neg (by simp [runs, due])]
  exact if_pos (by rw [high, bne_iff_ne.mpr waits]; rfl)

theorem pulseStart_early (o : PulseOut) {n : Nat} (s : Vol) (early : n < 164) : pulseStart o n s = s :=
  if_pos (.inr early)

theorem pulseStart_low (n : Nat) {s : Vol} (low : s.work.pt.pulseA.low = true) : pulseStart .a n s = s := by
  unfold pulseStart
  split
  · rfl
  · exact if_neg (by simp [low])

/-- Settles O50: a reply that leaves takes its session and its settings along (`replyLeft_slotAt`, `replyLeft_settings`); the pins, the
loop-back and the pulses follow their own steps. -/
theorem portsReplyLoopBackAndPulse : Obligations.PortsReplyLoopBackAndPulse := by
  unfold Obligations.PortsReplyLoopBackAndPulse
  refine ⟨fun s => ⟨fun p b port core reply => ?_, fun i doze supply => ⟨fun idle => ?_, fun b sent => ?_, fun idle => ?_,
    fun n at_ sends => ?_⟩, fun p port core inSet => ?_, fun core pending sent idle => ?_, fun bits back aborted runs =>
    ⟨fun serial ends => ?_, fun serial early => ?_, fun link ends => ?_⟩⟩, fun s => ⟨fun n runs due high waits => ?_,
    fun n runs due high waits => ?_, fun o n idle => ?_, exec_pulseEnd_a s, exec_pulseEnd_b s⟩⟩
  · have run := exec_replyTransmit p s
    rw [replyTransmit_leaves port core reply] at run
    refine ⟨_, run, State.up_nv _ _, ?_⟩
    rw [State.up_vol]
    exact ⟨replyLeft_bak p b s.vol, replyLeft_led p b s.vol, replyLeft_sent p b s.vol, replyLeft_gone p b s.vol,
      fun n hn x slot => replyLeft_slotAt p b hn slot, fun l settings => replyLeft_settings b settings,
      (replyLeft_sentRate p b s.vol).trans (portRate_serial s.vol port),
      fun open_ => ⟨replyLeft_ret p b open_, fun none => replyLeft_pt b open_ none⟩⟩
  · rw [optxPin, lowPin, ioPin_doze doze supply, idle]
    rfl
  · rw [optxPin, lowPin, ioPin_doze doze supply, sent]
    rfl
  · subst idle
    rw [de485Pin, lowPin, ioPin_doze doze supply, txd485Pin, ioPin_doze doze supply]
    exact ⟨rfl, rfl⟩
  · rw [at_]
    exact de485Pin_sends doze supply n sends
  · rw [exec_frameSilenceTimeout port core inSet]
    rfl
  · rw [exec_portLoopbackStart, portLoopStart_starts core pending sent idle]
  · have run := exec_portLoopbackEnd bits back aborted s
    rw [portLoopEnd_serial back runs serial ends] at run
    refine ⟨_, run, State.up_nv _ _, ?_⟩
    rw [State.up_vol, loopEnded_bak]
    exact ⟨rfl, loopEnded_reports _ _ _ _⟩
  · rw [exec_portLoopbackEnd, portLoopEnd_early back serial early]
    rfl
  · have run := exec_portLoopbackEnd bits back aborted s
    rw [portLoopEnd_link bits back runs link ends] at run
    refine ⟨_, run, State.up_nv _ _, ?_⟩
    rw [State.up_vol, loopEnded_bak, loopEnded_pt]
    refine ⟨rfl, ?_, rfl, rfl, rfl⟩
    cases aborted <;> rfl
  · rw [exec_pulseStart, pulseStart_a runs due high waits]
    rfl
  · rw [exec_pulseStart, pulseStart_b runs due high waits]
    rfl
  · rw [exec_pulseStart]
    rcases idle with early | ⟨low, rfl⟩
    · rw [pulseStart_early o s.vol early]
      rfl
    · rw [pulseStart_low n low]
      rfl

end Sys2Proof.Machine
end

section
/-! SUPPORT. A frame that a port receives is no frame of the M-Bus link layer and none of a LINE context: the frame count of SND_UD, what
the ports have sent and what the contexts hold stand (R435, R437, R471). -/

namespace Sys2Proof.Machine

/-- The LINE context holds the same frame, owes the same reply and keeps its settings, and an empty queue stays empty. -/
structure CtxHeld (c c' : LineCtx) : Prop where
  frame : c'.frame = c.frame
  owed : c'.owed = c.owed
  inForce : c'.inForce = c.inForce
  queue : c.queue = [] → c'.queue = []

theorem CtxHeld.refl (c : LineCtx) : CtxHeld c c := ⟨rfl, rfl, rfl, id⟩

theorem CtxHeld.trans {a b c : LineCtx} (h : CtxHeld a b) (k : CtxHeld b c) : CtxHeld a c :=
  ⟨k.frame.trans h.frame, k.owed.trans h.owed, k.inForce.trans h.inForce, k.queue ∘ h.queue⟩

/-- The frame count of SND_UD, the bytes that the ports have sent and what the LINE contexts hold stand. -/
structure BusStands (s s' : Vol) : Prop where
  udFcb : s'.work.pt.mbus.udFcb = s.work.pt.mbus.udFcb
  sent : s'.work.ex.sent = s.work.ex.sent
  held : ∀ k, CtxHeld (lctx s k) (lctx s' k)

theorem BusStands.refl (s : Vol) : BusStands s s := ⟨rfl, rfl, fun _ => .refl _⟩

theorem BusStands.trans {a b c : Vol} (h : BusStands a b) (k : BusStands b c) : BusStands a c :=
  ⟨k.udFcb.trans h.udFcb, k.sent.trans h.sent, fun n => (h.held n).trans (k.held n)⟩

theorem BusStands.after {a b c : Vol} (k : BusStands b c) (h : BusStands a b) : BusStands a c := h.trans k

theorem BusStands.ite {c : Prop} [Decidable c] {s t u : Vol} (h : BusStands s t) (k : BusStands s u) :
    BusStands s (if c then t else u) := by
  split
  · exact h
  · exact k

theorem LogFrame.busStands {s s' : Vol} (h : LogFrame s s') : BusStands s s' := by
  rw [h.only]
  exact ⟨rfl, rfl, fun _ => .refl _⟩

theorem AnswerFrame.busStands {s s' : Vol} (h : AnswerFrame s s') : BusStands s s' := by
  rw [h.only]
  exact ⟨rfl, rfl, fun _ => .refl _⟩

theorem DrawFrame.busStands {s s' : Vol} (h : DrawFrame s s') : BusStands s s' := by
  rw [h.only]
  exact ⟨rfl, rfl, fun _ => .refl _⟩

theorem busStands_foldl {α : Type} {f : Vol → α → Vol} (h : ∀ s a, BusStands s (f s a)) (l : List α) (s : Vol) :
    BusStands s (l.foldl f s) := by
  induction l generalizing s with
  | nil => exact .refl s
  | cons a l ih => exact (h s a).trans (ih _)

/-! ### Answers and sessions -/

theorem answer_busStands (f : Frame) (status : Nat) (payload : Bytes) (s : Vol) : BusStands s (answer f status payload s) :=
  (answer_frame _ _ _ _).busStands

theorem answerPlain_busStands (f : Frame) (status : Nat) (payload : Bytes) (s : Vol) :
    BusStands s (answerPlain f status payload s) := (answerPlain_frame _ _ _ _).busStands

theorem answerAuthFail_busStands (f : Frame) (s : Vol) : BusStands s (answerAuthFail f s) := (putReply_frame _ _ _).busStands

theorem putSlot_busStands (n : Nat) (x : Option Session) (s : Vol) : BusStands s (putSlot n x s) := ⟨rfl, rfl, fun _ => .refl _⟩

theorem modSession_busStands (n : Byte) (g : Session → Session) (s : Vol) : BusStands s (modSession n g s) :=
  (modSession_frame n g s).busStands

theorem vset_held {v : Vector LineCtx 3} {i : Nat} {c : LineCtx} (h : CtxHeld (vget v i) c) (k : Nat) :
    CtxHeld (vget v k) (vget (vset v i c) k) := by
  obtain rfl | other := eq_or_ne i k
  · by_cases hi : i < 3
    · rw [vget_vset_self _ _ hi]
      exact h
    · simpa [vget, vset, Vector.getD, hi] using CtxHeld.refl _
  · rw [vget_vset_ne _ _ other]
    exact .refl _

theorem lineLoopDrop_held (s : Vol) (k : Nat) : CtxHeld (lctx s k) (lctx (lineLoopDrop s) k) := by
  unfold lineLoopDrop
  dsimp only
  split
  · exact .refl _
  · exact vset_held (c := { vget s.work.line.ctxs _ with queue := [], rest := [], pulses := [], pdHigh := false })
      ⟨rfl, rfl, rfl, fun _ => rfl⟩ k

theorem lineLoopResult_held (result : Nat) (s : Vol) (k : Nat) : CtxHeld (lctx s k) (lctx (lineLoopResult result s) k) := by
  have ended : CtxHeld (lctx s k) (lctx (lineLoopEnded result s) k) := by
    have dropped := lineLoopDrop_held s k
    rw [lctx, lctx] at dropped ⊢
    rw [lineLoopEnded_line]
    exact dropped
  rw [lineLoopResult_eq]
  generalize lineLoopEnded result s = u at ended ⊢
  split
  · refine ended.trans ?_
    rw [lctx, lctx, lineLoopStart_line]
    exact .refl _
  · exact ended

theorem endSession_held (n : Nat) (s : Vol) (k : Nat) : CtxHeld (lctx s k) (lctx (endSession n s) k) := by
  have line : ∀ u, CtxHeld (lctx u k) (lctx (endLineLoops n u) k) := fun u => by
    unfold endLineLoops
    dsimp only
    split
    · exact lineLoopResult_held 4 { u with work.line.lbPending := u.work.line.lbPending && u.work.line.lbNextSession != n + 1 } k
    · exact .refl _
  have port : ∀ u, CtxHeld (lctx u k) (lctx (endPortLoops n u) k) := fun u => by
    unfold endPortLoops
    dsimp only
    split
    · rw [lctx, lctx, logG_work_line]
      exact .refl _
    · exact .refl _
  unfold endSession
  dsimp only
  refine CtxHeld.trans ?_ ((port _).trans (line _))
  split <;> exact .refl _

theorem endSession_busStands (n : Nat) (s : Vol) : BusStands s (endSession n s) :=
  ⟨congrArg (·.udFcb) (endSession_portsStand n s).mbus, (congrArg Exchange.sent (endSession_ex n s)).trans rfl,
    endSession_held n s⟩

theorem endSessionIf_busStands (p : Nat → Session → Bool) (s : Vol) (n : Nat) : BusStands s (endSessionIf p s n) := by
  unfold endSessionIf
  split
  · exact .ite (endSession_busStands n s) (.refl s)
  · exact .refl s

theorem endClosed_busStands (p : Port) (s : Vol) : BusStands s (endClosed p s) := by
  unfold endClosed
  rw [endSessionsIf_foldl]
  exact busStands_foldl (fun s n => endSessionIf_busStands _ s n) _ s

/-! ### OPEN -/

theorem openStep1_busStands (nv : Nv) (f : Frame) (s : Vol) : BusStands s (openStep1 nv f s) := by
  have plain : ∀ status payload, BusStands s (answerPlain f status payload s) := fun _ _ => answerPlain_busStands _ _ _ _
  have reserves : ∀ r n key initial, BusStands s (reserveSlot nv f r n key initial s) := fun r n key initial =>
    .after (reserveSlot_frame nv f r n key initial s).busStands ⟨rfl, rfl, fun _ => .refl _⟩
  unfold openStep1
  refine .ite (plain _ _) ?_
  split
  · exact plain _ _
  · refine .ite (plain _ _) (.ite (plain _ _) (.ite (plain _ _) ?_))
    split
    · exact plain _ _
    · dsimp only
      split
      · exact plain _ _
      · exact .ite (plain _ _) (reserves _ _ _ _)

theorem openFailed_busStands (r : Role) (s : Vol) : BusStands s (openFailed r s) := by
  unfold openFailed
  dsimp only
  refine .ite ?_ ?_
  · exact .after (logG_frame _ _ _).busStands ((limG_frame _ _ _ s).busStands.trans ⟨rfl, rfl, fun _ => .refl _⟩)
  · exact (limG_frame _ _ _ s).busStands.trans ⟨rfl, rfl, fun _ => .refl _⟩

theorem opened_busStands (f : Frame) (x : Session) (s : Vol) : BusStands s (opened f x s) :=
  .after (opened_logged f x s).busStands ⟨rfl, rfl, fun _ => .refl _⟩

theorem openStep2_busStands (nv : Nv) (f : Frame) (x : Session) (s : Vol) : BusStands s (openStep2 nv f x s) := by
  have freed := putSlot_busStands (f.session.toNat - 1) none s
  unfold openStep2
  dsimp only
  refine .ite (freed.trans (answerAuthFail_busStands _ _)) (.ite ?_ (.ite (freed.trans (answerAuthFail_busStands _ _)) ?_))
  · exact (freed.trans (openFailed_busStands _ _)).trans (answerAuthFail_busStands _ _)
  · exact (opened_busStands f x s).trans (answer_busStands _ _ _ _)

/-! ### Reads -/

theorem readObject_busStands (nv : Nv) (f : Frame) (o : Obj) (s : Vol) : BusStands s (readObject nv f o s) := by
  unfold readObject
  extract_lets stale _ _ counted
  have aged : BusStands s counted := .ite ⟨rfl, rfl, fun _ => .refl _⟩ (.refl s)
  refine aged.trans ?_
  clear_value counted
  split
  · exact answer_busStands _ _ _ _
  · exact answer_busStands _ _ _ _
  · exact .after (answer_busStands _ _ _ _) (notedPages_frame nv o _ counted).busStands

theorem retryLater_busStands (f : Frame) (s : Vol) : BusStands s (retryLater f s) := ⟨rfl, rfl, fun _ => .refl _⟩

theorem carryGet_busStands (nv : Nv) (f : Frame) (o : Obj) (s : Vol) : BusStands s (carryGet nv f o s) := by
  have waits : BusStands s (readWaits f s) := .ite (answer_busStands _ _ _ _) ⟨rfl, rfl, fun _ => .refl _⟩
  exact .ite (retryLater_busStands f s) (.ite ⟨rfl, rfl, fun _ => .refl _⟩ (.ite waits (readObject_busStands nv f o s)))

/-! ### Writes -/

theorem startWrite_busStands (nv : Nv) (f : Frame) (v : ObjVal) (reqs : List Req) (clamps : List (BitVec 64)) (clamped : Bool)
    (s : Vol) : BusStands s (startWrite nv f v reqs clamps clamped s) := by
  have begins : ∀ u, LogFrame s u → BusStands s
      (submitAll reqs { mergeReads nv reqs u with
        work.ex.inHand := some { frame := f, clamps, clamped, await := .write v reqs.length false } }) := fun u drained =>
    .after (submitAll_frame reqs _).busStands ((drained.trans (mergeReads_frame nv reqs u)).busStands.trans ⟨rfl, rfl, fun _ => .refl _⟩)
  unfold startWrite
  refine .ite (answer_busStands _ _ _ _) ?_
  dsimp only
  split
  · exact begins _ (drainRecord_frame _ s)
  · exact begins _ (.refl s)

theorem carryOut_busStands (nv : Nv) (f : Frame) (r : Role) (out : SetOut) (s : Vol) : BusStands s (carryOut nv f r out s) := by
  unfold carryOut
  split
  · exact answer_busStands _ _ _ _
  · exact answer_busStands _ _ _ _
  · refine .ite (retryLater_busStands f s) ?_
    split
    · exact .after (logLimited_frame _ _ _ _ _).busStands (answer_busStands _ _ _ _)
    · exact startWrite_busStands _ _ _ _ _ _ _

theorem setNotes_busStands (nv : Nv) (f : Frame) (s : Vol) : BusStands s (setNotes nv f s) :=
  .ite (answer_busStands _ _ _ _) (.ite (retryLater_busStands f s) (startWrite_busStands _ _ _ _ _ _ _))

theorem vget_out {α : Type} [Inhabited α] {n i : Nat} (v : Vector α n) (h : ¬ i < n) : vget v i = default := by
  simp [vget, Vector.getD, Array.getD, h]

theorem touchPolls_busStands (n k : Nat) (s : Vol) : BusStands s (touchPolls n k s) := by
  refine ⟨rfl, rfl, fun j => ?_⟩
  unfold touchPolls lctx
  dsimp only
  by_cases hj : j < 3
  · rw [vget_map _ _ hj]
    exact ⟨rfl, rfl, rfl, id⟩
  · rw [vget_out _ hj, vget_out _ hj]
    exact .refl _

theorem setRoster_busStands (nv : Nv) (f : Frame) (s : Vol) : BusStands s (setRoster nv f s) := by
  refine .ite (answer_busStands _ _ _ _) (.ite (retryLater_busStands f s) (.ite ?_ (startWrite_busStands _ _ _ _ _ _ _)))
  exact (startWrite_busStands _ _ _ _ _ _ s).trans (touchPolls_busStands _ _ _)

theorem setClock_busStands (f : Frame) (r : Role) (s : Vol) : BusStands s (setClock f r s) :=
  .ite (answer_busStands _ _ _ _) (.ite (answer_busStands _ _ _ _) ⟨rfl, rfl, fun _ => .refl _⟩)

/-! ### The control object -/

theorem lineLoopStart_busStands (session : Nat) (request : BitVec 32) (s : Vol) : BusStands s (lineLoopStart session request s) :=
  .after (logG_frame _ _ _).busStands ⟨rfl, rfl, fun _ => .refl _⟩

theorem acousticAccept_busStands (f : Frame) (x : Nat) (s : Vol) : BusStands s (acousticAccept f x s) :=
  .ite ⟨rfl, rfl, fun _ => .refl _⟩ ⟨rfl, rfl, fun _ => .refl _⟩

theorem controlAccept_busStands (f : Frame) (e x : Nat) (s : Vol) : BusStands s (controlAccept f e x s) := by
  unfold controlAccept
  split
  · exact acousticAccept_busStands _ _ _
  · exact .ite ⟨rfl, rfl, fun _ => .refl _⟩ ⟨rfl, rfl, fun _ => .refl _⟩
  · exact .ite ⟨rfl, rfl, fun _ => .refl _⟩ (.ite ⟨rfl, rfl, fun _ => .refl _⟩ (.after (lineLoopStart_busStands _ _ _) ⟨rfl, rfl, fun _ => .refl _⟩))
  · exact .ite ⟨rfl, rfl, fun _ => .refl _⟩ ⟨rfl, rfl, fun _ => .refl _⟩
  · exact .refl s

theorem setControl_busStands (f : Frame) (s : Vol) : BusStands s (setControl f s) := by
  unfold setControl
  split
  · exact answer_busStands _ _ _ _
  · split
    · exact answer_busStands _ _ _ _
    · have accepted := busStands_foldl (fun s (p : Nat × Nat) => controlAccept_busStands f p.1 p.2 s)
      dsimp only
      refine .ite ?_ ?_ <;>
      · refine .after (answer_busStands _ _ _ _) ((accepted _ s).trans ⟨rfl, rfl, fun _ => .refl _⟩)

theorem carrySet_busStands (nv : Nv) (f : Frame) (r : Role) (o : Obj) (s : Vol) : BusStands s (carrySet nv f r o s) := by
  unfold carrySet
  split
  · exact setControl_busStands f s
  · exact setClock_busStands f r s
  · exact setNotes_busStands nv f s
  · exact setRoster_busStands nv f s
  · exact carryOut_busStands nv f r _ s

/-! ### Actions -/

theorem refuseAction_busStands (f : Frame) (which st : Nat) (s : Vol) : BusStands s (refuseAction f which st s) :=
  .after (answer_busStands _ _ _ _) (logEvent_frame _ _ _ _).busStands

theorem sealAct_busStands (f : Frame) (r : Role) (s : Vol) : BusStands s (sealAct f r s) :=
  .ite (answer_busStands _ _ _ _) (.ite (refuseAction_busStands _ _ _ _) (.ite (refuseAction_busStands _ _ _ _)
    ((answer_busStands _ _ _ s).trans ⟨rfl, rfl, fun _ => .refl _⟩)))

theorem retireAct_busStands (f : Frame) (r : Role) (s : Vol) : BusStands s (retireAct f r s) :=
  .ite (answer_busStands _ _ _ _) (.ite (refuseAction_busStands _ _ _ _) (.ite (refuseAction_busStands _ _ _ _)
    ((answer_busStands _ _ _ s).trans ⟨rfl, rfl, fun _ => .refl _⟩)))

theorem countClear_busStands (nv : Nv) (f : Frame) (n : Nat) (s : Vol) : BusStands s (countClear nv f n s) :=
  .ite (answer_busStands _ _ _ _) (.after (answer_busStands _ _ _ _) (.after (logG_frame _ _ _).busStands
    (.after (writeCounts_frame nv _).busStands ⟨rfl, rfl, fun _ => .refl _⟩)))

theorem countWrong_busStands (nv : Nv) (result : Nat) (s : Vol) : BusStands s (countWrong nv result s) := by
  have counted : BusStands s (limG 0x0901 0xFF result { s with ret.pre.wrong := s.ret.pre.wrong + 1 }) :=
    .after (limG_frame _ _ _ _).busStands ⟨rfl, rfl, fun _ => .refl _⟩
  unfold countWrong
  dsimp only
  refine .ite (counted.trans ?_) counted
  exact .after (writeCounts_frame nv _).busStands (.after (logG_frame _ _ _).busStands ⟨rfl, rfl, fun _ => .refl _⟩)

theorem submitToken_busStands (nv : Nv) (byAction : Bool) (ds : List Nat) (s : Vol) :
    BusStands s (submitToken nv byAction ds s).1 := by
  by_cases accepted : tokenResult nv s (tokenNumber ds) = 0
  · rw [submitToken_acceptance byAction accepted]
    exact .after (submit_frame _ _).busStands ⟨rfl, rfl, fun _ => .refl _⟩
  · rw [submitToken_refusal byAction accepted]
    have logged : ∀ r n u, BusStands u (refusalLogged r n u) := fun r n u =>
      .ite (.refl u) (.after (submit_frame _ _).busStands ⟨rfl, rfl, fun _ => .refl _⟩)
    have counted : ∀ r u, BusStands u (refusalCounted nv r u) := fun r u => .ite (countWrong_busStands nv r u) (.refl u)
    exact ((logged _ _ s).trans (counted _ _)).trans ⟨rfl, rfl, fun _ => .refl _⟩

theorem tokenAct_busStands (nv : Nv) (f : Frame) (s : Vol) : BusStands s (tokenAct nv f s) := by
  unfold tokenAct
  split
  · exact answer_busStands _ _ _ _
  · split
    · exact answer_busStands _ _ _ _
    · next ds _ =>
      have submitted := submitToken_busStands nv true ds s
      dsimp only
      split
      · next u r known =>
        rw [known] at submitted
        exact .after (answer_busStands _ _ _ _) (submitted.trans (.ite (.refl u) (fullDraw_drawFrame u).busStands))
      · next u known =>
        rw [known] at submitted
        exact submitted.trans ⟨rfl, rfl, fun _ => .refl _⟩

theorem carryAct_busStands (nv : Nv) (f : Frame) (r : Role) (o : Obj) (s : Vol) : BusStands s (carryAct nv f r o s) := by
  unfold carryAct
  split
  · split
    · exact sealAct_busStands f r s
    · exact retireAct_busStands f r s
    · exact answer_busStands _ _ _ _
  · exact countClear_busStands nv f _ s
  · exact tokenAct_busStands nv f s
  · exact answer_busStands _ _ _ _

/-! ### The frame -/

theorem runCommand_busStands (nv : Nv) (f : Frame) (r : Role) (s : Vol) : BusStands s (runCommand nv f r s) := by
  have answers : ∀ status payload, BusStands s (answer f status payload s) := fun _ _ => answer_busStands _ _ _ _
  unfold runCommand
  split
  · exact answers _ _
  · refine .ite (answers _ _) (.ite ?_ (.ite ?_ ?_))
    · split
      · exact answers _ _
      · exact carryGet_busStands nv f _ s
    · split
      · exact answers _ _
      · exact carrySet_busStands nv f r _ s
    · split
      · exact .ite (answers _ _) (.ite (refuseAction_busStands _ _ _ _) (answers _ _))
      · exact carryAct_busStands nv f r _ s

theorem answerNext_busStands (f : Frame) (s : Vol) : BusStands s (answerNext f s) := by
  unfold answerNext
  split
  · split
    · exact .after (putReply_frame _ _ _).busStands (modSession_busStands _ _ s)
    · exact .after (putReply_frame _ _ _).busStands (modSession_busStands _ _ s)
  · exact answerPlain_busStands _ _ _ _

theorem answerClose_busStands (f : Frame) (s : Vol) : BusStands s (answerClose (answer f stOk []) f s) := by
  have answered : BusStands s (answer f stOk [] (modSession f.session (fun x => { x with closing := true }) s)) :=
    .after (answer_busStands _ _ _ _) (modSession_busStands _ _ s)
  exact .ite (answered.trans (endClosed_busStands _ _)) answered

theorem dispatchCmd_busStands (nv : Nv) (f : Frame) (r : Role) (s : Vol) : BusStands s (dispatchCmd nv f r s) := by
  have runs := (modSession_busStands f.session (fun x => { x with blocks := [], block := 1 }) s).trans
    (runCommand_busStands nv f r _)
  have looks : BusStands s (match lookUp nv f s with
      | some st => answer f st [] s
      | none =>
        if f.cmd = 6 then answerNext f s
        else if f.cmd = 2 ∧ f.session ≠ 0 then answerClose (answer f stOk []) f s
        else answer f stRefused [] s) := by
    split
    · exact answer_busStands _ _ _ _
    · exact .ite (answerNext_busStands f s) (.ite (answerClose_busStands f s) (answer_busStands _ _ _ _))
  unfold dispatchCmd
  split
  · exact runs
  · exact runs
  · exact runs
  · exact looks
  · exact looks
  · exact looks
  · exact answer_busStands _ _ _ _

theorem macFailed_busStands (f : Frame) (x : Session) (s : Vol) : BusStands s (macFailed f x s) := by
  refine .after (answerAuthFail_busStands f _) (.ite ?_ (putSlot_busStands _ _ s))
  exact .after (limG_frame _ _ _ _).busStands (endSession_busStands _ s)

theorem sessionFrame_busStands (nv : Nv) (f : Frame) (x : Session) (s : Vol) : BusStands s (sessionFrame nv f x s) := by
  have taken := fun y => putSlot_busStands (f.session.toNat - 1) (some y) s
  exact .ite (macFailed_busStands f x s) (.ite (.after (putReply_frame _ _ _).busStands (taken _))
    (.ite (.after (answerPlain_busStands _ _ _ _) (taken _)) (.after (dispatchCmd_busStands nv f _ _) (taken _))))

theorem process_busStands (nv : Nv) (f : Frame) (s : Vol) : BusStands s (process nv f s) := by
  unfold process
  refine .ite (.ite (openStep1_busStands nv f s) (dispatchCmd_busStands nv f .pub s)) ?_
  split
  · exact answerAuthFail_busStands f s
  · refine .ite (.ite (openStep2_busStands nv f _ s) ?_) (sessionFrame_busStands nv f _ s)
    exact .after (answerAuthFail_busStands f _) (putSlot_busStands _ _ s)

theorem receive_busStands (nv : Nv) (f : Frame) (s : Vol) : BusStands s (receive nv f s) := by
  have noted : BusStands s (noteTraffic f.port s) := ⟨rfl, rfl, fun _ => .refl _⟩
  unfold receive
  refine .ite (.refl s) (noted.trans ?_)
  generalize noteTraffic f.port s = u
  dsimp only
  refine .ite (.refl u) (.ite ⟨rfl, rfl, fun _ => .refl _⟩ ?_)
  have rated : BusStands u (takeOptRate f u) := .ite ⟨rfl, rfl, fun _ => .refl _⟩ (.refl u)
  refine rated.trans ?_
  generalize takeOptRate f u = v
  have tunnelled : BusStands v (if f.port = .mbus then { v with work.pt.mbus.tunnel := true } else v) :=
    .ite ⟨rfl, rfl, fun _ => .refl _⟩ (.refl v)
  refine tunnelled.trans ?_
  generalize (if f.port = .mbus then { v with work.pt.mbus.tunnel := true } else v) = w
  exact .ite ⟨rfl, rfl, fun _ => .refl _⟩ (process_busStands nv f w)

end Sys2Proof.Machine
end

section
/-! SUPPORT and PROOF of O51. The link layer of M-Bus (R434 to R437, R526). -/

namespace Sys2Proof.Machine

theorem exec_mbusSndNke (d : MbusTo) (s : State) : exec (.mbusSndNke d) s = .next (s.up (mbusTake d (mbusNke d.addr) s.vol)) := rfl
theorem exec_mbusReqUd2 (d : MbusTo) (c : FrameCount) (s : State) :
    exec (.mbusReqUd2 d c) s = .next (s.up (mbusTake d (mbusReq s.nv d.addr c) s.vol)) := rfl
theorem exec_mbusSelect (p : Selection) (s : State) : exec (.mbusSelect p) s = .next (s.up (mbusSelect s.nv p s.vol)) := rfl
theorem exec_mbusBaudTimeout (s : State) : exec .mbusBaudTimeout s = .next (s.up (mbusBaudTimeout s.vol)) := rfl

theorem exec_mbusSndUd {d : MbusTo} {c : FrameCount} {f : Frame} (s : State) (length : f.data.length ≤ 233) :
    exec (.mbusSndUd d c 0xA5 f) s = .next (s.up (mbusTake d (mbusUd s.nv d.addr c f) s.vol)) := by
  have run : exec (.mbusSndUd d c 0xA5 f) s = execMbusSndUd d c 0xA5 f s := rfl
  rw [run, execMbusSndUd, if_pos ⟨rfl, length⟩]

theorem exec_mbusBaudSwitch (d : MbusTo) {ud : UdHead} (s : State) (low : 0xB8 ≤ ud.ci.toNat) (high : ud.ci.toNat ≤ 0xBD) :
    exec (.mbusBaudSwitch d ud) s = .next (s.up (mbusTake d (mbusBaud d.addr ud) s.vol)) := by
  have run : exec (.mbusBaudSwitch d ud) s = execMbusBaudSwitch d ud s := rfl
  rw [run, execMbusBaudSwitch, if_pos ⟨low, high⟩]

/-! ### A frame arrives (R429, R434, R526) -/

/-- The state in which a frame for the device is carried out. -/
def mbusMet (s : Vol) : Vol :=
  { s with work.ex.lastTraffic := vset s.work.ex.lastTraffic 1 (some s.bak.count), work.pt.mbus.lastValid := s.bak.count }

section
variable {s : Vol} (d : MbusTo) (g : Vol → Vol)

theorem mbusTake_unheard (deaf : mbusHears s d.bitNs = false) : mbusTake d g s = s := by
  rw [mbusTake, deaf, Bool.not_false, Bool.or_true, if_pos rfl]

variable {d} (up : mbusUp s = true) (hears : mbusHears s d.bitNs = true) (free : portLooped s .mbus = false)
include up hears free

theorem mbusTake_heard : mbusTake d g s = if mbusMine s d.addr then g (mbusMet s) else noteTraffic .mbus s := by
  have heard : ¬ (!mbusUp s || !mbusHears s d.bitNs) = true := by rw [up, hears]; decide
  have unlooped : ¬ portLooped (noteTraffic .mbus s) .mbus = true := by
    change ¬ portLooped s .mbus = true
    rw [free]
    decide
  rw [mbusTake, if_neg heard]
  dsimp only
  rw [if_neg unlooped]
  rfl

theorem mbusTake_other (other : mbusMine s d.addr = false) : mbusTake d g s = noteTraffic .mbus s := by
  rw [mbusTake_heard g up hears free, other]
  rfl

theorem mbusTake_mine (mine : mbusMine s d.addr = true) : mbusTake d g s = g (mbusMet s) := by
  rw [mbusTake_heard g up hears free, mine]
  rfl

end

/-! ### The acknowledgement -/

/-- The acknowledgement touches only what the port sends. -/
theorem mbusAck_only (addr : Byte) (s : Vol) : mbusAck addr s = { s with
    work.pt.sentRate := (mbusAck addr s).work.pt.sentRate
    work.ex.sent := (mbusAck addr s).work.ex.sent
    work.ex.lastTraffic := (mbusAck addr s).work.ex.lastTraffic } := by
  unfold mbusAck
  split <;> rfl

theorem mbusAck_sent (addr : Byte) (s : Vol) :
    vget (mbusAck addr s).work.ex.sent 1 = if addr = 255 then vget s.work.ex.sent 1 else [0xE5] := by
  unfold mbusAck
  split
  · rfl
  · exact vget_vset_self _ _ (by decide)

theorem mbusAck_mbus (addr : Byte) (s : Vol) : (mbusAck addr s).work.pt.mbus = s.work.pt.mbus := by rw [mbusAck_only]
theorem mbusAck_replies (addr : Byte) (s : Vol) : (mbusAck addr s).work.ex.replies = s.work.ex.replies := by rw [mbusAck_only]
theorem mbusAck_bak (addr : Byte) (s : Vol) : (mbusAck addr s).bak = s.bak := by rw [mbusAck_only]
theorem mbusAck_ret (addr : Byte) (s : Vol) : (mbusAck addr s).ret = s.ret := by rw [mbusAck_only]

/-! ### SND_NKE -/

/-- The link starts afresh (EN 13757-2). -/
def nkeCleared (addr : Byte) (s : Vol) : Vol :=
  { s with
    work.pt.mbus.fcb := none
    work.pt.mbus.udFcb := none
    work.pt.mbus.tunnel := false
    work.pt.mbus.lastResponse := []
    work.pt.mbus.selected := s.work.pt.mbus.selected && addr != 253
    work.ex.replies := vset s.work.ex.replies 1 none }

theorem mbusNke_eq (addr : Byte) (s : Vol) : mbusNke addr s = mbusAck addr (endClosed .mbus (nkeCleared addr s)) := rfl

theorem mbusNke_mbus (addr : Byte) (s : Vol) : (mbusNke addr s).work.pt.mbus = (nkeCleared addr s).work.pt.mbus := by
  rw [mbusNke_eq, mbusAck_mbus, (endClosed_portsStand _ _).mbus]

theorem mbusNke_bak (addr : Byte) (s : Vol) : (mbusNke addr s).bak = s.bak := by
  rw [mbusNke_eq, mbusAck_bak, (endClosed_valueStands _ _).bak]
  rfl

theorem mbusNke_led (addr : Byte) (s : Vol) : (mbusNke addr s).ret.led = s.ret.led := by
  rw [mbusNke_eq, mbusAck_ret, (endClosed_valueStands _ _).led]
  rfl

theorem mbusNke_reply (addr : Byte) (s : Vol) : replyAt (mbusNke addr s) .mbus = none := by
  have replies : (mbusNke addr s).work.ex.replies = (nkeCleared addr s).work.ex.replies := by
    rw [mbusNke_eq, mbusAck_replies, endClosed_replies]
  rw [replyAt, replies]
  exact vget_vset_self _ _ (by decide)

theorem mbusNke_sent (addr : Byte) (s : Vol) :
    vget (mbusNke addr s).work.ex.sent 1 = if addr = 255 then vget s.work.ex.sent 1 else [0xE5] := by
  have sent : (endClosed .mbus (nkeCleared addr s)).work.ex.sent = s.work.ex.sent := endClosed_sent _ _
  rw [mbusNke_eq, mbusAck_sent addr (endClosed .mbus (nkeCleared addr s)), sent]

/-! ### REQ_UD2 (R435 to R437) -/

/-- The same response again. -/
theorem mbusReq_repeats (nv : Nv) {addr : Byte} {fcb : Bool} {s : Vol} (own : addr ≠ 255) (same : s.work.pt.mbus.fcb = some fcb)
    (last : s.work.pt.mbus.lastResponse ≠ []) :
    mbusReq nv addr ⟨fcb, true⟩ s = sendBytes .mbus s.work.pt.mbus.lastResponse s := by
  rw [mbusReq, if_neg own, if_pos]
  exact ⟨rfl, same, by simpa using last⟩

/-- The state in which a new response is formed: the frame count is taken, and the access number has risen. -/
def mbusAsked (c : FrameCount) (s : Vol) : Vol :=
  { s with
    work.pt.mbus.fcb := if c.fcv then some c.fcb else s.work.pt.mbus.fcb
    work.pt.mbus.access := s.work.pt.mbus.access + 1 }

/-- A response leaves, and is kept for its repetition. -/
def mbusPut (b : Bytes) (s : Vol) : Vol := sendBytes .mbus b { s with work.pt.mbus.lastResponse := b }

/-- A new response. -/
def mbusNew (nv : Nv) (s : Vol) : Vol :=
  if s.work.pt.mbus.tunnel then
    match replyAt s .mbus with
    | some b => mbusPut (ft12 s 0xA5 b) (replyLeft .mbus (ft12 s 0xA5 b) { s with work.pt.mbus.tunnel := false })
    | none => mbusPut (ft12 s 0xA5 []) s
  else mbusPut (dataResponse nv s) s

theorem mbusRespond_eq (nv : Nv) (s : Vol) :
    mbusRespond nv s = mbusNew nv { s with work.pt.mbus.access := s.work.pt.mbus.access + 1 } := by
  unfold mbusRespond
  extract_lets _ _ _ u put
  change _ = mbusNew nv u
  have puts : put = fun v b => mbusPut b v := rfl
  clear_value u
  rw [puts]
  unfold mbusNew
  cases replyAt u .mbus <;> rfl

theorem mbusReq_new (nv : Nv) {addr : Byte} {c : FrameCount} {s : Vol} (own : addr ≠ 255)
    (new : ¬ (c.fcv = true ∧ s.work.pt.mbus.fcb = some c.fcb ∧ s.work.pt.mbus.lastResponse ≠ [])) :
    mbusReq nv addr c s = mbusNew nv (mbusAsked c s) := by
  have fresh : ¬ (c.fcv = true ∧ s.work.pt.mbus.fcb = some c.fcb ∧ (!s.work.pt.mbus.lastResponse.isEmpty) = true) := by
    simpa using new
  have asked : mbusAsked c s =
      { (if c.fcv then { s with work.pt.mbus.fcb := some c.fcb } else s) with
        work.pt.mbus.access := s.work.pt.mbus.access + 1 } := by
    unfold mbusAsked
    cases c.fcv <;> rfl
  have access : (if c.fcv then { s with work.pt.mbus.fcb := some c.fcb } else s).work.pt.mbus.access = s.work.pt.mbus.access := by
    cases c.fcv <;> rfl
  rw [mbusReq, if_neg own, if_neg fresh, asked, ← access]
  exact mbusRespond_eq nv _

theorem mbusPut_sent (b : Bytes) (s : Vol) : vget (mbusPut b s).work.ex.sent 1 = b := vget_vset_self _ _ (by decide)

/-- What every new response leaves of the link. -/
structure MbusResponded (s t : Vol) : Prop where
  bak : t.bak = s.bak
  led : t.ret.led = s.ret.led
  fcb : t.work.pt.mbus.fcb = s.work.pt.mbus.fcb
  access : t.work.pt.mbus.access = s.work.pt.mbus.access
  last : t.work.pt.mbus.lastResponse = vget t.work.ex.sent 1

theorem mbusPut_responded (b : Bytes) (s : Vol) : MbusResponded s (mbusPut b s) :=
  ⟨rfl, rfl, rfl, rfl, (mbusPut_sent b s).symm⟩

theorem takeSettings_mbus (p : Port) (s : Vol) :
    (takeSettings p s).work.pt.mbus = { s.work.pt.mbus with rate := (takeSettings p s).work.pt.mbus.rate } := by
  unfold takeSettings
  split
  · split <;> rfl
  · rfl

/-- With a reply the rate of M-Bus alone may change (R434, R451). -/
theorem replyLeft_mbus (p : Port) (b : Bytes) (s : Vol) :
    (replyLeft p b s).work.pt.mbus = { s.work.pt.mbus with rate := (replyLeft p b s).work.pt.mbus.rate } := by
  rw [replyLeft_eq, (endClosed_portsStand _ _).mbus, takeSettings_mbus]
  rfl

theorem mbusNew_records (nv : Nv) {s : Vol} (tunnel : s.work.pt.mbus.tunnel = false) :
    mbusNew nv s = mbusPut (dataResponse nv s) s := by
  rw [mbusNew, tunnel]
  rfl

theorem mbusNew_reply (nv : Nv) {s : Vol} {b : Bytes} (tunnel : s.work.pt.mbus.tunnel = true) (reply : replyAt s .mbus = some b) :
    mbusNew nv s = mbusPut (ft12 s 0xA5 b) (replyLeft .mbus (ft12 s 0xA5 b) { s with work.pt.mbus.tunnel := false }) := by
  rw [mbusNew, if_pos tunnel, reply]

theorem mbusNew_empty (nv : Nv) {s : Vol} (tunnel : s.work.pt.mbus.tunnel = true) (reply : replyAt s .mbus = none) :
    mbusNew nv s = mbusPut (ft12 s 0xA5 []) s := by
  rw [mbusNew, if_pos tunnel, reply]

/-- The tunnelled reply has left with the response (R437). -/
theorem mbusPut_replyLeft (r : Bytes) (s : Vol) :
    MbusResponded s (mbusPut r (replyLeft .mbus r { s with work.pt.mbus.tunnel := false })) ∧
      (mbusPut r (replyLeft .mbus r { s with work.pt.mbus.tunnel := false })).work.pt.mbus.tunnel = false ∧
      replyAt (mbusPut r (replyLeft .mbus r { s with work.pt.mbus.tunnel := false })) .mbus = none := by
  have gone := replyLeft_gone .mbus r { s with work.pt.mbus.tunnel := false }
  have link := replyLeft_mbus .mbus r { s with work.pt.mbus.tunnel := false }
  have bak := replyLeft_bak .mbus r { s with work.pt.mbus.tunnel := false }
  have led := replyLeft_led .mbus r { s with work.pt.mbus.tunnel := false }
  generalize replyLeft .mbus r { s with work.pt.mbus.tunnel := false } = u at gone link bak led ⊢
  have sent := mbusPut_responded r u
  exact ⟨⟨sent.bak.trans bak, sent.led.trans led, sent.fcb.trans (congrArg (·.fcb) link), sent.access.trans (congrArg (·.access) link),
    sent.last⟩, congrArg (·.tunnel) link, gone⟩

theorem mbusNew_responded (nv : Nv) (s : Vol) : MbusResponded s (mbusNew nv s) := by
  cases tunnel : s.work.pt.mbus.tunnel with
  | false =>
    rw [mbusNew_records nv tunnel]
    exact mbusPut_responded _ s
  | true =>
    cases reply : replyAt s .mbus with
    | none =>
      rw [mbusNew_empty nv tunnel reply]
      exact mbusPut_responded _ s
    | some b =>
      rw [mbusNew_reply nv tunnel reply]
      exact (mbusPut_replyLeft _ s).1

/-! ### SND_UD (R435, R437) -/

/-- The state in which the count of a SND_UD is taken and the frame acknowledged. -/
def udAcked (addr : Byte) (c : FrameCount) (s : Vol) : Vol :=
  mbusAck addr { s with work.pt.mbus.udFcb := if c.fcv then some c.fcb else s.work.pt.mbus.udFcb }

/-- A SND_UD repeats the frame before it. -/
def udAgain (c : FrameCount) (s : Vol) : Bool := c.fcv && s.work.pt.mbus.udFcb == some c.fcb

theorem udCount_eq (c : FrameCount) (s : Vol) :
    udCount c s =
      (udAgain c s, { s with work.pt.mbus.udFcb := if c.fcv then some c.fcb else s.work.pt.mbus.udFcb }) := by
  unfold udCount udAgain
  cases c.fcv <;> rfl

theorem udAcked_udFcb (addr : Byte) (c : FrameCount) (s : Vol) :
    (udAcked addr c s).work.pt.mbus.udFcb = if c.fcv then some c.fcb else s.work.pt.mbus.udFcb := by
  rw [udAcked, mbusAck_mbus]

theorem udAcked_sent {addr : Byte} (own : addr ≠ 255) (c : FrameCount) (s : Vol) :
    vget (udAcked addr c s).work.ex.sent 1 = [0xE5] := by
  rw [udAcked, mbusAck_sent, if_neg own]

theorem mbusUd_eq (nv : Nv) {addr : Byte} (c : FrameCount) (f : Frame) (s : Vol) (own : addr ≠ 255) :
    mbusUd nv addr c f s =
      if udAgain c s then udAcked addr c s else receive nv { f with port := .mbus } (udAcked addr c s) := by
  unfold mbusUd
  rw [udCount_eq]
  simp only [own, false_and, if_false]
  rfl

theorem mbusUd_busStands (nv : Nv) {addr : Byte} (c : FrameCount) (f : Frame) (s : Vol) (own : addr ≠ 255) :
    BusStands (udAcked addr c s) (mbusUd nv addr c f s) := by
  rw [mbusUd_eq nv c f s own]
  exact .ite (.refl _) (receive_busStands nv _ _)

/-- A repeated SND_UD is acknowledged and not executed again. -/
theorem mbusUd_again (nv : Nv) {addr : Byte} {c : FrameCount} (f : Frame) {s : Vol} (own : addr ≠ 255) (fcv : c.fcv = true)
    (same : s.work.pt.mbus.udFcb = some c.fcb) : mbusUd nv addr c f s = udAcked addr c s := by
  have again : udAgain c s = true := by rw [udAgain, fcv, same]; simp
  rw [mbusUd_eq nv c f s own, again, if_pos rfl]

/-! ### The rate and the selection (R434, R435) -/

theorem mbusBaud_eq (addr : Byte) (ud : UdHead) (s : Vol) :
    mbusBaud addr ud s =
      if udAgain ud.count s then udAcked addr ud.count s
      else { udAcked addr ud.count s with work.pt.mbus.rate := BitVec.ofNat 3 (ud.ci.toNat - 0xB8) } := by
  rw [mbusBaud, udCount_eq]
  rfl

theorem mbusBaud_leaves (addr : Byte) (ud : UdHead) (s : Vol) :
    (mbusBaud addr ud s).bak = s.bak ∧ (mbusBaud addr ud s).ret = s.ret ∧
      (mbusBaud addr ud s).work.pt.mbus.udFcb = (if ud.count.fcv then some ud.count.fcb else s.work.pt.mbus.udFcb) ∧
      (mbusBaud addr ud s).work.pt.mbus.rate =
        if ud.count.fcv = true ∧ s.work.pt.mbus.udFcb = some ud.count.fcb then s.work.pt.mbus.rate
        else BitVec.ofNat 3 (ud.ci.toNat - 0xB8) := by
  have acked : (udAcked addr ud.count s).bak = s.bak ∧ (udAcked addr ud.count s).ret = s.ret :=
    ⟨mbusAck_bak _ _, mbusAck_ret _ _⟩
  have count := udAcked_udFcb addr ud.count s
  have rate : (udAcked addr ud.count s).work.pt.mbus.rate = s.work.pt.mbus.rate := by rw [udAcked, mbusAck_mbus]
  have again : udAgain ud.count s = true ↔ ud.count.fcv = true ∧ s.work.pt.mbus.udFcb = some ud.count.fcb := by simp [udAgain]
  rw [mbusBaud_eq]
  generalize udAcked addr ud.count s = u at acked count rate ⊢
  by_cases repeated : udAgain ud.count s = true
  · rw [if_pos repeated, if_pos (again.mp repeated)]
    exact ⟨acked.1, acked.2, count, rate⟩
  · rw [if_neg repeated, if_neg (mt again.mpr repeated)]
    exact ⟨acked.1, acked.2, count, rfl⟩

section
variable (nv : Nv) {p : Selection} {s : Vol} (up : mbusUp s = true) (hears : mbusHears s p.bitNs = true)
  (free : portLooped s .mbus = false)
include up hears free

theorem mbusSelect_heard :
    mbusSelect nv p s =
      if selectionMatches nv p.pattern then
        udAcked 253 p.count { mbusMet s with work.pt.mbus.selected := true }
      else { noteTraffic .mbus s with work.pt.mbus.selected := false } := by
  have heard : ¬ (!mbusUp s || !mbusHears s p.bitNs) = true := by rw [up, hears]; decide
  have unlooped : ¬ portLooped (noteTraffic .mbus s) .mbus = true := by
    change ¬ portLooped s .mbus = true
    rw [free]
    decide
  rw [mbusSelect, if_neg heard]
  dsimp only
  rw [if_neg unlooped, udCount_eq]
  rfl

theorem mbusSelect_leaves :
    (mbusSelect nv p s).bak = s.bak ∧ (mbusSelect nv p s).ret = s.ret ∧
      (mbusSelect nv p s).work.pt.mbus.selected = selectionMatches nv p.pattern ∧
      (selectionMatches nv p.pattern = true → vget (mbusSelect nv p s).work.ex.sent 1 = [0xE5] ∧
        (mbusSelect nv p s).work.pt.mbus.udFcb = if p.count.fcv then some p.count.fcb else s.work.pt.mbus.udFcb) := by
  rw [mbusSelect_heard nv up hears free]
  cases matched : selectionMatches nv p.pattern with
  | false => exact ⟨rfl, rfl, rfl, fun h => absurd h (by decide)⟩
  | true =>
    rw [if_pos rfl]
    refine ⟨mbusAck_bak _ _, mbusAck_ret _ _, ?_, fun _ => ⟨udAcked_sent (by decide) _ _, udAcked_udFcb _ _ _⟩⟩
    rw [udAcked, mbusAck_mbus]

end

theorem mbusBaudTimeout_falls {s : Vol} (up : mbusUp s = true) (silent : 38400 ≤ (s.bak.count - s.work.pt.mbus.lastValid).toNat) :
    mbusBaudTimeout s = { s with work.pt.mbus.rate := ofInt 3 s.work.pt.mbBaud } := by
  rw [mbusUp, Bool.and_eq_true] at up
  rw [mbusBaudTimeout, up.2, decide_eq_true silent]
  rfl

/-! ### The requests as they arrive -/

section
variable (s : Vol) (addr : Byte)

theorem mbusNke_leaves :
    (mbusNke addr (mbusMet s)).bak = s.bak ∧ (mbusNke addr (mbusMet s)).ret.led = s.ret.led ∧
      (mbusNke addr (mbusMet s)).work.pt.mbus.fcb = none ∧ (mbusNke addr (mbusMet s)).work.pt.mbus.udFcb = none ∧
      (mbusNke addr (mbusMet s)).work.pt.mbus.tunnel = false ∧ replyAt (mbusNke addr (mbusMet s)) .mbus = none ∧
      (mbusNke addr (mbusMet s)).work.pt.mbus.rate = s.work.pt.mbus.rate ∧
      vget (mbusNke addr (mbusMet s)).work.ex.sent 1 = if addr = 255 then vget s.work.ex.sent 1 else [0xE5] := by
  rw [mbusNke_bak, mbusNke_led, mbusNke_mbus, mbusNke_reply, mbusNke_sent]
  exact ⟨rfl, rfl, rfl, rfl, rfl, rfl, rfl, rfl⟩

/-- The data records read nothing of the link itself. -/
theorem dataResponse_asked (nv : Nv) (c : FrameCount) :
    dataResponse nv (mbusAsked c (mbusMet s)) =
      ft12 s 0x72 (mbusIdent nv ++ [s.work.pt.mbus.access + 1, mbusStatus s, 0, 0] ++ mbusRecords s) := by
  have status : mbusStatus (mbusAsked c (mbusMet s)) = mbusStatus s := rfl
  have records : mbusRecords (mbusAsked c (mbusMet s)) = mbusRecords s := rfl
  rw [dataResponse, status, records]
  rfl

variable {s}

theorem mbusNew_asked_records (nv : Nv) (c : FrameCount) (tunnel : s.work.pt.mbus.tunnel = false) :
    vget (mbusNew nv (mbusAsked c (mbusMet s))).work.ex.sent 1 =
      ft12 s 0x72 (mbusIdent nv ++ [s.work.pt.mbus.access + 1, mbusStatus s, 0, 0] ++ mbusRecords s) := by
  have plain : (mbusAsked c (mbusMet s)).work.pt.mbus.tunnel = false := tunnel
  rw [mbusNew_records nv plain, mbusPut_sent, dataResponse_asked]

theorem mbusNew_asked_reply (nv : Nv) (c : FrameCount) {b : Bytes} (tunnel : s.work.pt.mbus.tunnel = true)
    (reply : replyAt s .mbus = some b) :
    vget (mbusNew nv (mbusAsked c (mbusMet s))).work.ex.sent 1 = ft12 s 0xA5 b ∧
      replyAt (mbusNew nv (mbusAsked c (mbusMet s))) .mbus = none ∧
      (mbusNew nv (mbusAsked c (mbusMet s))).work.pt.mbus.tunnel = false := by
  have tunnelled : (mbusAsked c (mbusMet s)).work.pt.mbus.tunnel = true := tunnel
  have waits : replyAt (mbusAsked c (mbusMet s)) .mbus = some b := reply
  have framed : ft12 (mbusAsked c (mbusMet s)) 0xA5 b = ft12 s 0xA5 b := rfl
  rw [mbusNew_reply nv tunnelled waits, framed]
  obtain ⟨-, ended, gone⟩ := mbusPut_replyLeft (ft12 s 0xA5 b) (mbusAsked c (mbusMet s))
  exact ⟨mbusPut_sent _ _, gone, ended⟩

theorem mbusNew_asked_empty (nv : Nv) (c : FrameCount) (tunnel : s.work.pt.mbus.tunnel = true) (reply : replyAt s .mbus = none) :
    vget (mbusNew nv (mbusAsked c (mbusMet s))).work.ex.sent 1 = ft12 s 0xA5 [] ∧
      (mbusNew nv (mbusAsked c (mbusMet s))).work.pt.mbus.tunnel = true := by
  have tunnelled : (mbusAsked c (mbusMet s)).work.pt.mbus.tunnel = true := tunnel
  have waits : replyAt (mbusAsked c (mbusMet s)) .mbus = none := reply
  rw [mbusNew_empty nv tunnelled waits]
  exact ⟨mbusPut_sent _ _, tunnel⟩

/-- The repetition of a response (R435). -/
theorem mbusReq_met_repeats (nv : Nv) {fcb : Bool} (own : addr ≠ 255) (same : s.work.pt.mbus.fcb = some fcb)
    (last : s.work.pt.mbus.lastResponse ≠ []) :
    mbusReq nv addr ⟨fcb, true⟩ (mbusMet s) =
      { s with
        work.pt.mbus.lastValid := s.bak.count
        work.ex.lastTraffic := vset s.work.ex.lastTraffic 1 (some s.bak.count)
        work.pt.sentRate := vset s.work.pt.sentRate 1 (300 * 2 ^ s.work.pt.mbus.rate.toNat)
        work.ex.sent := vset s.work.ex.sent 1 s.work.pt.mbus.lastResponse } := by
  have known : (mbusMet s).work.pt.mbus.fcb = some fcb := same
  have kept : (mbusMet s).work.pt.mbus.lastResponse ≠ [] := last
  have once := vset_vset s.work.ex.lastTraffic 1 (some s.bak.count) (some s.bak.count)
  rw [mbusReq_repeats nv own known kept, ← once]
  rfl

end

/-- Settles O51: a frame that is heard and for the device reaches its request (`mbusTake_mine`), which answers by the frame count. -/
theorem theMbusLinkLayerAnswers : Obligations.TheMbusLinkLayerAnswers := by
  unfold Obligations.TheMbusLinkLayerAnswers
  intro s d up free
  refine ⟨fun deaf => ⟨?_, fun c => ?_⟩, fun hears other => ?_, fun hears mine => ⟨?_, fun c own new => ?_, fun fcb own same last => ?_,
    fun c f own length => ?_, fun ud low high => ?_⟩, fun p hears => ?_, fun silent => ?_⟩
  · rw [exec_mbusSndNke, mbusTake_unheard d _ deaf]
    rfl
  · rw [exec_mbusReqUd2, mbusTake_unheard d _ deaf]
    rfl
  · intro traffic
    refine ⟨?_, fun c => ?_⟩
    · rw [exec_mbusSndNke, mbusTake_other _ up hears free other]
      rfl
    · rw [exec_mbusReqUd2, mbusTake_other _ up hears free other]
      rfl
  · have run := exec_mbusSndNke d s
    rw [mbusTake_mine _ up hears free mine] at run
    refine ⟨_, run, State.up_nv _ _, ?_⟩
    rw [State.up_vol]
    exact mbusNke_leaves s.vol d.addr
  · have run := exec_mbusReqUd2 d c s
    have fresh : ¬ (c.fcv = true ∧ (mbusMet s.vol).work.pt.mbus.fcb = some c.fcb ∧
      (mbusMet s.vol).work.pt.mbus.lastResponse ≠ []) := new
    rw [mbusTake_mine _ up hears free mine, mbusReq_new s.nv own fresh] at run
    have responded := mbusNew_responded s.nv (mbusAsked c (mbusMet s.vol))
    refine ⟨_, run, State.up_nv _ _, ?_⟩
    rw [State.up_vol]
    exact ⟨responded.bak, responded.led, responded.fcb, responded.access, responded.last, mbusNew_asked_records s.nv c,
      fun b => mbusNew_asked_reply s.nv c, mbusNew_asked_empty s.nv c⟩
  · rw [exec_mbusReqUd2, mbusTake_mine _ up hears free mine, mbusReq_met_repeats d.addr s.nv own same last]
    rfl
  · have run := exec_mbusSndUd (d := d) (c := c) s length
    rw [mbusTake_mine _ up hears free mine] at run
    have stands := mbusUd_busStands s.nv c f (mbusMet s.vol) own
    refine ⟨_, run, State.up_nv _ _, ?_⟩
    rw [State.up_vol]
    refine ⟨stands.udFcb.trans (udAcked_udFcb _ _ _), ?_, fun fcv same => ?_⟩
    · rw [stands.sent]
      exact udAcked_sent own c _
    · have known : (mbusMet s.vol).work.pt.mbus.udFcb = some c.fcb := same
      rw [mbusUd_again s.nv f own fcv known, udAcked, mbusAck_only]
      exact ⟨rfl, rfl, rfl, rfl, rfl⟩
  · have run := exec_mbusBaudSwitch d s low high
    rw [mbusTake_mine _ up hears free mine] at run
    refine ⟨_, run, State.up_nv _ _, ?_⟩
    rw [State.up_vol]
    exact mbusBaud_leaves d.addr ud (mbusMet s.vol)
  · refine ⟨_, exec_mbusSelect p s, State.up_nv _ _, ?_⟩
    rw [State.up_vol]
    exact mbusSelect_leaves s.nv up hears free
  · rw [exec_mbusBaudTimeout, mbusBaudTimeout_falls up silent]
    rfl

end Sys2Proof.Machine
end

section
/-! SUPPORT. What the operations on a LINE context leave of it (R455 to R477). -/

namespace Sys2Proof.Machine

/-! ### Contexts -/

theorem lctx_modCtx_self {k : Nat} (g : LineCtx → LineCtx) (s : Vol) (hk : k < 3) : lctx (modCtx k g s) k = g (lctx s k) :=
  lctx_setCtx_self _ s hk

theorem LogFrame.lctx {s s' : Vol} (h : LogFrame s s') : Machine.lctx s' = Machine.lctx s := by
  funext k
  rw [Machine.lctx, h.work_line, Machine.lctx]

/-- The context differs in the symbols of its queue at most. -/
def QueueOf (c c' : LineCtx) : Prop := c' = { c with queue := c'.queue }

/-- The context differs in its poll and in the time since its last frame at most. -/
def PollOf (c c' : LineCtx) : Prop := c' = { c with poll := c'.poll, quiet := c'.quiet }

/-- The context differs in its record for the host at most. -/
def SoftOf (c c' : LineCtx) : Prop :=
  c' = { c with softOut := c'.softOut, softFrom := c'.softFrom, restart := c'.restart, txAbort := c'.txAbort }

/-- The LINE side of the context stands: its half-cycle, its samples and crossings, and what it fires. -/
def PhaseOf (c c' : LineCtx) : Prop :=
  c' = { c with
    rx := c'.rx
    frame := c'.frame
    queue := c'.queue
    rest := c'.rest
    quiet := c'.quiet
    framesOk := c'.framesOk
    bad := c'.bad
    restart := c'.restart
    txAbort := c'.txAbort
    softOut := c'.softOut
    softFrom := c'.softFrom
    poll := c'.poll
    owed := c'.owed }

theorem QueueOf.refl (c : LineCtx) : QueueOf c c := rfl
theorem PollOf.refl (c : LineCtx) : PollOf c c := rfl
theorem SoftOf.refl (c : LineCtx) : SoftOf c c := rfl
theorem PhaseOf.refl (c : LineCtx) : PhaseOf c c := rfl

theorem QueueOf.trans {a b c : LineCtx} (h : QueueOf a b) (k : QueueOf b c) : QueueOf a c := by
  unfold QueueOf at *
  rw [k, h]

theorem PollOf.trans {a b c : LineCtx} (h : PollOf a b) (k : PollOf b c) : PollOf a c := by
  unfold PollOf at *
  rw [k, h]

theorem SoftOf.trans {a b c : LineCtx} (h : SoftOf a b) (k : SoftOf b c) : SoftOf a c := by
  unfold SoftOf at *
  rw [k, h]

theorem PhaseOf.trans {a b c : LineCtx} (h : PhaseOf a b) (k : PhaseOf b c) : PhaseOf a c := by
  unfold PhaseOf at *
  rw [k, h]

theorem QueueOf.phaseOf {c c' : LineCtx} (h : QueueOf c c') : PhaseOf c c' := by
  rw [h]
  rfl

theorem PollOf.phaseOf {c c' : LineCtx} (h : PollOf c c') : PhaseOf c c' := by
  rw [h]
  rfl

theorem SoftOf.phaseOf {c c' : LineCtx} (h : SoftOf c c') : PhaseOf c c' := by
  rw [h]
  rfl

/-- Of context k, s' differs from s as R says. -/
def CtxStands (R : LineCtx → LineCtx → Prop) (k : Nat) (s s' : Vol) : Prop := R (lctx s k) (lctx s' k)

section
variable {R : LineCtx → LineCtx → Prop} (refl : ∀ c, R c c)
include refl

theorem CtxStands.of_eq {k : Nat} {s s' : Vol} (h : lctx s' = lctx s) : CtxStands R k s s' := by
  unfold CtxStands
  rw [h]
  exact refl _

/-- A context that is replaced touches no other. -/
theorem CtxStands.setCtx {j k : Nat} {c : LineCtx} {s : Vol} (hk : k < 3) (h : R (lctx s j) c) : CtxStands R k s (setCtx j c s) := by
  unfold CtxStands
  obtain rfl | other := eq_or_ne j k
  · rw [lctx_setCtx_self _ _ hk]
    exact h
  · rw [lctx_setCtx_ne _ _ other]
    exact refl _

end

/-! ### The drive FIFO is filled (R463) -/

theorem passOne_queueOf {k : Nat} (s : Vol) (j : Nat) (hk : k < 3) : CtxStands QueueOf k s (passOne s j) := by
  unfold passOne
  split
  · exact .refl _
  · split
    · exact CtxStands.setCtx (c := { lctx s j with queue := _ }) QueueOf.refl hk rfl
    · exact .refl _

theorem fillDrive_queueOf {k : Nat} (s : Vol) (hk : k < 3) : CtxStands QueueOf k s (fillDrive s) := by
  unfold fillDrive
  generalize (List.replicate 8 [0, 1, 2]).flatten = l
  induction l generalizing s with
  | nil => exact .refl _
  | cons j l ih => exact (passOne_queueOf s j hk).trans (ih _)

theorem offerFirst_queueOf {k : Nat} (j : Nat) (s : Vol) (hk : k < 3) : CtxStands QueueOf k s (offerFirst j s) := by
  have filled := fillDrive_queueOf s hk
  unfold offerFirst
  generalize fillDrive s = u at filled ⊢
  dsimp only
  split <;> exact filled

theorem sendBits_phaseOf {k : Nat} (r : Nat) (start : BitVec 16) (bits : List Bool) (s : Vol) (hk : k < 3) :
    CtxStands PhaseOf k s (sendBits k r start bits s) :=
  (CtxStands.setCtx (c := refillTx { lctx s k with rest := frameSymbols r start bits }) PhaseOf.refl hk rfl).trans (offerFirst_queueOf k _ hk).phaseOf

/-! ### Records for the host (R479) -/

theorem softRecord_softOf {k : Nat} (s : Vol) (hk : k < 3) : CtxStands SoftOf k s (softRecord k s) := by
  unfold softRecord
  dsimp only
  split
  · exact .refl _
  · exact CtxStands.setCtx (c := { lctx s k with softOut := [], restart := false, txAbort := false }) SoftOf.refl hk rfl

theorem softPut_softOf {k : Nat} (n : BitVec 16) (x : Option Int) (s : Vol) (hk : k < 3) : CtxStands SoftOf k s (softPut k n x s) := by
  have put : CtxStands SoftOf k s (setCtx k
      { lctx s k with
        softFrom := if (lctx s k).softOut.isEmpty then n else (lctx s k).softFrom
        softOut := (lctx s k).softOut ++ [softByte x] } s) := CtxStands.setCtx SoftOf.refl hk rfl
  unfold softPut
  split
  · exact softRecord_softOf s hk
  · dsimp only
    split
    · exact put.trans (softRecord_softOf _ hk)
    · exact put

theorem softPut_frame (k : Nat) (n : BitVec 16) (x : Option Int) (s : Vol) : SoftFrame s (softPut k n x s) := by
  unfold softPut
  split
  · exact softRecord_frame k s
  · dsimp only
    split
    · exact SoftFrame.trans ⟨rfl⟩ (softRecord_frame k _)
    · exact ⟨rfl⟩

/-! ### Attempts that fail (R476) -/

/-- s' differs from s in the contexts, in the STORE and in the polls of the masters at most. -/
structure PollFrame (s s' : Vol) : Prop where
  only : s' = { s with
    work.line.ctxs := s'.work.line.ctxs
    work.store := s'.work.store
    ret.logs := s'.ret.logs
    ret.store := s'.ret.store
    ret.line := s'.ret.line }

theorem PollFrame.refl (s : Vol) : PollFrame s s := ⟨rfl⟩

theorem PollFrame.trans {a b c : Vol} (h : PollFrame a b) (k : PollFrame b c) : PollFrame a c :=
  ⟨by rw [k.only, h.only]⟩

theorem LogFrame.pollFrame {s s' : Vol} (h : LogFrame s s') : PollFrame s s' := ⟨by rw [h.only]⟩

theorem PollFrame.bak {s s' : Vol} (h : PollFrame s s') : s'.bak = s.bak := by rw [h.only]
theorem PollFrame.led {s s' : Vol} (h : PollFrame s s') : s'.ret.led = s.ret.led := by rw [h.only]
theorem PollFrame.fab {s s' : Vol} (h : PollFrame s s') : s'.work.fab = s.work.fab := by rw [h.only]

theorem noteRead_frame (nv : Nv) (n : Nat) (s : Vol) : LogFrame s (noteRead nv n s) := (noteRead_pageRead nv n s).frame

/-- The state in which a poll has ended and the context has moved on. -/
def pollMoved (k : Nat) (p : Poll) (s : Vol) : Vol :=
  setNext k (p.node + 1) (modCtx k (fun c => { c with poll := none, quiet := 0 }) s)

/-- The entry of a poll goes to the STORE. -/
theorem endPoll_logged (nv : Nv) (k : Nat) (p : Poll) (e : Bytes) (s : Vol) :
    LogFrame (pollMoved k p s) (endPoll nv k p e s) := by
  have moved : endPoll nv k p e s =
      if p.touched then pollMoved k p s
      else submit (rosterWriteReq nv (pollMoved k p s) p.node e) (noteRead nv (rosterPage p.node) (pollMoved k p s)) := rfl
  rw [moved]
  generalize pollMoved k p s = u
  split
  · exact .refl u
  · exact (noteRead_frame nv _ u).trans (submit_frame _ _)

theorem endPoll_pollOf (nv : Nv) {k : Nat} (p : Poll) (e : Bytes) (s : Vol) (hk : k < 3) :
    CtxStands PollOf k s (endPoll nv k p e s) := by
  have moved : CtxStands PollOf k s (pollMoved k p s) :=
    CtxStands.setCtx (c := { lctx s k with poll := none, quiet := 0 }) PollOf.refl hk rfl
  exact moved.trans (CtxStands.of_eq PollOf.refl (endPoll_logged nv k p e s).lctx)

theorem endPoll_frame (nv : Nv) (k : Nat) (p : Poll) (e : Bytes) (s : Vol) : PollFrame s (endPoll nv k p e s) :=
  PollFrame.trans (b := pollMoved k p s) ⟨rfl⟩ (endPoll_logged nv k p e s).pollFrame

theorem pollFails_pollOf (nv : Nv) {k : Nat} (p : Poll) (s : Vol) (hk : k < 3) : CtxStands PollOf k s (pollFails nv k p s) := by
  have met : CtxStands PollOf k s (storeMet s) := CtxStands.of_eq PollOf.refl (storeMet_frame s).lctx
  have ended := fun e => met.trans (endPoll_pollOf nv p e (storeMet s) hk)
  unfold pollFails
  dsimp only
  split
  · exact (ended _).trans (CtxStands.of_eq PollOf.refl (limG_frame _ _ _ _).lctx)
  · exact ended _

theorem pollFails_frame (nv : Nv) (k : Nat) (p : Poll) (s : Vol) : PollFrame s (pollFails nv k p s) := by
  have ended := fun e => (storeMet_frame s).pollFrame.trans (endPoll_frame nv k p e (storeMet s))
  unfold pollFails
  dsimp only
  split
  · exact (ended _).trans (limG_frame _ _ _ _).pollFrame
  · exact ended _

theorem attemptFails_pollOf (nv : Nv) {k : Nat} (s : Vol) (hk : k < 3) : CtxStands PollOf k s (attemptFails nv k s) := by
  unfold attemptFails
  split
  · exact .refl _
  · next p _ =>
    split
    · exact CtxStands.setCtx (c := { lctx s k with poll := none, quiet := 0 }) PollOf.refl hk rfl
    · split
      · exact CtxStands.setCtx (c := { lctx s k with poll := some { p with waiting := false }, quiet := 0 }) PollOf.refl hk rfl
      · exact pollFails_pollOf nv _ s hk

theorem attemptFails_frame (nv : Nv) (k : Nat) (s : Vol) : PollFrame s (attemptFails nv k s) := by
  unfold attemptFails
  split
  · exact .refl s
  · split
    · exact ⟨rfl⟩
    · split
      · exact ⟨rfl⟩
      · exact pollFails_frame nv k _ s

theorem replyFails_pollOf (nv : Nv) {k : Nat} (s : Vol) (hk : k < 3) : CtxStands PollOf k s (replyFails nv k s) := by
  unfold replyFails
  split
  · exact attemptFails_pollOf nv s hk
  · exact .refl _

theorem replyFails_frame (nv : Nv) (k : Nat) (s : Vol) : PollFrame s (replyFails nv k s) := by
  unfold replyFails
  split
  · exact attemptFails_frame nv k s
  · exact .refl s

/-! ### Reception (R468 to R470) -/

section
variable (nv : Nv) {k : Nat} (hk : k < 3)
include hk

theorem rxDiscard_phaseOf (s : Vol) : CtxStands PhaseOf k s (rxDiscard nv k s) :=
  (CtxStands.setCtx (c := { lctx s k with rx := none, bad := satInc (lctx s k).bad, quiet := 0 }) PhaseOf.refl hk rfl).trans
    (replyFails_pollOf nv _ hk).phaseOf

theorem rxKeep_phaseOf (f : LineFrame) (s : Vol) : CtxStands PhaseOf k s (rxKeep nv k f s) := by
  have kept : CtxStands PhaseOf k s
      (setCtx k { lctx s k with rx := none, framesOk := satInc (lctx s k).framesOk, quiet := 0 } s) :=
    CtxStands.setCtx PhaseOf.refl hk rfl
  unfold rxKeep
  split
  · refine kept.trans ?_
    dsimp only
    generalize setCtx k { lctx s k with rx := none, framesOk := satInc (lctx s k).framesOk, quiet := 0 } s = u
    split
    · exact CtxStands.setCtx (c := { lctx u k with frame := some f }) PhaseOf.refl hk rfl
    · exact (replyFails_pollOf nv u hk).phaseOf
  · exact rxDiscard_phaseOf nv hk s

theorem rxBits_phaseOf (n : BitVec 16) (bits : List Bool) (margin : Nat) (s : Vol) :
    CtxStands PhaseOf k s (rxBits nv k n bits margin s) := by
  have goes : CtxStands PhaseOf k s (modCtx k (fun c => { c with rx := some (bits, 2 * repeats s k, margin) }) s) :=
    CtxStands.setCtx (c := { lctx s k with rx := some (bits, 2 * repeats s k, margin) }) PhaseOf.refl hk rfl
  unfold rxBits
  dsimp only
  split
  · exact goes
  · split
    · exact rxDiscard_phaseOf nv hk s
    · split
      · exact goes
      · split
        · exact rxKeep_phaseOf nv hk _ s
        · exact rxDiscard_phaseOf nv hk s

theorem rxStep_phaseOf (n : BitVec 16) (s : Vol) : CtxStands PhaseOf k s (rxStep nv k n s) := by
  unfold rxStep
  dsimp only
  split
  · next bits left margin _ =>
    split
    · exact CtxStands.setCtx (c := { lctx s k with rx := some (bits, left - 1, margin) }) PhaseOf.refl hk rfl
    · split
      · exact rxDiscard_phaseOf nv hk s
      · exact rxBits_phaseOf nv hk n _ _ s
  · split
    · exact CtxStands.setCtx (c := { lctx s k with rx := some ([], 2 * repeats s k, 65535) }) PhaseOf.refl hk rfl
    · exact .refl _

end

theorem rxDiscard_frame (nv : Nv) (k : Nat) (s : Vol) : PollFrame s (rxDiscard nv k s) :=
  PollFrame.trans (b := modCtx k (fun c => { c with rx := none, bad := satInc c.bad, quiet := 0 }) s) ⟨rfl⟩ (replyFails_frame nv k _)

theorem rxKeep_frame (nv : Nv) (k : Nat) (f : LineFrame) (s : Vol) : PollFrame s (rxKeep nv k f s) := by
  unfold rxKeep
  split
  · refine PollFrame.trans (b := setCtx k
      { lctx s k with rx := none, framesOk := satInc (lctx s k).framesOk, quiet := 0 } s) ⟨rfl⟩ ?_
    dsimp only
    split
    · exact ⟨rfl⟩
    · exact replyFails_frame nv k _
  · exact rxDiscard_frame nv k s

theorem rxStep_frame (nv : Nv) (k : Nat) (n : BitVec 16) (s : Vol) : PollFrame s (rxStep nv k n s) := by
  unfold rxStep
  dsimp only
  split
  · split
    · exact ⟨rfl⟩
    · split
      · exact rxDiscard_frame nv k s
      · unfold rxBits
        dsimp only
        split
        · exact ⟨rfl⟩
        · split
          · exact rxDiscard_frame nv k s
          · split
            · exact ⟨rfl⟩
            · split
              · exact rxKeep_frame nv k _ s
              · exact rxDiscard_frame nv k s
  · split
    · exact ⟨rfl⟩
    · exact .refl s

end Sys2Proof.Machine
end

section
/-! SUPPORT and PROOF of O53. The contexts follow their phase (R455 to R465). -/

namespace Sys2Proof.Machine

theorem exec_lineHalfCycle (k : Fin 3) (h : HalfCycle) (s : State) :
    exec (.lineHalfCycle k h) s = .next (s.up (lineHalf s.nv k.val h s.vol)) := rfl
theorem exec_phaseMissing (k : Fin 3) (s : State) : exec (.phaseMissing k) s = .next (s.up (phaseMissing s.nv k.val s.vol)) := rfl
theorem exec_driveRecord (k : Fin 3) (t : LineTime) (s : State) :
    exec (.driveRecord k t) s = .next (s.up (driveRecord s.nv k.val t.hc t.tick s.vol)) := rfl

/-! ### The state in which a half-cycle is worked on -/

/-- Beside its record for the host, context k reads the same in u as in r, and so does what its work depends on. -/
structure SameLine (k : Nat) (r u : Vol) : Prop where
  ctx : CtxStands SoftOf k r u
  only : u = { r with
    work.line.ctxs := u.work.line.ctxs
    work.line.hostSymbolsOk := u.work.line.hostSymbolsOk
    work.pt.link.symbols := u.work.pt.link.symbols
    work.fab := u.work.fab }

namespace SameLine
variable {k : Nat} {r u : Vol} (h : SameLine k r u)
include h

theorem softOf : lctx u k = { lctx r k with
    softOut := (lctx u k).softOut, softFrom := (lctx u k).softFrom, restart := (lctx u k).restart, txAbort := (lctx u k).txAbort } :=
  h.ctx

theorem phaseOf : CtxStands PhaseOf k r u := SoftOf.phaseOf h.ctx

theorem bak : u.bak = r.bak := by rw [h.only]
theorem ret : u.ret = r.ret := by rw [h.only]

theorem lineSet (i : Nat) : Machine.lineSet u k i = Machine.lineSet r k i := by
  have force : (lctx u k).inForce = (lctx r k).inForce := by rw [h.softOf]
  exact congrArg (fun l => (lget l i).toNat) force

theorem th (n : Nat) : Machine.th u n = Machine.th r n := by
  have entries : u.work.th = r.work.th := by rw [h.only]
  rw [Machine.th, entries, Machine.th]

theorem ctxLooped : Machine.ctxLooped u k = Machine.ctxLooped r k := by rw [h.only]; rfl
theorem lineLoopKind : Machine.lineLoopKind u = Machine.lineLoopKind r := by rw [h.only]; rfl
theorem loopFires (n : BitVec 16) : Machine.loopFires u n = Machine.loopFires r n := by rw [h.only]; rfl
theorem phyForHost : Machine.phyForHost u = Machine.phyForHost r := by rw [Machine.phyForHost, h.th, Machine.phyForHost]
theorem lineRuns : Machine.lineRuns u = Machine.lineRuns r := by rw [h.only]; rfl
theorem hostCtx : Machine.hostCtx u k = Machine.hostCtx r k := by rw [Machine.hostCtx, h.lineSet, Machine.hostCtx]

theorem svcOf : Machine.svcOf u k = Machine.svcOf r k := by
  have device : u.work.line.deviceService = r.work.line.deviceService := by rw [h.only]
  rw [Machine.svcOf, h.th, device, fallbackSvc, h.lineSet, h.hostCtx, Machine.svcOf, fallbackSvc]

theorem lineUp : Machine.lineUp u k = Machine.lineUp r k := by
  rw [Machine.lineUp, h.lineRuns, ctxInUse, h.svcOf, h.phyForHost, h.hostCtx, h.ctxLooped, Machine.lineUp, ctxInUse]

theorem crossTick : Machine.crossTick (lctx u k) = Machine.crossTick (lctx r k) := by rw [h.softOf]; rfl
theorem risesIn (n : BitVec 16) : Machine.risesIn (lctx u k) n = Machine.risesIn (lctx r k) n := by rw [h.softOf]; rfl

theorem seenSamples (n : BitVec 16) (l : List Int) : Machine.seenSamples u k n l = Machine.seenSamples r k n l := by
  unfold Machine.seenSamples
  dsimp only
  rw [h.ctxLooped, h.lineLoopKind, h.crossTick, h.risesIn, h.loopFires, h.lineSet]

theorem halfErased (l : List Int) (lost : Nat) : Machine.halfErased u k l lost = Machine.halfErased r k l lost := by
  unfold Machine.halfErased
  dsimp only
  rw [h.lineSet, h.softOf]
  rfl

end SameLine

theorem refresh_only (k : Nat) (s : Vol) : refresh k s = { s with work.line.ctxs := (refresh k s).work.line.ctxs } := by
  unfold refresh
  split <;> rfl

theorem SoftOf.ctxFree {c c' : LineCtx} (h : SoftOf c c') : Machine.ctxFree c' = Machine.ctxFree c := by
  rw [h]
  rfl

/-- New settings are taken alike whatever the record for the host. -/
theorem refresh_sameLine {k : Nat} {s u : Vol} (hk : k < 3) (h : SameLine k s u) : SameLine k (refresh k s) (refresh k u) := by
  have settings : u.work.line.settings = s.work.line.settings := by rw [h.only]
  refine ⟨?_, ?_⟩
  · unfold refresh
    rw [SoftOf.ctxFree h.ctx]
    split
    · unfold CtxStands
      rw [lctx_modCtx_self _ _ hk, lctx_modCtx_self _ _ hk, settings]
      exact congrArg (fun c => { c with inForce := s.work.line.settings }) h.ctx
    · exact h.ctx
  · rw [refresh_only k u, refresh_only k s]
    exact congrArg (fun v => { v with work.line.ctxs := (refresh k u).work.line.ctxs }) h.only

/-- The state in which the half-cycle is worked on: lost samples are counted, the record for the host is closed where it ends, and new
settings are taken. -/
def beforeHalf (k lost : Nat) (s : Vol) : Vol :=
  let s := { s with work.fab.fifoOvf := satAdd s.work.fab.fifoOvf lost }
  refresh k (if softOn s k && !softOn (refresh k s) k then softClose k s else s)

theorem beforeHalf_sameLine {k : Nat} (lost : Nat) (s : Vol) (hk : k < 3) : SameLine k (refresh k s) (beforeHalf k lost s) := by
  refine refresh_sameLine hk ?_
  have counted : SameLine k s { s with work.fab.fifoOvf := satAdd s.work.fab.fifoOvf lost } := ⟨SoftOf.refl _, rfl⟩
  generalize { s with work.fab.fifoOvf := satAdd s.work.fab.fifoOvf lost } = u at counted ⊢
  split
  · refine ⟨SoftOf.trans counted.ctx (softRecord_softOf u hk), ?_⟩
    have frame := (softRecord_frame k u).only
    have whole := counted.only
    rw [softClose, frame, whole]
  · exact counted

/-- One half-cycle of a context, before a reply that is late is dropped. -/
def halfStep (nv : Nv) (k : Nat) (l : List Int) (lost : Nat) (s : Vol) : Vol :=
  if (lctx s k).idle then idleStep k l s
  else if lineUp s k then halfCycle nv k l lost s
  else unusedStep k l lost s

theorem lineHalf_eq (nv : Nv) {k : Nat} (h : HalfCycle) {s : Vol} (hk : k < 3) (core : coreRuns s = true)
    (line : lineAbsent s = false) :
    lineHalf nv k h s =
      owedPast k (halfStep nv k (seenSamples (refresh k s) k (lctx s k).hc h.samples) h.lost (beforeHalf k h.lost s)) := by
  have same := beforeHalf_sameLine h.lost s hk
  have hc : (lctx (beforeHalf k h.lost s) k).hc = (lctx s k).hc := by rw [same.softOf, lctx_refresh s hk]
  rw [lineHalf, if_neg (by simp [core, line]), ← same.seenSamples, ← hc]
  rfl

/-! ### What a half-cycle leaves -/

/-- The backup domain and the ledger stand. -/
structure LedgerStands (s s' : Vol) : Prop where
  bak : s'.bak = s.bak
  led : s'.ret.led = s.ret.led

theorem LedgerStands.refl (s : Vol) : LedgerStands s s := ⟨rfl, rfl⟩

theorem LedgerStands.trans {a b c : Vol} (h : LedgerStands a b) (k : LedgerStands b c) : LedgerStands a c :=
  ⟨k.bak.trans h.bak, k.led.trans h.led⟩

theorem PollFrame.ledgerStands {s s' : Vol} (h : PollFrame s s') : LedgerStands s s' := ⟨h.bak, h.led⟩
theorem LogFrame.ledgerStands {s s' : Vol} (h : LogFrame s s') : LedgerStands s s' := ⟨h.bak, h.ret_led⟩
theorem CtxFrame.ledgerStands {s s' : Vol} (h : CtxFrame s s') : LedgerStands s s' := ⟨h.bak, congrArg (·.led) h.ret⟩
theorem SoftFrame.ledgerStands {s s' : Vol} (h : SoftFrame s s') : LedgerStands s s' := by
  rw [h.only]
  exact ⟨rfl, rfl⟩

theorem SameLine.ledgerStands {k : Nat} {r u : Vol} (h : SameLine k r u) : LedgerStands r u := ⟨h.bak, congrArg (·.led) h.ret⟩

theorem offerFirst_ledgerStands (k : Nat) (s : Vol) : LedgerStands s (offerFirst k s) := by
  obtain ⟨bak, ret, -, -⟩ := offerFirst_stands k s
  exact ⟨bak, congrArg (·.led) ret⟩

theorem sendBits_ledgerStands (k r : Nat) (start : BitVec 16) (bits : List Bool) (s : Vol) :
    LedgerStands s (sendBits k r start bits s) :=
  (modCtx_frame k (fun c => refillTx { c with rest := frameSymbols r start bits }) s).ledgerStands.trans
    (offerFirst_ledgerStands k _)

theorem loopStep_ledgerStands (k : Nat) (n : BitVec 16) (soft : Option Int) (s : Vol) : LedgerStands s (loopStep k n soft s) := by
  have begins : LedgerStands s (loopBegin k s) := by
    have sends : ∀ h bits u, LedgerStands s u → LedgerStands s (sendBits k 1 h bits u) := fun h bits u same =>
      same.trans (sendBits_ledgerStands k 1 h bits u)
    unfold loopBegin
    dsimp only
    split
    · exact .refl s
    · split
      · exact sends _ _ _ ⟨rfl, rfl⟩
      · exact ⟨rfl, rfl⟩
  unfold loopStep
  dsimp only
  split
  · exact .refl s
  · split
    · exact begins
    · split
      · exact ⟨rfl, rfl⟩
      · split
        · exact ⟨rfl, rfl⟩
        · split <;> exact ⟨rfl, rfl⟩

theorem loopStep_phaseOf {k : Nat} (n : BitVec 16) (soft : Option Int) (s : Vol) (hk : k < 3) :
    CtxStands PhaseOf k s (loopStep k n soft s) := by
  have begins : CtxStands PhaseOf k s (loopBegin k s) := by
    unfold loopBegin
    dsimp only
    split
    · exact .refl _
    · split
      · exact sendBits_phaseOf 1 (nextEven (lctx s k).hc) (prbs9 64).reverse
          { s with work.line.lbFrom := some (nextEven (lctx s k).hc) } hk
      · exact .refl _
  unfold loopStep
  dsimp only
  split
  · exact .refl _
  · split
    · exact begins
    · split
      · exact .refl _
      · split
        · exact .refl _
        · split <;> exact .refl _

/-- SOFT_h of the half-cycle (R464, R465). -/
def halfSoft (s : Vol) (k : Nat) (l : List Int) (lost : Nat) : Option Int :=
  let c := lctx s k
  if halfErased s k l lost || c.prevErased || ((ctxSends c c.hc || c.prevTx) && !ctxLooped s k) then none
  else some (softOf (notchSum (notchSamples c l)) c.prevNotch)

/-- The context of a half-cycle in use, before its symbols, its record and its receiver. -/
def followed (s : Vol) (k : Nat) (l : List Int) (lost : Nat) : LineCtx :=
  let c := lctx s k
  let n := c.hc
  let tx := ctxSends c n
  let erased := halfErased s k l lost
  let sum := notchSum (notchSamples c l)
  let ended := match c.queue with
    | q :: _ => q.hc + 1 == n
    | [] => false
  let busy := tx || !c.queue.isEmpty || !c.rest.isEmpty
  { followLine n l (erased || tx) c with
    prevNotch := sum
    prevErased := erased
    prevTx := tx
    erased := if erased then satInc c.erased else c.erased
    soft := (halfSoft s k l lost :: c.soft).take 192
    queue := if ended then c.queue.tail else c.queue
    quiet := if tx then 0 else min 65535 (c.quiet + 1)
    poll := c.poll.map fun p => { p with waited := if busy then 0 else min 65535 (p.waited + 1) } }

/-- The state in which the half-cycle is decoded. -/
def halfPut (k : Nat) (l : List Int) (lost : Nat) (s : Vol) : Vol :=
  softPut k (lctx s k).hc (halfSoft s k l lost) (fillDrive (setCtx k (refillTx (followed s k l lost)) s))

theorem halfCycle_eq (nv : Nv) (k : Nat) (l : List Int) (lost : Nat) (s : Vol) :
    halfCycle nv k l lost s =
      if ctxLooped s k then loopStep k (lctx s k).hc (halfSoft s k l lost) (halfPut k l lost s)
      else if serves (halfPut k l lost s) k 2 || serves (halfPut k l lost s) k 3 then rxStep nv k (lctx s k).hc (halfPut k l lost s)
      else halfPut k l lost s := rfl

theorem refillTx_phaseOf (c : LineCtx) : PhaseOf c (refillTx c) := rfl

theorem halfPut_phaseOf {k : Nat} (l : List Int) (lost : Nat) (s : Vol) (hk : k < 3) :
    PhaseOf (followed s k l lost) (lctx (halfPut k l lost s) k) := by
  unfold halfPut
  generalize followed s k l lost = c
  have set : PhaseOf c (lctx (setCtx k (refillTx c) s) k) := by
    rw [lctx_setCtx_self _ _ hk]
    exact refillTx_phaseOf c
  exact (set.trans (fillDrive_queueOf _ hk).phaseOf).trans (softPut_softOf _ _ _ hk).phaseOf

theorem halfCycle_phaseOf (nv : Nv) {k : Nat} (l : List Int) (lost : Nat) (s : Vol) (hk : k < 3) :
    PhaseOf (followed s k l lost) (lctx (halfCycle nv k l lost s) k) := by
  have put := halfPut_phaseOf l lost s hk
  rw [halfCycle_eq]
  generalize halfPut k l lost s = u at put ⊢
  split
  · exact put.trans (loopStep_phaseOf _ _ u hk)
  · split
    · exact put.trans (rxStep_phaseOf nv hk _ u)
    · exact put

theorem halfCycle_ledgerStands (nv : Nv) (k : Nat) (l : List Int) (lost : Nat) (s : Vol) :
    LedgerStands s (halfCycle nv k l lost s) := by
  have put : LedgerStands s (halfPut k l lost s) :=
    ((setCtx_frame k _ s).trans (fillDrive_frame _)).ledgerStands.trans (softPut_frame k _ _ _).ledgerStands
  rw [halfCycle_eq]
  generalize halfPut k l lost s = u at put ⊢
  split
  · exact put.trans (loopStep_ledgerStands _ _ _ u)
  · split
    · exact put.trans (rxStep_frame nv k _ u).ledgerStands
    · exact put

/-! ### The fields that the half-cycle sets -/

section
variable {c c' : LineCtx} (h : PhaseOf c c')
include h

theorem PhaseOf.hc : c'.hc = c.hc := by rw [h]
theorem PhaseOf.past : c'.past = c.past := by rw [h]
theorem PhaseOf.windows : c'.windows = c.windows := by rw [h]
theorem PhaseOf.warmup : c'.warmup = c.warmup := by rw [h]
theorem PhaseOf.prevNotch : c'.prevNotch = c.prevNotch := by rw [h]
theorem PhaseOf.prevErased : c'.prevErased = c.prevErased := by rw [h]
theorem PhaseOf.erased : c'.erased = c.erased := by rw [h]
theorem PhaseOf.xofs : c'.xofs = c.xofs := by rw [h]
theorem PhaseOf.idle : c'.idle = c.idle := by rw [h]
theorem PhaseOf.good : c'.good = c.good := by rw [h]
theorem PhaseOf.pulses : c'.pulses = c.pulses := by rw [h]
theorem PhaseOf.pdHigh : c'.pdHigh = c.pdHigh := by rw [h]

end

/-- The LINE side has followed the samples l of a half-cycle of c (R457, R458, R465). -/
structure Follows (c : LineCtx) (l : List Int) (c' : LineCtx) : Prop where
  hc : c'.hc = c.hc + 1
  past : c'.past = l
  windows : c.past ≠ [] → c'.windows = (windowSamples c l :: c.windows).take 2

theorem Follows.phaseOf {c c' c'' : LineCtx} {l : List Int} (h : Follows c l c') (k : PhaseOf c' c'') : Follows c l c'' :=
  ⟨k.hc.trans h.hc, k.past.trans h.past, fun n => k.windows.trans (h.windows n)⟩

theorem followLine_follows (l : List Int) (still : Bool) (c : LineCtx) : Follows c l (followLine c.hc l still c) :=
  ⟨rfl, rfl, fun n => if_neg (by simpa using n)⟩

theorem followed_follows (s : Vol) (k : Nat) (l : List Int) (lost : Nat) : Follows (lctx s k) l (followed s k l lost) :=
  have f := followLine_follows l (halfErased s k l lost || ctxSends (lctx s k) (lctx s k).hc) (lctx s k)
  ⟨f.hc, f.past, f.windows⟩

section
variable (s : Vol) (k : Nat) (l : List Int) (lost : Nat)

theorem followed_warmup : (followed s k l lost).warmup = (lctx s k).warmup - 1 := rfl
theorem followed_prevNotch : (followed s k l lost).prevNotch = notchSum (notchSamples (lctx s k) l) := rfl
theorem followed_prevErased : (followed s k l lost).prevErased = halfErased s k l lost := rfl
theorem followed_erased :
    (followed s k l lost).erased = if halfErased s k l lost then satInc (lctx s k).erased else (lctx s k).erased := rfl
theorem followed_xofs :
    (followed s k l lost).xofs =
      if halfErased s k l lost || ctxSends (lctx s k) (lctx s k).hc then (lctx s k).xofs
      else xofsAfter (lctx s k).xofs (lctx s k).hc (crossingsOf (lctx s k) l) := rfl

end

/-- The idle context once its half-cycle is followed and its spacings are counted. -/
def idleFollowed (c : LineCtx) (l : List Int) : LineCtx :=
  let g := countSpacings c.hc (crossingsOf c l) c
  { followLine c.hc l true c with good := g.good, lastCross := g.lastCross }

theorem idleFollowed_xofs (c : LineCtx) (l : List Int) : (idleFollowed c l).xofs = c.xofs := rfl
theorem idleFollowed_idle (c : LineCtx) (l : List Int) : (idleFollowed c l).idle = c.idle := rfl

theorem crossingsOf_past {c c' : LineCtx} (l : List Int) (h : c'.past = c.past) : crossingsOf c' l = crossingsOf c l := by
  unfold crossingsOf
  rw [h]

/-- One crossing with a good spacing is counted. -/
theorem idleFollowed_good {c : LineCtx} {l : List Int} {a : Nat} {b : Crossing} (last : c.lastCross = some a)
    (one : crossingsOf c l = [b]) (good : goodSpacing a (crossPos c.hc b) = true) : (idleFollowed c l).good = c.good + 1 := by
  unfold idleFollowed
  dsimp only
  rw [one]
  unfold countSpacings
  rw [List.foldl_cons, List.foldl_nil]
  dsimp only
  rw [last, Option.any_some, good]
  rfl

theorem idleStep_lctx {k : Nat} (l : List Int) (s : Vol) (hk : k < 3) :
    lctx (idleStep k l s) k =
      if 8 ≤ (idleFollowed (lctx s k) l).good then
        { idleFollowed (lctx s k) l with idle := false, good := 0, warmup := 2, prevErased := true, soft := [], rx := none }
      else idleFollowed (lctx s k) l := by
  unfold idleStep
  dsimp only
  change lctx (if 8 ≤ (idleFollowed (lctx s k) l).good then _ else _) k = _
  split <;> exact lctx_setCtx_self _ _ hk

theorem idleStep_ret (k : Nat) (l : List Int) (s : Vol) : (idleStep k l s).ret = s.ret := by
  unfold idleStep
  dsimp only
  split <;> rfl

theorem idleStep_bak (k : Nat) (l : List Int) (s : Vol) : (idleStep k l s).bak = s.bak := by
  unfold idleStep
  dsimp only
  split <;> rfl

theorem idleStep_follows {k : Nat} (l : List Int) (s : Vol) (hk : k < 3) : Follows (lctx s k) l (lctx (idleStep k l s) k) := by
  have f := followLine_follows l true (lctx s k)
  have own : Follows (lctx s k) l (idleFollowed (lctx s k) l) := ⟨f.hc, f.past, f.windows⟩
  rw [idleStep_lctx l s hk]
  split
  · exact ⟨own.hc, own.past, own.windows⟩
  · exact own

theorem unusedStep_follows {k : Nat} (l : List Int) (lost : Nat) (s : Vol) (hk : k < 3) :
    Follows (lctx s k) l (lctx (unusedStep k l lost s) k) := by
  have f := followLine_follows l (halfErased s k l lost) (lctx s k)
  unfold unusedStep
  dsimp only
  rw [lctx_modCtx_self _ _ hk]
  exact ⟨f.hc, f.past, f.windows⟩

theorem halfStep_follows (nv : Nv) {k : Nat} (l : List Int) (lost : Nat) (s : Vol) (hk : k < 3) :
    Follows (lctx s k) l (lctx (halfStep nv k l lost s) k) := by
  unfold halfStep
  split
  · exact idleStep_follows l s hk
  · split
    · exact (followed_follows s k l lost).phaseOf (halfCycle_phaseOf nv l lost s hk)
    · exact unusedStep_follows l lost s hk

theorem halfStep_ledgerStands (nv : Nv) (k : Nat) (l : List Int) (lost : Nat) (s : Vol) :
    LedgerStands s (halfStep nv k l lost s) := by
  unfold halfStep
  split
  · exact ⟨idleStep_bak k l s, congrArg (·.led) (idleStep_ret k l s)⟩
  · split
    · exact halfCycle_ledgerStands nv k l lost s
    · exact ⟨rfl, rfl⟩

theorem lineReplyLost_lctx (k : Nat) (s : Vol) : lctx (lineReplyLost k s) = lctx s := by
  unfold lineReplyLost
  split <;> rfl

theorem lineReplyLost_bak (k : Nat) (s : Vol) : (lineReplyLost k s).bak = s.bak := by
  unfold lineReplyLost
  split <;> rfl

theorem lineReplyLost_ret (k : Nat) (s : Vol) : (lineReplyLost k s).ret = s.ret := by
  unfold lineReplyLost
  split <;> rfl

theorem owedPast_phaseOf {k : Nat} (s : Vol) (hk : k < 3) : CtxStands PhaseOf k s (owedPast k s) := by
  have lost : CtxStands PhaseOf k s (lineReplyLost k s) := CtxStands.of_eq PhaseOf.refl (lineReplyLost_lctx k s)
  unfold owedPast
  dsimp only
  split
  · generalize lineReplyLost k s = u at lost ⊢
    exact lost.trans (CtxStands.setCtx (c := { lctx u k with owed := none }) PhaseOf.refl hk rfl)
  · exact .refl _

theorem owedPast_bak (k : Nat) (s : Vol) : (owedPast k s).bak = s.bak := by
  unfold owedPast
  dsimp only
  split
  · exact lineReplyLost_bak k s
  · rfl

theorem owedPast_ret (k : Nat) (s : Vol) : (owedPast k s).ret = s.ret := by
  unfold owedPast
  dsimp only
  split
  · exact lineReplyLost_ret k s
  · rfl

/-- The state in which the half-cycle of c is worked on has the context as c, but for its record and its settings. -/
theorem beforeHalf_lctx {k : Nat} (lost : Nat) (s : Vol) (hk : k < 3) :
    lctx (beforeHalf k lost s) k = { lctx s k with
      inForce := (lctx (beforeHalf k lost s) k).inForce
      softOut := (lctx (beforeHalf k lost s) k).softOut
      softFrom := (lctx (beforeHalf k lost s) k).softFrom
      restart := (lctx (beforeHalf k lost s) k).restart
      txAbort := (lctx (beforeHalf k lost s) k).txAbort } := by
  have same := (beforeHalf_sameLine lost s hk).softOf
  rw [lctx_refresh s hk] at same
  rw [same]

theorem refresh_ledgerStands (k : Nat) (s : Vol) : LedgerStands s (refresh k s) := (refresh_frame k s).ledgerStands

section
variable (nv : Nv) {k : Nat} (hk : k < 3) {s : Vol} (core : coreRuns s = true) (line : lineAbsent s = false) (h : HalfCycle)
include hk core line

/-- The half-cycles of every context are followed, whatever it is used for. -/
theorem lineHalf_follows :
    (lineHalf nv k h s).bak = s.bak ∧ (lineHalf nv k h s).ret.led = s.ret.led ∧
      Follows (lctx s k) (seenSamples (refresh k s) k (lctx s k).hc h.samples) (lctx (lineHalf nv k h s) k) := by
  have before := (refresh_ledgerStands k s).trans (beforeHalf_sameLine h.lost s hk).ledgerStands
  have ctx := beforeHalf_lctx h.lost s hk
  rw [lineHalf_eq nv h hk core line]
  generalize seenSamples (refresh k s) k (lctx s k).hc h.samples = l
  generalize beforeHalf k h.lost s = u at before ctx ⊢
  have stands := before.trans (halfStep_ledgerStands nv k l h.lost u)
  have follows := halfStep_follows nv l h.lost u hk
  generalize halfStep nv k l h.lost u = v at stands follows ⊢
  refine ⟨(owedPast_bak k v).trans stands.bak, (congrArg (·.led) (owedPast_ret k v)).trans stands.led, ?_⟩
  refine Follows.phaseOf ?_ (owedPast_phaseOf v hk)
  rw [ctx] at follows
  exact ⟨follows.hc, follows.past, follows.windows⟩

/-- An idle context counts its good spacings (R457). -/
theorem lineHalf_idle {a : Nat} {b : Crossing} (idle : (lctx s k).idle = true) (last : (lctx s k).lastCross = some a)
    (one : crossingsOf (lctx s k) (seenSamples (refresh k s) k (lctx s k).hc h.samples) = [b])
    (good : goodSpacing a (crossPos (lctx s k).hc b) = true) :
    (lineHalf nv k h s).ret = s.ret ∧ (lctx (lineHalf nv k h s) k).xofs = (lctx s k).xofs ∧
      ((lctx s k).good + 1 < 8 →
        (lctx (lineHalf nv k h s) k).idle = true ∧ (lctx (lineHalf nv k h s) k).good = (lctx s k).good + 1) ∧
      (8 ≤ (lctx s k).good + 1 →
        (lctx (lineHalf nv k h s) k).idle = false ∧ (lctx (lineHalf nv k h s) k).warmup = 2) := by
  have ret : (beforeHalf k h.lost s).ret = s.ret := (beforeHalf_sameLine h.lost s hk).ret.trans (refresh_frame k s).ret
  have ctx := beforeHalf_lctx h.lost s hk
  rw [lineHalf_eq nv h hk core line]
  generalize seenSamples (refresh k s) k (lctx s k).hc h.samples = l at one ⊢
  generalize beforeHalf k h.lost s = u at ret ctx ⊢
  have still : (lctx u k).idle = (lctx s k).idle := by rw [ctx]
  have hc : (lctx u k).hc = (lctx s k).hc := by rw [ctx]
  have past : (lctx u k).past = (lctx s k).past := by rw [ctx]
  have cross : (lctx u k).lastCross = (lctx s k).lastCross := by rw [ctx]
  have count : (lctx u k).good = (lctx s k).good := by rw [ctx]
  have xofs : (lctx u k).xofs = (lctx s k).xofs := by rw [ctx]
  have counted : (idleFollowed (lctx u k) l).good = (lctx s k).good + 1 := by
    rw [← count]
    exact idleFollowed_good (cross.trans last) ((crossingsOf_past l past).trans one) (by rw [hc]; exact good)
  have stepped : halfStep nv k l h.lost u = idleStep k l u := if_pos (still.trans idle)
  have after := idleStep_lctx l u hk
  have kept := (idleStep_ret k l u).trans ret
  rw [counted] at after
  rw [stepped]
  have held := (idleFollowed_xofs (lctx u k) l).trans xofs
  have asleep := (idleFollowed_idle (lctx u k) l).trans (still.trans idle)
  generalize idleFollowed (lctx u k) l = c at counted held asleep after
  generalize idleStep k l u = v at after kept ⊢
  have phase := owedPast_phaseOf v hk
  have stands := (owedPast_ret k v).trans kept
  generalize owedPast k v = w at phase stands ⊢
  refine ⟨stands, ?_, fun few => ?_, fun enough => ?_⟩
  · rw [PhaseOf.xofs phase, after]
    split <;> exact held
  · rw [PhaseOf.idle phase, PhaseOf.good phase, after, if_neg (by omega)]
    exact ⟨asleep, counted⟩
  · rw [PhaseOf.idle phase, PhaseOf.warmup phase, after, if_pos enough]
    exact ⟨rfl, rfl⟩

/-- A context in use sums the samples before its crossing and follows what is neither erased nor its own (R457, R464, R465). -/
theorem lineHalf_inUse {l : List Int} {erased : Bool} (seen : seenSamples (refresh k s) k (lctx s k).hc h.samples = l)
    (known : (decide (0 < (lctx s k).warmup) || decide (0 < h.lost) ||
      windowJumps (lineSet (refresh k s) k 5) (windowSamples (lctx s k) l) (lctx s k).windows) = erased)
    (idle : (lctx s k).idle = false) (up : lineUp (refresh k s) k = true) :
    (lctx (lineHalf nv k h s) k).warmup = (lctx s k).warmup - 1 ∧
      (lctx (lineHalf nv k h s) k).prevNotch = notchSum (notchSamples (lctx s k) l) ∧
      (lctx (lineHalf nv k h s) k).prevErased = erased ∧
      (lctx (lineHalf nv k h s) k).erased = (if erased then satInc (lctx s k).erased else (lctx s k).erased) ∧
      (lctx (lineHalf nv k h s) k).xofs =
        if erased || ctxSends (lctx s k) (lctx s k).hc then (lctx s k).xofs
        else xofsAfter (lctx s k).xofs (lctx s k).hc (crossingsOf (lctx s k) l) := by
  have same := beforeHalf_sameLine h.lost s hk
  have ctx := beforeHalf_lctx h.lost s hk
  rw [lineHalf_eq nv h hk core line, seen]
  have runs := same.lineUp.trans up
  have jumps : halfErased (beforeHalf k h.lost s) k l h.lost = erased := by
    rw [same.halfErased, ← known]
    unfold halfErased
    dsimp only
    rw [lctx_refresh s hk]
    rfl
  generalize beforeHalf k h.lost s = u at runs jumps ctx ⊢
  have awake : ¬ (lctx u k).idle = true := by
    rw [ctx]
    simp [idle]
  have stepped : halfStep nv k l h.lost u = halfCycle nv k l h.lost u := (if_neg awake).trans (if_pos runs)
  have phase := PhaseOf.trans (halfCycle_phaseOf nv l h.lost u hk) (owedPast_phaseOf (halfCycle nv k l h.lost u) hk)
  rw [stepped]
  generalize owedPast k (halfCycle nv k l h.lost u) = v at phase ⊢
  have xofs : (lctx u k).xofs = (lctx s k).xofs := by rw [ctx]
  have warmup : (lctx u k).warmup = (lctx s k).warmup := by rw [ctx]
  have count : (lctx u k).erased = (lctx s k).erased := by rw [ctx]
  have hc : (lctx u k).hc = (lctx s k).hc := by rw [ctx]
  have sends : ctxSends (lctx u k) (lctx s k).hc = ctxSends (lctx s k) (lctx s k).hc := by rw [ctx]; rfl
  have notch : notchSamples (lctx u k) l = notchSamples (lctx s k) l := by rw [ctx]; rfl
  have cross := crossingsOf_past (c := lctx s k) (c' := lctx u k) l (by rw [ctx])
  rw [PhaseOf.warmup phase, PhaseOf.prevNotch phase, PhaseOf.prevErased phase, PhaseOf.erased phase, PhaseOf.xofs phase,
    followed_warmup, followed_prevNotch, followed_prevErased, followed_erased, followed_xofs, jumps, xofs, warmup, count, hc, sends,
    notch, cross]
  exact ⟨rfl, rfl, rfl, rfl, rfl⟩

end

end Sys2Proof.Machine
end

section
/-! PROOF of O53, with the missing phase and the drive records (R457, R461, R463). -/

namespace Sys2Proof.Machine

/-! ### What waits on a context is discarded -/

/-- Nothing waits on the context, and nothing fires. -/
def txDropped (c : LineCtx) : LineCtx := { c with queue := [], rest := [], pulses := [], pdHigh := false }

theorem dropTx_lctx {k : Nat} (s : Vol) (hk : k < 3) : lctx (dropTx k false s) k = txDropped (lctx s k) := by
  have gone : ∀ l : List LinePulse, (l.filter fun p => ([] : List TxSym).any (·.hc == p.sym)) = [] := fun l => by simp
  unfold dropTx
  simp only [Bool.false_and, Bool.false_eq_true, if_false, gone]
  exact lctx_setCtx_self _ s hk

/-! ### A missing phase (R457, R460) -/

/-- The context once its phase is missing. -/
def ctxMissing (c : LineCtx) : LineCtx :=
  { c with idle := true, good := 0, lastCross := none, rx := none, frame := none, owed := none }

theorem phaseMissing_eq (nv : Nv) {k : Nat} {s : Vol} (up : lineUp s k = true) (used : (lctx s k).idle = false) :
    phaseMissing nv k s =
      limG 0x0612 k k (replyFails nv k (modCtx k ctxMissing (lineReplyLost k (softClose k (dropTx k false s))))) :=
  if_neg (by simp [up, used])

/-- A missing phase ends what is on the line. -/
theorem phaseMissing_ends (nv : Nv) {k : Nat} {s : Vol} (hk : k < 3) (up : lineUp s k = true) (used : (lctx s k).idle = false) :
    let t := phaseMissing nv k s
    t.bak = s.bak ∧ t.ret.led = s.ret.led ∧ (lctx t k).idle = true ∧ (lctx t k).queue = [] ∧ (lctx t k).rest = [] ∧
      (lctx t k).rx = none ∧ (lctx t k).frame = none ∧ (lctx t k).owed = none ∧ (lctx t k).pulses = [] ∧ (lctx t k).pdHigh = false := by
  intro t
  have ended : t = _ := phaseMissing_eq nv up used
  have dropped := dropTx_lctx s hk
  have stands : LedgerStands s (dropTx k false s) := (dropTx_frame k false s).ledgerStands
  have closed := softRecord_softOf (dropTx k false s) hk
  have record := stands.trans (softRecord_frame k (dropTx k false s)).ledgerStands
  rw [softClose] at ended
  unfold CtxStands at closed
  rw [dropped] at closed
  generalize softRecord k (dropTx k false s) = u at ended closed record
  have lost : (lineReplyLost k u).bak = s.bak ∧ (lineReplyLost k u).ret.led = s.ret.led :=
    ⟨(lineReplyLost_bak k u).trans record.bak, (congrArg (·.led) (lineReplyLost_ret k u)).trans record.led⟩
  have missing : lctx (modCtx k ctxMissing (lineReplyLost k u)) k = ctxMissing (lctx u k) := by
    rw [lctx_modCtx_self _ _ hk, lineReplyLost_lctx]
  have moved : LedgerStands s (modCtx k ctxMissing (lineReplyLost k u)) := ⟨lost.1, lost.2⟩
  generalize modCtx k ctxMissing (lineReplyLost k u) = v at ended missing moved
  have failed := replyFails_pollOf nv v hk
  have after := moved.trans (replyFails_frame nv k v).ledgerStands
  have final := after.trans (limG_frame 0x0612 k k (replyFails nv k v)).ledgerStands
  have ctx : lctx t k = lctx (replyFails nv k v) k := by rw [ended, (limG_frame _ _ _ _).lctx]
  rw [← ended] at final
  unfold CtxStands PollOf at failed
  rw [missing, closed] at failed
  rw [ctx, failed]
  exact ⟨final.bak, final.led, rfl, rfl, rfl, rfl, rfl, rfl, rfl, rfl⟩

/-! ### Drive records (R64, R463) -/

/-- The oldest record of the context has left the FIFO. -/
def driveTaken (k : Nat) (s : Vol) : Vol := { s with work.line.drive := s.work.line.drive.eraseP (·.ctx.val == k) }

/-- The pulse of a record. -/
def drivePulse (s : Vol) (k : Nat) (d : LineDrive) : LinePulse := { hc := d.hc, tick := d.tick, ticks := lineSet s k 1, sym := d.sym }

section
variable (nv : Nv) {k : Nat} {s : Vol} {d : LineDrive} {h : BitVec 16} {n : Nat} (up : lineUp s k = true)
  (oldest : s.work.line.drive.find? (·.ctx.val == k) = some d)
include up oldest

theorem driveRecord_fires (live : d.live = true) (early : inTime d h n = true) :
    driveRecord nv k h n s =
      fillDrive (modCtx k (fun c => withPulses (c.pulses ++ [drivePulse s k d]) c) (driveTaken k s)) := by
  rw [driveRecord, oldest]
  dsimp only
  rw [up, live, early]
  rfl

theorem driveRecord_late (live : d.live = true) (late : inTime d h n = false) :
    driveRecord nv k h n s =
      fillDrive (limG 0x0615 k k (replyFails nv k
        (modCtx k (fun c => { c with txAbort := true }) (dropTx k false (countLate (driveTaken k s)))))) := by
  rw [driveRecord, oldest]
  dsimp only
  rw [up, live, late]
  rfl

theorem driveRecord_void (void : d.live = false) : driveRecord nv k h n s = fillDrive (countLate (driveTaken k s)) := by
  rw [driveRecord, oldest]
  dsimp only
  rw [up, void]
  rfl

end

theorem CtxFrame.fab {s s' : Vol} (h : CtxFrame s s') : s'.work.fab = s.work.fab := by rw [h.only]

theorem QueueOf.pulses {c c' : LineCtx} (h : QueueOf c c') : c'.pulses = c.pulses := by rw [h]
theorem QueueOf.pdHigh {c c' : LineCtx} (h : QueueOf c c') : c'.pdHigh = c.pdHigh := by rw [h]

theorem fillDrive_fires {k : Nat} (p : LinePulse) (s : Vol) (hk : k < 3) :
    let t := fillDrive (modCtx k (fun c => withPulses (c.pulses ++ [p]) c) s)
    t.bak = s.bak ∧ t.ret = s.ret ∧ (lctx t k).pulses = (lctx s k).pulses ++ [p] ∧
      (p.hc = (lctx s k).hc → (lctx t k).pdHigh = true) ∧ t.work.fab = s.work.fab := by
  intro t
  have frame := (modCtx_frame k (fun c => withPulses (c.pulses ++ [p]) c) s).trans (fillDrive_frame _)
  have filled := fillDrive_queueOf (modCtx k (fun c => withPulses (c.pulses ++ [p]) c) s) hk
  have ended : t = fillDrive (modCtx k (fun c => withPulses (c.pulses ++ [p]) c) s) := rfl
  unfold CtxStands at filled
  rw [lctx_modCtx_self _ _ hk] at filled
  rw [← ended] at frame filled
  clear_value t
  refine ⟨frame.bak, frame.ret, filled.pulses, fun now => ?_, frame.fab⟩
  refine filled.pdHigh.trans ?_
  have within : pulseIn (lctx s k).hc p = true := by simp [pulseIn, now]
  simp [withPulses, within]

theorem fillDrive_aborts (nv : Nv) {k : Nat} (s : Vol) (hk : k < 3) :
    let t := fillDrive (limG 0x0615 k k (replyFails nv k (modCtx k (fun c => { c with txAbort := true }) (dropTx k false s))))
    t.bak = s.bak ∧ t.work.fab = s.work.fab ∧ (lctx t k).txAbort = true ∧ (lctx t k).queue = [] ∧ (lctx t k).rest = [] := by
  intro t
  have dropped := dropTx_lctx s hk
  have frame := dropTx_frame k false s
  have aborted : lctx (modCtx k (fun c => { c with txAbort := true }) (dropTx k false s)) k =
      { txDropped (lctx s k) with txAbort := true } := by rw [lctx_modCtx_self _ _ hk, dropped]
  have moved := frame.trans (modCtx_frame k (fun c => { c with txAbort := true }) (dropTx k false s))
  have ended : t = fillDrive (limG 0x0615 k k (replyFails nv k (modCtx k (fun c => { c with txAbort := true }) (dropTx k false s)))) := rfl
  generalize modCtx k (fun c => { c with txAbort := true }) (dropTx k false s) = v at aborted moved ended
  have failed := replyFails_pollOf nv v hk
  have poll := replyFails_frame nv k v
  generalize replyFails nv k v = w at failed poll ended
  have logged := limG_frame 0x0615 k k w
  generalize limG 0x0615 k k w = x at logged ended
  have filled := fillDrive_queueOf x hk
  have count := fillDrive_queue x k
  have last := fillDrive_frame x
  rw [← ended] at filled count last
  unfold CtxStands at failed filled
  have ctx : lctx x k = lctx w k := by rw [logged.lctx]
  rw [aborted] at failed
  rw [ctx] at filled count
  rw [failed] at filled count
  refine ⟨last.bak.trans (logged.bak.trans (poll.bak.trans moved.bak)),
    last.fab.trans (logged.work_fab.trans (poll.fab.trans moved.fab)), congrArg (·.txAbort) filled,
    List.length_eq_zero_iff.mp count, congrArg (·.rest) filled⟩

/-- Settles O53: a half-cycle is followed whatever the context does (`lineHalf_follows`), counted while it is idle (`lineHalf_idle`) and
decoded in use (`lineHalf_inUse`); a missing phase and a late record drop what waits. -/
theorem contextsFollowThePhase : Obligations.ContextsFollowThePhase := by
  unfold Obligations.ContextsFollowThePhase
  intro s k c r
  refine ⟨fun core line h => ?_, fun up => ⟨fun used => ?_, fun d h n oldest => ⟨fun live early => ?_, fun live late => ?_,
    fun void => ?_⟩⟩⟩
  · intro l
    refine ⟨?_, fun a b idle last one good => ?_, fun used up => ?_⟩
    · obtain ⟨bak, led, follows⟩ := lineHalf_follows s.nv k.isLt core line h
      refine ⟨_, exec_lineHalfCycle k h s, State.up_nv _ _, ?_⟩
      rw [State.up_vol]
      exact ⟨bak, led, follows.hc, follows.past, follows.windows⟩
    · refine ⟨_, exec_lineHalfCycle k h s, ?_⟩
      rw [State.up_vol]
      exact lineHalf_idle s.nv k.isLt core line h idle last one good
    · intro erased
      refine ⟨_, exec_lineHalfCycle k h s, ?_⟩
      rw [State.up_vol]
      exact lineHalf_inUse s.nv k.isLt core line h rfl rfl used up
  · refine ⟨_, exec_phaseMissing k s, State.up_nv _ _, ?_⟩
    rw [State.up_vol]
    exact phaseMissing_ends s.nv k.isLt up used
  · have run := exec_driveRecord k ⟨h, n⟩ s
    rw [driveRecord_fires s.nv up oldest live early] at run
    refine ⟨_, run, State.up_nv _ _, ?_⟩
    rw [State.up_vol]
    exact fillDrive_fires (drivePulse s.vol k.val d) (driveTaken k.val s.vol) k.isLt
  · have run := exec_driveRecord k ⟨h, n⟩ s
    rw [driveRecord_late s.nv up oldest live late] at run
    refine ⟨_, run, State.up_nv _ _, ?_⟩
    rw [State.up_vol]
    obtain ⟨bak, fab, dropped⟩ := fillDrive_aborts s.nv (countLate (driveTaken k.val s.vol)) k.isLt
    exact ⟨bak, congrArg (·.late) fab, dropped⟩
  · have run := exec_driveRecord k ⟨h, n⟩ s
    rw [driveRecord_void s.nv up oldest void] at run
    have frame := fillDrive_frame (countLate (driveTaken k.val s.vol))
    have filled := fillDrive_queueOf (countLate (driveTaken k.val s.vol)) k.isLt
    refine ⟨_, run, State.up_nv _ _, ?_⟩
    rw [State.up_vol]
    exact ⟨frame.bak, frame.ret, QueueOf.pulses filled, QueueOf.pdHigh filled, congrArg (·.late) frame.fab⟩

end Sys2Proof.Machine
end

section
/-! SUPPORT and PROOF of O54. A node answers POLLs and hands OBJECTs to the engine (R470 to R472). -/

namespace Sys2Proof.Machine

theorem exec_linePoll (k : Fin 3) (s : State) : exec (.linePoll k) s = .next (s.up (linePoll k.val s.vol)) := rfl
theorem exec_lineObject (k : Fin 3) (s : State) : exec (.lineObject k) s = .next (s.up (lineObject s.nv k.val s.vol)) := rfl
theorem exec_nodeReply (k : Fin 3) (s : State) : exec (.nodeReply k) s = .next (s.up (nodeReply k.val s.vol)) := rfl

/-! ### A frame leaves on a context (R463) -/

/-- The symbols of a frame are those of its bits, each R times (R472). -/
theorem frameSymbols_length (r : Nat) (start : BitVec 16) (bits : List Bool) :
    (frameSymbols r start bits).length = r * bits.length := by
  simp [frameSymbols, List.length_flatMap, Nat.mul_comm]

/-- The places of the queue and what waits for them hold the frame that begins. -/
theorem sendBits_length {k : Nat} (r : Nat) (start : BitVec 16) (bits : List Bool) {s : Vol} (hk : k < 3)
    (idle : (lctx s k).queue = []) :
    (lctx (sendBits k r start bits s) k).queue.length + (lctx (sendBits k r start bits s) k).rest.length = r * bits.length := by
  have queued : lctx (modCtx k (fun c => refillTx { c with rest := frameSymbols r start bits }) s) k =
      refillTx { lctx s k with rest := frameSymbols r start bits } := lctx_modCtx_self _ s hk
  have offered := offerFirst_queueOf k (modCtx k (fun c => refillTx { c with rest := frameSymbols r start bits }) s) hk
  obtain ⟨-, -, -, count⟩ := offerFirst_stands k (modCtx k (fun c => refillTx { c with rest := frameSymbols r start bits }) s)
  have length := count k
  unfold CtxStands QueueOf at offered
  rw [queued] at offered length
  have rest : (lctx (sendBits k r start bits s) k).rest = (refillTx { lctx s k with rest := frameSymbols r start bits }).rest :=
    congrArg (·.rest) offered
  rw [rest, sendBits, length, ← frameSymbols_length r start bits]
  generalize frameSymbols r start bits = l
  simp only [refillTx, idle, List.length_nil, List.nil_append, List.length_take, List.length_drop]
  omega

theorem offerFirst_only (k : Nat) (s : Vol) : offerFirst k s = { s with
    work.line.ctxs := (offerFirst k s).work.line.ctxs
    work.line.drive := (offerFirst k s).work.line.drive
    work.fab := (offerFirst k s).work.fab } := by
  have filled := (fillDrive_frame s).only
  unfold offerFirst
  generalize fillDrive s = u at filled ⊢
  dsimp only
  split
  · rw [filled]
  · rw [filled]

/-- A frame that begins touches its context, the drive FIFO and the counts of the fabric alone. -/
theorem sendBits_only (k r : Nat) (start : BitVec 16) (bits : List Bool) (s : Vol) : sendBits k r start bits s = { s with
    work.line.ctxs := (sendBits k r start bits s).work.line.ctxs
    work.line.drive := (sendBits k r start bits s).work.line.drive
    work.fab := (sendBits k r start bits s).work.fab } := by
  unfold sendBits
  exact (offerFirst_only k _).trans rfl

theorem sendFrame_eq (k : Nat) (start : BitVec 16) (bits : List Bool) (s : Vol) :
    sendFrame k start bits s = sendBits k (repeats s k) start bits s := rfl

/-- The context that sends owes what it owed. -/
theorem sendBits_owed {k : Nat} (r : Nat) (start : BitVec 16) (bits : List Bool) (s : Vol) (hk : k < 3) :
    (lctx (sendBits k r start bits s) k).owed = (lctx s k).owed := by
  have queued : lctx (modCtx k (fun c => refillTx { c with rest := frameSymbols r start bits }) s) k =
      refillTx { lctx s k with rest := frameSymbols r start bits } := lctx_modCtx_self _ s hk
  have offered := offerFirst_queueOf k (modCtx k (fun c => refillTx { c with rest := frameSymbols r start bits }) s) hk
  unfold CtxStands QueueOf at offered
  rw [queued] at offered
  exact congrArg (·.owed) offered

/-! ### Requests (R470, R471) -/

/-- A reply is owed TTURN bit periods after the request. -/
theorem linePoll_owes {k : Nat} {s : Vol} {f : LineFrame} (up : lineUp s k = true) (node : serves s k 2 = true)
    (frame : (lctx s k).frame = some f) (poll : f.type = 1) :
    linePoll k s = modCtx k (fun c => { c with
      frame := none
      owed := some
        { bits := lineBits 0 (lineSet s k 11) 2 (readingPayload s f.margin), formed := true, dueAt := replyAtHc s k f,
          fromEngine := false } }) s := by
  rw [linePoll, frame]
  exact if_neg (by simp [up, node, poll])

/-- The context once its OBJECT has gone to the engine. -/
def objectOwed (s : Vol) (k : Nat) (f : LineFrame) : Vol :=
  modCtx k (fun c => { c with
    frame := none
    owed := some { bits := [], formed := false, dueAt := replyAtHc s k f, fromEngine := true } }) s

theorem lineObject_goes (nv : Nv) {k : Nat} {s : Vol} {f : LineFrame} (up : lineUp s k = true) (node : serves s k 2 = true)
    (frame : (lctx s k).frame = some f) (object : f.type = 3) (single : f.dest ≠ 16383) (idle : portBusy s .line = false) :
    lineObject nv k s = receive nv (parseFrame .line 0 f.payload) (objectOwed s k f) := by
  rw [lineObject, frame]
  refine (if_neg (by simp [up, node, object])).trans ?_
  dsimp only
  rw [if_neg single]
  simp only [single, idle, decide_false, Bool.or_self, Bool.false_eq_true, if_false]
  rfl

/-! ### The reply (R471, R472) -/

/-- The state in which the reply that was owed begins. -/
def owedTaken (k : Nat) (s : Vol) : Vol := setCtx k { lctx s k with owed := none } s

theorem nodeReply_begins {k : Nat} {s : Vol} {o : Owed} (up : lineUp s k = true) (node : serves s k 2 = true)
    (owed : (lctx s k).owed = some o) (due : (o.dueAt - (lctx s k).hc).toNat ≤ 1) :
    nodeReply k s =
      if o.fromEngine then
        match replyAt (owedTaken k s) .line with
        | some b => sendFrame k o.dueAt (lineBits 0 (lineSet (owedTaken k s) k 11) 3 b) (replyLeft .line b (owedTaken k s))
        | none => owedTaken k s
      else sendFrame k o.dueAt o.bits { owedTaken k s with work.line.ncount := s.work.line.ncount + 1 } := by
  have begins : ¬ ((!lineUp s k || !serves s k 2) = true ∨ 1 < (o.dueAt - (lctx s k).hc).toNat) := by
    rw [up, node]
    rintro (off | late)
    · exact absurd off (by decide)
    · omega
  unfold nodeReply
  dsimp only
  rw [owed]
  refine (if_neg ?_).trans rfl
  simpa using begins

theorem owedTaken_lctx {k : Nat} (s : Vol) (hk : k < 3) : lctx (owedTaken k s) k = { lctx s k with owed := none } :=
  lctx_setCtx_self _ s hk

theorem lineSet_lctx {s u : Vol} {k : Nat} (h : (lctx u k).inForce = (lctx s k).inForce) (i : Nat) : lineSet u k i = lineSet s k i :=
  congrArg (fun l => (lget l i).toNat) h

theorem repeats_lctx {s u : Vol} {k : Nat} (h : (lctx u k).inForce = (lctx s k).inForce) : repeats u k = repeats s k := by
  rw [repeats, lineSet_lctx h, repeats]

/-- What the LINE contexts hold stands while a reply leaves. -/
theorem replyLeft_held (p : Port) (b : Bytes) (s : Vol) (k : Nat) : CtxHeld (lctx s k) (lctx (replyLeft p b s) k) := by
  have taken : CtxHeld (lctx s k) (lctx (takeSettings p (replySent p b s)) k) := by
    unfold takeSettings
    split
    · split <;> exact .refl _
    · exact .refl _
  rw [replyLeft_eq]
  exact taken.trans ((endClosed_busStands p _).held k)

section
variable {k : Nat} {s : Vol} {o : Owed} (hk : k < 3)
include hk

/-- The reply of the node itself (R472). -/
theorem ownReply_begins (idle : (lctx s k).queue = []) :
    let t := sendFrame k o.dueAt o.bits { owedTaken k s with work.line.ncount := s.work.line.ncount + 1 }
    t.bak = s.bak ∧ (lctx t k).owed = none ∧ t.work.line.ncount = s.work.line.ncount + 1 ∧
      (lctx t k).queue.length + (lctx t k).rest.length = repeats s k * o.bits.length := by
  intro t
  have ended : t = sendFrame k o.dueAt o.bits { owedTaken k s with work.line.ncount := s.work.line.ncount + 1 } := rfl
  have ctx : lctx { owedTaken k s with work.line.ncount := s.work.line.ncount + 1 } k = { lctx s k with owed := none } :=
    owedTaken_lctx s hk
  have bak : ({ owedTaken k s with work.line.ncount := s.work.line.ncount + 1 } : Vol).bak = s.bak := rfl
  have count : ({ owedTaken k s with work.line.ncount := s.work.line.ncount + 1 } : Vol).work.line.ncount =
      s.work.line.ncount + 1 := rfl
  generalize ({ owedTaken k s with work.line.ncount := s.work.line.ncount + 1 } : Vol) = u at ended ctx bak count
  rw [sendFrame_eq] at ended
  have copies : repeats u k = repeats s k := repeats_lctx (by rw [ctx])
  have only := sendBits_only k (repeats u k) o.dueAt o.bits u
  have owes := sendBits_owed (repeats u k) o.dueAt o.bits u hk
  have length := sendBits_length (repeats u k) o.dueAt o.bits hk (s := u) (by rw [ctx]; exact idle)
  rw [← ended] at only owes length
  rw [copies] at length
  clear_value t
  rw [ctx] at owes
  refine ⟨?_, owes, ?_, length⟩
  · rw [only]
    exact bak
  · rw [only]
    exact count

/-- The reply of the engine (R471). -/
theorem engineReply_begins (b : Bytes) (idle : (lctx s k).queue = []) :
    let t := sendFrame k o.dueAt (lineBits 0 (lineSet (owedTaken k s) k 11) 3 b) (replyLeft .line b (owedTaken k s))
    t.bak = s.bak ∧ (lctx t k).owed = none ∧ replyAt t .line = none ∧
      (lctx t k).queue.length + (lctx t k).rest.length = repeats s k * (lineBits 0 (lineSet s k 11) 3 b).length := by
  intro t
  have ctx := owedTaken_lctx s hk
  have src : lineSet (owedTaken k s) k 11 = lineSet s k 11 := lineSet_lctx (by rw [ctx]) 11
  have ended : t = sendFrame k o.dueAt (lineBits 0 (lineSet s k 11) 3 b) (replyLeft .line b (owedTaken k s)) := by
    rw [← src]
  have held := replyLeft_held .line b (owedTaken k s) k
  have gone := replyLeft_gone .line b (owedTaken k s)
  have bak : (replyLeft .line b (owedTaken k s)).bak = s.bak := replyLeft_bak .line b (owedTaken k s)
  rw [ctx] at held
  generalize replyLeft .line b (owedTaken k s) = u at ended held gone bak
  generalize lineBits 0 (lineSet s k 11) 3 b = bits at ended ⊢
  rw [sendFrame_eq] at ended
  have copies : repeats u k = repeats s k := repeats_lctx held.inForce
  have only := sendBits_only k (repeats u k) o.dueAt bits u
  have owes := sendBits_owed (repeats u k) o.dueAt bits u hk
  have length := sendBits_length (repeats u k) o.dueAt bits hk (held.queue idle)
  rw [← ended] at only owes length
  rw [copies] at length
  clear_value t
  refine ⟨?_, owes.trans held.owed, ?_, length⟩
  · rw [only]
    exact bak
  · rw [only]
    exact gone

end

/-- Settles O54: a POLL owes its READING (`linePoll_owes`), an OBJECT goes to the engine (`lineObject_goes`), whose work leaves what the
context holds, and the reply that is owed begins with its symbols (`nodeReply_begins`). -/
theorem nodesAnswerPollsAndObjects : Obligations.NodesAnswerPollsAndObjects := by
  unfold Obligations.NodesAnswerPollsAndObjects
  intro s k up node
  refine ⟨fun f frame poll => ?_, fun f frame object single idle => ?_, fun o owed due idle => ?_⟩
  · have run := exec_linePoll k s
    rw [linePoll_owes up node frame poll] at run
    refine ⟨_, run, State.up_nv _ _, rfl, rfl, ?_⟩
    rw [State.up_vol, lctx_modCtx_self _ _ k.isLt]
    exact ⟨rfl, rfl⟩
  · have run := exec_lineObject k s
    rw [lineObject_goes s.nv up node frame object single idle] at run
    have held := (receive_busStands s.nv (parseFrame .line 0 f.payload) (objectOwed s.vol k.val f)).held k.val
    have ctx : lctx (objectOwed s.vol k.val f) k.val = _ := lctx_modCtx_self _ s.vol k.isLt
    rw [ctx] at held
    refine ⟨_, run, State.up_nv _ _, ?_⟩
    rw [State.up_vol]
    exact ⟨held.frame, held.owed⟩
  · have run := exec_nodeReply k s
    rw [nodeReply_begins up node owed due] at run
    cases engine : o.fromEngine with
    | false =>
      rw [engine, if_neg (by decide)] at run
      obtain ⟨bak, owes, count, length⟩ := ownReply_begins (o := o) k.isLt idle
      refine ⟨_, run, State.up_nv _ _, ?_⟩
      rw [State.up_vol]
      exact ⟨bak, owes, fun _ => ⟨count, length⟩, fun _ h => absurd h (by decide), fun h => absurd h (by decide)⟩
    | true =>
      have stands : replyAt (owedTaken k.val s.vol) .line = replyAt s.vol .line := rfl
      rw [engine, if_pos rfl, stands] at run
      cases reply : replyAt s.vol .line with
      | none =>
        rw [reply] at run
        have ctx := owedTaken_lctx s.vol k.isLt
        refine ⟨_, run, State.up_nv _ _, rfl, ?_⟩
        rw [State.up_vol, ctx]
        exact ⟨rfl, fun h => absurd h (by decide), fun _ _ h => absurd h (by simp), fun _ _ => idle⟩
      | some b =>
        rw [reply] at run
        obtain ⟨bak, owes, gone, length⟩ := engineReply_begins (o := o) k.isLt b idle
        refine ⟨_, run, State.up_nv _ _, ?_⟩
        rw [State.up_vol]
        refine ⟨bak, owes, fun h => absurd h (by decide), fun b' _ h => ?_, fun _ h => absurd h (by simp)⟩
        obtain rfl := Option.some.inj h
        exact ⟨gone, length⟩

end Sys2Proof.Machine
end

section
/-! SUPPORT and PROOF of O55. Masters sweep and poll (R473 to R477). -/

namespace Sys2Proof.Machine

theorem exec_sweepStart (k : Fin 3) (s : State) : exec (.sweepStart k) s = .next (s.up (sweepStart k.val s.vol)) := rfl
theorem exec_pollAttempt (k : Fin 3) (s : State) : exec (.pollAttempt k) s = .next (s.up (pollAttempt s.nv k.val s.vol)) := rfl
theorem exec_lineReading (k : Fin 3) (s : State) : exec (.lineReading k) s = .next (s.up (lineReading s.nv k.val s.vol)) := rfl
theorem exec_pollWaitTimeout (k : Fin 3) (s : State) :
    exec (.pollWaitTimeout k) s = .next (s.up (pollWaitTimeout s.nv k.val s.vol)) := rfl

/-! ### A sweep begins (R477) -/

theorem sweepStart_begins {k : Nat} {s : Vol} (up : lineUp (refresh k s) k = true) (master : serves (refresh k s) k 3 = true)
    (idle : vget s.ret.line.sweeping k = false)
    (due : ∀ t, vget s.ret.line.sweepTick k = some t → lineSet (refresh k s) k 10 * 230400 ≤ (s.bak.count - t).toNat)
    (own : s.work.line.handback = false) :
    sweepStart k s =
      { refresh k s with
        ret.line.sweeping := vset s.ret.line.sweeping k true
        ret.line.sweepTick := vset s.ret.line.sweepTick k (some s.bak.count)
        ret.line.next := vset s.ret.line.next k (pollRange (refresh k s) k).1 } := by
  have frame := refresh_frame k s
  have ret := frame.ret
  have bak := frame.bak
  have hand := frame.handback.trans own
  unfold sweepStart
  generalize refresh k s = r at up master due ret bak hand ⊢
  dsimp only
  rw [ret, bak]
  rw [up, master, idle, hand]
  cases tick : vget s.ret.line.sweepTick k with
  | none => rfl
  | some t =>
    refine if_neg ?_
    change ¬ (!true || !true || false || !decide (lineSet r k 10 * 230400 ≤ (s.bak.count - t).toNat) || false) = true
    rw [decide_eq_true (due t tick)]
    decide

/-! ### An attempt (R473, R476) -/

/-- The context that sends keeps its poll. -/
theorem sendBits_poll {k : Nat} (r : Nat) (start : BitVec 16) (bits : List Bool) (s : Vol) (hk : k < 3) :
    (lctx (sendBits k r start bits s) k).poll = (lctx s k).poll := by
  have queued : lctx (modCtx k (fun c => refillTx { c with rest := frameSymbols r start bits }) s) k =
      refillTx { lctx s k with rest := frameSymbols r start bits } := lctx_modCtx_self _ s hk
  have offered := offerFirst_queueOf k (modCtx k (fun c => refillTx { c with rest := frameSymbols r start bits }) s) hk
  unfold CtxStands QueueOf at offered
  rw [queued] at offered
  exact congrArg (·.poll) offered


/-- A POLL that leaves waits for its answer, and touches nothing outside the LINE side. -/
theorem sendPoll_sent {k : Nat} (p : Poll) (s : Vol) (hk : k < 3) :
    (sendPoll k p s).bak = s.bak ∧ (sendPoll k p s).ret = s.ret ∧
      (lctx (sendPoll k p s) k).poll = some { p with waiting := true, waited := 0 } := by
  have polled : lctx (modCtx k (fun c => { c with poll := some { p with waiting := true, waited := 0 } }) s) k =
      { lctx s k with poll := some { p with waiting := true, waited := 0 } } := lctx_modCtx_self _ s hk
  have bak : (modCtx k (fun c => { c with poll := some { p with waiting := true, waited := 0 } }) s).bak = s.bak := rfl
  have ret : (modCtx k (fun c => { c with poll := some { p with waiting := true, waited := 0 } }) s).ret = s.ret := rfl
  unfold sendPoll
  generalize modCtx k (fun c => { c with poll := some { p with waiting := true, waited := 0 } }) s = u at polled bak ret ⊢
  dsimp only
  rw [sendFrame_eq]
  generalize lineBits p.node 0 1 [] = bits
  have only := sendBits_only k (repeats u k) (nextEven (lctx u k).hc) bits u
  refine ⟨?_, ?_, (sendBits_poll (repeats u k) _ bits u hk).trans (congrArg (·.poll) polled)⟩
  · rw [only]
    exact bak
  · rw [only]
    exact ret

section
variable (nv : Nv) {k : Nat} {s : Vol} (free : masterFree (refresh k s) k = true)
include free

theorem pollAttempt_again {p : Poll} (hk : k < 3) (poll : (lctx s k).poll = some p) :
    pollAttempt nv k s = sendPoll k { p with attempt := p.attempt + 1 } (refresh k s) := by
  have same : (lctx (refresh k s) k).poll = some p := by rw [lctx_refresh s hk]; exact poll
  rw [pollAttempt]
  dsimp only
  rw [free, same]
  simp only [Bool.not_true, Bool.false_eq_true, if_false]

/-- Without a poll of its own the context goes on with its sweep. -/
theorem pollAttempt_next (hk : k < 3) (poll : (lctx s k).poll = none) (sweeping : vget s.ret.line.sweeping k = true)
    (queue : rosterQueued s = false) :
    pollAttempt nv k s =
      match nextNode nv (storeMet (refresh k s)) k with
      | none => sweepEnds k (storeMet (refresh k s))
      | some n =>
        sendPoll k { node := n, attempt := 1, waiting := false, touched := false, waited := 0 }
          (setNext k n (storeMet (refresh k s))) := by
  have same : (lctx (refresh k s) k).poll = none := by rw [lctx_refresh s hk]; exact poll
  have going : vget (refresh k s).ret.line.sweeping k = true := by rw [(refresh_frame k s).ret]; exact sweeping
  have entered : rosterQueued (refresh k s) = false := by
    rw [refresh_only]
    exact queue
  rw [pollAttempt]
  dsimp only
  rw [free, same]
  cases nextNode nv (storeMet (refresh k s)) k <;>
    simp only [Bool.not_true, Bool.false_eq_true, if_false, going, entered, Bool.or_self]

end

/-- The roster is read the same once the STORE is met. -/
theorem nextNode_storeMet (nv : Nv) (s : Vol) (k : Nat) : nextNode nv (storeMet s) k = nextNode nv s k := rfl

/-! ### A poll ends (R475, R476) -/

theorem endPoll_ends (nv : Nv) {k : Nat} (p : Poll) (e : Bytes) (s : Vol) (hk : k < 3) :
    (lctx (endPoll nv k p e s) k).poll = none ∧ vget (endPoll nv k p e s).ret.line.next k = p.node + 1 := by
  have logged := endPoll_logged nv k p e s
  have moved : lctx (pollMoved k p s) k = { lctx s k with poll := none, quiet := 0 } :=
    lctx_modCtx_self (fun c => { c with poll := none, quiet := 0 }) s hk
  rw [logged.lctx, logged.ret_line, moved]
  exact ⟨rfl, vget_vset_self _ _ hk⟩

theorem lineReading_ends (nv : Nv) {k : Nat} {s : Vol} {f : LineFrame} {p : Poll} (up : lineUp s k = true)
    (frame : (lctx s k).frame = some f) (poll : (lctx s k).poll = some p) (reading : f.type = 2) :
    ∃ e, lineReading nv k s = endPoll nv k p e (modCtx k (fun c => { c with frame := none }) s) := by
  refine ⟨f.payload.take 5 ++ beBytes 2 (hourStamp s) ++ [0], ?_⟩
  rw [lineReading, frame, poll]
  exact if_neg (by simp [up, reading])

theorem attemptFails_retries (nv : Nv) {k : Nat} {s : Vol} {p : Poll} (poll : (lctx s k).poll = some p)
    (own : s.work.line.handback = false) (left : p.attempt < 1 + lineSet s k 9) :
    attemptFails nv k s = modCtx k (fun c => { c with poll := some { p with waiting := false }, quiet := 0 }) s := by
  rw [attemptFails, poll]
  dsimp only
  rw [own, if_neg (by decide), if_pos left]

theorem attemptFails_spent (nv : Nv) {k : Nat} {s : Vol} {p : Poll} (poll : (lctx s k).poll = some p)
    (own : s.work.line.handback = false) (spent : 1 + lineSet s k 9 ≤ p.attempt) : attemptFails nv k s = pollFails nv k p s := by
  rw [attemptFails, poll]
  dsimp only
  rw [own, if_neg (by decide), if_neg (Nat.not_lt.mpr spent)]

/-- A poll that fails ends. -/
theorem pollFails_ends (nv : Nv) {k : Nat} (p : Poll) (s : Vol) (hk : k < 3) :
    (lctx (pollFails nv k p s) k).poll = none ∧ vget (pollFails nv k p s).ret.line.next k = p.node + 1 := by
  unfold pollFails
  dsimp only
  generalize hu : endPoll nv k p _ (storeMet s) = u
  have ended : (lctx u k).poll = none ∧ vget u.ret.line.next k = p.node + 1 := by
    rw [← hu]
    exact endPoll_ends nv p _ (storeMet s) hk
  split
  · rw [(limG_frame _ _ _ _).lctx, (limG_frame _ _ _ _).ret_line]
    exact ended
  · exact ended

theorem pollWaitTimeout_fails (nv : Nv) {k : Nat} {s : Vol} {p : Poll} (up : lineUp s k = true) (poll : (lctx s k).poll = some p)
    (waiting : p.waiting = true) (rx : (lctx s k).rx = none) (frame : (lctx s k).frame = none) (queue : (lctx s k).queue = [])
    (rest : (lctx s k).rest = []) (long : bitPeriods s k (lineSet s k 7 + 20) ≤ p.waited) :
    pollWaitTimeout nv k s = attemptFails nv k s := by
  rw [pollWaitTimeout, poll]
  exact if_pos (by simp [up, waiting, rx, frame, queue, rest, long])

/-- Settles O55: a sweep begins, an attempt leaves as a POLL that waits (`sendPoll_sent`), and a READING or the last failure ends the
poll (`endPoll_ends`, `pollFails_ends`). -/
theorem mastersSweepAndPoll : Obligations.MastersSweepAndPoll := by
  unfold Obligations.MastersSweepAndPoll
  intro s k up
  have hk := k.isLt
  refine ⟨?_, fun free => ⟨fun p poll => ?_, fun n poll sweeping queue next => ?_, fun poll sweeping queue next => ?_⟩,
    fun f p frame poll reading => ?_, fun p poll waiting rx frame queue rest long own => ?_⟩
  · intro r upR master idle due own
    rw [exec_sweepStart, sweepStart_begins upR master idle due own]
  · have run := exec_pollAttempt k s
    rw [pollAttempt_again s.nv free hk poll] at run
    obtain ⟨bak, ret, sent⟩ := sendPoll_sent { p with attempt := p.attempt + 1 } (refresh k.val s.vol) hk
    refine ⟨_, run, State.up_nv _ _, ?_⟩
    rw [State.up_vol]
    exact ⟨bak.trans (refresh_frame _ _).bak, ret.trans (refresh_frame _ _).ret, sent⟩
  · have run := exec_pollAttempt k s
    rw [pollAttempt_next s.nv free hk poll sweeping queue, nextNode_storeMet, next] at run
    obtain ⟨bak, ret, sent⟩ := sendPoll_sent { node := n, attempt := 1, waiting := false, touched := false, waited := 0 }
      (setNext k.val n (storeMet (refresh k.val s.vol))) hk
    refine ⟨_, run, State.up_nv _ _, ?_⟩
    rw [State.up_vol, ret]
    exact ⟨bak.trans (refresh_frame k.val s.vol).bak, vget_vset_self _ _ hk, sent⟩
  · have run := exec_pollAttempt k s
    rw [pollAttempt_next s.nv free hk poll sweeping queue, nextNode_storeMet, next] at run
    have sweeps : (refresh k.val s.vol).work.line.sweeps = s.vol.work.line.sweeps := by rw [(refresh_frame k.val s.vol).only]
    refine ⟨_, run, State.up_nv _ _, ?_⟩
    rw [State.up_vol, sweepEnds, logG_ret_line, logG_work_line]
    exact ⟨vget_vset_self _ _ hk, congrArg satInc sweeps⟩
  · obtain ⟨e, ends⟩ := lineReading_ends s.nv up frame poll reading
    have run := exec_lineReading k s
    rw [ends] at run
    obtain ⟨none_, next⟩ := endPoll_ends s.nv p e (modCtx k.val (fun c => { c with frame := none }) s.vol) hk
    have polls := endPoll_pollOf s.nv p e (modCtx k.val (fun c => { c with frame := none }) s.vol) hk
    have kept := endPoll_frame s.nv k.val p e (modCtx k.val (fun c => { c with frame := none }) s.vol)
    unfold CtxStands at polls
    rw [lctx_modCtx_self _ _ hk] at polls
    refine ⟨_, run, State.up_nv _ _, ?_⟩
    rw [State.up_vol]
    exact ⟨kept.bak, kept.led, none_, congrArg (·.frame) polls, next⟩
  · have run := exec_pollWaitTimeout k s
    rw [pollWaitTimeout_fails s.nv up poll waiting rx frame queue rest long] at run
    refine ⟨_, run, State.up_nv _ _, ?_⟩
    rw [State.up_vol]
    refine ⟨(attemptFails_frame _ _ _).bak, fun left => ?_, fun spent => ?_⟩
    · rw [attemptFails_retries s.nv poll own left, lctx_modCtx_self _ _ hk]
    · rw [attemptFails_spent s.nv poll own spent]
      exact pollFails_ends s.nv p s.vol hk

end Sys2Proof.Machine
end

section
/-! SUPPORT and PROOF of O58. Rectangles run their frames, and INFO and a token result leave the display (R497 to R508). -/

namespace Sys2Proof.Machine

theorem exec_displayFrameStart (s : State) : exec .displayFrameStart s = .next (s.up (frameStart s.nv s.vol)) := rfl
theorem exec_rectangleEnd (ix : Fin 4) (s : State) : exec (.rectangleEnd ix) s = .next (s.up (rectangleEnd ix.val s.vol)) := rfl
theorem exec_infoTimeout (s : State) : exec .infoTimeout s = .next (s.up (infoTimeout s.vol)) := rfl
theorem exec_tokenResultTimeout (s : State) : exec .tokenResultTimeout s = .next (s.up (tokenResultTimeout s.vol)) := rfl

/-! ### PMIC_EN rests (R494) -/

/-- Without a pending request nothing can start. -/
theorem startable_nil {s : Vol} (none : s.work.disp.pend = []) : startable s = false := by
  rw [startable, none]
  exact Bool.and_false _

/-- A request whose band is empty cannot start (R501). -/
theorem startable_empty {s : Vol} {r : Rect} (one : s.work.disp.pend = [r]) (empty : framesOf (bandSeqs s (bandNow s)) r.clear = 0) :
    startable s = false := by
  rw [startable, one]
  simp [empty]

theorem pmicRest_only (s : Vol) : pmicRest s = { s with work.disp.pmic := (pmicRest s).work.disp.pmic } := rfl

theorem pmicRest_falls {s : Vol} (idle : s.work.disp.running = []) (held : startable s = false) :
    (pmicRest s).work.disp.pmic = false := by
  simp [pmicRest, idle, held]

theorem pmicRest_runs {s : Vol} (up : s.work.disp.pmic = true) (runs : s.work.disp.running ≠ []) :
    (pmicRest s).work.disp.pmic = true := by
  simp [pmicRest, up, runs]

/-! ### The examination at a frame start (R500) -/

/-- What the examination makes of one pending request where nothing runs. -/
def examined (nv : Nv) (r : Rect) (s : Vol) : Vol :=
  if framesOf (bandSeqs s (bandNow s)) r.clear = 0 then limG 0x0702 0xFF (bandNow s) { s with work.disp.pend := [r] }
  else if drawnAlready nv { s with work.disp.pend := [] } r then
    { s with work.disp.pend := [], work.disp.updates := satInc s.work.disp.updates }
  else startRect nv (bandNow s) r { s with work.disp.pend := [] }

theorem examine_single (nv : Nv) {s : Vol} {r : Rect} (idle : s.work.disp.running = []) (one : s.work.disp.pend = [r]) :
    examine nv s = examined nv r s := by
  unfold examine
  dsimp only
  rw [one, List.foldl_cons, List.foldl_nil]
  exact if_neg (by simp [idle])

theorem frameStart_single (nv : Nv) {s : Vol} {r : Rect} (up : s.work.disp.pmic = true) (free : displayFree s = true)
    (core : coreRuns s = true) (idle : s.work.disp.running = []) (one : s.work.disp.pend = [r]) :
    frameStart nv s = pmicRest (examined nv r s) := by
  have advanced : { s with work.disp.running := s.work.disp.running.map fun r => { r with frame := min r.frames (r.frame + 1) } } = s := by
    rw [idle, List.map_nil, ← idle]
  have goes : frameStart nv s =
      pmicRest (examine nv
        { s with work.disp.running := s.work.disp.running.map fun r => { r with frame := min r.frames (r.frame + 1) } }) :=
    if_neg (by simp [up, free, core])
  rw [goes, advanced, examine_single nv idle one]

/-! ### A rectangle starts (R497, R498) -/

theorem takeTemplate_bak (r : Rect) (s : Vol) : (takeTemplate r s).bak = s.bak := by
  unfold takeTemplate
  split <;> rfl

theorem takeTemplate_disp (r : Rect) (s : Vol) : (takeTemplate r s).work.disp = s.work.disp := by
  unfold takeTemplate
  split <;> rfl

theorem startRect_bak (nv : Nv) (b : Nat) (r : Rect) (s : Vol) : (startRect nv b r s).bak = s.bak := takeTemplate_bak r s

/-- The rectangle that starts. -/
def startedRect (nv : Nv) (b : Nat) (r : Rect) (s : Vol) : Rect :=
  let s := takeTemplate r s
  let texts := (fieldsOf s s.ret.disp.shownTemplate).map fun p => (p.1, p.2, fieldText nv s p.2)
  let inside := if r.clear then [] else texts.filter fun p => boxIn (fieldRect p.2.1 p.1 false) r
  { r with
    band := b
    frames := framesOf (bandSeqs s b) r.clear
    frame := 1
    shown := inside.map fun p => (p.1, p.2.2)
    seqs := bandSeqs s b }

theorem startRect_running (nv : Nv) (b : Nat) (r : Rect) (s : Vol) :
    (startRect nv b r s).work.disp.running = s.work.disp.running ++ [startedRect nv b r s] := by
  have running : (startRect nv b r s).work.disp.running =
      (takeTemplate r s).work.disp.running ++ [startedRect nv b r s] := rfl
  rw [running, takeTemplate_disp]

theorem startRect_pend (nv : Nv) (b : Nat) (r : Rect) (s : Vol) : (startRect nv b r s).work.disp.pend = s.work.disp.pend := by
  have pend : (startRect nv b r s).work.disp.pend = (takeTemplate r s).work.disp.pend := rfl
  rw [pend, takeTemplate_disp]

theorem startRect_pmic (nv : Nv) (b : Nat) (r : Rect) (s : Vol) : (startRect nv b r s).work.disp.pmic = s.work.disp.pmic := by
  have pmic : (startRect nv b r s).work.disp.pmic = (takeTemplate r s).work.disp.pmic := rfl
  rw [pmic, takeTemplate_disp]

theorem startedRect_box (nv : Nv) (b : Nat) (r : Rect) (s : Vol) : sameBox (startedRect nv b r s) r = true := by
  simp [sameBox, startedRect]

theorem startedRect_frames (nv : Nv) (b : Nat) (r : Rect) (s : Vol) :
    (startedRect nv b r s).frames = framesOf (bandSeqs s b) r.clear := by
  have seqs : bandSeqs (takeTemplate r s) b = bandSeqs s b := by rw [bandSeqs, takeTemplate_disp, bandSeqs]
  exact congrArg (framesOf · r.clear) seqs

/-! ### The three outcomes -/

section
variable (nv : Nv) {s : Vol} {r : Rect}

/-- A rectangle whose band is empty stays pending (R501). -/
theorem examined_waits (idle : s.work.disp.running = []) (empty : framesOf (bandSeqs s (bandNow s)) r.clear = 0) :
    let t := pmicRest (examined nv r s)
    t.bak = s.bak ∧ t.work.disp.running = [] ∧ t.work.disp.pend = [r] ∧ t.work.disp.pmic = false ∧
      t.work.disp.updates = s.work.disp.updates := by
  have waits : examined nv r s = limG 0x0702 0xFF (bandNow s) { s with work.disp.pend := [r] } := if_pos empty
  have logged := limG_frame 0x0702 0xFF (bandNow s) { s with work.disp.pend := [r] }
  rw [waits]
  generalize limG 0x0702 0xFF (bandNow s) { s with work.disp.pend := [r] } = u at logged ⊢
  have disp := logged.work_disp
  have bak := logged.bak
  have running : u.work.disp.running = [] := by rw [disp]; exact idle
  have pend : u.work.disp.pend = [r] := by rw [disp]
  have band : framesOf (bandSeqs u (bandNow u)) r.clear = 0 := by
    rw [bandSeqs, bandNow, disp, bak]
    exact empty
  rw [pmicRest_only]
  exact ⟨bak, running, pend, pmicRest_falls running (startable_empty pend band), congrArg (·.updates) disp⟩

/-- A rectangle that shows what stands there already is complete at once (R500). -/
theorem examined_shown (idle : s.work.disp.running = []) (some_frames : framesOf (bandSeqs s (bandNow s)) r.clear ≠ 0)
    (drawn : drawnAlready nv { s with work.disp.pend := [] } r = true) :
    let t := pmicRest (examined nv r s)
    t.bak = s.bak ∧ t.work.disp.running = [] ∧ t.work.disp.pend = [] ∧ t.work.disp.pmic = false ∧
      t.work.disp.updates = satInc s.work.disp.updates := by
  have completes : examined nv r s =
      { s with work.disp.pend := [], work.disp.updates := satInc s.work.disp.updates } :=
    (if_neg some_frames).trans (if_pos drawn)
  rw [completes, pmicRest_only]
  exact ⟨rfl, idle, rfl, pmicRest_falls idle (startable_nil rfl), rfl⟩

/-- Any other rectangle starts with its first frame (R498). -/
theorem examined_starts (idle : s.work.disp.running = []) (up : s.work.disp.pmic = true)
    (some_frames : framesOf (bandSeqs s (bandNow s)) r.clear ≠ 0)
    (new : drawnAlready nv { s with work.disp.pend := [] } r = false) :
    let t := pmicRest (examined nv r s)
    ∃ q, t.bak = s.bak ∧ t.work.disp.running = [q] ∧ sameBox q r = true ∧ q.clear = r.clear ∧ q.frame = 1 ∧
      q.frames = framesOf (bandSeqs s (bandNow s)) r.clear ∧ t.work.disp.pend = [] ∧ t.work.disp.pmic = true := by
  have starts : examined nv r s = startRect nv (bandNow s) r { s with work.disp.pend := [] } :=
    (if_neg some_frames).trans (if_neg (by simp [new]))
  have bak := startRect_bak nv (bandNow s) r { s with work.disp.pend := [] }
  have running := startRect_running nv (bandNow s) r { s with work.disp.pend := [] }
  have pend := startRect_pend nv (bandNow s) r { s with work.disp.pend := [] }
  have pmic := startRect_pmic nv (bandNow s) r { s with work.disp.pend := [] }
  rw [starts]
  generalize startRect nv (bandNow s) r { s with work.disp.pend := [] } = u at bak running pend pmic ⊢
  have only := running.trans (congrArg (· ++ [startedRect nv (bandNow s) r { s with work.disp.pend := [] }]) idle)
  rw [pmicRest_only]
  exact ⟨_, bak, only, startedRect_box _ _ _ _, rfl, rfl, startedRect_frames _ _ _ _, pend,
    pmicRest_runs (pmic.trans up) (by rw [only]; simp)⟩

end

/-! ### A rectangle ends (R498, R508) -/

theorem rectangleEnd_completes {ix : Nat} {s : Vol} {r : Rect} (runs : s.work.disp.running[ix]? = some r)
    (last : r.frame = r.frames) : rectangleEnd ix s = pmicRest (completeRect r s) := by
  rw [rectangleEnd, runs]
  exact if_pos last

/-- The record is sealed over what stands in it. -/
theorem sealPanel_crc (s : Vol) : (sealPanel s).ret.disp.crc = crc16 (panelBytes (sealPanel s).ret.disp) := by
  have uncovered : panelBytes (sealPanel s).ret.disp = panelBytes s.ret.disp := rfl
  rw [uncovered]
  unfold sealPanel
  generalize crc16 (panelBytes s.ret.disp) = x
  rfl

theorem completeRect_crc (r : Rect) (s : Vol) : (completeRect r s).ret.disp.crc = crc16 (panelBytes (completeRect r s).ret.disp) :=
  sealPanel_crc _

/-- A DRAW takes its shown values. -/
theorem shownAfter_draw {s : Vol} {r : Rect} (draw : r.clear = false) : ∀ p ∈ r.shown, p ∈ shownAfter s r := by
  intro p hp
  rw [shownAfter, draw, if_neg (by decide)]
  exact List.mem_append_right _ hp

/-! ### INFO and a token result (R505, R506) -/

/-- A request touches neither the display of INFO nor that of a result. -/
structure ShowStands (s s' : Vol) : Prop where
  frame : DrawFrame s s'
  info : s'.work.disp.infoAt = s.work.disp.infoAt
  result : s'.work.disp.resultAt = s.work.disp.resultAt

theorem request_resultAt (r : Rect) (s : Vol) : (request r s).work.disp.resultAt = s.work.disp.resultAt := by
  have checked : ∀ u : Vol, (if u.work.disp.pmic then u else dueCheck u).work.disp.resultAt = u.work.disp.resultAt := fun u => by
    split
    · rfl
    · rw [(dueCheck_frame u).only]
  unfold request
  split
  · rfl
  · refine (checked _).trans ?_
    split_ifs
    · rfl
    · rfl
    · rw [collapse, (limG_frame _ _ _ _).work_disp]
      rfl
    · rfl

theorem fullDraw_showStands (s : Vol) : ShowStands s (fullDraw s) :=
  ⟨fullDraw_drawFrame s, request_infoAt _ s, request_resultAt _ s⟩

/-- A change that may change the template, with the draw that it may need. -/
theorem withTemplate_showStands (f : Vol → Vol) (s : Vol) : ShowStands (f s) (withTemplate f s) := by
  unfold withTemplate
  dsimp only
  split
  · exact ⟨.refl _, rfl, rfl⟩
  · exact fullDraw_showStands (f s)

theorem ShowStands.bak {s s' : Vol} (h : ShowStands s s') : s'.bak = s.bak := by rw [h.frame.only]
theorem ShowStands.ret_pre {s s' : Vol} (h : ShowStands s s') : s'.ret.pre = s.ret.pre := by rw [h.frame.only]

theorem infoTimeout_leaves {s : Vol} {k : BitVec 32} (shown : s.work.disp.infoAt = some k) (due : 3840 ≤ (s.bak.count - k).toNat) :
    infoTimeout s = withTemplate (fun s => { s with work.disp.infoAt := none }) s := by
  rw [infoTimeout, shown]
  exact if_pos due

theorem tokenResultTimeout_leaves {s : Vol} {k : BitVec 32} (shown : s.work.disp.resultAt = some k)
    (due : 640 ≤ (s.bak.count - k).toNat) : tokenResultTimeout s = withTemplate dropResult s := by
  rw [tokenResultTimeout, shown]
  exact if_pos due

/-- Settles O58: the examination of a frame start has three outcomes (`examined_waits`, `examined_shown`, `examined_starts`), the end of a
rectangle seals the panel record, and what leaves the display touches it alone. -/
theorem rectanglesRunTheirFrames : Obligations.RectanglesRunTheirFrames := by
  unfold Obligations.RectanglesRunTheirFrames
  intro s
  refine ⟨fun r up free core idle one => ?_, fun ix r runs last => ?_, fun k shown due => ?_, fun k shown due => ?_⟩
  · have run := exec_displayFrameStart s
    rw [frameStart_single s.nv up free core idle one] at run
    refine ⟨fun empty => ⟨_, run, State.up_nv _ _, ?_⟩, fun drawn frames => ⟨_, run, State.up_nv _ _, ?_⟩, fun new frames => ?_⟩
    · rw [State.up_vol]
      exact examined_waits s.nv idle empty
    · rw [State.up_vol]
      exact examined_shown s.nv idle frames drawn
    · obtain ⟨q, starts⟩ := examined_starts s.nv idle up frames new
      refine ⟨_, q, run, State.up_nv _ _, ?_⟩
      rw [State.up_vol]
      exact starts
  · have run := exec_rectangleEnd ix s
    rw [rectangleEnd_completes runs last] at run
    refine ⟨_, run, State.up_nv _ _, ?_⟩
    rw [State.up_vol, pmicRest_only]
    exact ⟨rfl, rfl, rfl, rfl, completeRect_crc r s.vol, fun draw => shownAfter_draw draw⟩
  · have run := exec_infoTimeout s
    rw [infoTimeout_leaves shown due] at run
    have stands := withTemplate_showStands (fun s => { s with work.disp.infoAt := none }) s.vol
    refine ⟨_, run, State.up_nv _ _, ?_⟩
    rw [State.up_vol]
    exact ⟨stands.bak, stands.info, stands.ret_pre⟩
  · have run := exec_tokenResultTimeout s
    rw [tokenResultTimeout_leaves shown due] at run
    have stands := withTemplate_showStands dropResult s.vol
    have pre : (withTemplate dropResult s.vol).work.pre = (dropResult s.vol).work.pre := by rw [stands.frame.only]
    refine ⟨_, run, State.up_nv _ _, ?_⟩
    rw [State.up_vol]
    exact ⟨stands.bak, stands.result, congrArg (·.result) pre, stands.ret_pre⟩

end Sys2Proof.Machine
end

section
/-! SUPPORT and PROOF of O60. Chain records are taken, and the primary decides its cycle (R567 to R576). -/

namespace Sys2Proof.Machine

theorem exec_chainToken (r : ChainRec) (s : State) : exec (.chainToken r) s = .next (s.up (chainToken r s.vol)) := rfl
theorem exec_tokenReturned (r : ChainRec) (s : State) : exec (.tokenReturned r) s = .next (s.up (tokenReturned r s.vol)) := rfl
theorem exec_chainPath (r : ChainRec) (s : State) : exec (.chainPath r) s = .next (s.up (chainPath r s.vol)) := rfl
theorem exec_chainEnd (r : ChainRec) (s : State) : exec (.chainEnd r) s = .next (s.up (chainEnd r s.vol)) := rfl

theorem exec_chainDecideTimeout_own {s : State} (primary : isPrimary s.vol = true) (core : coreRuns s.vol = true)
    (own : s.vol.work.chain.ownDone = true) : exec .chainDecideTimeout s = .next (s.up (primaryDecides s.vol)) :=
  if_pos (by simp [primary, core, own])

theorem not_isSecondary_of_isPrimary {s : Vol} (primary : isPrimary s = true) : isSecondary s = false := by
  have role : s.work.th.roleTaken = 2 := of_decide_eq_true primary
  simp [isSecondary, role]

/-! ### What the receiver hears (R576) -/

/-- During a loop-back of the chain link the receiver hears nothing. -/
theorem chainHears_looped {s : Vol} (loop : chainLoop s = true) : chainHears s = false := by
  simp [chainHears, loop]

theorem chainHears_free {s : Vol} (core : coreRuns s = true) (free : chainLoop s = false) : chainHears s = true := by
  simp [chainHears, core, free]

section
variable {s : Vol} (r : ChainRec) (deaf : chainHears s = false)
include deaf

theorem chainToken_deaf : chainToken r s = s := if_pos (by simp [deaf])
theorem tokenReturned_deaf : tokenReturned r s = s := if_pos (by simp [deaf])
theorem chainPath_deaf : chainPath r s = s := if_pos (by simp [deaf])
theorem chainEnd_deaf : chainEnd r s = s := if_pos (by simp [deaf])

end

/-! ### The TOKEN (R569, R570) -/

theorem chainForward_only (r : ChainRec) (s : Vol) :
    chainForward r s = { s with work.chain.chout := (chainForward r s).work.chain.chout } := by
  unfold chainForward chainSend
  split <;> rfl

section
variable {s : Vol} {r : ChainRec} (hears : chainHears s = true) (good : chainGood 1 8 r = true) (first : r.src = 0)
include hears good first

theorem chainToken_taken (secondary : isSecondary s = true) : chainToken r s = takeToken r (chainForward r s) :=
  (if_neg (by simp [secondary, hears])).trans (if_pos (by simp [good, first]))

theorem tokenReturned_taken (primary : isPrimary s = true) : tokenReturned r s = { s with work.chain.tokenOut := false } :=
  (if_neg (by simp [primary, hears])).trans (if_pos (by simp [good, first]))

end

/-- The calendar that a TOKEN leaves: its own where the two differ by more than a second (R570). -/
def tokenCal (r : ChainRec) (s : Vol) : Cal :=
  if 64 < ((s.bak.cal.ticks : Int) - 64 * (beNat (slice r.body 3 5) / 64 : Nat)).natAbs then
    calOfSeconds (beNat (slice r.body 3 5) / 64)
  else s.bak.cal

/-- Whether the mode of a TOKEN is first seen to differ from the device's own (R561). -/
def modeDiffers (r : ChainRec) (s : Vol) : Bool :=
  decide (th s 10 < 8) && decide ((beNat (slice r.body 2 1) = 0) ≠ (th s 10 < 4)) && !s.work.chain.modeDiff

/-- What a TOKEN gives: calendar, OSF and mode. -/
def tokenGiven (r : ChainRec) (s : Vol) : Vol :=
  { s with
    bak.cal := tokenCal r s
    bak.osf := beNat (slice r.body 3 5) / 32 % 2 = 1
    work.chain.mode := some (decide (beNat (slice r.body 2 1) = 0))
    work.chain.modeDiff := s.work.chain.modeDiff || modeDiffers r s }

theorem takeToken_eq (r : ChainRec) (s : Vol) :
    takeToken r s = if modeDiffers r s then logM 0x0185 (th s 10) (tokenGiven r s) else tokenGiven r s := by
  have cal : (if decide (64 < ((s.bak.cal.ticks : Int) - 64 * (beNat (slice r.body 3 5) / 64 : Nat)).natAbs) = true then
      calOfSeconds (beNat (slice r.body 3 5) / 64) else s.bak.cal) = tokenCal r s := by
    simp only [decide_eq_true_eq, tokenCal]
  unfold takeToken
  dsimp only
  rw [cal]
  rfl

/-- A taken TOKEN may log that the mode differs, and nothing more. -/
theorem takeToken_frame (r : ChainRec) (s : Vol) : LogFrame (tokenGiven r s) (takeToken r s) := by
  rw [takeToken_eq]
  split
  · exact logM_frame _ _ _
  · exact .refl _

/-! ### PATH and END (R571 to R574) -/

theorem chainPath_taken {s : Vol} {r : ChainRec} (hears : chainHears s = true) (primary : isPrimary s = true)
    (good : chainGood 2 17 r = true) : chainPath r s = takePath r s :=
  (if_neg (by simp [hears])).trans <| (if_neg (by simp [not_isSecondary_of_isPrimary primary])).trans <|
    (if_neg (by simp [primary])).trans (if_pos good)

theorem takePath_keeps {s : Vol} {r : ChainRec} {p : Nat} (joint : jointMode s = true) (cycle : s.work.chain.inCycle = true)
    (undecided : s.work.cyc.pairsDone = false) (pos : 1 ≤ r.src.toNat) (last : r.src.toNat ≤ 3)
    (clean : (chainPos s r.src.toNat).conflict = false) (path : beNat (r.body.take 1) = p) (one : 1 ≤ p) (eight : p ≤ 8) :
    takePath r s =
      { s with
        work.chain.paths := s.work.chain.paths.filter (·.1 != 8 * r.src.toNat + p) ++
          [(8 * r.src.toNat + p, beNat (r.body.drop 1))] } := by
  subst path
  exact if_neg (by simp [joint, cycle, undecided, clean, pos, last, one, eight])

theorem chainEnd_taken {s : Vol} {r : ChainRec} (hears : chainHears s = true) (primary : isPrimary s = true)
    (good : chainGood 3 10 r = true) : chainEnd r s = takeEnd r s :=
  (if_neg (by simp [hears])).trans <| (if_neg (by simp [not_isSecondary_of_isPrimary primary])).trans <|
    (if_neg (by simp [primary])).trans (if_pos good)

section
variable {s : Vol} {r : ChainRec} (cycle : s.work.chain.inCycle = true) (pos : 1 ≤ r.src.toNat) (last : r.src.toNat ≤ 3)
include cycle pos last

/-- A second END of a position is a conflict (R574). -/
theorem takeEnd_conflicts (again : (chainPos s r.src.toNat).ends ≠ 0) (clean : (chainPos s r.src.toNat).conflict = false) :
    takeEnd r s = conflictPos r.src.toNat s :=
  (if_neg (by simp [cycle, pos, last])).trans <| (if_pos again).trans (if_neg (by simp [clean]))

/-- The position after its first END (R571). -/
def endedPos (r : ChainRec) (p : ChainPos) : ChainPos :=
  { p with
    known := true
    paths := min 8 (beNat (r.body.take 1))
    ends := 1
    missing := 0
    lost := false
    flow := BitVec.ofNat 64 (beNat (slice r.body 1 8))
    flags := BitVec.ofNat 8 (beNat (slice r.body 9 1)) }

/-- While a pair of its own is open, the primary takes a first END and decides nothing (R571). -/
theorem takeEnd_first (fresh : (chainPos s r.src.toNat).ends = 0) (waits : s.work.chain.ownDone = false) :
    LogFrame (setChainPos r.src.toNat (endedPos r (chainPos s r.src.toNat)) s) (takeEnd r s) := by
  let s' := setChainPos r.src.toNat (endedPos r (chainPos s r.src.toNat)) s
  let logged := if (chainPos s r.src.toNat).lost then logM 0x0181 r.src.toNat s' else s'
  have frame : LogFrame s' logged := by
    unfold logged
    split
    · exact logM_frame _ _ _
    · exact .refl s'
  have open_own : logged.work.chain.ownDone = false := (congrArg (·.ownDone) frame.work_chain).trans waits
  have taken : takeEnd r s = if logged.work.chain.ownDone && endsComplete logged then primaryDecides logged else logged :=
    (if_neg (by simp [cycle, pos, last])).trans (if_neg (not_not_intro fresh))
  rw [taken, if_neg (by simp [open_own])]
  exact frame

end

theorem chainPos_setChainPos_self {k : Nat} (p : ChainPos) (s : Vol) (hk : k < 4) : chainPos (setChainPos k p s) k = p :=
  vget_vset_self _ p hk

/-! ### The decision (R571) -/

/-- Whether the cycle is decided stands. -/
structure PairsStand (s s' : Vol) : Prop where
  same : s'.work.cyc.pairsDone = s.work.cyc.pairsDone

theorem PairsStand.refl (s : Vol) : PairsStand s s := ⟨rfl⟩

theorem PairsStand.trans {a b c : Vol} (h : PairsStand a b) (k : PairsStand b c) : PairsStand a c := ⟨k.same.trans h.same⟩

theorem PairsStand.after {a b c : Vol} (k : PairsStand b c) (h : PairsStand a b) : PairsStand a c := h.trans k

theorem PairsStand.ite {c : Prop} [Decidable c] {s a b : Vol} (ha : PairsStand s a) (hb : PairsStand s b) :
    PairsStand s (if c then a else b) := by
  split
  · exact ha
  · exact hb

theorem LogFrame.pairsStand {s s' : Vol} (h : LogFrame s s') : PairsStand s s' := ⟨congrArg (·.pairsDone) h.work_cyc⟩

theorem logM_pairsStand {s t : Vol} (c d : Nat) (h : PairsStand s t) : PairsStand s (logM c d t) :=
  h.trans (logM_frame c d t).pairsStand

theorem limM_pairsStand {s t : Vol} (c k d : Nat) (h : PairsStand s t) : PairsStand s (limM c k d t) :=
  h.trans (limM_frame c k d t).pairsStand

theorem pairsStand_foldl {α : Type} {f : Vol → α → Vol} (h : ∀ s a, PairsStand s (f s a)) (l : List α) (s : Vol) :
    PairsStand s (l.foldl f s) := by
  induction l generalizing s with
  | nil => exact .refl s
  | cons a l ih => exact (h s a).trans (ih _)

theorem streamPut_pairsStand (bit type : Nat) (body : Bytes) (s : Vol) : PairsStand s (streamPut bit type body s) := by
  unfold streamPut
  dsimp only
  split_ifs
  · exact .refl s
  · exact ⟨rfl⟩
  · exact ⟨rfl⟩

theorem dropPath_pairsStand (j : Nat) (s : Vol) : PairsStand s (dropPath j s) := limM_pairsStand _ _ _ ⟨rfl⟩

theorem holdPath_pairsStand (j : Nat) (s : Vol) : PairsStand s (holdPath j s) := by
  have put : ∀ w r, PairsStand s (setPathW j w (setPathR j r s)) := fun _ _ => ⟨rfl⟩
  unfold holdPath
  dsimp only
  split
  · exact .ite (.ite (limM_pairsStand _ _ _ (put _ _)) (put _ _)) (put _ _)
  · exact .ite (put _ _) (.ite (.after (dropPath_pairsStand _ _) (put _ _))
      (.ite (.after (dropPath_pairsStand _ _) (put _ _)) (put _ _)))

theorem pathSos_pairsStand (j : Nat) (s : Vol) : PairsStand s (pathSos j s) := by
  unfold pathSos
  dsimp only
  split
  · split
    · exact ⟨rfl⟩
    · exact ⟨rfl⟩
  · exact ⟨rfl⟩

theorem setEmpty_pairsStand (js : List Nat) (s : Vol) : PairsStand s (setEmpty js s) := by
  unfold setEmpty
  refine .after (pairsStand_foldl (fun s j => ?_) _ _) (.after (pairsStand_foldl (fun s j => ?_) _ _) (logM_pairsStand _ _ ⟨rfl⟩))
  · exact ⟨rfl⟩
  · exact ⟨rfl⟩

theorem clearEmpty_pairsStand (js : List Nat) (s : Vol) : PairsStand s (clearEmpty js s) := by
  unfold clearEmpty
  refine .after (pairsStand_foldl (fun s j => ?_) _ _) (logM_pairsStand _ _ ⟨rfl⟩)
  exact .ite (.refl s) (.after (dropPath_pairsStand _ _) ⟨rfl⟩)

theorem emptyRun_pairsStand (js : List Nat) (s : Vol) : PairsStand s (emptyRun js s) :=
  .ite (.refl s) (.ite (.ite (.ite (setEmpty_pairsStand js s) ⟨rfl⟩) (.ite (.refl s) ⟨rfl⟩))
    (.ite (.ite (clearEmpty_pairsStand js s) ⟨rfl⟩) (.ite (.refl s) ⟨rfl⟩)))

theorem tempResult_pairsStand (js : List Nat) (s : Vol) : PairsStand s (tempResult js s) := by
  unfold tempResult
  dsimp only
  split
  · exact ⟨rfl⟩
  · exact ⟨rfl⟩

theorem degradedEvents_pairsStand (s : Vol) : PairsStand s (degradedEvents s) :=
  .ite (.refl s) (.ite (logM_pairsStand _ _ ⟨rfl⟩) (.ite (logM_pairsStand _ _ ⟨rfl⟩) ⟨rfl⟩))

theorem setNextRate_pairsStand (r : Nat) (s : Vol) : PairsStand s (setNextRate r s) := .ite (.refl s) ⟨rfl⟩

theorem adaptRate_pairsStand (v : Option Int) (s : Vol) : PairsStand s (adaptRate v s) :=
  .ite ⟨rfl⟩ (.ite (.after (setNextRate_pairsStand _ _) ⟨rfl⟩) (.ite (.after (setNextRate_pairsStand _ _) ⟨rfl⟩)
    (.ite (.after (setNextRate_pairsStand _ _) ⟨rfl⟩) ⟨rfl⟩)))

theorem pathResults_pairsStand (js : List Nat) (vel : Nat → Int × Bool) (flowSat : Bool) (s : Vol) :
    PairsStand s (pathResults js vel flowSat s) := by
  unfold pathResults
  refine pairsStand_foldl (fun s j => ?_) _ _
  exact .ite (limM_pairsStand _ _ _ ⟨rfl⟩) ⟨rfl⟩

theorem noResult_pairsStand (js : List Nat) (s : Vol) : PairsStand s (noResult js s) :=
  .after (adaptRate_pairsStand _ _) (limM_pairsStand _ _ _ ((pathResults_pairsStand js _ _ s).trans ⟨rfl⟩))

theorem flowResult_pairsStand (js : List Nat) (s : Vol) : PairsStand s (flowResult js s) := by
  have taken : ∀ q cutoff subst valid u, PairsStand s u → PairsStand s (takeFlow q cutoff subst valid u) :=
    fun _ _ _ _ _ h => h.trans ⟨rfl⟩
  unfold flowResult
  dsimp only
  refine .ite (.after (adaptRate_pairsStand _ _) (taken _ _ _ _ _ (pathResults_pairsStand _ _ _ s)))
    (.after (adaptRate_pairsStand _ _) (taken _ _ _ _ _ (.after (pathResults_pairsStand _ _ _ _) ?_)))
  exact .ite (limM_pairsStand _ _ _ ⟨rfl⟩) (.refl s)

theorem streamPaths_pairsStand (js : List Nat) (s : Vol) : PairsStand s (streamPaths js s) :=
  pairsStand_foldl (fun s _ => streamPut_pairsStand _ _ _ s) _ _

theorem streamFlow_pairsStand (s : Vol) : PairsStand s (streamFlow s) := streamPut_pairsStand _ _ _ _

theorem markNoFlow_pairsStand (s : Vol) : PairsStand s (markNoFlow s) := ⟨rfl⟩

theorem showPaths_pairsStand (s : Vol) : PairsStand s (showPaths s) := by
  unfold showPaths
  exact ⟨rfl⟩

/-- The result of a cycle decides it (R216). -/
theorem cycleResult_decides (s : Vol) : (cycleResult s).work.cyc.pairsDone = true := by
  unfold cycleResult
  split
  · assumption
  · extract_lets js joint anchored _ _ emptied held sos temp none_ shown
    have hemptied : emptied.work.cyc.pairsDone = true := (emptyRun_pairsStand js _).same
    have hheld : PairsStand emptied held := by
      refine .ite (pairsStand_foldl (fun s j => ?_) _ _) (pairsStand_foldl (fun s j => holdPath_pairsStand j s) _ _)
      exact ⟨rfl⟩
    have htemp : PairsStand held temp :=
      (pairsStand_foldl (fun s j => pathSos_pairsStand j s) _ _).trans (tempResult_pairsStand _ _)
    have hshown : PairsStand temp shown :=
      .after (showPaths_pairsStand _) (.ite (noResult_pairsStand _ _) (flowResult_pairsStand _ _))
    clear_value emptied held temp shown
    have hstreamed : PairsStand shown (markNoFlow (streamFlow (streamPaths js shown))) :=
      .after (markNoFlow_pairsStand _) (.after (streamFlow_pairsStand _) (streamPaths_pairsStand js shown))
    exact (((hheld.trans htemp).trans (hshown.trans hstreamed)).trans (degradedEvents_pairsStand _)).same.trans hemptied

theorem levelEmpty_pairsStand (n : Nat) (x : RxEval) (used : Bool) (s : Vol) : PairsStand s (levelEmpty n x used s) := by
  unfold levelEmpty
  dsimp only
  split
  · exact .refl s
  · split
    · exact .ite (limM_pairsStand _ _ _ ⟨rfl⟩) ⟨rfl⟩
    · exact .refl s
    · exact .ite (limM_pairsStand _ _ _ ⟨rfl⟩) ⟨rfl⟩

theorem levelResult_pairsStand (ref : Option Int) (n : Nat) (s : Vol) : PairsStand s (levelResult ref n s) := by
  unfold levelResult
  dsimp only
  split
  · exact .refl s
  · exact .after (levelEmpty_pairsStand _ _ _ _) (.ite (logM_pairsStand _ _ ⟨rfl⟩) ⟨rfl⟩)

theorem tryLevels_pairsStand (s : Vol) : PairsStand s (tryLevels s) := by
  unfold tryLevels
  extract_lets ns r ref _ _ taken levels
  have htaken : PairsStand s taken := by
    unfold taken
    clear_value ref
    split
    · exact ⟨rfl⟩
    · exact .refl s
  have hlevels : PairsStand s levels := htaken.trans (pairsStand_foldl (fun s n => levelResult_pairsStand ref n s) _ _)
  refine .ite ?_ (.refl s)
  exact .after (pairsStand_foldl (fun s _ => streamPut_pairsStand _ _ _ s) _ _) (hlevels.trans ⟨rfl⟩)

/-- The primary's decision leaves its cycle decided, whether it was so before or not. -/
theorem primaryDecides_decides (s : Vol) : (primaryDecides s).work.cyc.pairsDone = true := by
  unfold primaryDecides
  split
  · assumption
  · rw [(tryLevels_pairsStand _).same, cycleResult_decides]

/-! ### The verdict of a joint path (R244, R572, R574) -/

theorem pathW_setPathW_self {j : Nat} (p : PathWork) (s : Vol) (hj : j < 33) : pathW (setPathW j p s) j = p :=
  vget_vset_self _ p hj

theorem pathW_setPathW_ne {i j : Nat} (p : PathWork) (s : Vol) (h : i ≠ j) : pathW (setPathW j p s) i = pathW s i :=
  vget_vset_ne _ p h.symm

theorem gapPair_others {i j : Nat} (s : Vol) (h : i ≠ j) : pathW (gapPair j s) i = pathW s i := by
  unfold gapPair
  dsimp only
  split
  · rfl
  · exact pathW_setPathW_ne _ s h

theorem receivePath_others {i j : Nat} (w : Nat) (s : Vol) (h : i ≠ j) : pathW (receivePath j w s) i = pathW s i :=
  pathW_setPathW_ne _ s h

/-- A verdict is that of its path alone. -/
theorem jointVerdict_others {i j : Nat} (s : Vol) (h : i ≠ j) : pathW (jointVerdict j s) i = pathW s i := by
  unfold jointVerdict
  dsimp only
  split
  · split_ifs
    · exact gapPair_others s h
    · exact receivePath_others _ s h
    · exact (pathW_setPathW_ne _ _ h).trans (receivePath_others _ s h)
  · exact gapPair_others s h

/-- Counting a discard changes the count alone. -/
theorem countDiscard_only (s : Vol) (p : PathWork) : countDiscard s p = { p with discarded := (countDiscard s p).discarded } := by
  unfold countDiscard
  split
  · rfl
  · rfl

/-- An undecided path becomes a GAP. -/
theorem gapPair_gap {j : Nat} {s : Vol} (hj : j < 33) (undecided : (pathW s j).decided = false) :
    (pathW (gapPair j s) j).decided = true ∧ (pathW (gapPair j s) j).verdict = 2 ∧ (pathW (gapPair j s) j).cause = 1 := by
  have gap : gapPair j s = _ := if_neg (by simp [undecided])
  rw [gap, pathW_setPathW_self _ _ hj, countDiscard_only]
  exact ⟨rfl, rfl, rfl⟩

/-- A path without a record, and one whose position is in conflict or lost, gets the verdict of a gap. -/
theorem jointVerdict_gap {j : Nat} {s : Vol}
    (missing : s.work.chain.paths.find? (·.1 == j) = none ∨ (vget s.work.chain.positions ((j - 1) / 8)).conflict = true ∨
      (vget s.work.chain.positions ((j - 1) / 8)).lost = true) : jointVerdict j s = gapPair j s := by
  unfold jointVerdict
  dsimp only
  split
  · next found =>
    rw [found] at missing
    exact if_pos (by simpa using missing)
  · rfl

/-- The record of a path is its verdict. -/
theorem receivePath_record {j : Nat} (w : Nat) (s : Vol) (hj : j < 33) :
    let p := pathW (receivePath j w s) j
    p.decided = true ∧ p.cycle = BitVec.ofNat 16 w ∧ p.v = (BitVec.ofNat 32 (w / 2 ^ 64)).toInt ∧
      p.verdict = BitVec.ofNat 2 (min 2 (w / 2 ^ 30 % 4)) := by
  have clamp : (if w / 2 ^ 30 % 4 = 3 then 2 else w / 2 ^ 30 % 4) = min 2 (w / 2 ^ 30 % 4) := by
    split <;> omega
  have written : pathW (receivePath j w s) j = _ := pathW_setPathW_self _ s hj
  rw [written]
  exact ⟨rfl, rfl, rfl, congrArg (BitVec.ofNat 2) clamp⟩

theorem jointVerdict_record {j w : Nat} {s : Vol} (hj : j < 33)
    (found : s.work.chain.paths.find? (·.1 == j) = some (j, w))
    (clean : (vget s.work.chain.positions ((j - 1) / 8)).conflict = false)
    (present : (vget s.work.chain.positions ((j - 1) / 8)).lost = false) :
    let p := pathW (jointVerdict j s) j
    p.decided = true ∧ p.cycle = BitVec.ofNat 16 w ∧ p.v = (BitVec.ofNat 32 (w / 2 ^ 64)).toInt ∧
      p.verdict = BitVec.ofNat 2 (min 2 (w / 2 ^ 30 % 4)) := by
  have received := receivePath_record w s hj
  have verdict : jointVerdict j s =
      if kept (pathW (receivePath j w s) j) then receivePath j w s
      else setPathW j (countDiscard (receivePath j w s) (pathW (receivePath j w s) j)) (receivePath j w s) := by
    rw [jointVerdict, found]
    exact if_neg (by simp [clean, present])
  rw [verdict]
  split
  · exact received
  · rw [pathW_setPathW_self _ _ hj, countDiscard_only]
    exact received

/-- Settles O60: the receiver is deaf in a loop-back; each record is taken by its own lemma (`chainToken_taken`, `takePath_keeps`,
`takeEnd_conflicts`, `takeEnd_first`), the decision decides (`primaryDecides_decides`), and a joint path has the verdict of its record or
that of a gap. -/
theorem chainRecordsAreTaken : Obligations.ChainRecordsAreTaken := by
  unfold Obligations.ChainRecordsAreTaken
  intro s r core
  refine ⟨fun loop => ?_, fun free good first => ⟨fun secondary => ?_, fun primary => ?_⟩, fun primary free cycle => ⟨?_, ?_, ?_⟩,
    fun primary own => ?_, fun j _ hj => ⟨fun i _ other => ?_, fun w found clean present => ?_, fun undecided missing => ?_⟩⟩
  · have deaf := chainHears_looped loop
    refine ⟨?_, ?_, ?_, ?_⟩
    · rw [exec_chainToken, chainToken_deaf r deaf]
      rfl
    · rw [exec_tokenReturned, tokenReturned_deaf r deaf]
      rfl
    · rw [exec_chainPath, chainPath_deaf r deaf]
      rfl
    · rw [exec_chainEnd, chainEnd_deaf r deaf]
      rfl
  · have run := exec_chainToken r s
    rw [chainToken_taken (chainHears_free core free) good first secondary, chainForward_only] at run
    have frame := takeToken_frame r { s.vol with work.chain.chout := (chainForward r s.vol).work.chain.chout }
    refine ⟨_, run, State.up_nv _ _, ?_⟩
    rw [State.up_vol]
    exact ⟨frame.ret_led, congrArg (·.mode) frame.work_chain, congrArg (·.osf) frame.bak, congrArg (·.cal) frame.bak⟩
  · rw [exec_tokenReturned, tokenReturned_taken (chainHears_free core free) good first primary]
    rfl
  · intro k p good joint undecided at_k pos last clean path one eight
    subst at_k
    rw [exec_chainPath, chainPath_taken (chainHears_free core free) primary good,
      takePath_keeps joint cycle undecided pos last clean path one eight]
    rfl
  · intro k good at_k pos last again clean
    subst at_k
    rw [exec_chainEnd, chainEnd_taken (chainHears_free core free) primary good, takeEnd_conflicts cycle pos last again clean]
    rfl
  · intro k good at_k pos last fresh waits
    subst at_k
    have run := exec_chainEnd r s
    rw [chainEnd_taken (chainHears_free core free) primary good] at run
    have frame := takeEnd_first cycle pos last fresh waits
    have ended : chainPos (takeEnd r s.vol) r.src.toNat = endedPos r (chainPos s.vol r.src.toNat) := by
      rw [chainPos, frame.work_chain]
      exact chainPos_setChainPos_self _ _ (by omega)
    refine ⟨_, run, State.up_nv _ _, ?_⟩
    rw [State.up_vol, ended]
    exact ⟨frame.bak, rfl, rfl, rfl, rfl, rfl⟩
  · refine ⟨_, exec_chainDecideTimeout_own primary core own, State.up_nv _ _, ?_⟩
    rw [State.up_vol]
    exact ⟨(primaryDecides_ramFrame s.vol).bak, primaryDecides_decides s.vol⟩
  · exact jointVerdict_others s.vol other
  · exact jointVerdict_record hj found clean present
  · rw [jointVerdict_gap missing]
    exact gapPair_gap hj undecided

end Sys2Proof.Machine
end
